-- ==== Sys2Proof/Word.lean ====
section
/-!
DEFINITION. The words of the machine: bytes, 16-, 32- and 64-bit words and the 72-bit accumulator word, as bit
vectors, since the manual adds, shifts and masks them.
-/
namespace Sys2Proof

/-- One byte of a mailbox, a frame or a memory. -/
abbrev Byte := BitVec 8

/-- A 16-bit word. -/
abbrev Word16 := BitVec 16

/-- A 32-bit word: a JCE register, an instruction word, a 32-bit register access. -/
abbrev Word32 := BitVec 32

/-- A 64-bit word: a point (R21), a delta record, a 64-bit register access. -/
abbrev Word64 := BitVec 64

/-- A 72-bit accumulator of a joint control engine or of a Sawmill tile. -/
abbrev Word72 := BitVec 72

end Sys2Proof
end

