-- ==== Sys2Proof/Machine/Tab.lean ====
section
/-!
DEFINITION. Sparse tables: the one canonical form in which the state holds anything that is addressed by a number
(points, memory bytes, register fields, engine memories). Keys rise strictly and no entry equals what an unlisted key
reads as, so equal tables are equal data.
-/
namespace Sys2Proof

/-- A sparse table: pairs of key and value, keys strictly rising, no entry equal to the value of an unlisted key. -/
structure Tab (α : Type) where
  entries : List (Nat × α)
deriving DecidableEq, Repr, Inhabited

/-- The table that lists nothing. -/
def Tab.empty {α : Type} : Tab α := ⟨[]⟩

/-- The value of `k` in a list of pairs with rising keys; `d` where `k` is not listed. -/
def Tab.find {α : Type} (d : α) (k : Nat) : List (Nat × α) → α
  | [] => d
  | (k', v) :: r => if k < k' then d else if k = k' then v else Tab.find d k r

/-- Drops the leading pairs whose key is at most `k` (none in a canonical table). -/
def Tab.dropTo {α : Type} (k : Nat) : List (Nat × α) → List (Nat × α)
  | [] => []
  | (k', v) :: r => if k' ≤ k then Tab.dropTo k r else (k', v) :: r

/-- Writes `v` at `k`: the pair is inserted in order, or removed where `v` is the unlisted value. -/
def Tab.place {α : Type} [DecidableEq α] (d : α) (k : Nat) (v : α) : List (Nat × α) → List (Nat × α)
  | [] => if v = d then [] else [(k, v)]
  | (k', v') :: r =>
    if k < k' then (if v = d then (k', v') :: r else (k, v) :: (k', v') :: r)
    else if k = k' then (if v = d then Tab.dropTo k r else (k, v) :: Tab.dropTo k r)
    else (k', v') :: Tab.place d k v r

/-- Reads key `k`; `d` is what an unlisted key reads as. -/
def Tab.get {α : Type} (t : Tab α) (d : α) (k : Nat) : α := Tab.find d k t.entries

/-- Writes key `k`, keeping the canonical form. -/
def Tab.put {α : Type} [DecidableEq α] (t : Tab α) (d : α) (k : Nat) (v : α) : Tab α :=
  ⟨Tab.place d k v t.entries⟩

/-- Keys rise strictly from above `lo`, and no value equals `d`. -/
def Tab.wfFrom {α : Type} [DecidableEq α] (d : α) : List (Nat × α) → Bool
  | [] => true
  | [(_, v)] => decide (v ≠ d)
  | (k, v) :: (k', v') :: r => decide (v ≠ d) && decide (k < k') && Tab.wfFrom d ((k', v') :: r)

/-- The canonical form of a table whose unlisted keys read as `d`. -/
def Tab.wf {α : Type} [DecidableEq α] (d : α) (t : Tab α) : Bool := Tab.wfFrom d t.entries

/-- Writes `vs` at `k`, `k + 1`, … in order. -/
def Tab.putAll {α : Type} [DecidableEq α] (t : Tab α) (d : α) (k : Nat) : List α → Tab α
  | [] => t
  | v :: vs => Tab.putAll (t.put d k v) d (k + 1) vs

/-- Reads `n` keys from `k` on. -/
def Tab.getAll {α : Type} (t : Tab α) (d : α) (k : Nat) : Nat → List α
  | 0 => []
  | n + 1 => t.get d k :: Tab.getAll t d (k + 1) n

/-- Keeps only the entries whose key satisfies `p`. -/
def Tab.keep {α : Type} (t : Tab α) (p : Nat → Bool) : Tab α := ⟨t.entries.filter fun e => p e.1⟩

/-- Every listed value changed by `f`; those that become the default are no longer listed. -/
def Tab.mapValues {α : Type} [DecidableEq α] (t : Tab α) (d : α) (f : α → α) : Tab α :=
  ⟨(t.entries.map fun e => (e.1, f e.2)).filter fun e => e.2 ≠ d⟩

end Sys2Proof
end

