-- ==== Sys2Proof/Machine/Field.lean ====
section
/-!
DEFINITION. What a row of the manual's register tables says of a field: where it lies (R31), how wide it is, how it is
accessed (R6), its Reset value (R11) and the resets that keep it (R12). The fields themselves stand in the RegMap files.
-/
namespace Sys2Proof

/-- The access codes of R6. -/
inductive Access where
  | rw | ro | wo | w1c | rc | sl
deriving DecidableEq, Repr, Inhabited

/-- The reset letters of R12. -/
inductive ResetLetter where
  | p | w | d | m | l | z
deriving DecidableEq, Repr, Inhabited

/-- One field of one register table. `base`, `stride` and `count` place the register, or its array of registers, in the
unit's 16 KiB; the elements of unit `i` have the indices `i * count` to `i * count + count - 1`. -/
structure Field where
  id : Nat
  dom : Nat
  unit : Nat
  units : Nat
  base : Nat
  stride : Nat
  count : Nat
  lo : Nat
  width : Nat
  wide : Bool
  acc : Access
  reset : Nat
  kept : List ResetLetter
  resetIn : List (Nat × Nat)
deriving DecidableEq, Repr, Inhabited

/-- The Reset value of element `i` (the few fields whose table names other values for some elements list them). -/
def Field.resetAt (f : Field) (i : Nat) : Nat := Tab.find f.reset i f.resetIn

/-- Whether the field is left unchanged by a reset of letter `r` (R12). -/
def Field.keeps (f : Field) (r : ResetLetter) : Bool := f.kept.contains r

end Sys2Proof
end

