-- ==== Sys2Proof/Types.lean ====
section
/-!
DEFINITION. The plain data that commands carry and the state holds: links and masters, operating modes, the cell image
with its content, frames and messages. One inductive a fixed set of names, one structure a group of related fields.
-/
namespace Sys2Proof

/-- The host links of R65, in the order of their `OWNER` codes. -/
inductive Link where
  | pcie | spi | mgmtnet | cores
deriving DecidableEq, Repr, Inhabited

/-- A UDP datagram that a port hands to the management function (R59), with what that rule asks of the packet that carries
it: IPv6, a fragment, the destination address and port; and its payload, the management datagram of R60. -/
structure IpPacket where
  ipv6 : Bool
  fragment : Bool
  dest : Word32
  udp : BitVec 16
  payload : List Byte
deriving DecidableEq, Repr, Inhabited

/-- What is sensed at a release of the device: the levels of its I/O banks, and the slot of the external flash
that verifies. -/
structure Sensed (β : Type) where
  banks : β
  qspi : Option (Fin 2)
deriving DecidableEq, Repr, Inhabited

/-- A level that one of `k` inputs has shown without a break for a span below `n`, in samples or µs of its filter. -/
structure InputRun (k n : Nat) where
  input : Fin k
  high : Bool
  span : Fin n
deriving DecidableEq, Repr

/-- A trip input's run of samples (R370), and the time of its last one in fine units. -/
structure TripRun where
  samples : Fin 1025
  t : Nat
deriving DecidableEq, Repr, Inhabited

/-- A loss of PCS link status (R514): the port, for how many µs it lasts, the blocks and frames damaged meanwhile. -/
structure LinkLoss where
  p : Fin 64
  us : Fin 10001
  errs : BitVec 16
  frames : BitVec 16
deriving DecidableEq, Repr, Inhabited

/-- A loss of a twin lane's block lock (R530): the lane, and the blocks that came with errors. -/
structure LaneLoss where
  lane : Fin 2
  errs : BitVec 16
deriving DecidableEq, Repr, Inhabited

/-- What link training and the host settle (R49 to R53): generation less 1, base-2 logarithm of the lanes, bases of BAR 0 and
BAR 2, whether MSI-X is enabled and the function is in D3hot. -/
structure PcieSettled where
  gen : Fin 4
  lanes : Fin 3
  bar0 : Word64
  bar2 : Word64
  msix : Bool
  d3hot : Bool
deriving DecidableEq, Repr, Inhabited

/-- A loopback (R529): the mailbox of its command, and after how many milliseconds the port's reference is lost, if it is. -/
structure LoopbackRun where
  mb : Fin 32
  lost : Option (Fin 10001)
deriving DecidableEq, Repr, Inhabited

/-- The masters whose accesses the manual tells apart. -/
inductive Master where
  | jce (k : Fin 64)
  | pcie
  | core (c : Fin 16)
  | ranger
  | caldera
  | sawmill
  | geyser
  | debug
deriving DecidableEq, Repr, Inhabited

/-- The eight operating modes of R94 and R138. -/
inductive Mode where
  | init | config | idle | jog | run | halting | fault | service
deriving DecidableEq, Repr, Inhabited

/-- The redundancy role of R94. -/
inductive Role where
  | standalone | active | standby
deriving DecidableEq, Repr, Inhabited

/-- Who a point is assigned to: by R19 and R20, by R767, or by the installed point map (R24). -/
inductive Writer where
  | nobody | host | ranger | caldera | sawmill | geyser | gpio | cores
  | jce (k : Fin 64)
deriving DecidableEq, Repr, Inhabited

/-- One entry of a point map (section 0x0009): the points `first` to `last` and their writer. -/
structure MapRange where
  first : Nat
  last : Nat
  writer : Writer
deriving DecidableEq, Repr, Inhabited

/-- One arm of the hierarchy: its number and the axis of each of its joints (R15). -/
structure ArmDef where
  arm : Nat
  joints : List Nat
deriving DecidableEq, Repr, Inhabited

/-- The axis records of a node's frames (R538): the axis and the first word of its record. -/
structure AxisRecord where
  axis : Nat
  word : Nat
deriving DecidableEq, Repr, Inhabited

/-- One node of the Geyser schedule (section 0x0008). -/
structure NodeDef where
  node : Nat
  port : Nat
  chain : Nat
  sync : Bool
  coldstart : Bool
  arrive : Nat
  dnStart : Nat
  upLen : Nat
  dnLen : Nat
  nomDelay : Nat
  safeWord : Nat
  safeWords : Nat
  up : List AxisRecord
  down : List AxisRecord
deriving DecidableEq, Repr, Inhabited

/-- A claim of a pooled resource (R18): the kind and number of R770, and an owner number. -/
structure Claim where
  kind : Nat
  number : Nat
  owner : Nat
deriving DecidableEq, Repr, Inhabited

/-- A GPIO owned by the application cores (R655): its owner core and its safe level (0 low, 1 high, 2 high impedance). -/
structure GpioDef where
  gpio : Nat
  core : Nat
  safe : Nat
deriving DecidableEq, Repr, Inhabited

/-- A register setting that the image holds: field number, element, value. -/
structure RegSetting where
  field : Nat
  index : Nat
  value : Nat
deriving DecidableEq, Repr, Inhabited

/-- A parameter value: instance (an axis, a solver instance), number, value. -/
structure ParamSetting where
  inst : Nat
  number : Nat
  value : Nat
deriving DecidableEq, Repr, Inhabited

/-- A vector or matrix block (R177): the numbers `first` to `last` of entries, variables, rows or KKT columns, the fraction
bits of their common format, and where in cell SRAM the word of the first one lies; the others follow it. -/
structure NumBlock where
  first : Nat
  last : Nat
  frac : Nat
  base : Nat
deriving DecidableEq, Repr, Inhabited

/-- The place of a non-zero of H or C (R182, R183, R192). -/
inductive MatPos where
  | h (var : Nat)
  | c (row var : Nat)
deriving DecidableEq, Repr, Inhabited

/-- An operand of an element-wise operation: the number 1, a word of cell SRAM at a byte offset, one of the eight scalars of
the tile (R188), each with its fraction bits. -/
inductive SawOperand where
  | one
  | word (off frac : Nat)
  | scalar (k frac : Nat)
deriving DecidableEq, Repr, Inhabited

/-- One product of a sum, added or subtracted. -/
structure SawTerm where
  minus : Bool
  a : SawOperand
  b : SawOperand
deriving DecidableEq, Repr, Inhabited

/-- How `REDUCE` combines a scalar of the tiles. -/
inductive SawFold where
  | least | greatest | total
deriving DecidableEq, Repr, Inhabited

/-- What one element of a pattern list says (R187, R188): for `VEC` a sum of products, for `VDIV` a quotient or a reciprocal
square root, for `STEP` a ratio test, for `REDUCE` how a scalar is combined. -/
inductive SawElem where
  | sum (dst : SawOperand) (terms : List SawTerm)
  | div (dst a b : SawOperand)
  | root (dst b : SawOperand)
  | ratio (k frac : Nat) (value change : SawOperand)
  | combine (k frac : Nat) (how : SawFold)
deriving DecidableEq, Repr, Inhabited

/-- A supernode (R186): its tile, its KKT columns in elimination order with the position of the first one, the KKT columns
of the rows below its diagonal block, where its factor values begin in the tile store, and their fraction bits (R177). -/
structure Supernode where
  tile : Nat
  position : Nat
  cols : List Nat
  rows : List Nat
  base : Nat
  frac : Nat
deriving DecidableEq, Repr, Inhabited

/-- A word of an iterate in cell SRAM, a variable, slack or dual: its byte offset, its fraction bits, its stage, the number
that it shares with its fellows in the other stages, and whether `WARM_FLOOR` bounds it (R212). -/
structure PointWord where
  off : Nat
  frac : Nat
  stage : Nat
  lane : Nat
  floor : Bool
deriving DecidableEq, Repr, Inhabited

/-- A joint of the whole-cell problem (sections 0x0003 and 0x0007, R182): the limits, the stage weights and the terminal
weights of position, velocity and acceleration. -/
structure JointDef where
  arm : Nat
  joint : Nat
  limits : List (Rat × Rat)
  weights : List Rat
  terminal : List Rat
deriving DecidableEq, Repr, Inhabited

/-- A clearance slot (section 0x0002, R183): the capsule pairs that may fill it and their least distance. -/
structure PairSlot where
  pairs : List (Nat × Nat)
  dmin : Rat
deriving DecidableEq, Repr, Inhabited

/-- A solver problem (sections 0x0004 to 0x0007): number, tiles, variables and rows of a small problem, stages, the KiB and
the schedule words of each tile (R187), `GAP_MAX` and `WRAP_WORK` (R215), the blocks of the entries by entry index, the
non-zeros of H and C in pattern order, the supernodes, the pattern lists of the tiles, the blocks of Σ and of the right side
by KKT column, of y by row and of z by variable, the pairs whose products are the complementarity, the words of an iterate
(x first) and the cold point (R211). -/
structure ProblemDef where
  number : Nat
  tiles : Nat
  vars : Nat
  rows : Nat
  stages : Nat
  kib : List Nat
  words : List (List (BitVec 128))
  gapMax : Nat
  wrapWork : Nat
  entries : List NumBlock
  matrix : List MatPos
  nodes : List Supernode
  lists : List (List SawElem)
  sigma : List NumBlock
  rhs : List NumBlock
  y : List NumBlock
  z : List NumBlock
  pairs : List (SawOperand × SawOperand)
  point : List PointWord
  cold : List Word32
deriving DecidableEq, Repr, Inhabited

/-- The inputs and the homing set of a local axis (sections 0x000A and 0x000B): which inputs it has and
whether a high level is their active one, `LIMIT_FILT` in µs, the homing speeds, offset and greatest distance, and whether a step axis has an encoder (R403). -/
structure AxisIoDef where
  axis : Nat
  hasPos : Bool
  hasNeg : Bool
  hasHome : Bool
  posHigh : Bool
  negHigh : Bool
  homeHigh : Bool
  filt : Nat
  vFast : Nat
  vSlow : Nat
  offset : Int
  maxDist : Nat
  encoder : Bool
deriving DecidableEq, Repr, Inhabited

/-- What the sections of a cell image say (R108). The manual gives no layout of the sections, so a parsed content stands
for their bytes (log entry 3). `cycle`, `guardTicks` and `ciOffset` are in ticks of 8 ns, `solveStart` in µs, a port mode is its bit
in `MODE_MASK`. -/
structure CellContent where
  arms : List ArmDef
  axes : List Nat
  netAxes : List (Nat × Nat)
  nodes : List NodeDef
  pointMap : List MapRange
  claims : List Claim
  gpios : List GpioDef
  settings : List RegSetting
  axisParams : List ParamSetting
  cycle : Nat
  guardTicks : Nat
  coldSrc : Nat
  syncMin : Nat
  portModes : List (Nat × Nat)
  ciOffset : Nat
  solveStart : Nat
  problems : List ProblemDef
  runParams : List ParamSetting
  numStages : Nat
  stageTimes : List Nat
  axisIo : List AxisIoDef
  jointDefs : List JointDef
  slots : List PairSlot
deriving DecidableEq, Repr, Inhabited

/-- A cell image as a slot holds it: the header fields of R108, the digest and the content. -/
structure CellImage where
  length : Nat
  version : Nat
  safetyRef : Nat
  keySlot : Nat
  digest : BitVec 256
  content : CellContent
deriving DecidableEq, Repr, Inhabited

/-- The state of a cell image slot (R105). -/
inductive SlotState where
  | empty | loading | valid | invalid
deriving DecidableEq, Repr, Inhabited

/-- A cell image slot in flash: its state, the last failed check (number, section, item), its image. -/
structure CellSlot where
  state : SlotState
  failed : Nat
  image : Option CellImage
deriving DecidableEq, Repr, Inhabited

/-- One record of a safety parameter set (R488). -/
structure SafetyRecord where
  number : Nat
  inst : Nat
  value : Nat
deriving DecidableEq, Repr, Inhabited

/-- A safety parameter set (R488): the header fields that are not fixed, and the records as they were sent. -/
structure SafetySet where
  version : Nat
  origin : Nat
  records : List SafetyRecord
  crc : Nat
deriving DecidableEq, Repr, Inhabited

/-- A value of an Eckin parameter set (R502), with the number and object of its Fogrim parameter; a speed is in 0.1 mm/s. -/
structure EckinValue where
  number : Nat
  inst : Nat
  value : Nat
  speed : Bool
deriving DecidableEq, Repr, Inhabited

/-- An Eckin parameter set as its bytes say it (R502, R503): a version for the result, whether an input has a single channel,
its values, its seal setting. -/
structure EckinSet where
  version : Nat
  single : Bool
  values : List EckinValue
  seals : Bool
deriving DecidableEq, Repr, Inhabited

/-- A change log entry (R505); its chain is the last field. -/
structure ChangeEntry where
  entry : Nat
  epoch : Nat
  time : Nat
  code : Nat
  status : Nat
  setCrc : Nat
  link : Nat
  mailbox : Nat
  detail : Nat
  text : List Byte
  chain : List Byte
deriving DecidableEq, Repr, Inhabited

/-- A log entry of R127. -/
structure LogEntry where
  seq : Nat
  time : Nat
  code : Nat
  source : Nat
  data : List Byte
deriving DecidableEq, Repr, Inhabited

/-- Where a memory access goes (R612): data-space DRAM or cell SRAM, an SRAM group with its offset, the L1 cache of a core, the
safety SRAM. -/
inductive MemPlace where
  | dram (a : Nat)
  | csram (off : Nat)
  | group (g off : Nat)
  | l1 (core off : Nat)
  | safety (off : Nat)
deriving DecidableEq, Repr, Inhabited

/-- Who reads (R622): a joint engine its own memory (`code`: an instruction) or a point, the Sawmill for an instance, a delta
queue its ring, the star a downlink point, the bridge for a ring, Caldera a point, a scrubber. -/
inductive MemReader where
  | scrubber
  | ranger
  | core (c : Fin 16)
  | pcie
  | sawmill (inst : Fin 8)
  | jceOwn (k : Fin 64) (code : Bool)
  | jcePoint (k : Fin 64)
  | deltaQueue (q : Fin 8)
  | star
  | bridge (ring : Fin 8)
  | caldera
  | yarder
deriving DecidableEq, Repr, Inhabited

/-- A damaged code word that an access meets: byte offset within it, 1 one bit, 2 two bits, 3 poison pattern, the data bits
that are wrong, the syndrome. -/
structure MemErr where
  off : Nat
  kind : Nat
  flip : Byte
  syn : Nat
deriving DecidableEq, Repr, Inhabited

/-- A PTP message as an instance receives it (R578, R579): message type, domain; the fields of an Announce; the correction
of the base that the instance measures with it (a one-step Sync, the Follow_Up of a two-step Sync, a delay response). -/
structure PtpMsg where
  kind : Nat
  domain : Nat
  prio1 : Nat
  clockClass : Nat
  accuracy : Nat
  variance : Nat
  prio2 : Nat
  gm : Nat
  offset : Option Int
deriving DecidableEq, Repr, Inhabited

/-- A twin link message (chapter 19). CYCLE: mode, role, token, synchronised, digest, TB0. ACCEPT: node, accepted, Geyser CRC.
INPUT: node, NULL, payload. COMMAND: a mailbox command (code, payload), a window write or a core message (mailbox), and
the cycle at which it applies. SOLVE: run exchange. HANDOVER: the cycle. RESYNC: phase. -/
inductive TwinMsg where
  | cycle (n mode role : Nat) (token sync : Bool) (digest : List Byte) (tb0 : Nat)
  | accept (n node : Nat) (ok : Bool) (crc : Nat)
  | input (n node : Nat) (nul : Bool) (payload : List Byte)
  | command (n code mb : Nat) (bytes : List Byte)
  | window (n point value : Nat)
  | solve (n inst iters outcome : Nat)
  | handover (n : Nat)
  | resync (n phase dirty : Nat)
deriving DecidableEq, Repr, Inhabited

end Sys2Proof
end

