-- ==== Sys2Proof/Machine/Parts.lean ====
section
/-!
DEFINITION. The parts of the state that no register table lists: one structure for each unit, with its value after a
reset, and the parts that a resynchronisation of a pair carries.
-/
namespace Sys2Proof.Machine

/-- An open segmented transfer of a mailbox (R70, R71): the bytes received, the `OFFSET` that continues it, and for a
response in segments the bytes that are still to be sent. -/
structure Transfer where
  command : Nat
  tag : Nat
  data : List Byte
  next : Nat
  reply : Option (List Byte)
  /-- Model clock at its last segment. -/
  last : Nat
deriving DecidableEq, Repr, Inhabited

/-- What a command answers: its status code and the payload of its response. -/
structure MbResult where
  status : Nat
  payload : List Byte
deriving DecidableEq, Repr, Inhabited

/-- What a mailbox holds beside its `MB_STATE` register: its 4 KiB, the link that rang it, the result of its command
before the response is written, its open transfer, the management datagram it answers (key, counter), whether its
command has begun, the tick at which it was rung while IDLE (R66), and its bytes before the datagram of that tick. -/
structure Mailbox where
  bytes : Tab Byte
  link : Link
  started : Nat
  result : Option MbResult
  transfer : Option Transfer
  datagram : Option (Nat × Nat)
  begun : Bool
  rung : Option Nat
  before : Option (Tab Byte)
deriving DecidableEq, Repr, Inhabited

/-- An open session (R81, R82): idle time in seconds, model clock at its last command. -/
structure Session where
  id : Nat
  link : Link
  idle : Nat
  last : Nat
deriving DecidableEq, Repr, Inhabited

/-- A window grant (R86): right 1 READ, 2 READ_WRITE. -/
structure Grant where
  first : Nat
  last : Nat
  right : Nat
deriving DecidableEq, Repr, Inhabited

/-- The PCIe endpoint beside the MSI-X state (R49, R51, R53): the settled generation (1 to 4) and width in lanes of the link, both 0
while it is down; the bases of BAR 0 and BAR 2 in the configuration space; whether the function is in D3hot. -/
structure PcieState where
  gen : Nat
  width : Nat
  bar0 : Nat
  bar2 : Nat
  d3hot : Bool
deriving DecidableEq, Repr, Inhabited

/-- The endpoint after a reset that clears it. -/
def PcieState.reset : PcieState := { gen := 0, width := 0, bar0 := 0, bar2 := 0, d3hot := false }

/-- The host interface (chapter 2): mailboxes, the order of the doorbells (R74), sessions, the safety session, the
series of wrong passwords and the tick at which its lockout ends (R85), whether the safety session is restricted (R497),
the staged safety set (R492) and whether its commit turns seal mode on (R502), window grants, the PCIe endpoint (R49 to R53), UDP management (R59), and the
mailboxes whose CELL_WINDOW_REVOKE waits for the BAR 2 writes of a cycle start (R91). -/
structure HostState where
  mailboxes : Tab Mailbox
  doorbells : List Nat
  sessions : List Session
  safe : Option Session
  grants : Tab (Option Grant)
  linkUp : Bool
  pcie : PcieState
  msixOn : Bool
  msixTable : Tab Byte
  msixPending : BitVec 64
  mgmtOn : Bool
  mgmtIp : Nat
  mgmtPorts : BitVec 64
  lastNumber : Tab Nat
  wrong : Nat
  lockedTill : Nat
  restricted : Bool
  staged : Option SafetySet
  stagedSeal : Bool
  revoking : List (Nat × Nat)
deriving DecidableEq, Repr, Inhabited

/-- A mode change that waits for the next Geyser cycle start (R142): target, reason code of R144, the mailbox whose
command asked for it, how many causes were latched then (R161). -/
structure PendingMode where
  target : Mode
  reason : Nat
  mailbox : Option Nat
  seen : Nat
deriving DecidableEq, Repr, Inhabited

/-- The operating mode (chapter 4): mode, previous mode, reason, model clock at the change, the pending change, the
latched causes (oldest first), the stop causes behind cause 0x000B and the engines behind cause 0x0006 (R158), the causes recorded in SERVICE
(R157), whether a committed safety set has made the active image unusable (R163). -/
structure ModeState where
  mode : Mode
  previous : Mode
  reason : Nat
  since : Nat
  requested : Option PendingMode
  causes : List Nat
  stops : List Nat
  engines : List Nat
  inService : List Nat
  unusable : Bool
deriving DecidableEq, Repr, Inhabited

/-- One of the four logs of R127: entries, newest first, and the next sequence number. -/
structure LogRing where
  entries : List LogEntry
  next : Nat
deriving DecidableEq, Repr, Inhabited

/-- The answer of the last bus or link access of a command. -/
inductive BusResp where
  | idle
  | done
  | data (v : Nat)
  | busError
deriving DecidableEq, Repr, Inhabited

/-- What the machine sends out, newest first in `State.outbox`. -/
inductive Out where
  | msix (vector : Nat)
  | spi (bytes : List Byte)
  | datagram (bytes : List Byte)
  | coreEvent (core event : Nat)
  | rangerEvent (event : Nat)
  | calderaNotice (event : Nat)
  | psync (n width : Nat) (level : Bool)
  | frame (port : Nat) (bytes : List Byte)
  | ptp (base port kind : Nat)
  | pulse (gpio width : Nat) (high : Bool)
  | gpioSafe (gpio level : Nat)
  | twin (m : TwinMsg)
  | pcieConfig (bytes : List Byte)
  | heartbeat
  | tap (word : Word32)
deriving DecidableEq, Repr, Inhabited

/-- A mailbox that is IDLE and empty (R77). -/
def Mailbox.idle : Mailbox :=
  { bytes := Tab.empty, link := .pcie, started := 0, result := none, transfer := none, datagram := none, begun := false, rung := none,
    before := none }

/-- The host interface after a reset that clears it. DESIGN CHOICE (log entry 70): the series of wrong passwords and a running
lockout (R85) are among what it clears. -/
def HostState.reset : HostState :=
  { mailboxes := Tab.empty, doorbells := [], sessions := [], safe := none, grants := Tab.empty, linkUp := false,
    pcie := PcieState.reset, msixOn := false, msixTable := Tab.empty, msixPending := 0, mgmtOn := false, mgmtIp := 0, mgmtPorts := 0,
    lastNumber := Tab.empty, wrong := 0, lockedTill := 0, restricted := false, staged := none, stagedSeal := false,
    revoking := [] }

/-- The mode right after a reset: INIT (R164). -/
def ModeState.reset : ModeState :=
  { mode := .init, previous := .init, reason := 0, since := 0, requested := none, causes := [], stops := [], engines := [], inService := [], unusable := false }

/-- A log that holds nothing. -/
def LogRing.empty : LogRing := { entries := [], next := 0 }

/-- A cell image slot that holds nothing. -/
def CellSlot.empty : CellSlot := { state := .empty, failed := 0, image := none }

/-- An item of the Yarder (R660 to R662): sequence number, position within its flow, priority, flow, source kind, count,
arguments, the model clock at its acceptance, the ticket that `TAKE` gave it, whether its wait was counted (R680). -/
structure Item where
  seq : Nat
  pos : Nat
  prio : Nat
  flow : Nat
  src : Nat
  count : Nat
  arg0 : Word64
  arg1 : Word64
  born : Nat
  ticket : Nat
  waited : Bool
deriving DecidableEq, Repr, Inhabited

/-- The configuration word of a flow (R663). -/
structure FlowCfg where
  en : Bool
  ordered : Bool
  coreMask : BitVec 16
  nextFlow : Nat
  nextEn : Bool
deriving DecidableEq, Repr, Inhabited

/-- An armed timer (R674): deadline in µs of TB0, period, priority, flow, arguments, and whether its deadline was already
past when it was armed (R675). -/
structure Timer where
  deadline : Nat
  period : Nat
  prio : Nat
  flow : Nat
  arg0 : Word64
  arg1 : Word64
  past : Bool
deriving DecidableEq, Repr, Inhabited

/-- A hardware producer's held item (R679): the producer in the order of R662, the item, the deadline in µs after which a
timer's item is late (R675). -/
structure HeldItem where
  producer : Nat
  item : Item
  due : Option Nat
deriving DecidableEq, Repr, Inhabited

/-- The Yarder: next sequence number, next position of each flow, the items queued on chip and in the Landing, those in
progress on each core (top first), completed and unreleased items of ordered flows with their results, held items,
timers, flows, the handles that expired in the last tick, a TB0 value before a step, Landing slots, the busy time of each
core in the present window and since when it is busy, the tick at which that window began, whether a producer has held an
item since the store was last not full, the µs (plus 1) of the last `EV044`. -/
structure YarderState where
  next : Nat
  flowNext : Tab Nat
  store : List Item
  landing : List Item
  progress : Tab (List Item)
  finished : List (Item × Nat)
  held : List HeldItem
  timers : Tab (Option Timer)
  flows : Tab FlowCfg
  expiredAt : Tab Nat
  stepFrom : Option Nat
  landingSlots : Nat
  busyTicks : Tab Nat
  busySince : Tab Nat
  stalled : Bool
  loadAt : Nat
  backed : Bool
  lateAt : Nat
deriving DecidableEq, Repr, Inhabited

/-- A flow that is not configured. -/
def FlowCfg.off : FlowCfg := { en := false, ordered := false, coreMask := 0, nextFlow := 0, nextEn := false }

/-- The Yarder after a reset, with a Landing of the default 64 MiB (R677). -/
def YarderState.reset : YarderState :=
  { next := 0, flowNext := Tab.empty, store := [], landing := [], progress := Tab.empty, finished := [], held := [],
    timers := Tab.empty, flows := Tab.empty, expiredAt := Tab.empty, stepFrom := none, landingSlots := 1048576,
    busyTicks := Tab.empty, busySince := Tab.empty, stalled := false, loadAt := 0, backed := false, lateAt := 0 }

/-- A JCE program in a slot (R269): versions, the resources it needs, its words, its entry point. `kernel` marks the servo
kernel as delivered, whose words the manual does not give. -/
structure JceProgram where
  secVersion : Nat
  version : Nat
  needs : Nat
  keySlot : Nat
  instrs : List Word32
  data : List Word32
  entry : Nat
  kernel : Bool
  digest : BitVec 256
deriving DecidableEq, Repr, Inhabited

/-- The servo kernel as delivered in slot 0 (R270), with the version numbers of log entry 9. -/
def JceProgram.servoKernel : JceProgram :=
  { secVersion := 0, version := 0, needs := 0, keySlot := 0, instrs := [], data := [], entry := 0, kernel := true, digest := 0 }

/-- A firmware slot (R129, R715): state as `FW_INFO` codes it, versions, entry, load address, digest, image. -/
structure FwSlot where
  state : Nat
  secVersion : Nat
  version : Nat
  entry : Nat
  load : Nat
  digest : BitVec 256
  image : List Byte
deriving DecidableEq, Repr, Inhabited

/-- An empty firmware slot. -/
def FwSlot.empty : FwSlot :=
  { state := 0, secVersion := 0, version := 0, entry := 0, load := 0, digest := 0, image := [] }

/-- The Ranger firmware as delivered: VERIFIED, its numbers and bytes not given (log entry 9). -/
def FwSlot.delivered : FwSlot :=
  { state := 2, secVersion := 0, version := 0, entry := 0, load := 0, digest := 0, image := [] }

/-- What flash and OTP hold: cell image slots and the active one, the boot epoch, management keys, the Landing size in MiB, the
calibration pairs, the JCE program slots and the slot of each engine (R270), the committed safety set with its acceptance
(R504), the salt and digest of the password (R496), seal mode (R500), the change log, newest first, the `CHAIN` of the
entry before its oldest and the number of the next entry (R505, R506); the firmware slots of Ranger and of the application cores, the slot marked for boot, the slot and mask of the last start of
cores (R645), a trial slot that failed
and is still to be logged (R712), the key hashes of the key store, remap words and region entries (R620, R628); the
pair configuration (R611); the mirror of the debug attachment count (R727); OTP: key hashes, revocation bits, anti-rollback count (R718). -/
structure FlashState where
  slots : Tab CellSlot
  activeSlot : Option Nat
  bootEpoch : Nat
  mgmtKeys : Tab (Option (BitVec 256))
  landingMiB : Nat
  calPairs : Tab (Option (Nat × Nat))
  programs : Tab (Option JceProgram)
  assigned : Tab Nat
  safeSet : Option SafetySet
  safeCopy : Bool
  safeAccepted : Bool
  password : Option (List Byte × List Byte)
  sealMode : Bool
  changes : List ChangeEntry
  changeAnchor : List Byte
  changeNext : Nat
  fwSlots : Tab FwSlot
  coreSlots : Tab FwSlot
  bootSlot : Nat
  started : Nat × BitVec 16
  trialFailed : Option Nat
  keyStore : Tab (Option (BitVec 256))
  remapDram : Tab (Option Nat)
  remapSram : Tab (Option Nat)
  regions : Tab (Option (Nat × Nat × Bool))
  debugCount : Nat
  otpHash : Tab (Option (BitVec 256))
  otpRevoked : BitVec 4
  rollback : Nat
  pairEn : Bool
deriving DecidableEq, Repr, Inhabited

/-- Entry 0 of the change log, written at manufacture: the manual gives its number, the rest is 0 (log entry 9). -/
def ChangeEntry.first : ChangeEntry :=
  { entry := 0, epoch := 0, time := 0, code := 0, status := 0, setCrc := 0, link := 0xFF, mailbox := 0xFF, detail := 0,
    text := List.replicate 32 0, chain := [] }

/-- Flash as delivered: no image, no key. -/
def FlashState.reset : FlashState :=
  { slots := Tab.empty, activeSlot := none, bootEpoch := 0, mgmtKeys := Tab.empty, landingMiB := 64,
    calPairs := Tab.empty,
    programs := ⟨[(0, some JceProgram.servoKernel)]⟩, assigned := Tab.empty, safeSet := none, safeCopy := false,
    safeAccepted := false, password := none, sealMode := false, changes := [ChangeEntry.first],
    changeAnchor := List.replicate 32 0, changeNext := 1,
    fwSlots := ⟨[(0, FwSlot.delivered)]⟩, coreSlots := Tab.empty, bootSlot := 0, started := (0, 0), trialFailed := none,
    keyStore := Tab.empty, remapDram := Tab.empty, remapSram := Tab.empty, regions := Tab.empty, debugCount := 0,
    otpHash := Tab.empty, otpRevoked := 0, rollback := 0, pairEn := false }

/-- A hardware loop (R250): first and last instruction of the body, repetitions left. -/
structure HwLoop where
  first : Nat
  last : Nat
  left : Nat
deriving DecidableEq, Repr, Inhabited

/-- An entry of the posted buffer (R232, R259). -/
inductive Posted where
  | point (p : Nat) (v : Word64)
  | delta (q : Nat) (v : Word64)
deriving DecidableEq, Repr, Inhabited

/-- A point read in progress (R258): destination pair, point, the value once the port has granted it. -/
structure PointRead where
  d : Nat
  point : Nat
  value : Option Word64
deriving DecidableEq, Repr, Inhabited

/-- A joint control engine beside its register block: memories, registers, SR, stacks, posted and stage buffers, the
pending events, what it waits for, whether a start waits for a tick, its entry point and whether its program is the servo
kernel, whether debug holds it or has released it, whether its outputs went to their safe states (R264), and whether the
period of its last tick is not over yet (`BUSY_LAST`). -/
structure JceState where
  imem : Tab Word32
  dmem : Tab Word32
  d : Tab Word32
  acc : Tab Word72
  a : Tab Nat
  base : Tab Nat
  len : Tab Nat
  modn : Tab Int
  z : Bool
  n : Bool
  c : Bool
  v : Bool
  sat : Bool
  evTick : Bool
  evPeriph : Bool
  loops : List HwLoop
  rets : List Nat
  posted : List Posted
  stage : List (Nat × Word32)
  tickPending : Bool
  periphPending : Bool
  waiting : Option Nat
  reading : Option PointRead
  startAtTick : Bool
  loaded : Bool
  kernel : Bool
  entry : Nat
  debugHeld : Bool
  debugReleased : Bool
  outSafe : Bool
  period : Bool
deriving DecidableEq, Repr, Inhabited

/-- An engine that holds no program. -/
def JceState.reset : JceState :=
  { imem := Tab.empty, dmem := Tab.empty, d := Tab.empty, acc := Tab.empty, a := Tab.empty, base := Tab.empty,
    len := Tab.empty, modn := Tab.empty, z := false, n := false, c := false, v := false, sat := false, evTick := false,
    evPeriph := false, loops := [], rets := [], posted := [], stage := [], tickPending := false, periphPending := false,
    waiting := none, reading := none, startAtTick := false, loaded := false, kernel := false, entry := 0,
    debugHeld := false, debugReleased := false, outSafe := false, period := false }

/-- A PWM pair beside its registers. Times are absolute, in fine units of 62.5 ps on the model's clock. The configuration
in force is the one of the present period (R362). -/
structure PwmPair where
  start : Nat
  mode : Bool
  lock : Bool
  clampLow : Bool
  extend : Bool
  minPulse : Nat
  dtRise : Nat
  dtFall : Nat
  rose : Bool
  fell : Bool
  href : Bool
  hDue : Option Nat
  lDue : Option Nat
  hOnAt : Nat
  lOnAt : Nat
  hOffAt : Nat
  hStretch : Option Nat
  lStretch : Option Nat
  hShort : Bool
  lShort : Bool
  trimE : Int
  trimN : Nat
  trimIdx : Nat
  trim : Int
  nextCommon : Nat
  caldera : Bool
  engine : Bool
  restart : Bool
deriving DecidableEq, Repr, Inhabited

/-- A pair after a reset: forced, both switches off. -/
def PwmPair.reset : PwmPair :=
  { start := 0, mode := false, lock := false, clampLow := false, extend := false, minPulse := 0, dtRise := 0,
    dtFall := 0, rose := false, fell := false, href := false, hDue := none, lDue := none, hOnAt := 0, lOnAt := 0,
    hOffAt := 0, hStretch := none, lStretch := none, hShort := false, lShort := false, trimE := 0, trimN := 0,
    trimIdx := 0, trim := 0, nextCommon := 0, caldera := false, engine := false, restart := false }

/-- A feedback channel beside its registers: the last edge and its interval, whether an interval may be kept, the open
error window and its count, the reference angle or word, the last accepted sample, the samples accepted in a row, when the
counter last changed, the counter at the last snapshot, the tick of the last restart (R321), and the sin and cos conversions
that have come since the last pair (R333): code and quality. Times are in ticks of 8 ns. -/
structure FbState where
  lastEdge : Nat
  moving : Bool
  interval : Nat
  winOpen : Option Nat
  winCount : Nat
  reference : Option Nat
  lastSample : Nat
  accepted : Nat
  lastMove : Nat
  snapPos : Int
  restarted : Option Nat
  sin : Option (BitVec 14 × Nat)
  cos : Option (BitVec 14 × Nat)
deriving DecidableEq, Repr, Inhabited

/-- A channel after a reset. -/
def FbState.reset : FbState :=
  { lastEdge := 0, moving := false, interval := 0, winOpen := none, winCount := 0, reference := none, lastSample := 0,
    accepted := 0, lastMove := 0, snapPos := 0, restarted := none, sin := none, cos := none }

/-- A pass of an ADC sequence (R382): its entries and alignment as they stood at its start, the tick of its next sample,
the entry and the conversions of it sampled so far, its number and its trigger time (R390). -/
structure AdcPass where
  entries : List Nat
  align : Bool
  next : Nat
  entry : Nat
  sampled : Nat
  pass : Nat
  time : Nat
deriving DecidableEq, Repr, Inhabited

/-- A conversion in the pipeline: the tick at which its result is written, the entry word, where it stands, whether it
settles (R388). -/
structure AdcConv where
  due : Nat
  word : Nat
  entry : Nat
  inj : Bool
  align : Bool
  settling : Bool
  last : Bool
  pass : Nat
  time : Nat
deriving DecidableEq, Repr, Inhabited

/-- A route: its configuration as the last pass start took it (filter length, notification, priority, flow), the partial
sum with the marks of its conversions, filter-fill results left, results since the last notification, the tick at which
its ring last wrapped. -/
structure AdcRoute where
  known : Bool
  filt : Nat
  notify : Bool
  every : Nat
  prio : Nat
  flow : Nat
  sum : Int
  n : Nat
  settling : Bool
  overRange : Bool
  fill : Nat
  since : Nat
  wrapAt : Option Nat
deriving DecidableEq, Repr, Inhabited

/-- A calibration step that runs (R398): FULL or ZERO, its pair, the tick of its end. -/
structure AdcStep where
  full : Bool
  pair : Nat
  done : Nat
deriving DecidableEq, Repr, Inhabited

/-- A converter beside its registers: passes (regular, injected), the trigger time of a held regular pass (R384), whether
the regular pass was interrupted (R385), the input, kind and gain of the previous conversion, settling conversions left,
the pipeline (oldest first), the routes, the calibration step, the ZERO means since `CAL_EN` was set in 1/256 of a code,
and the accepted pairs that are not in flash yet (R399). -/
structure AdcState where
  reg : Option AdcPass
  inj : Option AdcPass
  held : Option Nat
  interrupted : Bool
  captured : Nat
  prev : Option (Nat × Nat × Nat)
  settle : Nat
  gainSettle : Nat
  pipe : List AdcConv
  routes : Tab AdcRoute
  step : Option AdcStep
  zero : Tab (Option Int)
  unsaved : List Nat
deriving DecidableEq, Repr, Inhabited

/-- A route that no pass has used. -/
def AdcRoute.reset : AdcRoute :=
  { known := false, filt := 1, notify := false, every := 1, prio := 0, flow := 0, sum := 0, n := 0, settling := false,
    overRange := false, fill := 0, since := 0, wrapAt := none }

/-- A converter that does nothing. -/
def AdcState.reset : AdcState :=
  { reg := none, inj := none, held := none, interrupted := false, captured := 0, prev := none, settle := 0,
    gainSettle := 0, pipe := [], routes := Tab.empty, step := none, zero := Tab.empty, unsaved := [] }

/-- What a profile generator is doing (R292 to R302, R408 to R410). A track ends when its time in ns has run. -/
inductive ProfKind where
  | idle
  | move (target : Int)
  | velocity (w : Int)
  | stop (decel : Nat)
  | track (target w : Int) (left : Nat)
deriving DecidableEq, Repr, Inhabited

/-- A profile generator: position, velocity, acceleration and the jerk of the running update in counts and seconds, its
limits in counts/s, counts/s² and counts/s³, and the marks of the mid-move rules. `brake` is the deceleration in force
while it brakes, `fresh` a change that no update has taken yet, `landing` the end point of the running update when that
update is the final one (position, velocity). -/
structure Prof where
  kind : ProfKind
  smooth : Bool
  p : Rat
  v : Rat
  a : Rat
  j : Rat
  vel : Nat
  acc : Nat
  dec : Nat
  decMax : Nat
  jerk : Nat
  brake : Nat
  braking : Bool
  hold : Bool
  fresh : Bool
  raised : Bool
  passed : Bool
  passing : Bool
  softHit : Bool
  landing : Option (Rat × Rat)
deriving DecidableEq, Repr, Inhabited

/-- A generator at rest at position 0 with the least limits. -/
def Prof.reset : Prof :=
  { kind := .idle, smooth := true, p := 0, v := 0, a := 0, j := 0, vel := 1, acc := 10, dec := 10, decMax := 10,
    jerk := 1000, brake := 10, braking := false, hold := false, fresh := false, raised := false, passed := false, passing := false,
    softHit := false, landing := none }

/-- A command of R408 that waits for the next profile update, with the staged values of its write and the tick of it. -/
structure StpCmd where
  code : Nat
  target : Int
  tvel : Int
  vel : Nat
  acc : Nat
  dec : Nat
  decMax : Nat
  jerk : Nat
  vStart : Nat
  written : Nat
deriving DecidableEq, Repr, Inhabited

/-- A step channel beside its registers: its profile, the tick of the last profile update, the command that the next
update takes, `V_START` as it was last taken, the tick of the last step, the tick at which the present halt began, until when `DRVFLTn` is ignored after
PARKED. -/
structure StpState where
  prof : Prof
  base : Nat
  cmd : Option StpCmd
  vStart : Nat
  lastStep : Option Nat
  haltAt : Option Nat
  settle : Option Nat
deriving DecidableEq, Repr, Inhabited

/-- A channel after a reset. -/
def StpState.reset : StpState :=
  { prof := Prof.reset, base := 0, cmd := none, vStart := 0, lastStep := none, haltAt := none, settle := none }

/-- The axis inputs of one axis: accepted levels, chatter bits, the ticks of the last accepted edges of each limit input
(newest first), and the last edge: input and tick of its first sample. -/
structure AxisIn where
  pos : Bool
  neg : Bool
  home : Bool
  posChatter : Bool
  negChatter : Bool
  posEdges : List Nat
  negEdges : List Nat
  lastInput : Nat
  edgeTime : Nat
deriving DecidableEq, Repr, Inhabited

/-- Inputs that nothing has been accepted on. -/
def AxisIn.reset : AxisIn :=
  { pos := false, neg := false, home := false, posChatter := false, negChatter := false, posEdges := [], negEdges := [],
    lastInput := 0, edgeTime := 0 }

/-- A control loop between periods (R285): integrator, derivative term, last measurement; none before the first period
(R291). -/
structure LoopState where
  i : Rat
  d : Rat
  y : Option Rat
deriving DecidableEq, Repr, Inhabited

/-- A homing sequence (R426 to R429): method, phase, direction of the search (true is negative), whether it was reversed,
where the present direction began, the reference once it is known. Phases: 0 off the switch, 1 stop after it, 2 search,
3 stop at the switch, 4 back off, 5 search of the index, 6 final stop, 7 stop before the reversed search. -/
structure Homing where
  method : Nat
  phase : Nat
  down : Bool
  turned : Bool
  from0 : Int
  ref : Option Rat
deriving DecidableEq, Repr, Inhabited

/-- An axis: enabled, homed, source, jog; fault word, first fault, reaction in progress (0 to 3 as R279 codes it);
profile, set-points, loops, references; the counters of the slower loops; what the last period met; homing; the
trajectory bank followed (frame in ms in which it was read, bank-select word); whether `AXIS_STOP` holds it off the trajectory; the limits of the move in progress (0: the
configured ones); the step count and speed of the last common instant; the cycle whose sampled state is still to be posted
to the cell problem (R45, R184); the fault bits that the running period has met (R284); the last good bus voltage sample; velocity and
position work that overruns put off, and whether the last one was late (R312); the tick of the last velocity period; the
parameter that gives a running stop its deceleration (R296). -/
structure AxisState where
  enabled : Bool
  homed : Bool
  traj : Bool
  jog : Bool
  faults : Nat
  first : Nat
  reaction : Nat
  disabling : Bool
  prof : Prof
  spP : Rat
  spV : Rat
  spA : Rat
  err : Rat
  pos : LoopState
  vel : LoopState
  curQ : LoopState
  curD : LoopState
  velRef : Rat
  torque : Rat
  velN : Nat
  posN : Nat
  frozen : Bool
  outSat : Bool
  inPosAt : Option Nat
  missed : Bool
  misses : Nat
  held : Nat
  ia : Int
  ib : Int
  netPos : Rat
  netVel : Rat
  netFault : Bool
  homing : Option Homing
  bank : Option (Nat × Nat)
  bankHold : Bool
  following : Bool
  stayed : Bool
  lastPos : Rat
  lastTime : Nat
  mvVel : Nat
  mvAcc : Nat
  mvJerk : Nat
  snapPos : Rat
  snapVel : Rat
  postFor : Option Nat
  noted : Nat
  vbus : Nat
  owedVel : Bool
  owedPos : Bool
  wasLate : Bool
  velTime : Nat
  stopParam : Nat
deriving DecidableEq, Repr, Inhabited

/-- A loop at rest. -/
def LoopState.reset : LoopState := { i := 0, d := 0, y := none }

/-- A disabled axis whose kernel has just been loaded (R319). -/
def AxisState.reset : AxisState :=
  { enabled := false, homed := false, traj := false, jog := false, faults := 0, first := 0, reaction := 0,
    disabling := false, prof := Prof.reset, spP := 0, spV := 0, spA := 0, err := 0, pos := LoopState.reset,
    vel := LoopState.reset, curQ := LoopState.reset, curD := LoopState.reset, velRef := 0, torque := 0, velN := 0,
    posN := 0, frozen := false, outSat := false, inPosAt := none, missed := false, misses := 0, held := 0, ia := 0,
    ib := 0, netPos := 0, netVel := 0, netFault := false, homing := none, bank := none, bankHold := false,
    following := false, stayed := false, lastPos := 0, lastTime := 0,
    mvVel := 0, mvAcc := 0, mvJerk := 0, snapPos := 0, snapVel := 0, postFor := none, noted := 0, vbus := 0,
    owedVel := false, owedPos := false, wasLate := false, velTime := 0, stopParam := 0x62 }

/-- An update block (R188): the KKT columns of its rows, the fraction bits of its values, the place of the first value in the
lower triangle that the rows span, the values row by row. -/
structure SawPack where
  rows : List Nat
  frac : Nat
  first : Nat
  values : List Word32
deriving DecidableEq, Repr, Inhabited

/-- A block in the update buffer of a tile: sender, tag, when it has fully arrived (as `SawTile.ready`), content (R188). -/
structure SawBlock where
  peer : Nat
  tag : Nat
  arrival : Nat
  pack : SawPack
deriving DecidableEq, Repr, Inhabited

/-- What a tile waits for: another tile's block, the barrier, the other tiles' scalars. -/
inductive SawWait where
  | nothing
  | block (peer tag : Nat)
  | barrier
  | reduce
deriving DecidableEq, Repr, Inhabited

/-- A tile: its store (R175), its eight scalars (R188), the Schur update it formed last, its update buffer, the schedule and
the pattern lists in its schedule memory (R171), the next word, when the last operation ends (in 1/5,040 of a TIME tick, of
which a SAW cycle at `RATE` r takes 4,200 ÷ r), the END words it passed in the run, what it waits for, whether it was halted
(R189). -/
structure SawTile where
  store : Tab Word32
  scalars : Tab Word32
  update : SawPack
  buffer : List SawBlock
  sched : List (BitVec 128)
  lists : List SawElem
  next : Nat
  ready : Nat
  ends : Nat
  wait : SawWait
  halted : Bool
deriving DecidableEq, Repr, Inhabited

/-- An iterate: its number within the run (0 the start point), norms, merit, and its words (R213, R227). -/
structure SawIterate where
  iter : Nat
  primal : Nat
  dual : Nat
  mu : Nat
  merit : Nat
  point : List Word32
deriving DecidableEq, Repr, Inhabited

/-- A run: start and deadline in ns of TB0, the tick of its start, a whole-cell run, cold, completed iterations, the start point, the last
iterate, the prefix-best iterates of the last four iterations (newest first, R227), abort requested, saturations, pivots
replaced, elimination position and column of the first one, lost records, the outcome once wrap-up has begun and when it ends (as `SawTile.ready`), the tick at
which the exchange was sent, the partner's iterations and outcome, the run parameters in force (R209). -/
structure SawRun where
  start : Nat
  deadline : Nat
  tick : Nat
  whole : Bool
  cold : Bool
  iters : Nat
  origin : SawIterate
  latest : SawIterate
  prefixes : List SawIterate
  abort : Bool
  overflows : Nat
  pivots : Nat
  firstPivot : Option (Nat × Nat)
  lost : Bool
  wrap : Option Nat
  wrapEnd : Nat
  sent : Option Nat
  partner : Option (Nat × Nat)
  par : List Nat
deriving DecidableEq, Repr, Inhabited

/-- An instance: place of the oldest record and number of records in its delta ring in cell SRAM (R173, R195), records
applied since the last run start, a record lost since then, parameters written by command, the run, whether the next run
starts cold, the selected result buffer, the words of the last published point (R212), the frame of the last whole-cell
start, whether its schedules are being loaded. -/
structure SawInst where
  head : Nat
  level : Nat
  applied : Nat
  lost : Bool
  params : Tab Nat
  run : Option SawRun
  coldNext : Bool
  buf : Bool
  lastPoint : List Word32
  lastFrame : Option Nat
  loading : Bool
deriving DecidableEq, Repr, Inhabited

/-- A tile without a schedule. -/
def SawTile.reset : SawTile :=
  { store := Tab.empty, scalars := Tab.empty, update := ⟨[], 0, 0, []⟩, buffer := [], sched := [], lists := [], next := 0,
    ready := 0, ends := 0, wait := .nothing, halted := false }

/-- An instance that has not run. -/
def SawInst.reset : SawInst :=
  { head := 0, level := 0, applied := 0, lost := false, params := Tab.empty, run := none, coldNext := true, buf := false,
    lastPoint := [], lastFrame := none, loading := false }

/-- Debug access (R725 to R729): the TAP instruction, `dmactive`, the JCE debug port, the debug
attachment count of the always-on block (R727), and the harts that a debugger holds halted. -/
structure DebugState where
  insn : Nat
  dm : Bool
  jcePort : Bool
  attached : Nat
  heldHarts : List Nat
deriving DecidableEq, Repr, Inhabited

/-- No debugger. -/
def DebugState.reset : DebugState :=
  { insn := 1, dm := false, jcePort := false, attached := 0, heldHarts := [] }

/-- Clocks, power and resets (chapter 23): the letter of the reset that holds the device, `PORST_N` low, DORMANT with its
wake GPIO and level, the sag event (tick of the warning, tick of the last recovery or of the end of the hold), the remainders of the time bases in 10^-9 of 2^-16 ns, and the tick of the last reset. -/
structure PowerState where
  held : Option ResetLetter
  porst : Bool
  dormant : Bool
  wakeGpio : Nat
  wakeLevel : Bool
  sagFrom : Option Nat
  sagHold : Option Nat
  tbRest : Tab Int
  resetAt : Nat
deriving DecidableEq, Repr, Inhabited

/-- Full rate, no sag, running. -/
def PowerState.reset : PowerState :=
  { held := none, porst := false, dormant := false, wakeGpio := 0, wakeLevel := false, sagFrom := none, sagHold := none,
    tbRest := Tab.empty, resetAt := 0 }

/-- A safe input channel (R443, R448, R449): the raw level, the sample at which its present run began, a failed test, a
test passed after it. -/
structure CalChan where
  raw : Bool
  since : Nat
  fail : Bool
  pass : Bool
deriving DecidableEq, Repr, Inhabited

/-- A safe input pair: the sample of `t_disc`, and whether the present disagreement latched (R444). -/
structure CalPair where
  tDisc : Nat
  latched : Bool
deriving DecidableEq, Repr, Inhabited

/-- A test-pulse output (R447): the sample `t0` of the open window, whether every check of it passed, when the next pulse
is due. -/
structure CalTps where
  t0 : Option Nat
  pass : Bool
  due : Option Nat
deriving DecidableEq, Repr, Inhabited

/-- A safe output with its EDM input (R452 to R455): the sample of its last switching, of its next test and of the test
that runs; raw EDM level with the sample at which its run began; whether the load is on, and since which sample. -/
structure CalOut where
  switched : Nat
  nextTest : Nat
  testAt : Nat
  edmRaw : Bool
  edmSince : Nat
  load : Bool
  loadAt : Nat
deriving DecidableEq, Repr, Inhabited

/-- An axis as Caldera sees it (R462 to R467): its positions with their samples, newest first; the sample at which its
history began; its safe speed; since when it is at or below `STILL_SPEED` (R158) and the same within the SS1; since when
the cross-check fails and whether that was demanded; `JV_LIM` exceeded; `v0`; the sample at which an STO of its own was
decided, and whether that is a confirmed standstill; STO held. -/
structure CalAxis where
  hist : List (Nat × Rat)
  from0 : Option Nat
  speed : Rat
  still : Option Nat
  confirm : Option Nat
  cross : Option Nat
  crossed : Bool
  fast : Bool
  v0 : Rat
  stoAt : Option Nat
  calm : Bool
  sto : Bool
deriving DecidableEq, Repr, Inhabited

/-- An arm (R473 to R475, R483): the lower levels decided, each with the sample of its decision; since when the conditions of FULL
and of REDUCED hold; the downward ramp (start sample, start speed); its monitored points at the last separation cycle
and their highest speed; a point limit exceeded; the separation level. -/
structure CalArm where
  down : List (Nat × Nat)
  upFull : Option Nat
  upReduced : Option Nat
  ramp : Option (Nat × Rat)
  points : List (Rat × Rat × Rat)
  speeds : List Rat
  fast : Bool
  sep : Nat
deriving DecidableEq, Repr, Inhabited

/-- A track (R477). -/
structure CalTrack where
  x : Int
  y : Int
  vx : Int
  vy : Int
  radius : Nat
  height : Nat
  id : Nat
  valid : Bool
deriving DecidableEq, Repr, Inhabited

/-- An axis record of a drive uplink frame (R477). -/
structure CalDrive where
  pos : Int
  speed : Int
  status : Nat
deriving DecidableEq, Repr, Inhabited

/-- A safety connection (R478, R479): the last accepted `SEQ` and `TIME`, TB6 at the acceptance, TB6 at the CRC failures
of the last second, the repeated frames, the drive records, whether the sensor is OK, its tracks, and those that the separation cycle uses. -/
structure CalConn where
  seq : Nat
  time : Nat
  acceptedAt : Nat
  crcAt : List Nat
  repeats : Nat
  drives : List CalDrive
  ok : Bool
  tracks : List CalTrack
  used : List CalTrack
deriving DecidableEq, Repr, Inhabited

/-- A seal input (R499): raw level, the TB6 reading at which its run began, the accepted level. -/
structure CalSeal where
  raw : Bool
  since : Option Nat
  level : Option Bool
deriving DecidableEq, Repr, Inhabited

/-- Caldera: the set in force, a set that waits for the next boundary (R494), whether debug holds its core, the line of
R703, HALTING reported and not yet taken (R466), TB6 at sample 0, the number of the last sample, the samples at which
the last boundary and the last separation cycle were made, the levels at its input balls, the levels at its TPS balls;
its channels, pairs, outputs, axes, arms, connections and seals; the demands decided at the present instant; the sample
at which an STO was decided, an SS1 began and the first output fault latched; whether Ranger has yet to enter HALTING
for an SS1 demand; the accepted seal states that were last logged; downlink sequence numbers of the drives; the bytes of the
safety SRAM (R431). -/
structure CalState where
  set : Option SafetySet
  waiting : Option SafetySet
  halted : Bool
  told : Bool
  haltTold : Bool
  start : Nat
  n : Nat
  bound : Nat
  sepAt : Nat
  si : Word32
  sorb : BitVec 16
  edm : BitVec 16
  sealPins : BitVec 4
  tpsOut : BitVec 8
  chans : Tab CalChan
  pairs : Tab CalPair
  tps : Tab CalTps
  outs : Tab CalOut
  axes : Tab CalAxis
  arms : Tab CalArm
  conns : Tab CalConn
  seals : Tab CalSeal
  sealShown : Tab (Option Nat)
  stoNow : List Nat
  ss1Now : List Nat
  stoAt : Option Nat
  ss1At : Option Nat
  faultAt : Option Nat
  haltAsk : Bool
  dnSeq : Tab Nat
  sram : Tab Byte
deriving DecidableEq, Repr, Inhabited

/-- A channel that reads 0. -/
def CalChan.reset : CalChan := { raw := false, since := 0, fail := false, pass := false }

/-- An axis with STO held. -/
def CalAxis.reset : CalAxis :=
  { hist := [], from0 := none, speed := 0, still := none, confirm := none, cross := none, crossed := false, fast := false,
    v0 := 0, stoAt := none, calm := false, sto := true }

/-- An arm of which nothing is known. -/
def CalArm.reset : CalArm :=
  { down := [], upFull := none, upReduced := none, ramp := none, points := [], speeds := [], fast := false, sep := 0 }

/-- A connection without a frame. -/
def CalConn.reset : CalConn :=
  { seq := 0, time := 0, acceptedAt := 0, crcAt := [], repeats := 0, drives := [], ok := true, tracks := [], used := [] }

/-- A TPS output without a window. -/
def CalTps.reset : CalTps := { t0 := none, pass := true, due := none }

/-- An output that is off. -/
def CalOut.reset : CalOut :=
  { switched := 0, nextTest := 0, testAt := 0, edmRaw := false, edmSince := 0, load := false, loadAt := 0 }

/-- A seal input of which no sample was taken. -/
def CalSeal.reset : CalSeal := { raw := false, since := none, level := none }

/-- Caldera in STARTUP. -/
def CalState.reset : CalState :=
  { set := none, waiting := none, halted := false, told := false, haltTold := false, start := 0, n := 0, bound := 0,
    sepAt := 0, si := 0, sorb := 0, edm := 0, sealPins := 0, tpsOut := 0, chans := Tab.empty, pairs := Tab.empty,
    tps := Tab.empty, outs := Tab.empty, axes := Tab.empty, arms := Tab.empty, conns := Tab.empty, seals := Tab.empty,
    sealShown := Tab.empty, stoNow := [], ss1Now := [], stoAt := none, ss1At := none, faultAt := none, haltAsk := false,
    dnSeq := Tab.empty, sram := Tab.empty }

/-- A SerDes port (R513, R518 to R524): whether Clause 73 runs, the modes struck in this pass, whether Clause 73 was
restarted, the modes still to try; the tick at which the present phase began; own and last received `SESSION`; the mask
last received; the choice; ACCEPT sent, fitting ACCEPT received; restarts in a row; whether a valid message came, and
whether NEGOTIATE was entered before; the tick of the last message sent; a loopback's tick. -/
structure PortState where
  c73 : Bool
  struck : Nat
  again : Bool
  tries : List Nat
  since : Nat
  session : Nat
  peer : Nat
  mask : Nat
  choice : Nat
  sent : Bool
  got : Bool
  restarts : Nat
  heard : Bool
  before : Bool
  last : Nat
deriving DecidableEq, Repr, Inhabited

/-- A port that does nothing. -/
def PortState.reset : PortState :=
  { c73 := false, struck := 0, again := false, tries := [], since := 0, session := 0, peer := 0, mask := 0, choice := 0,
    sent := false, got := false, restarts := 0, heard := false, before := false, last := 0 }

/-- A PTP instance (R577 to R580): domain, profile, ports; the grandmaster followed (none: the device itself) and its rank, the slave port, the tick of the last Announce; Sync measurements below 100 ns in a row, the measurements
since the last change of grandmaster (newest first), whether the new master has yet to settle; the tick at which each
message was last sent (4 × port + kind). -/
structure PtpInst where
  domain : Nat
  profile : Nat
  ports : BitVec 64
  gm : Option Nat
  rank : Nat
  slave : Nat
  heard : Nat
  good : Nat
  offs : List Int
  settling : Bool
  sent : Tab Nat
deriving DecidableEq, Repr, Inhabited

/-- A gate control list (R584): base time in ns of TB0, entries of gate mask and interval in ns. -/
structure GateList where
  base : Nat
  entries : List (Nat × Nat)
deriving DecidableEq, Repr, Inhabited

/-- The gates of a port: the running list, the entry that begins next and its TB0 time, the list that waits. -/
structure GateState where
  run : Option GateList
  next : Nat
  nextAt : Nat
  waiting : Option GateList
deriving DecidableEq, Repr, Inhabited

/-- A frame in a transmit queue (R581, R586, R587): bytes without FCS, launch time on a base, the transmit ring it came
from, the corrected ingress timestamp in ns of a bridged event message. -/
structure TxFrame where
  bytes : List Byte
  launch : Option (Nat × Nat)
  ring : Option Nat
  stamp : Option Rat
deriving DecidableEq, Repr, Inhabited

/-- A learned address (R583): address, port, model clock of its last frame. -/
structure MacEntry where
  mac : List Byte
  port : Nat
  seen : Nat
deriving DecidableEq, Repr, Inhabited

/-- Time and the bridge (chapter 18): PTP instances of TB1 to TB4, pending steps that were accepted, gates of the ports,
queues (8 × port + queue), learned addresses, the tick until which a port transmits, the rings whose descriptor is under
way, the time up to which a trigger's edges are done, captures not read, outputs that hold their safe level (R655). -/
structure TimeState where
  ptp : Tab (Option PtpInst)
  accept : Tab Bool
  gates : Tab GateState
  queues : Tab (List TxFrame)
  macs : List MacEntry
  busyTill : Tab Nat
  ringBusy : Tab Bool
  trig : Tab (Option Nat)
  capUnread : BitVec 64
  gpioSafe : BitVec 64
deriving DecidableEq, Repr, Inhabited

/-- Gates without a list: all open. -/
def GateState.reset : GateState := { run := none, next := 0, nextAt := 0, waiting := none }

/-- No instance, no list, no frame. -/
def TimeState.reset : TimeState :=
  { ptp := Tab.empty, accept := Tab.empty, gates := Tab.empty, queues := Tab.empty, macs := [], busyTill := Tab.empty,
    ringBusy := Tab.empty, trig := Tab.empty, capUnread := 0, gpioSafe := 0 }

/-- An accepted uplink frame (R544): node, NULL, payload, Geyser CRC. -/
structure UpFrame where
  node : Nat
  nul : Bool
  payload : List Byte
  crc : Nat
deriving DecidableEq, Repr, Inhabited

/-- A node in the present cycle and its runs: a frame accepted, blocked, of valid CRC; cycles in a row accepted, missing,
silent, within the guard; rejected delays in a row; on a synchronised pair the frame that waits, whether its window has
closed, the partner's record (accepted, CRC); the downlink frame sent (DATA, payload words outside the safety region);
whether the partner's last record was an acceptance. -/
structure NodeRun where
  acc : Bool
  blk : Bool
  crc : Bool
  good : Nat
  miss : Nat
  quiet : Nat
  inSet : Nat
  rej : Nat
  up : Option UpFrame
  closed : Bool
  record : Option (Bool × Nat)
  sent : Option (Bool × List Word64)
  other : Bool
deriving DecidableEq, Repr, Inhabited

/-- A COLDSTART in its collision window (R562): node, port, frame, TB0 and the tick of its start, another one came. -/
structure Contender where
  node : Nat
  port : Nat
  frame : List Byte
  tb0 : Nat
  tick : Nat
  collided : Bool
deriving DecidableEq, Repr, Inhabited

/-- The star (chapter 17): nodes by slot (32 × engine + slot), the frames in the ingress buffers of the ports, the number of
the last cycle start made, TB0 at it, the TB0 value at which RUNNING is entered, the mailbox that waits for it, the tick at which LISTEN began
or a COLDSTART last came, the contender, the sum of a over the present 16 cycles with their number, ρ in ns, cycles in a
row below `SYNC_MIN` and not below it, the cycle of the last common instant and the frame of the last frame start. -/
structure StarState where
  nodes : Tab NodeRun
  ingress : Tab (List UpFrame)
  last : Option Nat
  start : Nat
  runAt : Option Nat
  mailbox : Option Nat
  since : Nat
  contender : Option Contender
  sum : Int
  cnt : Nat
  rho : Int
  low : Nat
  high : Nat
  common : Option Nat
  frame : Option Nat
deriving DecidableEq, Repr, Inhabited

/-- A node of which nothing came. -/
def NodeRun.reset : NodeRun :=
  { acc := false, blk := false, crc := false, good := 0, miss := 0, quiet := 0, inSet := 0, rej := 0, up := none,
    closed := false, record := none, sent := none, other := false }

/-- The star STOPPED. -/
def StarState.reset : StarState :=
  { nodes := Tab.empty, ingress := Tab.empty, last := none, start := 0, runAt := none, mailbox := none, since := 0,
    contender := none, sum := 0, cnt := 0, rho := 0, low := 0, high := 0,
    common := none, frame := none }

/-- The partner as its last CYCLE message shows it: mode, role, token, synchronised. -/
structure TwinPartner where
  mode : Nat
  role : Nat
  token : Bool
  sync : Bool
deriving DecidableEq, Repr, Inhabited

/-- The pair (chapter 19): arbitration confirmed, the instant (tick) of a take that waits for its second sample, samples in
a row at which the token was free, the partner's token at the last sample, heartbeat seen in this cycle, cycles in a row
without it, the partner, the cycle of a handover, own digests (newest first) and the partner's last one with their
cycles, messages that apply at a cycle start, the mailbox of a resynchronisation, its end, the mailbox of a handover, the
mode in which it began, the safe outputs that R608 holds, whether the cut was made. -/
structure TwinState where
  confirmed : Bool
  takeAt : Option Nat
  free : Nat
  partnerHeld : Bool
  hbSeen : Bool
  misses : Nat
  partner : Option TwinPartner
  handover : Option Nat
  digests : List (Nat × List Byte)
  theirs : Option (Nat × List Byte)
  waiting : List TwinMsg
  resyncMb : Option Nat
  handMb : Option Nat
  resyncMode : Nat
  hold : BitVec 16
  commandedOff : BitVec 16
  cut : Option Nat
  compare : Bool
deriving DecidableEq, Repr, Inhabited

/-- No partner. -/
def TwinState.reset : TwinState :=
  { confirmed := false, takeAt := none, free := 0, partnerHeld := false, hbSeen := false, misses := 0, partner := none,
    handover := none, digests := [], theirs := none, waiting := [], resyncMb := none, handMb := none, resyncMode := 0,
    hold := 0, commandedOff := 0, cut := none, compare := false }

/-- Memory integrity (chapter 20): the error FIFO, oldest first; blocks queued for priority scrubbing; the tracker of R628
(block, count), oldest first; block and model clock of the last corrected-read record; blocks under copy (DRAM, element
of the remap words); remap words that are not in flash; mailboxes whose MEM_REMAP_ADD waits for its word (R137); totals of corrected errors and poisoned reads (R634); model clock
of the last walked block. -/
structure MemState where
  fifo : List (List Nat)
  prio : List Nat
  tracker : List (Nat × Nat)
  lastRead : Option (Nat × Nat)
  copying : List (Bool × Nat)
  unsaved : List (Bool × Nat)
  adding : List (Nat × Bool × Nat)
  corrected : Nat
  poisoned : Nat
  walked : Nat
deriving DecidableEq, Repr, Inhabited

/-- No error. -/
def MemState.reset : MemState :=
  { fifo := [], prio := [], tracker := [], lastRead := none, copying := [], unsaved := [], adding := [], corrected := 0, poisoned := 0,
    walked := 0 }

/-- An application core beside its registers (R644 to R646, R658): `mtimecmp`, `msip`, the pending bit of the machine timer,
entry point, `a0` and `a1` of its last start, the tick at which its watchdog last restarted, and the ticks that had run
when it was halted. -/
structure CoreState where
  mtimecmp : Word64
  msip : Bool
  mtip : Bool
  entry : Word64
  a0 : Word64
  a1 : Word64
  wdtAt : Nat
  wdtRan : Option Nat
deriving DecidableEq, Repr, Inhabited

/-- A core that has not run. -/
def CoreState.reset : CoreState :=
  { mtimecmp := 0, msip := false, mtip := false, entry := 0, a0 := 0, a1 := 0, wdtAt := 0, wdtRan := none }

/-- Boot (R709 to R717, R742): the boot straps as last sampled, the Ranger slot that runs (none: the boot ROM), whether it
lies in QSPI, the digest of the application-core image last started, the program counter at which Ranger was halted and
whether that halt has yet to be logged, the JCE program slots that failed their verification, the `PRIO` strap. -/
structure BootState where
  straps : BitVec 2
  ranger : Option Nat
  qspi : Bool
  coreDigest : BitVec 256
  rangerPc : Nat
  rangerUnlogged : Bool
  badPrograms : List Nat
  prio : Bool
  banks : BitVec 7
deriving DecidableEq, Repr, Inhabited

/-- Ranger runs slot 0 of the in-package flash. -/
def BootState.reset : BootState :=
  { straps := 0, ranger := some 0, qspi := false, coreDigest := 0, rangerPc := 0, rangerUnlogged := false, badPrograms := [],
    prio := false, banks := 0x7F }

/-- What RESYNC messages carry (R610): bytes of the data space, points, register fields, engines, the Yarder, solver
instances and tiles, Caldera's state, TB0. Instants in them stand on the receiver's clock. -/
inductive ResyncPart where
  | bytes (a : Nat) (v : List Byte) (poison : List Nat)
  | points (first : Nat) (v : List Word64)
  | reg (field index value : Nat)
  | jce (k : Fin 64) (x : JceState)
  | yard (y : YarderState)
  | inst (n : Fin 8) (x : SawInst)
  | tile (t : Fin 8) (x : SawTile)
  | cal (c : CalState)
  | tb0 (t : Nat)
deriving DecidableEq, Repr, Inhabited

end Sys2Proof.Machine
end

