-- ==== Sys2Proof/Syntax.lean ====
section
/-!
DEFINITION. The commands of the block: one constructor for each row of spec/opcode_table.json, with its operands. A
quantity that reaches the machine from outside (a level, a sample, a message, an instant) is an operand of its row.
-/
namespace Sys2Proof

/-- The commands and events of the opcode table. -/
inductive Instr where
  /-- POWER_ON_RESET (R702). PORST_N low starts a P reset that clears state, sets EPOCH to 1 and starts INIT. -/
  | powerOnReset
  /-- WARM_RESET (R702). RESET_N held low for at least 1 µs starts a W reset followed by INIT. -/
  | warmReset
  /-- BROWNOUT (R695). VDD_CORE or VDD_SAW below its reset level for 50 ns makes a brown-out reset that acts as W. -/
  | brownout (saw : Bool)
  /-- CLOCK_LOSS (R686). Loss of XTAL_MAIN acts as a W reset with cause CLOCK. -/
  | clockLoss
  /-- PLL_UNLOCK (R688). A PLL loses lock; the device records CLOCK, raises EV005 and resets as W. -/
  | pllUnlock (pll : Fin 11)
  /-- PCIE_REFCLK_LOSS (R686). Loss of PCIE_REFCLK takes the PCIe link down and raises EV006. -/
  | pcieRefclkLoss
  /-- RAIL_FAULT (R690). A monitored rail leaves its range; outputs go to their reset states and EV002 is raised. -/
  | railFault (rail : Fin 8)
  /-- TEMP_UPDATE (R696). Every 1 ms TEMP is updated and threshold crossings raise EV003 or EV004, or cause a thermal reset. -/
  | tempUpdate (a : BitVec 16) (b : BitVec 16) (c : BitVec 16) (d : BitVec 16)
  /-- SAG_WARNING (R691). A rail falls below its warning level and the CORE, FABRIC, JCE and SAW clocks are halved. -/
  | sagWarning (saw : Bool)
  /-- SAG_CLEAR (R692). Both rails rise above their clear level and SAG_HOLD starts. -/
  | sagClear
  /-- SAG_HOLD_END (R692). SAG_HOLD runs out and the slowed clocks begin to rise in steps. -/
  | sagHoldEnd
  /-- SAG_RATE_STEP (R692). Each 1 µs step raises the slowed clocks by one eighth; the last step raises EV001 and updates SAG_MAX. -/
  | sagRateStep
  /-- DORMANT_WAKE (R701). The wake GPIO holds its wake level for 100 µs, which ends DORMANT as a Z exit and starts INIT. -/
  | dormantWake (sensed : Sensed Bool)
  /-- INIT_END (R711). INIT completes its steps and enters IDLE, CONFIG or FAULT; a TRIAL slot becomes VERIFIED. -/
  | initEnd (selftest : Bool)
  /-- RANGER_WATCHDOG (R657). Ranger's watchdog gets no service for 1 s and acts as a D reset. -/
  | rangerWatchdog
  /-- PCIE_LINK_RESET (R52). A link-down, hot reset or FLR clears only the endpoint link state and MSI-X enables, and raises EV051 or EV052. -/
  | pcieLinkReset (kind : Fin 3)
  /-- DOORBELL (R66). A write of DB_RING, or an equivalent ring, moves an owned IDLE or DONE mailbox to PENDING, or is ignored. -/
  | doorbell (link : Link) (mb : Fin 32)
  /-- MAILBOX_ABORT (R98). The ABORT bit of a doorbell ends a PENDING command with E_ABORTED, or stops a BUSY command that has a stop code. -/
  | mailboxAbort (link : Link) (mb : Fin 32)
  /-- MB_DONE_CLEAR (R72). Writing 1 to a bit of MB_DONE returns that DONE mailbox to IDLE. -/
  | mbDoneClear (mask : Word32)
  /-- SPI_WRITE (R56). An SPI WRITE transaction writes data to BAR 0 offsets, incrementing. -/
  | spiWrite (offset bytes : List Byte)
  /-- SPI_READ (R56). An SPI READ transaction returns data from BAR 0 offsets, incrementing. -/
  | spiRead (offset : List Byte) (n : Nat)
  /-- SPI_STATUS (R56). An SPI STATUS transaction returns MB_BUSY and MB_DONE. -/
  | spiStatus
  /-- SPI_RING (R56). An SPI RING transaction acts as a write to DB_RING. -/
  | spiRing (rest : List Byte)
  /-- SPI_CLEAR (R56). An SPI CLEAR transaction acts as a write of its mask to MB_DONE. -/
  | spiClear (rest : List Byte)
  /-- SPI_MALFORMED (R57). A malformed SPI transaction is ignored, counted in FRAME_ERR and raises EV056. -/
  | spiMalformed
  /-- MANAGEMENT_DATAGRAM (R63). An authenticated UDP management datagram is checked for epoch, replay and busy mailbox and otherwise executes like a doorbell. -/
  | managementDatagram (port : Fin 64) (p : IpPacket)
  /-- COMMAND_START (R74). Ranger starts the oldest PENDING command, makes the checks of R78 and runs it, moving the mailbox to BUSY. -/
  | commandStart
  /-- COMMAND_COMPLETE (R72). A command ends: the response is written, the mailbox becomes DONE, EV048 is raised and VECTOR is signalled unless SILENT. -/
  | commandComplete (mb : Fin 32)
  /-- TRANSFER_TIMEOUT (R71). An open segmented transfer that receives no segment for 5 s is discarded. -/
  | transferTimeout
  /-- SESSION_EXPIRED (R82). A session closes after its idle time without a command and raises EV054. -/
  | sessionExpired
  /-- SAFE_SESSION_EXPIRED (R84). The safety session closes after 600 s idle, appends log code 0x0003 and raises EV054. -/
  | safeSessionExpired
  /-- LOCKOUT_END (R85). A safety login lockout runs out and SAFE_LOGIN is accepted for checking again. -/
  | lockoutEnd
  /-- WINDOW_READ (R89). A BAR 2 read returns the point under a read grant, or all ones with a refusal counted. -/
  | windowRead (point : BitVec 20)
  /-- WINDOW_WRITE (R89). A BAR 2 write updates the point under a write grant, or has no effect and is refused. -/
  | windowWrite (point : BitVec 20) (v : Word64) (whole : Bool)
  /-- POINT_WRITE (R766). A 64-bit write through the point window stores the point atomically, or is refused where the point has no writer or is protected. -/
  | pointWrite (m : Master) (point : BitVec 20) (v : Word64)
  /-- POINT_HALF_WRITE_LOW (R23). A 32-bit master's low-half write to a point or a R23 register is held, discarding any held low half of another point. -/
  | pointHalfWriteLow (m : Master) (a : BitVec 40) (v : Word32)
  /-- POINT_HALF_WRITE_HIGH (R23). A 32-bit high-half write commits with the held low half as one 64-bit write, or has no effect and counts in HALF_DROP. -/
  | pointHalfWriteHigh (m : Master) (a : BitVec 40) (v : Word32)
  /-- SPLIT_READ_LOW (R22). A 32-bit read of the low half of a point or 64-bit register latches the high half into the master's shadow. -/
  | splitReadLow (m : Master) (a : BitVec 40)
  /-- SPLIT_READ_HIGH (R346). A 32-bit read of the high half returns and consumes the shadow, with NEWER, or the present high half. -/
  | splitReadHigh (m : Master) (a : BitVec 40)
  /-- RC_READ (R8). A read of an RC field returns it and clears it, keeping any arrival in the same clock. -/
  | rcRead (m : Master) (a : BitVec 40) (bytes : Fin 9)
  /-- REGISTER_WRITE (R6). A write to a register field without a row of its own acts under its access code, or completes with a bus error where the master may not write it. -/
  | registerWrite (m : Master) (a : BitVec 40) (bytes : Fin 9) (v : Word64)
  /-- SYS_INFO (R101). Returns vendor and device ID, silicon issue, firmware and boot-ROM versions and unit serial. -/
  | sysInfo (mb : Fin 32)
  /-- SYS_SESSION_OPEN (R82). Opens a session bound to the link with the given idle time and returns its identifier. -/
  | sysSessionOpen (mb : Fin 32)
  /-- SYS_SESSION_CLOSE (R82). Closes the session carried in SESSION. -/
  | sysSessionClose (mb : Fin 32)
  /-- SYS_STATUS (R101). Returns mode, role, fault cause, time since reset, temperature, last reset letter and PARK state. -/
  | sysStatus (mb : Fin 32)
  /-- SYS_RESET (R102). Makes a device reset or a reset of one domain other than SAFETY. -/
  | sysReset (mb : Fin 32)
  /-- SYS_MBOX_OWNER (R65). Changes the owner link of an IDLE mailbox 1 to 31. -/
  | sysMboxOwner (mb : Fin 32)
  /-- SYS_POWER (R698). Enters or leaves PARK, or enters DORMANT with a wake GPIO and level. -/
  | sysPower (mb : Fin 32)
  /-- SYS_EVENT_ROUTE (R649). Sets one target of one event's route. -/
  | sysEventRoute (mb : Fin 32)
  /-- MODE_GET (R144). Returns mode, role, previous mode, reason of the last change and time in mode. -/
  | modeGet (mb : Fin 32)
  /-- MODE_REQUEST (R145). Requests a mode transition and is DONE when the target is entered at a cycle start. -/
  | modeRequest (mb : Fin 32)
  /-- MODE_HALT (R150). Takes JOG or RUN into HALTING. -/
  | modeHalt (mb : Fin 32)
  /-- MODE_FAULT_ACK (R158). Clears latched fault causes whose conditions are gone and enters IDLE or CONFIG. -/
  | modeFaultAck (mb : Fin 32)
  /-- CELL_LOAD (R110). Receives a cell image segment by segment, checks it on the last segment and writes it to its slot. -/
  | cellLoad (mb : Fin 32)
  /-- CELL_INFO (R105). Returns state, length, version, safety reference and digest of both cell image slots. -/
  | cellInfo (mb : Fin 32)
  /-- CELL_ACTIVATE (R112). Activates a VALID slot, installing schedule, parameters and point map and clearing grants. -/
  | cellActivate (mb : Fin 32)
  /-- CELL_ERASE (R113). Erases a cell image slot other than the active one. -/
  | cellErase (mb : Fin 32)
  /-- CELL_WINDOW_GRANT (R86). Installs a BAR 2 grant of a point range with READ or READ_WRITE. -/
  | cellWindowGrant (mb : Fin 32)
  /-- CELL_WINDOW_REVOKE (R91). Removes a window grant, or all grants, after accesses in flight complete. -/
  | cellWindowRevoke (mb : Fin 32)
  /-- CELL_POINT_READ (R105). Returns up to 508 points, each read atomically. -/
  | cellPointRead (mb : Fin 32)
  /-- AXIS_STATUS (R114). Returns an axis's position, speed, status word and fault word. -/
  | axisStatus (mb : Fin 32)
  /-- AXIS_PARAM_GET (R114). Returns one servo kernel parameter of an axis. -/
  | axisParamGet (mb : Fin 32)
  /-- AXIS_PARAM_SET (R275). Stages one servo kernel parameter of an axis for commit at a tick. -/
  | axisParamSet (mb : Fin 32)
  /-- AXIS_ENABLE (R318). Enables an axis bumplessly, or starts its RAMP_STOP to disable. -/
  | axisEnable (mb : Fin 32)
  /-- AXIS_MOVE (R115). Starts a point-to-point move of an axis under the profile generator. -/
  | axisMove (mb : Fin 32)
  /-- AXIS_JOG (R295). Starts a jog of an axis towards a signed velocity. -/
  | axisJog (mb : Fin 32)
  /-- AXIS_STOP (R115). Stops one axis or all axes with a profile stop. -/
  | axisStop (mb : Fin 32)
  /-- AXIS_HOME (R426). Starts homing of an axis with a given method. -/
  | axisHome (mb : Fin 32)
  /-- AXIS_FAULT_CLEAR (R316). Clears the fault bits of an axis whose conditions are gone, reloading a trapped engine. -/
  | axisFaultClear (mb : Fin 32)
  /-- AXIS_SOURCE (R303). Selects profile generator or cell trajectory as an axis's set-point source. -/
  | axisSource (mb : Fin 32)
  /-- SOLV_STATUS (R207). Returns the run status fields of an instance. -/
  | solvStatus (mb : Fin 32)
  /-- SOLV_INSTANCES (R118). Configures solver instances from aligned tile masks and binds them to problems. -/
  | solvInstances (mb : Fin 32)
  /-- SOLV_CELL_ENABLE (R118). Enables or disables the whole-cell problem on the 8-tile instance 0. -/
  | solvCellEnable (mb : Fin 32)
  /-- SOLV_PARAM_GET (R209). Returns one run parameter of an instance. -/
  | solvParamGet (mb : Fin 32)
  /-- SOLV_PARAM_SET (R210). Sets one run parameter of an instance for the next run start. -/
  | solvParamSet (mb : Fin 32)
  /-- NET_PORT_STATUS (R119). Returns mode, personality, link state and counters of a port. -/
  | netPortStatus (mb : Fin 32)
  /-- NET_PORT_CONFIG (R527). Sets a port's enable and mode and personality masks, restarting it at DETECT. -/
  | netPortConfig (mb : Fin 32)
  /-- NET_GEYSER_STATUS (R566). Returns the star state, sync values, integrated nodes, cycle and cycles run. -/
  | netGeyserStatus (mb : Fin 32)
  /-- NET_GEYSER_START (R560). Starts the Geyser star according to COLD_SRC and is DONE at RUNNING. -/
  | netGeyserStart (mb : Fin 32)
  /-- NET_GEYSER_STOP (R564). Puts the star in STOPPED. -/
  | netGeyserStop (mb : Fin 32)
  /-- NET_NODE_STATUS (R566). Returns a node's state, port, deviation and slot violations. -/
  | netNodeStatus (mb : Fin 32)
  /-- NET_BRIDGE_GCL (R584). Installs an IEEE 802.1Qbv gate control list on a bridge port. -/
  | netBridgeGcl (mb : Fin 32)
  /-- NET_MGMT_ENABLE (R59). Enables or disables UDP management at one IPv4 address on given ports. -/
  | netMgmtEnable (mb : Fin 32)
  /-- NET_MGMT_KEY (R121). Writes a management key to flash. -/
  | netMgmtKey (mb : Fin 32)
  /-- TIME_GET (R570). Returns value, rate, state and pending step of a time base. -/
  | timeGet (mb : Fin 32)
  /-- TIME_PTP_CONFIG (R577). Configures or removes the PTP instance of TB1 to TB4. -/
  | timePtpConfig (mb : Fin 32)
  /-- TIME_STEP_ACCEPT (R123). Accepts the pending refused step of a time base for the next TIME tick. -/
  | timeStepAccept (mb : Fin 32)
  /-- TIME_TB7_SET (R574). Corrects TB7 by an offset under the jump limit and sets its rate. -/
  | timeTb7Set (mb : Fin 32)
  /-- TIME_JUMP_LIMIT (R571). Sets the jump limit of TB1 to TB4 or TB7. -/
  | timeJumpLimit (mb : Fin 32)
  /-- SAFE_LOGIN (R85). Opens the safety session after its checks and the password comparison. -/
  | safeLogin (mb : Fin 32)
  /-- SAFE_LOGOUT (R84). Closes the safety session and discards the staged set. -/
  | safeLogout (mb : Fin 32)
  /-- SAFE_PASSWORD_SET (R496). Sets a new safety password that meets the password rules. -/
  | safePasswordSet (mb : Fin 32)
  /-- SAFE_STATUS (R769). Returns stop, demand, output, EDM, level, seal and committed-set status. -/
  | safeStatus (mb : Fin 32)
  /-- SAFE_PARAM_READ (R769). Returns the committed safety parameter set, segmented. -/
  | safeParamRead (mb : Fin 32)
  /-- SAFE_PARAM_WRITE (R492). Stages a whole safety parameter set after header and CRC checks. -/
  | safeParamWrite (mb : Fin 32)
  /-- SAFE_PARAM_COMMIT (R493). Validates and commits the staged set to flash with a change log entry and hands it to Caldera. -/
  | safeParamCommit (mb : Fin 32)
  /-- SAFE_IMPORT_ECKIN (R502). Converts an Eckin parameter set and stages the result. -/
  | safeImportEckin (mb : Fin 32)
  /-- SAFE_SEAL_MODE (R501). Turns seal mode on or off while the configuration seal reads OPEN. -/
  | safeSealMode (mb : Fin 32)
  /-- SAFE_RESET_ACK (R446). Acknowledges an input pair latch, a restart after stop or an EDM fault. -/
  | safeResetAck (mb : Fin 32)
  /-- SAFE_CHANGELOG_READ (R506). Returns 1 to 42 change log entries. -/
  | safeChangelogRead (mb : Fin 32)
  /-- SAFE_ACCEPT (R504). Marks the committed set accepted with the engineer's name. -/
  | safeAccept (mb : Fin 32)
  /-- SAFE_PROOF_TEST (R460). Runs the proof tests named in its mask and reports passed and failed. -/
  | safeProofTest (mb : Fin 32)
  /-- SAFE_ISLAND_RESET (R439). Clears TB6 and restarts Caldera into STARTUP. -/
  | safeIslandReset (mb : Fin 32)
  /-- LOG_INFO (R127). Returns oldest, newest and capacity of a log. -/
  | logInfo (mb : Fin 32)
  /-- LOG_READ (R128). Returns up to 126 entries of a log from a sequence number. -/
  | logRead (mb : Fin 32)
  /-- LOG_CLEAR (R128). Clears a log other than log 2. -/
  | logClear (mb : Fin 32)
  /-- FW_INFO (R129). Returns state, version and digest of every firmware and program slot. -/
  | fwInfo (mb : Fin 32)
  /-- FW_WRITE (R716). Receives and verifies a firmware, JCE program or core image into a slot. -/
  | fwWrite (mb : Fin 32)
  /-- FW_ACTIVATE (R130). Activates a firmware slot with a D reset, loads a JCE program into engines or starts cores. -/
  | fwActivate (mb : Fin 32)
  /-- FW_ROLLBACK_SET (R721). Burns OTP anti-rollback bits up to the given count. -/
  | fwRollbackSet (mb : Fin 32)
  /-- DIAG_SELFTEST (R132). Runs the self-tests named in its mask. -/
  | diagSelftest (mb : Fin 32)
  /-- DIAG_REG_READ (R132). Reads up to 1,000 management registers. -/
  | diagRegRead (mb : Fin 32)
  /-- DIAG_REG_WRITE (R133). Writes a management register under a mask outside the SAFETY domain and reads it back. -/
  | diagRegWrite (mb : Fin 32)
  /-- DIAG_ATTEST (R724). Returns a signed attestation report with the given nonce. -/
  | diagAttest (mb : Fin 32)
  /-- DIAG_LOOPBACK (R529). Runs a loopback of a given kind on a port and returns bit and error counts. -/
  | diagLoopback (run : LoopbackRun)
  /-- TWIN_STATUS (R611). Returns role, partner state, token, link state and digest mismatches. -/
  | twinStatus (mb : Fin 32)
  /-- TWIN_CONFIG (R591). Enables or disables the redundant pair configuration. -/
  | twinConfig (mb : Fin 32)
  /-- TWIN_RESYNC (R610). Resynchronises a STANDBY unit from the ACTIVE unit. -/
  | twinResync (mb : Fin 32)
  /-- TWIN_HANDOVER (R598). Agrees a cycle at which the token passes to the partner. -/
  | twinHandover (mb : Fin 32)
  /-- MEM_STATUS (R634). Returns corrected, poisoned, remap and scrub-pass totals. -/
  | memStatus (mb : Fin 32)
  /-- MEM_REGION_SET (R620). Sets or removes a region table entry with its class. -/
  | memRegionSet (mb : Fin 32)
  /-- MEM_SCRUB_RATE (R623). Sets the main scrubber rate, 0 stopping it. -/
  | memScrubRate (mb : Fin 32)
  /-- MEM_REMAP_LIST (R136). Returns the remap words of an SRAM group or DRAM channel. -/
  | memRemapList (mb : Fin 32)
  /-- MEM_REMAP_ADD (R630). Adds a remap word for a block. -/
  | memRemapAdd (mb : Fin 32)
  /-- MEM_LANDING (R136). Sets the Landing size for the next device reset. -/
  | memLanding (mb : Fin 32)
  /-- CYCLE_START (R534). At every TB0 multiple of C the star launches beacons, applies its clock correction and updates node states. -/
  | cycleStart
  /-- COMMON_INSTANT (R38). At the common instant snapshots, step counts and cycle-tied triggers are latched and locked PWM pairs take their trim. -/
  | commonInstant
  /-- FRAME_START (R48). At each 1 ms solver frame start the bank select changes to the last published result. -/
  | frameStart
  /-- WHOLE_CELL_RUN_START (R203). At frame start plus SOLVE_START the whole-cell instance starts its run, or the frame is SKIPPED. -/
  | wholeCellRunStart
  /-- RUN_START (R204). A START write starts a run of a small instance, or is refused with START_REFUSED. -/
  | runStart (inst : Fin 8)
  /-- TIMED_START (R204). The TIME tick at which TB0 reaches START_AT starts an armed timed run. -/
  | timedStart (inst : Fin 8)
  /-- RUN_ABORT (R206). An ABORT write ends the running run at its next checkpoint as ABORTED. -/
  | runAbort (inst : Fin 8)
  /-- COLD_NEXT (R211). A write of COLD_NEXT makes the next run start cold. -/
  | coldNext (inst : Fin 8)
  /-- GATHER (R188). Schedule operation assembling a supernode's KKT entries. -/
  | sawGather (tile : Fin 8)
  /-- FACTOR (R219). Schedule operation factorising the diagonal block, replacing small pivots. -/
  | sawFactor (tile : Fin 8)
  /-- PANEL (R188). Schedule operation solving the panel against the diagonal block. -/
  | sawPanel (tile : Fin 8)
  /-- UPDATE (R188). Schedule operation forming the Schur update. -/
  | sawUpdate (tile : Fin 8)
  /-- SCATTER (R188). Schedule operation adding an update block into a target supernode. -/
  | sawScatter (tile : Fin 8)
  /-- SEND (R188). Schedule operation transferring values to another tile's update buffer. -/
  | sawSend (tile : Fin 8)
  /-- WAIT (R190). Schedule operation waiting for another tile's block. -/
  | sawWait (tile : Fin 8)
  /-- WAIT_COMPLETE (R190). The awaited block has fully arrived and is scattered. -/
  | sawWaitComplete (tile : Fin 8)
  /-- FSOLVE (R188). Schedule operation of forward substitution. -/
  | sawFsolve (tile : Fin 8)
  /-- BSOLVE (R188). Schedule operation of backward substitution. -/
  | sawBsolve (tile : Fin 8)
  /-- VEC (R188). Schedule operation of element-wise residual, scaling or update. -/
  | sawVec (tile : Fin 8)
  /-- VDIV (R180). Schedule operation of element-wise divide or reciprocal square root. -/
  | sawVdiv (tile : Fin 8)
  /-- STEP (R188). Schedule operation of the fraction-to-boundary ratio test. -/
  | sawStep (tile : Fin 8)
  /-- REDUCE (R190). Schedule operation combining scalars across the instance in tile order. -/
  | sawReduce (tile : Fin 8)
  /-- BARRIER (R188). Schedule operation waiting until every tile reaches its barrier. -/
  | sawBarrier (tile : Fin 8)
  /-- BARRIER_COMPLETE (R188). The last tile reaches the barrier and all tiles continue. -/
  | sawBarrierComplete (inst : Fin 8)
  /-- END (R214). End of iteration with the checkpoint tests of convergence, iteration limit and deadline. -/
  | sawEnd (tile : Fin 8)
  /-- SCHED_FAULT (R189). An unknown operation code ends the run with SCHED_FAULT and halts the tile. -/
  | schedFault (tile : Fin 8)
  /-- WRAP_UP_END (R223). Wrap-up ends and the instance publishes its result, status points and events, or withholds them. -/
  | wrapUpEnd (inst : Fin 8)
  /-- PAIR_EXCHANGE (R227). The partner's LOCAL_ITER and outcome arrive and both units publish the prefix-best of the smaller count. -/
  | pairExchange (inst : Fin 8) (iters : Word16) (outcome : Fin 16)
  /-- PAIR_EXCHANGE_TIMEOUT (R229). No partner exchange within 20 µs; the unit publishes alone with PAIR_ALONE. -/
  | pairExchangeTimeout (inst : Fin 8)
  /-- SCHEDULE_LOAD_DONE (R176). Ranger completes reloading a schedule and SCHED_VALID becomes 1. -/
  | scheduleLoadDone (inst : Fin 8)
  /-- DQ_PUSH (R195). A write to DQ_PUSH posts one delta record to a queue. -/
  | dqPush (m : Master) (queue : Fin 8) (v : Word64)
  /-- DQ_BURST (R195). Each aligned 8-byte write to DQ_BURST posts one delta record, in address order. -/
  | dqBurst (m : Master) (queue : Fin 8) (v : Word64)
  /-- RECORD_APPLY (R193). A delta record leaves the ring and is converted and applied to its entry, or discarded as invalid. -/
  | recordApply (queue : Fin 8)
  /-- LOOP_TICK (R254). An engine's tick arrives; with one already pending the engine overruns. -/
  | loopTick (k : Fin 64)
  /-- WAITEV_RETURN (R253). WAITEV returns in the cycle after an event of its mask is pending, committing staged parameters on a tick. -/
  | waitevReturn (k : Fin 64) (late : Bool)
  /-- NOP (R247). JCE instruction doing nothing. -/
  | jceNop (k : Fin 64)
  /-- BR (R248). JCE conditional relative branch. -/
  | jceBr (k : Fin 64)
  /-- JMP (R247). JCE jump to a target. -/
  | jceJmp (k : Fin 64)
  /-- CALL (R251). JCE call pushing the return address. -/
  | jceCall (k : Fin 64)
  /-- RET (R251). JCE return popping the return stack. -/
  | jceRet (k : Fin 64)
  /-- LOOP (R250). JCE hardware loop over a body. -/
  | jceLoop (k : Fin 64)
  /-- WAITEV (R253). JCE wait for a tick or peripheral event. -/
  | jceWaitev (k : Fin 64) (cycles : Word32)
  /-- SIGEV (R247). JCE instruction setting SIG_LAST and raising EV066. -/
  | jceSigev (k : Fin 64)
  /-- TRAP (R263). JCE software trap with a code. -/
  | jceTrap (k : Fin 64)
  /-- EBREAK (R247). JCE debug halt, or trap BREAK without a debugger. -/
  | jceEbreak (k : Fin 64)
  /-- ADD (R237). JCE integer add. -/
  | jceAdd (k : Fin 64)
  /-- SUB (R237). JCE integer subtract. -/
  | jceSub (k : Fin 64)
  /-- ADDI (R237). JCE add immediate. -/
  | jceAddi (k : Fin 64)
  /-- AND (R247). JCE bitwise AND. -/
  | jceAnd (k : Fin 64)
  /-- OR (R247). JCE bitwise OR. -/
  | jceOr (k : Fin 64)
  /-- XOR (R247). JCE bitwise XOR. -/
  | jceXor (k : Fin 64)
  /-- SHL (R247). JCE shift left. -/
  | jceShl (k : Fin 64)
  /-- SHRA (R247). JCE arithmetic shift right. -/
  | jceShra (k : Fin 64)
  /-- SHRL (R247). JCE logical shift right. -/
  | jceShrl (k : Fin 64)
  /-- MIN (R247). JCE signed minimum. -/
  | jceMin (k : Fin 64)
  /-- MAX (R247). JCE signed maximum. -/
  | jceMax (k : Fin 64)
  /-- ABS (R247). JCE absolute value with saturation. -/
  | jceAbs (k : Fin 64)
  /-- NEG (R247). JCE negation with saturation. -/
  | jceNeg (k : Fin 64)
  /-- CMP (R247). JCE compare registers, setting flags. -/
  | jceCmp (k : Fin 64)
  /-- CMPI (R247). JCE compare with immediate, setting flags. -/
  | jceCmpi (k : Fin 64)
  /-- MOVIS (R247). JCE move sign-extended immediate. -/
  | jceMovis (k : Fin 64)
  /-- MOVIH (R247). JCE move immediate into the high half. -/
  | jceMovih (k : Fin 64)
  /-- CLAMP (R247). JCE clamp a register between two bounds. -/
  | jceClamp (k : Fin 64)
  /-- LD (R244). JCE load through access X. -/
  | jceLd (k : Fin 64)
  /-- ST (R244). JCE store through access X. -/
  | jceSt (k : Fin 64)
  /-- LD2 (R235). JCE dual load through X and Y. -/
  | jceLd2 (k : Fin 64)
  /-- LDD (R244). JCE load of two consecutive words. -/
  | jceLdd (k : Fin 64)
  /-- STD (R244). JCE store of two consecutive words. -/
  | jceStd (k : Fin 64)
  /-- SETAR (R243). JCE set an address register field. -/
  | jceSetar (k : Fin 64)
  /-- GETAR (R247). JCE read an address register field. -/
  | jceGetar (k : Fin 64)
  /-- PTRD (R258). JCE point read through the cluster port. -/
  | jcePtrd (k : Fin 64)
  /-- PTRD_COMPLETE (R258). A point read returns its value after its earlier posts complete. -/
  | jcePtrdComplete (k : Fin 64)
  /-- PTWR (R260). JCE posted point write, refused where the point is not the engine's. -/
  | jcePtwr (k : Fin 64)
  /-- DQPUSH (R261). JCE posted delta record to a queue. -/
  | jceDqpush (k : Fin 64)
  /-- CLUSTER_PORT_TRANSACTION (R256). The cluster port grants one posted or read transaction of an engine round-robin. -/
  | clusterPortTransaction (c : Fin 8)
  /-- PRD (R262). JCE read of an owned peripheral register. -/
  | jcePrd (k : Fin 64)
  /-- PWR (R262). JCE write of an owned peripheral register, taking effect 3 cycles later. -/
  | jcePwr (k : Fin 64) (t : Nat)
  /-- MAC1 (R240). JCE single multiply-accumulate. -/
  | jceMac1 (k : Fin 64)
  /-- MACQ (R238). JCE quad multiply-accumulate with a memory broadcast operand. -/
  | jceMacq (k : Fin 64)
  /-- MACQR (R238). JCE quad multiply-accumulate with a register broadcast operand. -/
  | jceMacqr (k : Fin 64)
  /-- MACD (R239). JCE dual multiply-accumulate through X and Y. -/
  | jceMacd (k : Fin 64)
  /-- CLRA (R247). JCE clear accumulators. -/
  | jceClra (k : Fin 64)
  /-- WBACC (R241). JCE write back one accumulator to a register. -/
  | jceWbacc (k : Fin 64)
  /-- WBQ (R241). JCE write back four accumulators. -/
  | jceWbq (k : Fin 64)
  /-- LDACC (R247). JCE load an accumulator from a register pair. -/
  | jceLdacc (k : Fin 64)
  /-- ILLEGAL_INSTRUCTION (R249). An absent opcode or malformed field traps the engine with ILLEGAL. -/
  | illegalInstruction (k : Fin 64)
  /-- ENGINE_STOPPED (R264). Within 1 ms Ranger sets the engine-stopped fault bit of the engine's four axes. -/
  | engineStopped (k : Fin 64)
  /-- JCE_START (R268). A START write starts a STOPPED engine that holds a program. -/
  | jceStart (m : Master) (k : Fin 64)
  /-- JCE_STOP (R268). A STOP write stops the engine with outputs as in R264. -/
  | jceStop (m : Master) (k : Fin 64)
  /-- IND_DATA_WRITE (R268). An indirect write to engine memory takes effect, is staged or is refused. -/
  | indDataWrite (m : Master) (k : Fin 64) (v : Word32)
  /-- IND_DATA_READ (R268). An indirect read of engine memory stalls a running engine one cycle and may advance ADDR. -/
  | indDataRead (k : Fin 64)
  /-- JCE_DEBUG_HALT (R265). Debug halts an engine at an instruction boundary with outputs safe. -/
  | jceDebugHalt (k : Fin 64)
  /-- FB_COUNT_EDGE (R324). A filtered edge in modes 1 to 3 counts, updates speed timing and may be an illegal transition. -/
  | fbCountEdge (ch : Fin 64) (levels : Bool × Bool) (samples : Fin 65)
  /-- ERR_WIN_EXPIRY (R326). An error window closes and its event count returns to 0. -/
  | errWinExpiry (ch : Fin 64)
  /-- STANDSTILL_TIMEOUT (R342). No edge or counter change for STILL_T sets speed 0 and STILL. -/
  | standstillTimeout (ch : Fin 64)
  /-- INDEX_EVENT (R332). A rising Z edge latches POS into INDEX_POS when armed or in every mode. -/
  | indexEvent (z : InputRun 64 65)
  /-- SINCOS_SAMPLE (R335). A sin/cos result pair is checked and moves the counter by the angle step. -/
  | sincosSample (ch : Fin 64) (sin cos : BitVec 14) (qsin qcos : Fin 4)
  /-- SSI_FRAME (R338). An SSI frame read starting at the common instant completes and updates the counter or is rejected. -/
  | ssiFrame (ch : Fin 64) (ready parity : Bool) (word : BitVec 48)
  /-- FB_FAULT_CLEAR (R327). Writing 1 to FAULT clears it when the fault condition is gone. -/
  | fbFaultClear (m : Master) (ch : Fin 64)
  /-- POS_PRESET (R331). A write to POS presets the counter, clamped, and clears the saturation bits. -/
  | posPreset (m : Master) (ch : Fin 64) (v : BitVec 48)
  /-- FB_MODE_WRITE (R321). Writing MODE restarts the channel's counting, speed and index work in the new mode. -/
  | fbModeWrite (m : Master) (ch : Fin 64) (mode : BitVec 3)
  /-- CNT_LIMIT_WRITE (R330). A write of counter limits moves the counter to the nearer limit where needed. -/
  | cntLimitWrite (m : Master) (ch : Fin 64) (lo hi : BitVec 48)
  /-- INDEX_ARM (R332). Writing ARM arms a once-latch of the index. -/
  | indexArm (m : Master) (ch : Fin 64)
  /-- PWM_SET_WRITE (R360). A 64-bit write of DUTY and PER applies to the running period under the update rules. -/
  | pwmSetWrite (m : Master) (pair : Fin 96) (v : Word64) (t : Nat)
  /-- PWM_PERIOD_START (R352). A pair's period starts, applying configuration writes, resuming outputs and ticking its engine. -/
  | pwmPeriodStart (pair : Fin 96) (t : Nat)
  /-- PWM_EDGE (R352). H_ref rises or falls at its compare time within a period. -/
  | pwmEdge (pair : Fin 96) (t : Nat)
  /-- DEAD_TIME_END (R363). A switch's dead time runs out and it turns on, judged on its effective on-time. -/
  | deadTimeEnd (pair : Fin 96) (high : Bool) (t : Nat)
  /-- MIN_PULSE_END (R364). An extended pulse reaches MIN_PULSE and the switch turns off. -/
  | minPulseEnd (pair : Fin 96) (high : Bool) (t : Nat)
  /-- PWM_FORCE (R365). Writing FORCE sets or removes the software cause of the safe state. -/
  | pwmForce (m : Master) (pair : Fin 96) (on : Bool) (t : Nat)
  /-- TRIP_ACTIVE (R372). A named trip becomes filtered active and its group enters the safe state. -/
  | tripActive (trip : Fin 16) (run : TripRun)
  /-- TRIP_CLEAR (R373). Writing TRIP_CLEAR clears a latched trip, or is refused while a trip is active. -/
  | tripClear (m : Master) (pair : Fin 96)
  /-- PWM_CLOCK_LOSS (R368). No PWM clock edge for 32 ns forces every pair OFF and sets CLK_LOST. -/
  | pwmClockLoss (t : Nat)
  /-- CLK_LOST_CLEAR (R368). Writing 1 to CLK_LOST clears it only while the clock is present. -/
  | clkLostClear (m : Master) (pair : Fin 96)
  /-- PSYNC_PULSE (R375). A sync output copies its pair's event as a pulse. -/
  | psyncPulse (sync : Fin 8)
  /-- ADC_TRIGGER (R383). A regular trigger edge starts, holds or loses a regular pass. -/
  | adcTrigger (pin : Fin 16) (rising : Bool)
  /-- ADC_INJECTED_TRIGGER (R385). An injected trigger edge starts an injected pass, interrupting a regular one. -/
  | adcInjectedTrigger (pin : Fin 16) (rising : Bool)
  /-- ADC_PASS_END (R384). A pass takes its last sample and a held or interrupted regular pass starts or resumes. -/
  | adcPassEnd (cv : Fin 16)
  /-- ADC_RESULT (R389). A corrected conversion reaches its route filter, and a result is written with its quality to ROUTE_LAST, the ring and notification. -/
  | adcResult (cv : Fin 16) (code : BitVec 14)
  /-- RD_IDX_WRITE (R393). The reader advances RD_IDX of a route ring. -/
  | rdIdxWrite (m : Master) (cv route : Fin 16) (v : Word16)
  /-- CAL_STEP_ZERO (R398). A ZERO calibration step starts, or is refused. -/
  | calStepZero (m : Master) (cv : Fin 16) (input : Fin 8) (diff : Bool) (gain : Fin 4)
  /-- CAL_STEP_FULL (R398). A FULL calibration step starts, or is refused. -/
  | calStepFull (m : Master) (cv : Fin 16) (input : Fin 8) (diff : Bool) (gain : Fin 4)
  /-- CAL_STEP_END (R398). A calibration step ends after 2.56 µs and stores a0 or computes and accepts or fails the pair. -/
  | calStepEnd (cv : Fin 16) (sum : Int)
  /-- CAL_PAIR_PERSIST (R399). Ranger writes an accepted calibration pair to flash and logs it. -/
  | calPairPersist (cv : Fin 16) (pair : Fin 64)
  /-- STP_NONE (R408). Step command committing staged limits only. -/
  | stpNone (m : Master) (ch : Fin 32)
  /-- STP_MOVE (R408). Step command moving to STP_TARGET under the limits. -/
  | stpMove (m : Master) (ch : Fin 32)
  /-- STP_VELOCITY (R408). Step command running towards STP_TVEL. -/
  | stpVelocity (m : Master) (ch : Fin 32)
  /-- STP_STOP (R408). Step command braking to standstill. -/
  | stpStop (m : Master) (ch : Fin 32)
  /-- STP_TRACK (R410). Step command following a Hermite segment to the target at the next tick. -/
  | stpTrack (m : Master) (ch : Fin 32)
  /-- STP_ABORT (R417). Step command stopping pulses at once with halt cause ABORT. -/
  | stpAbort (m : Master) (ch : Fin 32)
  /-- STP_PROFILE_UPDATE (R409). Every 1 µs the sequencer advances its profile state. -/
  | stpProfileUpdate (ch : Fin 32)
  /-- STEP_ISSUE (R411). A step pulse is issued at its tick, changing STP_POS and the microstep index. -/
  | stepIssue (ch : Fin 32)
  /-- DRVFLT_ACCEPT (R414). An accepted driver fault halts the channel, clears IDX_VALID and raises EV080. -/
  | drvfltAccept (flt : InputRun 32 1001)
  /-- STP_ENABLE (R413). Writing ENABLE requests driver enable and acknowledges a DRVFLT halt. -/
  | stpEnable (m : Master) (ch : Fin 32) (on : Bool)
  /-- USTEP_ALIGN (R415). A write to USTEP_IDX aligns the microstep index and sets IDX_VALID. -/
  | ustepAlign (m : Master) (ch : Fin 32) (idx : BitVec 13)
  /-- DRV_PARK (R416). Writing DRV_PARK powers the driver stage down or up, or is refused. -/
  | drvPark (m : Master) (ch : Fin 32) (on : Bool)
  /-- PARK_SETTLE_END (R416). PARK_SETTLE runs out after leaving PARKED and DRVFLTn is sampled again. -/
  | parkSettleEnd (ch : Fin 32)
  /-- STP_POS_PRESET (R421). A write to STP_POS presets the step count, or is refused. -/
  | stpPosPreset (m : Master) (ch : Fin 32) (v : BitVec 48)
  /-- AXIS_INPUT_EDGE (R423). A limit or home input level is accepted and the axis input point is written. -/
  | axisInputEdge (axis : Fin 256) (input : Fin 3) (level : Bool × Fin 100001)
  /-- CHATTER_CLEAR (R424). A chatter bit clears after 50 ms without an accepted edge. -/
  | chatterClear (axis : Fin 256) (neg : Bool)
  /-- CALDERA_START (R439). Caldera runs STARTUP, loading the committed set and entering OPERATIONAL, and raises EV200. -/
  | calderaStart (diag : Fin 10)
  /-- DIAGNOSTIC_FAULT (R440). A failed Caldera diagnostic sets SAFE_FAULT and asserts the safe-off line. -/
  | diagnosticFault (code : Fin 9)
  /-- WATCHDOG_TRIP (R441). The windowed watchdog is served outside its window or not at all, and trips. -/
  | watchdogTrip
  /-- SAFETY_SAMPLE (R444). Every 250 µs Caldera samples inputs, evaluates pairs and decides demands and checks. -/
  | safetySample (si : Word32) (sorb edm : BitVec 16)
  /-- DISCREPANCY_LATCH (R445). Channels disagree for T_DISC and DISCREPANCY latches, raising EV193. -/
  | discrepancyLatch (pair : Fin 16)
  /-- SAFETY_CYCLE_BOUNDARY (R436). Every 500 µs Caldera switches outputs, applies STO, serves the watchdog and writes its status points. -/
  | safetyCycleBoundary (seals : BitVec 4)
  /-- SEPARATION_CYCLE (R481). Every second boundary the separation unit computes distances, levels and separation stops. -/
  | separationCycle
  /-- STANDSTILL_CONFIRM (R467). An axis stays at or below STILL_SPEED for STILL_CONF and receives STO at the next boundary. -/
  | standstillConfirm (axis : Fin 256)
  /-- SS1_TMAX_EXPIRY (R467). SS1_TMAX after t_s every axis without STO receives STO with cause 0x0A. -/
  | ss1TmaxExpiry
  /-- XCHK_FAIL (R464). A cross-check difference holds for XCHK_T and demands SS1 with cause 0x05. -/
  | xchkFail (axis : Fin 256)
  /-- LEVEL_RAISE (R474). A higher speed level applies after its conditions held for LEVEL_HOLD. -/
  | levelRaise (arm : Fin 16)
  /-- TEST_PULSE_START (R447). A TPS output starts a test pulse at a boundary when due and no window is open. -/
  | testPulseStart (tps : Fin 8)
  /-- TEST_PULSE_CHECK (R449). At t0 + TP_WIDTH − 250 µs every channel fed by the TPS must read 0, or TP_FAIL latches. -/
  | testPulseCheck (tps : Fin 8) (si : Word32)
  /-- TEST_WINDOW_END (R448). The test window ends and masked channels are used again with restarted filters. -/
  | testWindowEnd (tps : Fin 8) (si : Word32)
  /-- OUTPUT_TEST_PULSE (R453). An on safe output is switched off for OTP_WIDTH at its test time. -/
  | outputTestPulse (so : Fin 16)
  /-- OUTPUT_TEST_END (R453). An output test pulse ends and SORBn is checked, or the test is discarded. -/
  | outputTestEnd (so : Fin 16) (sorb : BitVec 16)
  /-- OUTPUT_RETEST (R454). A discarded output test runs again OTP_RESTART after the output is switched on. -/
  | outputRetest (so : Fin 16)
  /-- SAFETY_FRAME (R478). Caldera checks a received safety frame and accepts or rejects it. -/
  | safetyFrame (frame : List Byte) (eth : Bool)
  /-- CONNECTION_TIMEOUT (R479). A safety connection gets no accepted frame within WDT and times out. -/
  | connectionTimeout (conn : Fin 272)
  /-- SEAL_ACCEPT (R499). A seal level unchanged for 20 ms is accepted and a seal state change is logged. -/
  | sealAccept (ball : Fin 4) (level : Bool)
  /-- SET_APPLY (R494). Caldera applies a new committed set at the next boundary with STO on every axis. -/
  | setApply
  /-- REF_LOSS (R507). A SerDes reference is lost and its ports enter REF_FAULT. -/
  | refLoss (r : Fin 2)
  /-- REF_RESTORE (R507). A reference back within limits for 1 ms restarts its ports at DETECT. -/
  | refRestore (r : Fin 2)
  /-- CLAUSE73_TIMEOUT (R513). Clause 73 does not complete in 500 ms and DETECT tries the other modes. -/
  | clause73Timeout (p : Fin 64)
  /-- MODE_TRY_TIMEOUT (R513). A tried mode gets no settled link status in 50 ms and the next is tried. -/
  | modeTryTimeout (p : Fin 64) (partner : BitVec 8)
  /-- PHY_SETTLED (R513). PCS link status holds for PHY_SETTLE and the port enters NEGOTIATE. -/
  | phySettled (p : Fin 64) (partner : BitVec 8) (fec : Bool)
  /-- LINK_DOWN (R514). PCS link status false for LINK_DOWN_T returns the port to DETECT. -/
  | linkDown (loss : LinkLoss)
  /-- NEGOTIATION_MESSAGE (R521). A valid OFFER, ACCEPT or REFUSE is handled and the port chooses, enters UP or NO_COMMON, or renegotiates. -/
  | negotiationMessage (p : Fin 64) (mac : BitVec 48) (payload : List Byte)
  /-- OFFER_TIMER (R520). The negotiation timer sends the next OFFER or ACCEPT. -/
  | offerTimer (p : Fin 64)
  /-- SILENT_PARTNER (R522). No valid message 50 ms after NEGOTIATE; the port enters UP as ETHERNET or NO_COMMON. -/
  | silentPartner (p : Fin 64)
  /-- TWIN_LANE_UP (R530). A twin lane holds block lock for 10 ms and comes up. -/
  | twinLaneUp (lane : Fin 2)
  /-- TWIN_LANE_DOWN (R530). A twin lane loses block lock for 100 µs and goes down. -/
  | twinLaneDown (loss : LaneLoss)
  /-- DOWNLINK_ASSEMBLY (R541). 2 µs before DN_START the star assembles a node's DATA or NULL downlink frame. -/
  | downlinkAssembly (node : Fin 256)
  /-- UPLINK_FRAME (R544). A frame arriving at the star is accepted, blocked or discarded, measured and committed to points. -/
  | uplinkFrame (port : Fin 64) (start : Nat) (fcs : Bool) (frame : List Byte)
  /-- UPLINK_WINDOW_CLOSE (R601). An uplink window closes; on a synchronised pair the ACCEPT record is sent. -/
  | uplinkWindowClose (node : Fin 256)
  /-- COLDSTART_FRAME (R562). A COLDSTART frame arriving in LISTEN opens or joins a collision window. -/
  | coldstartFrame (port : Fin 64) (fcs : Bool) (frame : List Byte)
  /-- COLLISION_WINDOW_END (R562). The collision window ends; the star sends COLLISION or relays the COLDSTART and steps TB0. -/
  | collisionWindowEnd
  /-- LISTEN_TIMEOUT (R560). No COLDSTART within 20 ms of LISTEN; the star enters RUNNING on its own TB0. -/
  | listenTimeout
  /-- TB_CORRECTION (R572). A correction of a time base is applied as a step or refused and held pending. -/
  | tbCorrection (base : Fin 8) (d : Int)
  /-- STEP_APPLY (R573). At the next TIME tick an accepted or settled step is applied to a time base. -/
  | stepApply (base : Fin 8)
  /-- TB_SNAP (R569). A TB_SNAP write latches this base and another at one tick. -/
  | tbSnap (m : Master) (base other : Fin 8)
  /-- PTP_MESSAGE (R578). A PTP message of a held domain is consumed by its instance. -/
  | ptpMessage (port : Fin 64) (msg : PtpMsg)
  /-- PTP_MESSAGE_TIMER (R579). A master-port interval expires and the instance sends Sync, Announce or a delay request. -/
  | ptpMessageTimer (base : Fin 4) (port : Fin 64) (kind : Fin 3)
  /-- ANNOUNCE_TIMEOUT (R580). Announce receipt times out on the slave port and the base enters HOLDOVER. -/
  | announceTimeout (base : Fin 4)
  /-- BRIDGE_FRAME (R583). A frame received on a bridge port is queued by PCP, with transparent-clock handling. -/
  | bridgeFrame (port : Fin 64) (fcs : Bool) (frame : List Byte)
  /-- FRAME_LAUNCH (R586). A queued frame starts when its launch time and gate allow, or is discarded as late. -/
  | frameLaunch (port : Fin 64)
  /-- GATE_INTERVAL_END (R584). A gate control list entry ends and the next gate mask applies. -/
  | gateIntervalEnd (port : Fin 64)
  /-- GCL_SWITCH (R584). A new gate control list replaces the running one at a cycle boundary. -/
  | gclSwitch (port : Fin 64)
  /-- TXR_TAIL_WRITE (R587). Software advances TXR_TAIL, handing descriptors to the bridge. -/
  | txrTailWrite (m : Master) (ring : Fin 8) (tail : BitVec 12)
  /-- CAPTURE_EDGE (R588). A capture GPIO timestamps a selected edge on its time base. -/
  | captureEdge (gpio : Fin 64) (rising : Bool)
  /-- TRIGGER_PULSE (R589). A trigger GPIO makes its pulse at the next scheduled time. -/
  | triggerPulse (gpio : Fin 64)
  /-- TOKEN_SAMPLE (R594). At cycle start + 2 µs a unit samples INTLK_IN and may take the token. -/
  | tokenSample (level : Bool)
  /-- ARBITRATION_CHECK (R595). 1 µs after a take, both high makes the PRIO 0 unit release the token. -/
  | arbitrationCheck (level : Bool)
  /-- TOKEN_RELEASE (R596). Hardware lowers INTLK_OUT on reset, FAULT, missed beacon or handover. -/
  | tokenRelease
  /-- HEARTBEAT_PULSE (R597). A unit pulls INTLK_HB low for 1 µs in its phase of the cycle. -/
  | heartbeatPulse (partner : Bool)
  /-- HEARTBEAT_FAIL (R597). The partner's heartbeat is missing for 2 cycles and EV226 is raised. -/
  | heartbeatFail
  /-- CYCLE_MESSAGE (R603). The partner's CYCLE message arrives and the digests are compared. -/
  | cycleMessage (cycle mode role : Nat) (token sync : Bool) (digest : List Byte)
  /-- ACCEPT_MESSAGE (R601). The partner's ACCEPT record arrives and the uplink is committed. -/
  | acceptMessage (node : Fin 256) (ok : Bool) (crc : Nat)
  /-- ACCEPT_TIMEOUT (R601). No partner ACCEPT record 4 µs after the window; the unit commits alone and becomes unsynchronised. -/
  | acceptTimeout (node : Fin 256)
  /-- INPUT_MESSAGE (R601). A forwarded uplink payload arrives and is committed. -/
  | inputMessage (node : Fin 256) (nul : Bool) (payload : List Byte)
  /-- COMMAND_MESSAGE (R96). A command, window write or core message passed over the twin link is applied at the agreed cycle start. -/
  | commandMessage (m : TwinMsg)
  /-- SOLVE_MESSAGE (R227). The partner's run exchange arrives over the twin link. -/
  | solveMessage (inst : Fin 8) (iters : Word16) (outcome : Fin 16)
  /-- HANDOVER_MESSAGE (R598). The partner's handover cycle arrives. -/
  | handoverMessage (cycle : Nat)
  /-- RESYNC_MESSAGE (R610). Pages and state for resynchronisation arrive from the ACTIVE unit. -/
  | resyncMessage (phase : Fin 3) (dirty : Nat) (parts : List Machine.ResyncPart)
  /-- CODE_WORD_READ (R614). A memory read decodes its code words, correcting or poisoning. -/
  | codeWordRead (r : MemReader) (p : MemPlace) (n : Fin 65) (clean : Bool) (errs : List MemErr)
  /-- SCRUB_BLOCK (R624). The main scrubber scrubs its next heartwood block at its rate. -/
  | scrubBlock (errs : List MemErr)
  /-- PRIORITY_SCRUB (R625). A queued block is scrubbed ahead of the walk within 10 µs. -/
  | priorityScrub (errs : List MemErr)
  /-- REMAP_AUTO (R628). Ranger adds a remap word for a block whose count reached 3. -/
  | remapAuto (p : MemPlace)
  /-- REMAP_VALID_WRITE (R629). Writing VALID 1 to a remap word starts the copy into its spare. -/
  | remapValidWrite (m : Master) (dram : Bool) (word : Nat) (block : Nat) (valid : Bool)
  /-- REMAP_COPY_END (R629). The copy into the spare ends and the remap word becomes valid. -/
  | remapCopyEnd
  /-- ERR_POP (R632). Writing POP removes the oldest error record from the FIFO. -/
  | errPop (m : Master)
  /-- ERROR_DRAIN (R633). Ranger drains an error record into log 3. -/
  | errorDrain
  /-- FLASH_CORRECTION (R635). Ranger rewrites a corrected flash page within 1 s. -/
  | flashCorrection (page : Fin 2097152) (syn : Byte) (ok : Bool)
  /-- EVENT_RAISE (R648). A raised event sets its pending bits in every routed target and signals them. -/
  | eventRaise (n : Fin 256)
  /-- EV_RAISE (R654). A write to EV_RAISE raises a software event EV240 to EV255. -/
  | evRaise (m : Master) (n : Fin 16)
  /-- AC_PEND_CLEAR (R647). A core writes 1 to its AC_PEND bits to clear them. -/
  | acPendClear (m : Master) (core : Fin 16) (w : Fin 4) (v : Word64)
  /-- CORE_WATCHDOG_EXPIRY (R658). A core watchdog expires, raises EV033 and restarts. -/
  | coreWatchdogExpiry (core : Fin 16)
  /-- WDT_KICK (R658). A write to AC_WDT_KICK restarts the core watchdog. -/
  | wdtKick (m : Master) (core : Fin 16) (kick : Bool)
  /-- CORE_DEBUG_HALT (R655). A core halted by debug puts its GPIOs at safe levels and raises EV032. -/
  | coreDebugHalt (core : Fin 16) (pc : Word64)
  /-- RANGER_DEBUG_HALT (R657). A halt of Ranger stops command handling while its watchdog runs. -/
  | rangerDebugHalt (pc : Word64)
  /-- POST (R665). A read of POST posts the staged item and returns its result. -/
  | yardPost (m : Master) (port : Fin 17)
  /-- TAKE (R669). A read of TAKE removes the highest-ranked offered item and puts it in progress. -/
  | yardTake (m : Master) (port : Fin 17)
  /-- DONE (R670). A write of DONE ends the top item, releasing ordered completions. -/
  | yardDone (m : Master) (port : Fin 17) (ticket : BitVec 15) (result : Word32)
  /-- TMR_ARM (R674). A write of TMR_ARM arms a timer handle. -/
  | tmrArm (m : Master) (port : Fin 17) (handle : Word16) (flow : BitVec 12) (prio : Fin 8) (period : Word32)
  /-- TMR_CANCEL (R675). A write of TMR_CANCEL disarms a timer handle. -/
  | tmrCancel (m : Master) (port : Fin 17) (handle : Word16)
  /-- TIMER_EXPIRY (R674). At a TB0 µs tick an armed timer whose deadline has come posts its item. -/
  | timerExpiry
  /-- FLOW_CFG_WRITE (R664). A write of a flow's configuration applies from the next clock, or is refused. -/
  | flowCfgWrite (m : Master) (port : Fin 17) (v : Word32)
  /-- LANDING_REFILL (R676). Spilled items are refilled from the Landing into the store. -/
  | landingRefill
  /-- HELD_ITEM_ENTRY (R679). A held hardware-class item enters the store when a slot frees. -/
  | heldItemEntry
  /-- OTP_ENROL (R719). OTP_PROG with OP 1 burns an integrator key hash into a slot. -/
  | otpEnrol (slot : Fin 8) (confirm : Word16)
  /-- OTP_REVOKE (R720). OTP_PROG with OP 2 burns the revocation bit of a slot. -/
  | otpRevoke (slot : Fin 8) (confirm : Word16)
  /-- EXTEST (R726). TAP instruction EXTEST, an attachment event. -/
  | extest
  /-- IDCODE (R725). TAP instruction selecting the device identification register. -/
  | idcode
  /-- SAMPLE_PRELOAD (R725). TAP instruction SAMPLE/PRELOAD. -/
  | samplePreload
  /-- CLAMP_INSTRUCTION (R726). TAP instruction CLAMP, an attachment event. -/
  | clampInstruction
  /-- HIGHZ (R726). TAP instruction HIGHZ, an attachment event. -/
  | highz
  /-- DTMCS (R725). TAP instruction selecting the RISC-V debug transport DTMCS. -/
  | dtmcs
  /-- DMI (R725). TAP instruction selecting the RISC-V debug module interface. -/
  | dmi
  /-- JCE_DEBUG_PORT (R725). TAP instruction selecting the JCE debug port. -/
  | jceDebugPort
  /-- BYPASS (R725). TAP instruction BYPASS. -/
  | bypass
  /-- DEBUG_ATTACH (R727). Setting dmactive or enabling the JCE debug port counts an attachment and logs it. -/
  | debugAttach (jce : Bool)
  /-- DEBUG_RESUME (R728). Debug resumes a halted hart or engine without driving any output. -/
  | debugResume (engine : Bool) (n : Fin 64) (pc : Word64)
  /-- TAP_RESET (R729). TRST_N asserted ends every attachment and is logged. -/
  | tapReset
  /-- PCIE_LINK_UP (R52). The PCIe link completes training and comes up, raising EV051. -/
  | pcieLinkUp (settled : PcieSettled)
  /-- RESET_RELEASE (R702). The cause of a P, W or D reset ends (PORST_N or RESET_N rising, rails back, clock back, junction below 110 °C), the 100 µs hold runs out, the straps are sampled and INIT begins. -/
  | resetRelease (straps : BitVec 2) (prio : Bool) (sensed : Sensed (BitVec 7))
  /-- PWM_CLOCK_RETURN (R368). The PWM clock returns after a loss, so that CLK_LOST may be cleared and the counters restart at the next common instant. -/
  | pwmClockReturn
  /-- TRIP_INACTIVE (R370). A trip input's filtered level returns to inactive, after which TRIP_CLEAR may succeed. -/
  | tripInactive (run : Fin 16 × TripRun)
  /-- DRVFLT_RELEASE (R417). DRVFLTn is accepted inactive, so that the DRVFLT halt cause may go at the next ENABLE write. -/
  | drvfltRelease (flt : InputRun 32 1001)
  /-- DEBUG_RELEASE (R727). The debug module or the JCE debug port is released, and log 2 records entry 0x0002. -/
  | debugRelease (jce : Bool)
  /-- CALDERA_DEBUG_HALT (R441). Debug halts Caldera's safety core, which is logged and leads to the watchdog trip and fault cause 0x0005. -/
  | calderaDebugHalt
  /-- MACHINE_TIMER (R646). mtime reaches a core's mtimecmp and that core's machine timer interrupt, mip bit 7, becomes pending. -/
  | machineTimer (core : Fin 16) (cmp : Word64)
  /-- LOAD_WINDOW_END (R681). A LOAD_WIN window on TB5 completes and each core's LOAD takes that window's busy fraction. -/
  | loadWindowEnd
  /-- REMAP_FLASH_WRITE (R628). Ranger writes an automatically added remap word to flash within 50 ms. -/
  | remapFlashWrite
  /-- LOCAL_SCRUB (R626). A local scrubber visits a word of a schedule, JCE, LLC or Ranger memory in an idle slot, correcting it and counting it towards remap. -/
  | localScrub (group : Fin 169) (block : Nat) (errs : List MemErr)
deriving DecidableEq, Repr, Inhabited

end Sys2Proof
end

