-- ==== Sys2Proof/Decode.lean ====
section
/-!
DEFINITION. The words of the opcode table. The block has no instruction encoding of its own: the table gives none of its rows
a word (every row's list of fields is empty), since its commands come as register accesses, messages and events.
-/
namespace Sys2Proof

/-- The command that a word of `nbits` bits spells: none, since the opcode table gives no row any bits. -/
def decodeTableWord (_nbits _w : Nat) : Option Instr := none

end Sys2Proof
end

