-- ==== Sys2Proof/Config.lean ====
section
/-!
DEFINITION. What the manual leaves open or does not define, as constants with no body: nothing can prove a value of
one, so a claim holds whatever they are. Each is named in the assumption log.
-/
namespace Sys2Proof.Config

/-- The free values of the machine, one for each count of `State.freeCtr` (log entry 1). -/
opaque freeNat : Nat → Nat

/-- ML-DSA-44 verification (R108, R714): key slot, digest, signature bytes (log entry 2). -/
opaque signatureValid : Nat → BitVec 256 → List Byte → Bool

/-- The content of the sections of a cell image, whose layouts the manual does not give (log entry 3). -/
opaque cellContent : List Byte → CellContent

/-- Entries that a device log holds (R127 gives no capacity; log entry 4). -/
opaque logCapacity : Nat → Nat

/-- The CORDIC rounds the angle of a sin/cos pair up to the next 1/4,096 of a period (R336 gives no rounding; log entry
20). -/
opaque cordicUp : Int → Int → Bool

/-- The angle that the CORDIC gives for sin = cos = 0, where there is none (log entry 20). -/
opaque cordicZero : BitVec 12

/-- The shift to which a loop's integrator increment is rounded (R290 names no shift; log entry 21). -/
opaque integratorShift : Nat

/-- The scale of the d–q transform of currents; voltages transform back by its reciprocal (R289 names none; log entry
21). -/
opaque dqScale : Rat

/-- The factor by which a bus voltage sample scales the phase voltages (R289 names none; log entry 21). -/
opaque busScale : Nat → Rat

/-- Sine and cosine of an angle in turns that is no multiple of a quarter turn (log entry 24). -/
opaque sinCosTurn : Rat → Rat × Rat

/-- What `FLOW_STATE.QUEUED` shows for more items of one flow than its 16 bits count (R684 gives the field no limit; log
entry 59). -/
opaque queuedBeyond : Nat → Nat

/-- The square root of a number that is no square of a fraction (log entry 24). -/
opaque root : Rat → Rat

/-- Sine and cosine of an angle in µrad other than 0 (log entry 24). -/
opaque sinCos : Rat → Rat × Rat

/-- What the bytes of an Eckin parameter set say (R502); none for an unknown format or a wrong checksum. The manual does not
give the Eckin layouts (log entry 42). -/
opaque eckinParse : List Byte → Option EckinSet

/-- The vendor ID (R49; log entry 26). -/
opaque vendorId : BitVec 16

/-- Odelarum's manufacturer identity in `IDCODE` (R725; log entry 26). -/
opaque manufacturer : BitVec 11

/-- The patch number of the firmware and the version of the boot ROM (R101; log entry 26). -/
opaque firmwarePatch : Byte

/-- The version of the boot ROM (R101; log entry 26). -/
opaque bootRomVersion : Word32

/-- The unit serial in OTP (log entry 26). -/
opaque serial : BitVec 128

/-- The OTP base address of the ports (R518; log entry 26). -/
opaque macBase : BitVec 48

/-- The unit is unit B of its pair (R591; log entry 27). -/
opaque unitB : Bool

/-- The code by which `FW_INFO` shows the state of a slot: 0 EMPTY, 1 INVALID, 2 VERIFIED, 3 TRIAL here (R129 gives no
codes; log entry 52). -/
opaque fwStateCode : Nat → Byte

/-- Security version, version, digest of the firmware in a slot of the external QSPI flash (R709; log entry 26). -/
opaque qspiFirmware : Nat → Nat × Nat × BitVec 256

/-- Caldera's program within the Ranger firmware with a digest (R432; log entry 26). -/
opaque calderaProgram : BitVec 256 → List Byte

/-- The count that homing takes for a reference between two counts (R427, R428; log entry 81). -/
opaque homeReference : Rat → Int

/-- What the receiver of a port measures at a tick: eye width, eye height, clock lock (R529, R531; log entry 83). -/
opaque laneDiag : Nat → Nat → BitVec 17

/-- SHA3-256 of the identity public key (R723; log entry 26). -/
opaque identityHash : BitVec 256

/-- The identity key's ML-DSA-44 signature over a digest (R723, R724; log entry 2). -/
opaque identitySign : BitVec 256 → List Byte

end Sys2Proof.Config
end

