-- ==== Sys2Proof/Machine/Bits.lean ====
section
/-!
DEFINITION. Bit fields, signed readings, byte order, rounding and the two CRCs of the manual: the arithmetic that
every family uses.
-/
namespace Sys2Proof

/-- Bits `lo + w - 1` to `lo` of `v`. -/
def bitsOf (v lo w : Nat) : Nat := v / 2 ^ lo % 2 ^ w

/-- Bit `n` of `v`. -/
def bitOf (v n : Nat) : Bool := v / 2 ^ n % 2 == 1

/-- `v` with bits `lo + w - 1` to `lo` replaced by `x`. -/
def putBits (v lo w x : Nat) : Nat := v - bitsOf v lo w * 2 ^ lo + x % 2 ^ w * 2 ^ lo

/-- 1 for true, 0 for false. -/
def b2n (b : Bool) : Nat := if b then 1 else 0

/-- The two's complement reading of the low `w` bits of `v`. -/
def toS (w v : Nat) : Int :=
  if 2 * (v % 2 ^ w) < 2 ^ w then (v % 2 ^ w : Nat) else (v % 2 ^ w : Nat) - (2 ^ w : Nat)

/-- The low `w` bits of the two's complement of `x`. -/
def ofS (w : Nat) (x : Int) : Nat := (x % (2 ^ w : Nat)).toNat

/-- `x` held between `lo` and `hi`. -/
def clampI (lo hi x : Int) : Int := if x < lo then lo else if hi < x then hi else x

/-- `x` held between `lo` and `hi`. -/
def clampN (lo hi x : Nat) : Nat := if x < lo then lo else if hi < x then hi else x

/-- `x` held in the range of a signed number of `w` bits. -/
def satS (w : Nat) (x : Int) : Int := clampI (-(2 ^ (w - 1) : Nat)) ((2 ^ (w - 1) : Nat) - 1) x

/-- `n ÷ d` rounded to the nearest integer, a half upwards (R290). -/
def roundDiv (n : Int) (d : Nat) : Int := (2 * n + d) / (2 * d)

/-- `x` shifted by `e` places: to the left for a positive `e`, rounded to nearest with a half upwards for a negative. -/
def scale2 (x : Int) (e : Int) : Int :=
  if 0 ≤ e then x * (2 ^ e.toNat : Nat) else roundDiv x (2 ^ (-e).toNat)

/-- The little-endian number of a list of bytes. -/
def leNat : List Byte → Nat
  | [] => 0
  | b :: r => b.toNat + 256 * leNat r

/-- The `n` little-endian bytes of `v`. -/
def leBytes : Nat → Nat → List Byte
  | 0, _ => []
  | n + 1, v => BitVec.ofNat 8 v :: leBytes n (v / 256)

/-- `n` bytes of 0. -/
def zeros (n : Nat) : List Byte := List.replicate n 0

/-- Unsigned little-endian field of `n` bytes at offset `o` of `p`; missing bytes read as 0. -/
def uAt (p : List Byte) (o n : Nat) : Nat := leNat ((p.drop o).take n)

/-- Signed little-endian field of `n` bytes at offset `o` of `p`. -/
def sAt (p : List Byte) (o n : Nat) : Int := toS (8 * n) (uAt p o n)

/-- The `n` little-endian bytes of the two's complement of `x`. -/
def leInt (n : Nat) (x : Int) : List Byte := leBytes n (ofS (8 * n) x)

/-- One bit step of CRC-32C (reflected, polynomial 0x82F6_3B78). -/
def crc32cBit (c : Word32) : Word32 := if c.getLsbD 0 then (c >>> 1) ^^^ 0x82F63B78#32 else c >>> 1

/-- `n` bit steps. -/
def iterate {α : Type} (f : α → α) : Nat → α → α
  | 0, x => x
  | n + 1, x => iterate f n (f x)

/-- CRC-32C of a list of bytes (R69): start and final value inverted. -/
def crc32c (bs : List Byte) : Nat :=
  ((bs.foldl (fun c b => iterate crc32cBit 8 (c ^^^ b.setWidth 32)) 0xFFFFFFFF#32) ^^^ 0xFFFFFFFF#32).toNat

/-- One bit step of the safety CRC (most significant bit first, polynomial 0x741B_8CD7). -/
def crcSafeBit (c : Word32) : Word32 := if c.getLsbD 31 then (c <<< 1) ^^^ 0x741B8CD7#32 else c <<< 1

/-- The 32-bit safety CRC (R476, R489): start 0xFFFF_FFFF, no reflection, no final inversion. -/
def crcSafe (bs : List Byte) : Nat :=
  (bs.foldl (fun c b => iterate crcSafeBit 8 (c ^^^ (BitVec.ofNat 32 b.toNat <<< 24))) 0xFFFFFFFF#32).toNat

end Sys2Proof
end

