-- ==== Sys2Proof/Machine/RegMapCompute.lean ====
section
/-!
DEFINITION. The register fields of the COMPUTE domain, one definition a field, each from the row of the register table
of spec/ that its docstring names: domain, unit, units, base, stride, count, low bit, width, 64-bit register, access,
Reset, Kept by.
-/
namespace Sys2Proof.Reg

/-- `STATE` of `AC_STATE` in COMPUTE.AC (21, R659). 0 STOPPED, 1 RUNNING, 2 HALTED, 3 waiting in WFI. -/
def AC_STATE_STATE : Field :=
  ⟨528, 3, 0, 16, 0x0, 0x0, 1, 0, 2, false, .ro, 0x0, [.l], []⟩

/-- `WDT_US` of `AC_WDT` in COMPUTE.AC (21, R659). R658. -/
def AC_WDT_WDT_US : Field :=
  ⟨529, 3, 0, 16, 0x8, 0x0, 1, 0, 24, false, .rw, 0x0, [.l], []⟩

/-- `WDT_FIRED` of `AC_WDT` in COMPUTE.AC (21, R659). Watchdog expired. -/
def AC_WDT_WDT_FIRED : Field :=
  ⟨530, 3, 0, 16, 0x8, 0x0, 1, 24, 1, false, .w1c, 0x0, [.l], []⟩

/-- `KICK` of `AC_WDT_KICK` in COMPUTE.AC (21, R659). 1 restarts the watchdog. -/
def AC_WDT_KICK_KICK : Field :=
  ⟨531, 3, 0, 16, 0x10, 0x0, 1, 0, 1, false, .wo, 0x0, [], []⟩

/-- `HW_RESERVE` of `YD_CFG` in COMPUTE.YARDER (22, R684). R676; above 16,384 acts as 16,384. -/
def YD_CFG_HW_RESERVE : Field :=
  ⟨541, 3, 2, 1, 0x0, 0x0, 1, 0, 15, true, .rw, 0x1000, [.l], []⟩

/-- `LOAD_WIN` of `YD_CFG` in COMPUTE.YARDER (22, R684). µs, 1 to 1,000,000; 0 acts as 1. -/
def YD_CFG_LOAD_WIN : Field :=
  ⟨542, 3, 2, 1, 0x0, 0x0, 1, 32, 20, true, .rw, 0x3E8, [.l], []⟩

/-- `STORE_USED` of `YD_STATUS` in COMPUTE.YARDER (22, R684). Store slots in use, 0 to 32,768. -/
def YD_STATUS_STORE_USED : Field :=
  ⟨543, 3, 2, 1, 0x8, 0x0, 1, 0, 16, true, .ro, 0x0, [.l], []⟩

/-- `LOAD_HIGH` of `YD_STATUS` in COMPUTE.YARDER (22, R684). R677. -/
def YD_STATUS_LOAD_HIGH : Field :=
  ⟨544, 3, 2, 1, 0x8, 0x0, 1, 16, 1, true, .ro, 0x0, [.l], []⟩

/-- `HOLDING` of `YD_STATUS` in COMPUTE.YARDER (22, R684). A hardware producer holds an item. -/
def YD_STATUS_HOLDING : Field :=
  ⟨545, 3, 2, 1, 0x8, 0x0, 1, 17, 1, true, .ro, 0x0, [.l], []⟩

/-- `LANDING_USED` of `YD_STATUS` in COMPUTE.YARDER (22, R684). Items in the Landing. -/
def YD_STATUS_LANDING_USED : Field :=
  ⟨546, 3, 2, 1, 0x8, 0x0, 1, 32, 25, true, .ro, 0x0, [.l], []⟩

/-- `FULL_REFUSED` of `YD_COUNT0` in COMPUTE.YARDER (22, R684). Posts refused with E_FULL. -/
def YD_COUNT0_FULL_REFUSED : Field :=
  ⟨547, 3, 2, 1, 0x10, 0x0, 1, 0, 32, true, .rc, 0x0, [.l], []⟩

/-- `PARK_REFUSED` of `YD_COUNT0` in COMPUTE.YARDER (22, R684). R678. -/
def YD_COUNT0_PARK_REFUSED : Field :=
  ⟨548, 3, 2, 1, 0x10, 0x0, 1, 32, 32, true, .rc, 0x0, [.l], []⟩

/-- `BP_CLOCKS` of `YD_COUNT1` in COMPUTE.YARDER (22, R684). R679. -/
def YD_COUNT1_BP_CLOCKS : Field :=
  ⟨549, 3, 2, 1, 0x18, 0x0, 1, 0, 32, true, .rc, 0x0, [.l], []⟩

/-- `MB_LOST` of `YD_COUNT1` in COMPUTE.YARDER (22, R684). R667. -/
def YD_COUNT1_MB_LOST : Field :=
  ⟨550, 3, 2, 1, 0x18, 0x0, 1, 32, 16, true, .rc, 0x0, [.l], []⟩

/-- `BIND_ERR` of `YD_COUNT1` in COMPUTE.YARDER (22, R684). R663. -/
def YD_COUNT1_BIND_ERR : Field :=
  ⟨551, 3, 2, 1, 0x18, 0x0, 1, 48, 16, true, .rc, 0x0, [.l], []⟩

/-- `WINDOW_STALL` of `YD_COUNT2` in COMPUTE.YARDER (22, R684). R673. -/
def YD_COUNT2_WINDOW_STALL : Field :=
  ⟨552, 3, 2, 1, 0x20, 0x0, 1, 0, 32, true, .rc, 0x0, [.l], []⟩

/-- `REQUEUED` of `YD_COUNT2` in COMPUTE.YARDER (22, R684). R671. -/
def YD_COUNT2_REQUEUED : Field :=
  ⟨553, 3, 2, 1, 0x20, 0x0, 1, 32, 16, true, .rc, 0x0, [.l], []⟩

/-- `TMR_LATE` of `TMR_STAT` in COMPUTE.YARDER (22, R684). R675. -/
def TMR_STAT_TMR_LATE : Field :=
  ⟨554, 3, 2, 1, 0x28, 0x0, 1, 0, 32, true, .rc, 0x0, [.l], []⟩

/-- `TMR_LATE_MAX` of `TMR_STAT` in COMPUTE.YARDER (22, R684). µs, saturating. -/
def TMR_STAT_TMR_LATE_MAX : Field :=
  ⟨555, 3, 2, 1, 0x28, 0x0, 1, 32, 16, true, .rc, 0x0, [.l], []⟩

/-- `TMR_STEPPED` of `TMR_STAT` in COMPUTE.YARDER (22, R684). R675. -/
def TMR_STAT_TMR_STEPPED : Field :=
  ⟨556, 3, 2, 1, 0x28, 0x0, 1, 48, 16, true, .rc, 0x0, [.l], []⟩

/-- `DEPTH` of `QUEUE_STAT` in COMPUTE.YARDER (22, R684). Items of priority p queued on chip. -/
def QUEUE_STAT_DEPTH : Field :=
  ⟨557, 3, 2, 1, 0x100, 0x8, 8, 0, 16, true, .ro, 0x0, [.l], []⟩

/-- `LANDED` of `QUEUE_STAT` in COMPUTE.YARDER (22, R684). Items of priority p in the Landing. -/
def QUEUE_STAT_LANDED : Field :=
  ⟨558, 3, 2, 1, 0x100, 0x8, 8, 16, 25, true, .ro, 0x0, [.l], []⟩

/-- `COUNT` of `QUEUE_HIST` in COMPUTE.YARDER (22, R684). R680. -/
def QUEUE_HIST_COUNT : Field :=
  ⟨559, 3, 2, 1, 0x200, 0x4, 128, 0, 32, false, .rc, 0x0, [.l], []⟩

/-- `CUR_PRIO` of `CORE_STAT` in COMPUTE.YARDER (22, R684). Current priority. -/
def CORE_STAT_CUR_PRIO : Field :=
  ⟨560, 3, 2, 1, 0x400, 0x8, 16, 0, 3, false, .ro, 0x0, [.l], []⟩

/-- `BUSY` of `CORE_STAT` in COMPUTE.YARDER (22, R684). Item in progress. -/
def CORE_STAT_BUSY : Field :=
  ⟨561, 3, 2, 1, 0x400, 0x8, 16, 3, 1, false, .ro, 0x0, [.l], []⟩

/-- `NEST` of `CORE_STAT` in COMPUTE.YARDER (22, R684). Items in progress, 0 to 8. -/
def CORE_STAT_NEST : Field :=
  ⟨562, 3, 2, 1, 0x400, 0x8, 16, 4, 4, false, .ro, 0x0, [.l], []⟩

/-- `LOAD` of `CORE_STAT` in COMPUTE.YARDER (22, R684). R681. -/
def CORE_STAT_LOAD : Field :=
  ⟨563, 3, 2, 1, 0x400, 0x8, 16, 16, 16, false, .ro, 0x0, [.l], []⟩

/-- `COUNT` of `CORE_HIST` in COMPUTE.YARDER (22, R684). R680. -/
def CORE_HIST_COUNT : Field :=
  ⟨564, 3, 2, 1, 0x500, 0x4, 256, 0, 32, false, .rc, 0x0, [.l], []⟩

/-- `EN` of `MB_NOTIFY` in COMPUTE.YARDER (22, R684). R667. -/
def MB_NOTIFY_EN : Field :=
  ⟨565, 3, 2, 1, 0x900, 0x8, 32, 0, 1, false, .rw, 0x0, [.l], []⟩

/-- `PRIO` of `MB_NOTIFY` in COMPUTE.YARDER (22, R684). Priority. -/
def MB_NOTIFY_PRIO : Field :=
  ⟨566, 3, 2, 1, 0x900, 0x8, 32, 1, 3, false, .rw, 0x0, [.l], []⟩

/-- `FLOW` of `MB_NOTIFY` in COMPUTE.YARDER (22, R684). Flow. -/
def MB_NOTIFY_FLOW : Field :=
  ⟨567, 3, 2, 1, 0x900, 0x8, 32, 4, 12, false, .rw, 0x0, [.l], []⟩

/-- `EN` of `JCE_NOTIFY` in COMPUTE.YARDER (22, R684). Item on each SIGEV of engine k. -/
def JCE_NOTIFY_EN : Field :=
  ⟨568, 3, 2, 1, 0xA00, 0x8, 64, 0, 1, false, .rw, 0x0, [.l], []⟩

/-- `PRIO` of `JCE_NOTIFY` in COMPUTE.YARDER (22, R684). Item on each SIGEV of engine k. -/
def JCE_NOTIFY_PRIO : Field :=
  ⟨569, 3, 2, 1, 0xA00, 0x8, 64, 1, 3, false, .rw, 0x0, [.l], []⟩

/-- `FLOW` of `JCE_NOTIFY` in COMPUTE.YARDER (22, R684). Item on each SIGEV of engine k. -/
def JCE_NOTIFY_FLOW : Field :=
  ⟨570, 3, 2, 1, 0xA00, 0x8, 64, 4, 12, false, .rw, 0x0, [.l], []⟩

/-- `EN` of `NODE_NOTIFY` in COMPUTE.YARDER (22, R684). Item on each committed uplink of node m. -/
def NODE_NOTIFY_EN : Field :=
  ⟨571, 3, 2, 1, 0x2800, 0x8, 256, 0, 1, false, .rw, 0x0, [.l], []⟩

/-- `PRIO` of `NODE_NOTIFY` in COMPUTE.YARDER (22, R684). Item on each committed uplink of node m. -/
def NODE_NOTIFY_PRIO : Field :=
  ⟨572, 3, 2, 1, 0x2800, 0x8, 256, 1, 3, false, .rw, 0x0, [.l], []⟩

/-- `FLOW` of `NODE_NOTIFY` in COMPUTE.YARDER (22, R684). Item on each committed uplink of node m. -/
def NODE_NOTIFY_FLOW : Field :=
  ⟨573, 3, 2, 1, 0x2800, 0x8, 256, 4, 12, false, .rw, 0x0, [.l], []⟩

/-- `ARG0` of `ARG0` in Port registers (22, R684). Staged argument. -/
def ARG0 : Field :=
  ⟨574, 3, 2, 1, 0x1000, 0x100, 17, 0, 64, true, .rw, 0x0, [.l], []⟩

/-- `ARG1` of `ARG1` in Port registers (22, R684). Staged argument. -/
def ARG1 : Field :=
  ⟨575, 3, 2, 1, 0x1008, 0x100, 17, 0, 64, true, .rw, 0x0, [.l], []⟩

/-- `RESULT` of `POST` in Port registers (22, R684). Read posts, R665. -/
def POST_RESULT : Field :=
  ⟨576, 3, 2, 1, 0x1010, 0x100, 17, 0, 64, true, .ro, 0x0, [], []⟩

/-- `PRIO` of `POST_HDR` in Port registers (22, R684). Priority of the post. -/
def POST_HDR_PRIO : Field :=
  ⟨577, 3, 2, 1, 0x1018, 0x100, 17, 0, 3, false, .rw, 0x0, [.l], []⟩

/-- `FLOW` of `POST_HDR` in Port registers (22, R684). Flow of the post. -/
def POST_HDR_FLOW : Field :=
  ⟨578, 3, 2, 1, 0x1018, 0x100, 17, 4, 12, false, .rw, 0x0, [.l], []⟩

/-- `VALID` of `TAKE` in Port registers (22, R684). Read takes, R669; 0: nothing offered. -/
def TAKE_VALID : Field :=
  ⟨579, 3, 2, 1, 0x1020, 0x100, 17, 0, 1, true, .ro, 0x0, [], []⟩

/-- `PRIO` of `TAKE` in Port registers (22, R684). Priority. -/
def TAKE_PRIO : Field :=
  ⟨580, 3, 2, 1, 0x1020, 0x100, 17, 1, 3, true, .ro, 0x0, [], []⟩

/-- `FLOW` of `TAKE` in Port registers (22, R684). Flow. -/
def TAKE_FLOW : Field :=
  ⟨581, 3, 2, 1, 0x1020, 0x100, 17, 4, 12, true, .ro, 0x0, [], []⟩

/-- `SRC` of `TAKE` in Port registers (22, R684). R660. -/
def TAKE_SRC : Field :=
  ⟨582, 3, 2, 1, 0x1020, 0x100, 17, 16, 4, true, .ro, 0x0, [], []⟩

/-- `COUNT` of `TAKE` in Port registers (22, R684). R661. -/
def TAKE_COUNT : Field :=
  ⟨583, 3, 2, 1, 0x1020, 0x100, 17, 20, 16, true, .ro, 0x0, [], []⟩

/-- `TICKET` of `TAKE` in Port registers (22, R684). Names the item for DONE. -/
def TAKE_TICKET : Field :=
  ⟨584, 3, 2, 1, 0x1020, 0x100, 17, 36, 15, true, .ro, 0x0, [], []⟩

/-- `ARG0` of `ITEM_ARG0` in Port registers (22, R684). Of the last item taken. -/
def ITEM_ARG0_ARG0 : Field :=
  ⟨585, 3, 2, 1, 0x1028, 0x100, 17, 0, 64, true, .ro, 0x0, [.l], []⟩

/-- `ARG1` of `ITEM_ARG1` in Port registers (22, R684). Of the last item taken. -/
def ITEM_ARG1_ARG1 : Field :=
  ⟨586, 3, 2, 1, 0x1030, 0x100, 17, 0, 64, true, .ro, 0x0, [.l], []⟩

/-- `TICKET` of `DONE` in Port registers (22, R684). Ends the top item, R670. -/
def DONE_TICKET : Field :=
  ⟨587, 3, 2, 1, 0x1038, 0x100, 17, 0, 15, true, .wo, 0x0, [], []⟩

/-- `RESULT` of `DONE` in Port registers (22, R684). Release ARG0, R672. -/
def DONE_RESULT : Field :=
  ⟨588, 3, 2, 1, 0x1038, 0x100, 17, 32, 32, true, .wo, 0x0, [], []⟩

/-- `US` of `TMR_DEADLINE` in Port registers (22, R684). TB0 in µs. -/
def TMR_DEADLINE_US : Field :=
  ⟨589, 3, 2, 1, 0x1040, 0x100, 17, 0, 64, true, .rw, 0x0, [.l], []⟩

/-- `HANDLE` of `TMR_ARM` in Port registers (22, R684). Arms, R674. -/
def TMR_ARM_HANDLE : Field :=
  ⟨590, 3, 2, 1, 0x1048, 0x100, 17, 0, 16, true, .wo, 0x0, [], []⟩

/-- `FLOW` of `TMR_ARM` in Port registers (22, R684). Flow. -/
def TMR_ARM_FLOW : Field :=
  ⟨591, 3, 2, 1, 0x1048, 0x100, 17, 16, 12, true, .wo, 0x0, [], []⟩

/-- `PRIO` of `TMR_ARM` in Port registers (22, R684). Priority and list. -/
def TMR_ARM_PRIO : Field :=
  ⟨592, 3, 2, 1, 0x1048, 0x100, 17, 28, 3, true, .wo, 0x0, [], []⟩

/-- `PERIOD` of `TMR_ARM` in Port registers (22, R684). µs; 0 one-shot. -/
def TMR_ARM_PERIOD : Field :=
  ⟨593, 3, 2, 1, 0x1048, 0x100, 17, 32, 32, true, .wo, 0x0, [], []⟩

/-- `HANDLE` of `TMR_CANCEL` in Port registers (22, R684). Disarms. -/
def TMR_CANCEL_HANDLE : Field :=
  ⟨594, 3, 2, 1, 0x1050, 0x100, 17, 0, 16, false, .wo, 0x0, [], []⟩

/-- `CODE` of `TMR_RESULT` in Port registers (22, R684). Result of the last arm or cancel. -/
def TMR_RESULT_CODE : Field :=
  ⟨595, 3, 2, 1, 0x1058, 0x100, 17, 0, 3, false, .ro, 0x0, [.l], []⟩

/-- `FLOW` of `FLOW_SEL` in Port registers (22, R684). Flow reached by +0x68 and +0x70. -/
def FLOW_SEL_FLOW : Field :=
  ⟨596, 3, 2, 1, 0x1060, 0x100, 17, 0, 12, false, .rw, 0x0, [.l], []⟩

/-- `EN` of `FLOW_CFG` in Port registers (22, R684). Flow enabled. -/
def FLOW_CFG_EN : Field :=
  ⟨597, 3, 2, 1, 0x1068, 0x100, 17, 0, 1, false, .rw, 0x0, [.l], []⟩

/-- `ORDERED` of `FLOW_CFG` in Port registers (22, R684). R672. -/
def FLOW_CFG_ORDERED : Field :=
  ⟨598, 3, 2, 1, 0x1068, 0x100, 17, 1, 1, false, .rw, 0x0, [.l], []⟩

/-- `CORE_MASK` of `FLOW_CFG` in Port registers (22, R684). Bit c: AC(c) may take. -/
def FLOW_CFG_CORE_MASK : Field :=
  ⟨599, 3, 2, 1, 0x1068, 0x100, 17, 2, 16, false, .rw, 0x0, [.l], []⟩

/-- `NEXT_FLOW` of `FLOW_CFG` in Port registers (22, R684). Release target. -/
def FLOW_CFG_NEXT_FLOW : Field :=
  ⟨600, 3, 2, 1, 0x1068, 0x100, 17, 18, 12, false, .rw, 0x0, [.l], []⟩

/-- `NEXT_EN` of `FLOW_CFG` in Port registers (22, R684). Post releases. -/
def FLOW_CFG_NEXT_EN : Field :=
  ⟨601, 3, 2, 1, 0x1068, 0x100, 17, 30, 1, false, .rw, 0x0, [.l], []⟩

/-- `QUEUED` of `FLOW_STATE` in Port registers (22, R684). Items of the flow queued. -/
def FLOW_STATE_QUEUED : Field :=
  ⟨602, 3, 2, 1, 0x1070, 0x100, 17, 0, 16, false, .ro, 0x0, [.l], []⟩

/-- `WINDOW` of `FLOW_STATE` in Port registers (22, R684). Window positions in use, 0 to 256. -/
def FLOW_STATE_WINDOW : Field :=
  ⟨603, 3, 2, 1, 0x1070, 0x100, 17, 16, 9, false, .ro, 0x0, [.l], []⟩

/-- `STALLED` of `FLOW_STATE` in Port registers (22, R684). An item waits beyond the window. -/
def FLOW_STATE_STALLED : Field :=
  ⟨604, 3, 2, 1, 0x1070, 0x100, 17, 25, 1, false, .ro, 0x0, [.l], []⟩

/-- `DELIVER_EN` of `PORT_CTRL` in Port registers (22, R684). Assert mip bit 11 for offers; Ranger port: no effect. -/
def PORT_CTRL_DELIVER_EN : Field :=
  ⟨605, 3, 2, 1, 0x1078, 0x100, 17, 0, 1, false, .rw, 0x0, [.l], []⟩

/-- `DONE_ERR` of `PORT_CTRL` in Port registers (22, R684). R670. -/
def PORT_CTRL_DONE_ERR : Field :=
  ⟨606, 3, 2, 1, 0x1078, 0x100, 17, 1, 1, false, .w1c, 0x0, [.l], []⟩

/-- `CFG_REFUSED` of `PORT_CTRL` in Port registers (22, R684). R664. -/
def PORT_CTRL_CFG_REFUSED : Field :=
  ⟨607, 3, 2, 1, 0x1078, 0x100, 17, 2, 1, false, .w1c, 0x0, [.l], []⟩

/-- Fields of the COMPUTE domain, part 0. -/
def fieldsCompute0 : List Field :=
  [AC_STATE_STATE, AC_WDT_WDT_US, AC_WDT_WDT_FIRED, AC_WDT_KICK_KICK, YD_CFG_HW_RESERVE,
   YD_CFG_LOAD_WIN, YD_STATUS_STORE_USED, YD_STATUS_LOAD_HIGH, YD_STATUS_HOLDING, YD_STATUS_LANDING_USED,
   YD_COUNT0_FULL_REFUSED, YD_COUNT0_PARK_REFUSED, YD_COUNT1_BP_CLOCKS, YD_COUNT1_MB_LOST, YD_COUNT1_BIND_ERR,
   YD_COUNT2_WINDOW_STALL, YD_COUNT2_REQUEUED, TMR_STAT_TMR_LATE, TMR_STAT_TMR_LATE_MAX, TMR_STAT_TMR_STEPPED,
   QUEUE_STAT_DEPTH, QUEUE_STAT_LANDED, QUEUE_HIST_COUNT, CORE_STAT_CUR_PRIO, CORE_STAT_BUSY,
   CORE_STAT_NEST, CORE_STAT_LOAD, CORE_HIST_COUNT, MB_NOTIFY_EN, MB_NOTIFY_PRIO,
   MB_NOTIFY_FLOW, JCE_NOTIFY_EN, JCE_NOTIFY_PRIO, JCE_NOTIFY_FLOW, NODE_NOTIFY_EN,
   NODE_NOTIFY_PRIO, NODE_NOTIFY_FLOW, ARG0, ARG1, POST_RESULT]

/-- Fields of the COMPUTE domain, part 1. -/
def fieldsCompute1 : List Field :=
  [POST_HDR_PRIO, POST_HDR_FLOW, TAKE_VALID, TAKE_PRIO, TAKE_FLOW,
   TAKE_SRC, TAKE_COUNT, TAKE_TICKET, ITEM_ARG0_ARG0, ITEM_ARG1_ARG1,
   DONE_TICKET, DONE_RESULT, TMR_DEADLINE_US, TMR_ARM_HANDLE, TMR_ARM_FLOW,
   TMR_ARM_PRIO, TMR_ARM_PERIOD, TMR_CANCEL_HANDLE, TMR_RESULT_CODE, FLOW_SEL_FLOW,
   FLOW_CFG_EN, FLOW_CFG_ORDERED, FLOW_CFG_CORE_MASK, FLOW_CFG_NEXT_FLOW, FLOW_CFG_NEXT_EN,
   FLOW_STATE_QUEUED, FLOW_STATE_WINDOW, FLOW_STATE_STALLED, PORT_CTRL_DELIVER_EN, PORT_CTRL_DONE_ERR,
   PORT_CTRL_CFG_REFUSED]

end Sys2Proof.Reg
end

