-- ==== Sys2Proof/Machine/RegMapHost.lean ====
section
/-!
DEFINITION. The register fields of the HOST domain and of the doorbell block of BAR 0, one definition a field, each from the row of the register table
of spec/ that its docstring names: domain, unit, units, base, stride, count, low bit, width, 64-bit register, access,
Reset, Kept by.
-/
namespace Sys2Proof.Reg

/-- `MAILBOX` of `DB_RING` in Doorbell (02, R53). Mailbox rung by the write. -/
def DB_RING_MAILBOX : Field :=
  ⟨7, 8, 0, 1, 0x0, 0x0, 1, 0, 5, false, .wo, 0x0, [], []⟩

/-- `ABORT` of `DB_RING` in Doorbell (02, R53). 1: request abort of that mailbox's command. -/
def DB_RING_ABORT : Field :=
  ⟨8, 8, 0, 1, 0x0, 0x0, 1, 8, 1, false, .wo, 0x0, [], []⟩

/-- `BUSY` of `MB_BUSY` in Doorbell (02, R53). Bit n is 1 while mailbox n is PENDING or BUSY. -/
def MB_BUSY_BUSY : Field :=
  ⟨9, 8, 0, 1, 0x8, 0x0, 1, 0, 32, false, .ro, 0x0, [.l], []⟩

/-- `DONE` of `MB_DONE` in Doorbell (02, R53). Bit n is 1 while mailbox n is DONE; writing 1 returns it to IDLE. -/
def MB_DONE_DONE : Field :=
  ⟨10, 8, 0, 1, 0x10, 0x0, 1, 0, 32, false, .w1c, 0x0, [.l], []⟩

/-- `EPOCH` of `EPOCH` in Doorbell (02, R53). At D, Z exit and a reset of HOST it increases by 1 under R54 instead of taking its Reset value. Reset: 1 at P and W. -/
def EPOCH : Field :=
  ⟨11, 8, 0, 1, 0x18, 0x0, 1, 0, 16, false, .ro, 0x1, [.l], []⟩

/-- `COUNT` of `DB_IGNORED` in Doorbell (02, R53). Doorbells ignored by the rules in "Doorbells and mailbox states". -/
def DB_IGNORED_COUNT : Field :=
  ⟨12, 8, 0, 1, 0x20, 0x0, 1, 0, 16, false, .rc, 0x0, [.l], []⟩

/-- `COUNT` of `WIN_DENIED` in Doorbell (02, R53). Window accesses refused by the grant check. -/
def WIN_DENIED_COUNT : Field :=
  ⟨13, 8, 0, 1, 0x28, 0x0, 1, 0, 16, false, .rc, 0x0, [.l], []⟩

/-- `POINT` of `WIN_LAST` in Doorbell (02, R53). Point index of the last refused window access. -/
def WIN_LAST_POINT : Field :=
  ⟨14, 8, 0, 1, 0x30, 0x0, 1, 0, 20, false, .ro, 0x0, [.l], []⟩

/-- `STATE` of `MB_STATE` in HOST.MBOX (02, R768). 0 IDLE, 1 PENDING, 2 BUSY, 3 DONE. -/
def MB_STATE_STATE : Field :=
  ⟨15, 1, 2, 32, 0x0, 0x0, 1, 0, 2, false, .ro, 0x0, [.l], []⟩

/-- `OWNER` of `MB_STATE` in HOST.MBOX (02, R768). 0 PCIe, 1 SPI, 2 MGMTNET, 3 application cores; mailbox 0 shows its current holder. Reset: per allocation table. -/
def MB_STATE_OWNER : Field :=
  ⟨16, 1, 2, 32, 0x0, 0x0, 1, 2, 2, false, .ro, 0x0, [.l], [(24, 1), (25, 1), (26, 1), (27, 1), (28, 3), (29, 3), (30, 3), (31, 3)]⟩

/-- `VECTOR` of `MB_STATE` in HOST.MBOX (02, R768). MSI-X vector signalled on completion. -/
def MB_STATE_VECTOR : Field :=
  ⟨17, 1, 2, 32, 0x0, 0x0, 1, 8, 6, false, .rw, 0x0, [.l], []⟩

/-- `LAST_STATUS` of `MB_STATE` in HOST.MBOX (02, R768). STATUS of the last response. -/
def MB_STATE_LAST_STATUS : Field :=
  ⟨18, 1, 2, 32, 0x0, 0x0, 1, 16, 16, false, .ro, 0x0, [.l], []⟩

/-- `FRAME_ERR` of `FRAME_ERR` in HOST.SPI (02, R57). Malformed SPI transactions. -/
def SPI_FRAME_ERR : Field :=
  ⟨638, 1, 1, 1, 0x0, 0x0, 1, 0, 32, false, .rc, 0x0, [.l], []⟩

/-- `AUTH_FAIL` of `AUTH_FAIL` in HOST.MGMTNET (02, R63). Datagrams that fail authentication. -/
def MGMT_AUTH_FAIL : Field :=
  ⟨639, 1, 3, 1, 0x0, 0x0, 1, 0, 32, false, .rc, 0x0, [.l], []⟩

/-- `REPLAY` of `REPLAY` in HOST.MGMTNET (02, R63). Datagrams dropped as replays. -/
def MGMT_REPLAY : Field :=
  ⟨640, 1, 3, 1, 0x8, 0x0, 1, 0, 32, false, .rc, 0x0, [.l], []⟩

/-- Fields of the HOST domain, part 0. -/
def fieldsHost0 : List Field :=
  [DB_RING_MAILBOX, DB_RING_ABORT, MB_BUSY_BUSY, MB_DONE_DONE, EPOCH,
   DB_IGNORED_COUNT, WIN_DENIED_COUNT, WIN_LAST_POINT, MB_STATE_STATE, MB_STATE_OWNER,
   MB_STATE_VECTOR, MB_STATE_LAST_STATUS, SPI_FRAME_ERR, MGMT_AUTH_FAIL, MGMT_REPLAY]

end Sys2Proof.Reg
end

