-- ==== Sys2Proof/Machine/RegMapMemory.lean ====
section
/-!
DEFINITION. The register fields of the MEMORY domain, one definition a field, each from the row of the register table
of spec/ that its docstring names: domain, unit, units, base, stride, count, low bit, width, 64-bit register, access,
Reset, Kept by.
-/
namespace Sys2Proof.Reg

/-- `LEVEL` of `ERR_LEVEL` in MEMORY.REGION (20, R638). Records in the FIFO, 0 to 64. -/
def ERR_LEVEL_LEVEL : Field :=
  ⟨503, 2, 4, 1, 0x0, 0x0, 1, 0, 7, false, .ro, 0x0, [.l], []⟩

/-- `ERR_LOST` of `ERR_LEVEL` in MEMORY.REGION (20, R638). Records lost under R632. -/
def ERR_LEVEL_ERR_LOST : Field :=
  ⟨504, 2, 4, 1, 0x0, 0x0, 1, 16, 16, false, .rc, 0x0, [.l], []⟩

/-- `WORD` of `ERR_REC` in MEMORY.REGION (20, R638). Oldest record, words 0 to 3. -/
def ERR_REC_WORD : Field :=
  ⟨505, 2, 4, 1, 0x8, 0x8, 4, 0, 64, true, .ro, 0x0, [.l], []⟩

/-- `POP` of `ERR_POP` in MEMORY.REGION (20, R638). 1 removes the oldest record. -/
def ERR_POP_POP : Field :=
  ⟨506, 2, 4, 1, 0x28, 0x0, 1, 0, 1, false, .wo, 0x0, [], []⟩

/-- `BASE` of `REGION_BASE` in MEMORY.REGION (20, R638). Data-space base, 64-byte aligned. Reset: From flash. -/
def REGION_BASE_BASE : Field :=
  ⟨507, 2, 4, 1, 0x100, 0x20, 64, 0, 48, true, .rw, 0x0, [.l, .m], []⟩

/-- `SIZE` of `REGION_SIZE` in MEMORY.REGION (20, R638). Bytes; 0 for an unused entry. Reset: From flash. -/
def REGION_SIZE_SIZE : Field :=
  ⟨508, 2, 4, 1, 0x108, 0x20, 64, 0, 48, true, .rw, 0x0, [.l, .m], []⟩

/-- `VALID` of `REGION_CFG` in MEMORY.REGION (20, R638). Entry in use. Reset: From flash. -/
def REGION_CFG_VALID : Field :=
  ⟨509, 2, 4, 1, 0x110, 0x20, 64, 0, 1, false, .rw, 0x0, [.l, .m], []⟩

/-- `CLASS` of `REGION_CFG` in MEMORY.REGION (20, R638). 0 heartwood, 1 sapwood. Reset: From flash. -/
def REGION_CFG_CLASS : Field :=
  ⟨510, 2, 4, 1, 0x110, 0x20, 64, 1, 1, false, .rw, 0x0, [.l, .m], []⟩

/-- `KIB_S` of `SCRUB_RATE` in MEMORY.SCRUB (20, R638). R623. -/
def SCRUB_RATE_KIB_S : Field :=
  ⟨511, 2, 5, 1, 0x0, 0x0, 1, 0, 21, false, .rw, 0x10000, [.l], []⟩

/-- `ADDR` of `SCRUB_POS` in MEMORY.SCRUB (20, R638). Next block of the walk. -/
def SCRUB_POS_ADDR : Field :=
  ⟨512, 2, 5, 1, 0x8, 0x0, 1, 0, 48, true, .ro, 0x0, [.l], []⟩

/-- `COUNT` of `SCRUB_PASSES` in MEMORY.SCRUB (20, R638). Completed passes. -/
def SCRUB_PASSES_COUNT : Field :=
  ⟨513, 2, 5, 1, 0x10, 0x0, 1, 0, 32, false, .ro, 0x0, [.l], []⟩

/-- `COUNT` of `SCRUB_CE` in MEMORY.SCRUB (20, R638). Bytes corrected. -/
def SCRUB_CE_COUNT : Field :=
  ⟨514, 2, 5, 1, 0x18, 0x0, 1, 0, 32, false, .rc, 0x0, [.l], []⟩

/-- `COUNT` of `SCRUB_UE` in MEMORY.SCRUB (20, R638). Uncorrectable bytes found. -/
def SCRUB_UE_COUNT : Field :=
  ⟨515, 2, 5, 1, 0x1C, 0x0, 1, 0, 32, false, .rc, 0x0, [.l], []⟩

/-- `LEVEL` of `PRIO_STATUS` in MEMORY.SCRUB (20, R638). Blocks queued, 0 to 64. -/
def PRIO_STATUS_LEVEL : Field :=
  ⟨516, 2, 5, 1, 0x20, 0x0, 1, 0, 7, false, .ro, 0x0, [.l], []⟩

/-- `PRIO_DROP` of `PRIO_STATUS` in MEMORY.SCRUB (20, R638). R625. -/
def PRIO_STATUS_PRIO_DROP : Field :=
  ⟨517, 2, 5, 1, 0x20, 0x0, 1, 16, 16, false, .rc, 0x0, [.l], []⟩

/-- `READY` of `UNIT_STATUS` in Error counters (20, R638). Memory initialised and in use. -/
def UNIT_STATUS_READY : Field :=
  ⟨518, 2, 0, 10, 0x0, 0x0, 1, 0, 1, false, .ro, 0x0, [.l], []⟩

/-- `SELF_REFRESH` of `UNIT_STATUS` in Error counters (20, R638). DRAMC only; 0 elsewhere. -/
def UNIT_STATUS_SELF_REFRESH : Field :=
  ⟨519, 2, 0, 10, 0x0, 0x0, 1, 1, 1, false, .ro, 0x0, [.l], []⟩

/-- `COUNT` of `CE_COUNT` in Error counters (20, R638). Corrected errors, refetches of R617 included. -/
def CE_COUNT_COUNT : Field :=
  ⟨520, 2, 0, 10, 0x8, 0x0, 1, 0, 32, false, .rc, 0x0, [.l], []⟩

/-- `COUNT` of `UE_COUNT` in Error counters (20, R638). Poisoned reads. -/
def UE_COUNT_COUNT : Field :=
  ⟨521, 2, 0, 10, 0xC, 0x0, 1, 0, 32, false, .rc, 0x0, [.l], []⟩

/-- `ADDR` of `LAST_ADDR` in Error counters (20, R638). Address of the last error. -/
def LAST_ADDR_ADDR : Field :=
  ⟨522, 2, 0, 10, 0x10, 0x0, 1, 0, 48, true, .ro, 0x0, [.l], []⟩

/-- `COUNT` of `PARK_ACCESS` in Error counters (20, R638). DRAMC only; R636. -/
def PARK_ACCESS_COUNT : Field :=
  ⟨523, 2, 0, 10, 0x18, 0x0, 1, 0, 32, false, .rc, 0x0, [.l], []⟩

/-- `VALID` of `REMAP_DRAM` in MEMORY.REMAP (20, R638). Writing 1 starts the copy of R629; a write of 0 to a valid word has no effect. Reset: From flash. -/
def REMAP_DRAM_VALID : Field :=
  ⟨524, 2, 6, 1, 0x800, 0x8, 256, 0, 1, true, .rw, 0x0, [.l, .m], []⟩

/-- `BLOCK` of `REMAP_DRAM` in MEMORY.REMAP (20, R638). Data-space block address. Reset: From flash. -/
def REMAP_DRAM_BLOCK : Field :=
  ⟨525, 2, 6, 1, 0x800, 0x8, 256, 6, 42, true, .rw, 0x0, [.l, .m], []⟩

/-- `VALID` of `REMAP_SRAM` in MEMORY.REMAP (20, R638). As for DRAM words. Reset: From flash. -/
def REMAP_SRAM_VALID : Field :=
  ⟨526, 2, 6, 1, 0x1000, 0x8, 1352, 0, 1, false, .rw, 0x0, [.l, .m], []⟩

/-- `ROW` of `REMAP_SRAM` in MEMORY.REMAP (20, R638). Row offset within the group. Reset: From flash. -/
def REMAP_SRAM_ROW : Field :=
  ⟨527, 2, 6, 1, 0x1000, 0x8, 1352, 6, 18, false, .rw, 0x0, [.l, .m], []⟩

/-- Fields of the MEMORY domain, part 0. -/
def fieldsMemory0 : List Field :=
  [ERR_LEVEL_LEVEL, ERR_LEVEL_ERR_LOST, ERR_REC_WORD, ERR_POP_POP, REGION_BASE_BASE,
   REGION_SIZE_SIZE, REGION_CFG_VALID, REGION_CFG_CLASS, SCRUB_RATE_KIB_S, SCRUB_POS_ADDR,
   SCRUB_PASSES_COUNT, SCRUB_CE_COUNT, SCRUB_UE_COUNT, PRIO_STATUS_LEVEL, PRIO_STATUS_PRIO_DROP,
   UNIT_STATUS_READY, UNIT_STATUS_SELF_REFRESH, CE_COUNT_COUNT, UE_COUNT_COUNT, LAST_ADDR_ADDR,
   PARK_ACCESS_COUNT, REMAP_DRAM_VALID, REMAP_DRAM_BLOCK, REMAP_SRAM_VALID, REMAP_SRAM_ROW]

end Sys2Proof.Reg
end

