-- ==== Sys2Proof/Machine/RegMapMotion.lean ====
section
/-!
DEFINITION. The register fields of the MOTION domain, one definition a field, each from the row of the register table
of spec/ that its docstring names: domain, unit, units, base, stride, count, low bit, width, 64-bit register, access,
Reset, Kept by.
-/
namespace Sys2Proof.Reg

/-- `MAP_VALID` of `PTIMG_STATUS` in MOTION.PTIMG (01, R36). 1 while the point map of the active cell image is installed. -/
def PTIMG_STATUS_MAP_VALID : Field :=
  ⟨1, 4, 7, 1, 0x0, 0x0, 1, 0, 1, false, .ro, 0x0, [], []⟩

/-- `MAP_RANGES` of `PTIMG_STATUS` in MOTION.PTIMG (01, R36). Ranges of the installed point map. -/
def PTIMG_STATUS_MAP_RANGES : Field :=
  ⟨2, 4, 7, 1, 0x0, 0x0, 1, 16, 16, false, .ro, 0x0, [], []⟩

/-- `COUNT` of `PT_DENIED_TOTAL` in MOTION.PTIMG (01, R36). Point writes refused under R26, R89, R260 and R766, by all masters. -/
def PT_DENIED_TOTAL_COUNT : Field :=
  ⟨3, 4, 7, 1, 0x8, 0x0, 1, 0, 32, false, .rc, 0x0, [], []⟩

/-- `POINT` of `PT_LAST_DENIED` in MOTION.PTIMG (01, R36). Point of the last refused write. -/
def PT_LAST_DENIED_POINT : Field :=
  ⟨4, 4, 7, 1, 0x10, 0x0, 1, 0, 20, false, .ro, 0x0, [], []⟩

/-- `MASTER` of `PT_LAST_DENIED` in MOTION.PTIMG (01, R36). 0 JCE cluster port, 1 PCIe, 2 application core, 3 Ranger, 4 other. -/
def PT_LAST_DENIED_MASTER : Field :=
  ⟨5, 4, 7, 1, 0x10, 0x0, 1, 20, 4, false, .ro, 0x0, [], []⟩

/-- `COUNT` of `HALF_DROP` in MOTION.PTIMG (01, R36). Held low halves discarded, and high halves written without a held low half. -/
def HALF_DROP_COUNT : Field :=
  ⟨6, 4, 7, 1, 0x18, 0x0, 1, 0, 32, false, .rc, 0x0, [], []⟩

/-- `STATE` of `JCE_STATE` in MOTION.JCE (07, R268). 0 STOPPED, 1 RUNNING, 2 TRAPPED, 3 HALTED. -/
def JCE_STATE_STATE : Field :=
  ⟨72, 4, 0, 64, 0x0, 0x0, 1, 0, 2, false, .ro, 0x0, [], []⟩

/-- `PC` of `JCE_STATE` in MOTION.JCE (07, R268). Program counter; for TRAPPED, the failing instruction. -/
def JCE_STATE_PC : Field :=
  ⟨73, 4, 0, 64, 0x0, 0x0, 1, 4, 12, false, .ro, 0x0, [], []⟩

/-- `TRAP_CAUSE` of `JCE_STATE` in MOTION.JCE (07, R268). Cause of the last trap. -/
def JCE_STATE_TRAP_CAUSE : Field :=
  ⟨74, 4, 0, 64, 0x0, 0x0, 1, 16, 4, false, .ro, 0x0, [], []⟩

/-- `TRAP_CODE` of `JCE_STATE` in MOTION.JCE (07, R268). n of the last TRAP. -/
def JCE_STATE_TRAP_CODE : Field :=
  ⟨75, 4, 0, 64, 0x0, 0x0, 1, 24, 8, false, .ro, 0x0, [], []⟩

/-- `START` of `JCE_CTRL` in MOTION.JCE (07, R268). 1 starts a STOPPED engine that holds a program, at its next tick or at once with no source. -/
def JCE_CTRL_START : Field :=
  ⟨76, 4, 0, 64, 0x8, 0x0, 1, 0, 1, false, .wo, 0x0, [], []⟩

/-- `STOP` of `JCE_CTRL` in MOTION.JCE (07, R268). 1 stops the engine; outputs as in R264. -/
def JCE_CTRL_STOP : Field :=
  ⟨77, 4, 0, 64, 0x8, 0x0, 1, 1, 1, false, .wo, 0x0, [], []⟩

/-- `SRC` of `JCE_TICK` in MOTION.JCE (07, R268). 0 none, 1 PWM period start, 2 cycle division; 3 acts as 0, and 1 acts as 0 on an engine without PWM pairs. -/
def JCE_TICK_SRC : Field :=
  ⟨78, 4, 0, 64, 0x10, 0x0, 1, 0, 2, false, .rw, 0x0, [], []⟩

/-- `PAIR` of `JCE_TICK` in MOTION.JCE (07, R268). Local pair 0 to 11 for SRC 1; 12 to 15 make SRC 1 act as 0. -/
def JCE_TICK_PAIR : Field :=
  ⟨79, 4, 0, 64, 0x10, 0x0, 1, 4, 4, false, .rw, 0x0, [], []⟩

/-- `DIV` of `JCE_TICK` in MOTION.JCE (07, R268). 1 to 32 for SRC 2; 0 acts as 1, and 33 to 63 act as 32. -/
def JCE_TICK_DIV : Field :=
  ⟨80, 4, 0, 64, 0x10, 0x0, 1, 8, 6, false, .rw, 0x1, [], []⟩

/-- `LOOP_OVERRUN` of `JCE_FLAGS` in MOTION.JCE (07, R268). A tick arrived with one pending. -/
def JCE_FLAGS_LOOP_OVERRUN : Field :=
  ⟨81, 4, 0, 64, 0x18, 0x0, 1, 0, 1, false, .w1c, 0x0, [], []⟩

/-- `PT_DENIED` of `JCE_FLAGS` in MOTION.JCE (07, R268). A PTWR was refused. -/
def JCE_FLAGS_PT_DENIED : Field :=
  ⟨82, 4, 0, 64, 0x18, 0x0, 1, 1, 1, false, .w1c, 0x0, [], []⟩

/-- `IND_REFUSED` of `JCE_FLAGS` in MOTION.JCE (07, R268). An indirect write was refused. -/
def JCE_FLAGS_IND_REFUSED : Field :=
  ⟨83, 4, 0, 64, 0x18, 0x0, 1, 2, 1, false, .w1c, 0x0, [], []⟩

/-- `COUNT` of `OVERRUN_COUNT` in MOTION.JCE (07, R268). Periods that overran. -/
def OVERRUN_COUNT_COUNT : Field :=
  ⟨84, 4, 0, 64, 0x20, 0x0, 1, 0, 32, false, .rc, 0x0, [], []⟩

/-- `COUNT` of `TICK_MISSED` in MOTION.JCE (07, R268). Ticks merged into a pending tick. -/
def TICK_MISSED_COUNT : Field :=
  ⟨85, 4, 0, 64, 0x24, 0x0, 1, 0, 32, false, .rc, 0x0, [], []⟩

/-- `COUNT` of `PT_DENIED_COUNT` in MOTION.JCE (07, R268). Refused PTWR. -/
def PT_DENIED_COUNT_COUNT : Field :=
  ⟨86, 4, 0, 64, 0x28, 0x0, 1, 0, 16, false, .rc, 0x0, [], []⟩

/-- `POINT` of `PT_LAST` in MOTION.JCE (07, R268). Last refused point. -/
def PT_LAST_POINT : Field :=
  ⟨87, 4, 0, 64, 0x2C, 0x0, 1, 0, 20, false, .ro, 0x0, [], []⟩

/-- `CYCLES` of `BUSY_LAST` in MOTION.JCE (07, R268). Cycles from the last tick to the WAITEV that ended its period. -/
def BUSY_LAST_CYCLES : Field :=
  ⟨88, 4, 0, 64, 0x30, 0x0, 1, 0, 32, false, .ro, 0x0, [], []⟩

/-- `CYCLES` of `BUSY_MAX` in MOTION.JCE (07, R268). Largest BUSY_LAST. -/
def BUSY_MAX_CYCLES : Field :=
  ⟨89, 4, 0, 64, 0x34, 0x0, 1, 0, 32, false, .rc, 0x0, [], []⟩

/-- `N` of `SIG_LAST` in MOTION.JCE (07, R268). n of the last SIGEV. -/
def SIG_LAST_N : Field :=
  ⟨90, 4, 0, 64, 0x38, 0x0, 1, 0, 8, false, .ro, 0x0, [], []⟩

/-- `ADDR` of `IND_ADDR` in MOTION.JCE (07, R268). Word address. -/
def IND_ADDR_ADDR : Field :=
  ⟨91, 4, 0, 64, 0x40, 0x0, 1, 0, 14, false, .rw, 0x0, [], []⟩

/-- `SPACE` of `IND_ADDR` in MOTION.JCE (07, R268). 0 data memory, 1 instruction memory. -/
def IND_ADDR_SPACE : Field :=
  ⟨92, 4, 0, 64, 0x40, 0x0, 1, 16, 1, false, .rw, 0x0, [], []⟩

/-- `INC` of `IND_ADDR` in MOTION.JCE (07, R268). Advance after each access. -/
def IND_ADDR_INC : Field :=
  ⟨93, 4, 0, 64, 0x40, 0x0, 1, 17, 1, false, .rw, 0x0, [], []⟩

/-- `DATA` of `IND_DATA` in MOTION.JCE (07, R268). Word at ADDR. -/
def IND_DATA_DATA : Field :=
  ⟨94, 4, 0, 64, 0x48, 0x0, 1, 0, 32, false, .rw, 0x0, [], []⟩

/-- `LEVEL` of `STAGE_LEVEL` in MOTION.JCE (07, R268). Staged parameter writes, 0 to 64. -/
def STAGE_LEVEL_LEVEL : Field :=
  ⟨95, 4, 0, 64, 0x50, 0x0, 1, 0, 7, false, .ro, 0x0, [], []⟩

/-- `SLOT` of `PROG_SLOT` in MOTION.JCE (07, R268). Assigned program slot. -/
def PROG_SLOT_SLOT : Field :=
  ⟨96, 4, 0, 64, 0x60, 0x0, 1, 0, 2, false, .ro, 0x0, [], []⟩

/-- `ASSIGNED` of `PROG_SLOT` in MOTION.JCE (07, R268). 1 when a program is assigned. -/
def PROG_SLOT_ASSIGNED : Field :=
  ⟨97, 4, 0, 64, 0x60, 0x0, 1, 7, 1, false, .ro, 0x0, [], []⟩

/-- `SEC_VERSION` of `PROG_SLOT` in MOTION.JCE (07, R268). Security version of the loaded program. -/
def PROG_SLOT_SEC_VERSION : Field :=
  ⟨98, 4, 0, 64, 0x60, 0x0, 1, 16, 16, false, .ro, 0x0, [], []⟩

/-- `VERSION` of `PROG_VERSION` in MOTION.JCE (07, R268). Version of the loaded program. -/
def PROG_VERSION_VERSION : Field :=
  ⟨99, 4, 0, 64, 0x64, 0x0, 1, 0, 32, false, .ro, 0x0, [], []⟩

/-- `MODE` of `FB_CFG` in MOTION.FB (09, R349). Mode of R320; 6 and 7 act as 0. -/
def FB_CFG_MODE : Field :=
  ⟨100, 4, 1, 64, 0x0, 0x0, 1, 0, 3, false, .rw, 0x0, [.l], []⟩

/-- `DIR_INV` of `FB_CFG` in MOTION.FB (09, R349). Reverses every count. -/
def FB_CFG_DIR_INV : Field :=
  ⟨101, 4, 1, 64, 0x0, 0x0, 1, 3, 1, false, .rw, 0x0, [.l], []⟩

/-- `A_INV` of `FB_CFG` in MOTION.FB (09, R349). Invert A, B, Z after the filter. -/
def FB_CFG_A_INV : Field :=
  ⟨102, 4, 1, 64, 0x0, 0x0, 1, 4, 1, false, .rw, 0x0, [.l], []⟩

/-- `B_INV` of `FB_CFG` in MOTION.FB (09, R349). Invert A, B, Z after the filter. -/
def FB_CFG_B_INV : Field :=
  ⟨103, 4, 1, 64, 0x0, 0x0, 1, 5, 1, false, .rw, 0x0, [.l], []⟩

/-- `Z_INV` of `FB_CFG` in MOTION.FB (09, R349). Invert A, B, Z after the filter. -/
def FB_CFG_Z_INV : Field :=
  ⟨104, 4, 1, 64, 0x0, 0x0, 1, 6, 1, false, .rw, 0x0, [.l], []⟩

/-- `STEP_EDGE` of `FB_CFG` in MOTION.FB (09, R349). STEPDIR active edge: 0 rising, 1 falling. -/
def FB_CFG_STEP_EDGE : Field :=
  ⟨105, 4, 1, 64, 0x0, 0x0, 1, 7, 1, false, .rw, 0x0, [.l], []⟩

/-- `FILT_N` of `FB_CFG` in MOTION.FB (09, R349). Filter length 1 to 64; 0 acts as 1. -/
def FB_CFG_FILT_N : Field :=
  ⟨106, 4, 1, 64, 0x0, 0x0, 1, 8, 6, false, .rw, 0x4, [.l], []⟩

/-- `ILLEGAL_MAX` of `FB_CFG` in MOTION.FB (09, R349). Error events per window for a fault, 1 to 15; 0 acts as 1. -/
def FB_CFG_ILLEGAL_MAX : Field :=
  ⟨107, 4, 1, 64, 0x0, 0x0, 1, 16, 4, false, .rw, 0x1, [.l], []⟩

/-- `STILL_T` of `FB_TIMING` in MOTION.FB (09, R349). Standstill time in µs, 100 to 1,000,000; out-of-range values clamp. -/
def FB_TIMING_STILL_T : Field :=
  ⟨108, 4, 1, 64, 0x8, 0x0, 1, 0, 20, true, .rw, 0x2710, [.l], []⟩

/-- `ERR_WIN` of `FB_TIMING` in MOTION.FB (09, R349). Error window in µs, 100 to 1,000,000; out-of-range values clamp. -/
def FB_TIMING_ERR_WIN : Field :=
  ⟨109, 4, 1, 64, 0x8, 0x0, 1, 32, 20, true, .rw, 0x2710, [.l], []⟩

/-- `LIMIT` of `CNT_LO` in MOTION.FB (09, R349). Lower limit, signed. -/
def CNT_LO_LIMIT : Field :=
  ⟨110, 4, 1, 64, 0x10, 0x0, 1, 0, 48, true, .rw, 0x800000000000, [.l], []⟩

/-- `LIMIT` of `CNT_HI` in MOTION.FB (09, R349). Upper limit, signed. -/
def CNT_HI_LIMIT : Field :=
  ⟨111, 4, 1, 64, 0x18, 0x0, 1, 0, 48, true, .rw, 0x7FFFFFFFFFFF, [.l], []⟩

/-- `COUNT` of `POS` in MOTION.FB (09, R349). Counter; a write presets it under R331. -/
def POS_COUNT : Field :=
  ⟨112, 4, 1, 64, 0x20, 0x0, 1, 0, 48, true, .rw, 0x0, [.l], []⟩

/-- `NEWER` of `POS` in MOTION.FB (09, R349). R346. -/
def POS_NEWER : Field :=
  ⟨113, 4, 1, 64, 0x20, 0x0, 1, 63, 1, true, .ro, 0x0, [.l], []⟩

/-- `VALUE` of `SPEED` in MOTION.FB (09, R349). Speed, Q31.16 counts/s. -/
def SPEED_VALUE : Field :=
  ⟨114, 4, 1, 64, 0x28, 0x0, 1, 0, 48, true, .ro, 0x0, [.l], []⟩

/-- `NEWER` of `SPEED` in MOTION.FB (09, R349). R346. -/
def SPEED_NEWER : Field :=
  ⟨115, 4, 1, 64, 0x28, 0x0, 1, 63, 1, true, .ro, 0x0, [.l], []⟩

/-- `SPEED_VALID` of `FB_STATUS` in MOTION.FB (09, R349). R341, R343. -/
def FB_STATUS_SPEED_VALID : Field :=
  ⟨116, 4, 1, 64, 0x30, 0x0, 1, 0, 1, false, .ro, 0x0, [.l], []⟩

/-- `STILL` of `FB_STATUS` in MOTION.FB (09, R349). R342. -/
def FB_STATUS_STILL : Field :=
  ⟨117, 4, 1, 64, 0x30, 0x0, 1, 1, 1, false, .ro, 0x1, [.l], []⟩

/-- `DIR` of `FB_STATUS` in MOTION.FB (09, R349). Direction of the last count: 0 up, 1 down. -/
def FB_STATUS_DIR : Field :=
  ⟨118, 4, 1, 64, 0x30, 0x0, 1, 2, 1, false, .ro, 0x0, [.l], []⟩

/-- `SAT_LO` of `FB_STATUS` in MOTION.FB (09, R349). Held at CNT_LO. -/
def FB_STATUS_SAT_LO : Field :=
  ⟨119, 4, 1, 64, 0x30, 0x0, 1, 3, 1, false, .ro, 0x0, [.l], []⟩

/-- `SAT_HI` of `FB_STATUS` in MOTION.FB (09, R349). Held at CNT_HI. -/
def FB_STATUS_SAT_HI : Field :=
  ⟨120, 4, 1, 64, 0x30, 0x0, 1, 4, 1, false, .ro, 0x0, [.l], []⟩

/-- `A` of `FB_STATUS` in MOTION.FB (09, R349). Filtered levels after inversion. -/
def FB_STATUS_A : Field :=
  ⟨121, 4, 1, 64, 0x30, 0x0, 1, 5, 1, false, .ro, 0x0, [.l], []⟩

/-- `B` of `FB_STATUS` in MOTION.FB (09, R349). Filtered levels after inversion. -/
def FB_STATUS_B : Field :=
  ⟨122, 4, 1, 64, 0x30, 0x0, 1, 6, 1, false, .ro, 0x0, [.l], []⟩

/-- `Z` of `FB_STATUS` in MOTION.FB (09, R349). Filtered levels after inversion. -/
def FB_STATUS_Z : Field :=
  ⟨123, 4, 1, 64, 0x30, 0x0, 1, 7, 1, false, .ro, 0x0, [.l], []⟩

/-- `AMP_OK` of `FB_STATUS` in MOTION.FB (09, R349). Latest sin/cos sample inside the window. -/
def FB_STATUS_AMP_OK : Field :=
  ⟨124, 4, 1, 64, 0x30, 0x0, 1, 8, 1, false, .ro, 0x0, [.l], []⟩

/-- `COND` of `FB_STATUS` in MOTION.FB (09, R349). Fault condition of R327 present. -/
def FB_STATUS_COND : Field :=
  ⟨125, 4, 1, 64, 0x30, 0x0, 1, 9, 1, false, .ro, 0x0, [.l], []⟩

/-- `FAULT` of `FB_FLAGS` in MOTION.FB (09, R349). R326, R327. -/
def FB_FLAGS_FAULT : Field :=
  ⟨126, 4, 1, 64, 0x38, 0x0, 1, 0, 1, false, .w1c, 0x0, [.l], []⟩

/-- `ILLEGAL_SEEN` of `FB_FLAGS` in MOTION.FB (09, R349). An illegal transition or step occurred. -/
def FB_FLAGS_ILLEGAL_SEEN : Field :=
  ⟨127, 4, 1, 64, 0x38, 0x0, 1, 1, 1, false, .w1c, 0x0, [.l], []⟩

/-- `AMP_SEEN` of `FB_FLAGS` in MOTION.FB (09, R349). An amplitude error occurred. -/
def FB_FLAGS_AMP_SEEN : Field :=
  ⟨128, 4, 1, 64, 0x38, 0x0, 1, 2, 1, false, .w1c, 0x0, [.l], []⟩

/-- `SSI_SEEN` of `FB_FLAGS` in MOTION.FB (09, R349). An SSI frame was rejected. -/
def FB_FLAGS_SSI_SEEN : Field :=
  ⟨129, 4, 1, 64, 0x38, 0x0, 1, 3, 1, false, .w1c, 0x0, [.l], []⟩

/-- `SAT_SEEN` of `FB_FLAGS` in MOTION.FB (09, R349). A count was dropped at a limit. -/
def FB_FLAGS_SAT_SEEN : Field :=
  ⟨130, 4, 1, 64, 0x38, 0x0, 1, 4, 1, false, .w1c, 0x0, [.l], []⟩

/-- `INDEX_SEEN` of `FB_FLAGS` in MOTION.FB (09, R349). An index was latched. -/
def FB_FLAGS_INDEX_SEEN : Field :=
  ⟨131, 4, 1, 64, 0x38, 0x0, 1, 5, 1, false, .w1c, 0x0, [.l], []⟩

/-- `PARK_GAP` of `FB_FLAGS` in MOTION.FB (09, R349). R348. -/
def FB_FLAGS_PARK_GAP : Field :=
  ⟨132, 4, 1, 64, 0x38, 0x0, 1, 6, 1, false, .w1c, 0x0, [.l], []⟩

/-- `QUAL_SEEN` of `FB_FLAGS` in MOTION.FB (09, R349). A sin/cos pair was skipped. -/
def FB_FLAGS_QUAL_SEEN : Field :=
  ⟨133, 4, 1, 64, 0x38, 0x0, 1, 7, 1, false, .w1c, 0x0, [.l], []⟩

/-- `COUNT` of `ILLEGAL_EDGE` in MOTION.FB (09, R349). Illegal transitions and steps. -/
def ILLEGAL_EDGE_COUNT : Field :=
  ⟨134, 4, 1, 64, 0x40, 0x0, 1, 0, 32, false, .rc, 0x0, [.l], []⟩

/-- `COUNT` of `AMP_ERR` in MOTION.FB (09, R349). Rejected sin/cos samples. -/
def AMP_ERR_COUNT : Field :=
  ⟨135, 4, 1, 64, 0x48, 0x0, 1, 0, 32, false, .rc, 0x0, [.l], []⟩

/-- `COUNT` of `SSI_ERR` in MOTION.FB (09, R349). Rejected SSI frames. -/
def SSI_ERR_COUNT : Field :=
  ⟨136, 4, 1, 64, 0x50, 0x0, 1, 0, 32, false, .rc, 0x0, [.l], []⟩

/-- `COUNT` of `SAT_DROPPED` in MOTION.FB (09, R349). Counts not accumulated at limits. -/
def SAT_DROPPED_COUNT : Field :=
  ⟨137, 4, 1, 64, 0x58, 0x0, 1, 0, 32, false, .rc, 0x0, [.l], []⟩

/-- `COUNT` of `QUAL_SKIP` in MOTION.FB (09, R349). Skipped sin/cos pairs. -/
def QUAL_SKIP_COUNT : Field :=
  ⟨138, 4, 1, 64, 0x60, 0x0, 1, 0, 32, false, .rc, 0x0, [.l], []⟩

/-- `INDEX_MODE` of `INDEX_CTRL` in MOTION.FB (09, R349). 0 off, 1 once, 2 every; 3 acts as 0. -/
def INDEX_CTRL_INDEX_MODE : Field :=
  ⟨139, 4, 1, 64, 0x80, 0x0, 1, 0, 2, false, .rw, 0x0, [.l], []⟩

/-- `INDEX_QUAL` of `INDEX_CTRL` in MOTION.FB (09, R349). QUAD: qualify with A = B = 1. -/
def INDEX_CTRL_INDEX_QUAL : Field :=
  ⟨140, 4, 1, 64, 0x80, 0x0, 1, 2, 1, false, .rw, 0x0, [.l], []⟩

/-- `ARM` of `INDEX_CTRL` in MOTION.FB (09, R349). 1 arms a once-latch. -/
def INDEX_CTRL_ARM : Field :=
  ⟨141, 4, 1, 64, 0x80, 0x0, 1, 3, 1, false, .wo, 0x0, [], []⟩

/-- `ARMED` of `INDEX_CTRL` in MOTION.FB (09, R349). A once-latch is waiting. -/
def INDEX_CTRL_ARMED : Field :=
  ⟨142, 4, 1, 64, 0x80, 0x0, 1, 4, 1, false, .ro, 0x0, [.l], []⟩

/-- `COUNT` of `INDEX_POS` in MOTION.FB (09, R349). Latched counter; [62:48] sign, [63] NEWER. -/
def INDEX_POS_COUNT : Field :=
  ⟨143, 4, 1, 64, 0x88, 0x0, 1, 0, 48, true, .ro, 0x0, [.l], []⟩

/-- `COUNT` of `INDEX_COUNT` in MOTION.FB (09, R349). Index events latched. -/
def INDEX_COUNT_COUNT : Field :=
  ⟨144, 4, 1, 64, 0x90, 0x0, 1, 0, 32, false, .rc, 0x0, [.l], []⟩

/-- `COUNT` of `SNAP_POS` in MOTION.FB (09, R349). Snapshot counter; [62:48] sign, [63] NEWER. -/
def SNAP_POS_COUNT : Field :=
  ⟨145, 4, 1, 64, 0xA0, 0x0, 1, 0, 48, true, .ro, 0x0, [.l], []⟩

/-- `VALUE` of `SNAP_SPEED` in MOTION.FB (09, R349). Snapshot speed, Q31.16; [62:48] sign, [63] NEWER. -/
def SNAP_SPEED_VALUE : Field :=
  ⟨146, 4, 1, 64, 0xA8, 0x0, 1, 0, 48, true, .ro, 0x0, [.l], []⟩

/-- `STATE` of `SNAP_STATUS` in MOTION.FB (09, R349). FB_STATUS [4:0] at the snapshot. -/
def SNAP_STATUS_STATE : Field :=
  ⟨147, 4, 1, 64, 0xB0, 0x0, 1, 0, 5, false, .ro, 0x2, [.l], []⟩

/-- `CYCLE` of `SNAP_STATUS` in MOTION.FB (09, R349). Low 16 bits of the Geyser cycle count. -/
def SNAP_STATUS_CYCLE : Field :=
  ⟨148, 4, 1, 64, 0xB0, 0x0, 1, 16, 16, false, .ro, 0x0, [.l], []⟩

/-- `VALUE` of `SNAP_DSPEED` in MOTION.FB (09, R349). Position-difference speed, Q31.16; [62:48] sign, [63] NEWER. -/
def SNAP_DSPEED_VALUE : Field :=
  ⟨149, 4, 1, 64, 0xB8, 0x0, 1, 0, 48, true, .ro, 0x0, [.l], []⟩

/-- `SIN_CV` of `SINCOS_CFG` in MOTION.FB (09, R349). Converter of sin. -/
def SINCOS_CFG_SIN_CV : Field :=
  ⟨150, 4, 1, 64, 0xC0, 0x0, 1, 0, 4, false, .rw, 0x0, [.l], []⟩

/-- `SIN_IN` of `SINCOS_CFG` in MOTION.FB (09, R349). Input 0 to 7 of that converter. -/
def SINCOS_CFG_SIN_IN : Field :=
  ⟨151, 4, 1, 64, 0xC0, 0x0, 1, 4, 3, false, .rw, 0x0, [.l], []⟩

/-- `COS_CV` of `SINCOS_CFG` in MOTION.FB (09, R349). Converter of cos. -/
def SINCOS_CFG_COS_CV : Field :=
  ⟨152, 4, 1, 64, 0xC0, 0x0, 1, 8, 4, false, .rw, 0x0, [.l], []⟩

/-- `COS_IN` of `SINCOS_CFG` in MOTION.FB (09, R349). Input 0 to 7 of that converter. -/
def SINCOS_CFG_COS_IN : Field :=
  ⟨153, 4, 1, 64, 0xC0, 0x0, 1, 12, 3, false, .rw, 0x0, [.l], []⟩

/-- `ENTRY` of `SINCOS_CFG` in MOTION.FB (09, R349). Regular sequence entry 0 to 31. -/
def SINCOS_CFG_ENTRY : Field :=
  ⟨154, 4, 1, 64, 0xC0, 0x0, 1, 16, 5, false, .rw, 0x0, [.l], []⟩

/-- `AMP_MIN` of `AMP_WIN` in MOTION.FB (09, R349). Lower amplitude, 0 to 8,191. -/
def AMP_WIN_AMP_MIN : Field :=
  ⟨155, 4, 1, 64, 0xC8, 0x0, 1, 0, 13, false, .rw, 0x0, [.l], []⟩

/-- `AMP_MAX` of `AMP_WIN` in MOTION.FB (09, R349). Upper amplitude, 0 to 8,191. -/
def AMP_WIN_AMP_MAX : Field :=
  ⟨156, 4, 1, 64, 0xC8, 0x0, 1, 16, 13, false, .rw, 0x1FFF, [.l], []⟩

/-- `SIN` of `SINCOS_RAW` in MOTION.FB (09, R349). Latest sin result. -/
def SINCOS_RAW_SIN : Field :=
  ⟨157, 4, 1, 64, 0xD0, 0x0, 1, 0, 14, true, .ro, 0x0, [.l], []⟩

/-- `COS` of `SINCOS_RAW` in MOTION.FB (09, R349). Latest cos result. -/
def SINCOS_RAW_COS : Field :=
  ⟨158, 4, 1, 64, 0xD0, 0x0, 1, 16, 14, true, .ro, 0x0, [.l], []⟩

/-- `ANGLE` of `SINCOS_RAW` in MOTION.FB (09, R349). Latest accepted angle, 0 to 4,095. -/
def SINCOS_RAW_ANGLE : Field :=
  ⟨159, 4, 1, 64, 0xD0, 0x0, 1, 32, 12, true, .ro, 0x0, [.l], []⟩

/-- `BITS` of `SSI_CFG` in MOTION.FB (09, R349). Data bits 8 to 48; out-of-range values clamp. -/
def SSI_CFG_BITS : Field :=
  ⟨160, 4, 1, 64, 0xE0, 0x0, 1, 0, 6, false, .rw, 0x18, [.l], []⟩

/-- `GRAY` of `SSI_CFG` in MOTION.FB (09, R349). Gray-coded word. -/
def SSI_CFG_GRAY : Field :=
  ⟨161, 4, 1, 64, 0xE0, 0x0, 1, 6, 1, false, .rw, 0x0, [.l], []⟩

/-- `PARITY` of `SSI_CFG` in MOTION.FB (09, R349). Even-parity bit follows the data. -/
def SSI_CFG_PARITY : Field :=
  ⟨162, 4, 1, 64, 0xE0, 0x0, 1, 7, 1, false, .rw, 0x0, [.l], []⟩

/-- `SSI_DIV` of `SSI_CFG` in MOTION.FB (09, R349). Clock half-period in 8 ns units, 7 to 625; out-of-range values clamp. -/
def SSI_CFG_SSI_DIV : Field :=
  ⟨163, 4, 1, 64, 0xE0, 0x0, 1, 8, 10, false, .rw, 0x3F, [.l], []⟩

/-- `WORD` of `SSI_RAW` in MOTION.FB (09, R349). Latest accepted word, binary. -/
def SSI_RAW_WORD : Field :=
  ⟨164, 4, 1, 64, 0xE8, 0x0, 1, 0, 48, true, .ro, 0x0, [.l], []⟩

/-- `MODE` of `PWM_CFG` in MOTION.PWM (10, R377). 0 edge-aligned, 1 centre-aligned. -/
def PWM_CFG_MODE : Field :=
  ⟨165, 4, 2, 96, 0x0, 0x0, 1, 0, 1, false, .rw, 0x0, [], []⟩

/-- `LOCK` of `PWM_CFG` in MOTION.PWM (10, R377). Period starts locked to the common instant. -/
def PWM_CFG_LOCK : Field :=
  ⟨166, 4, 2, 96, 0x0, 0x0, 1, 1, 1, false, .rw, 0x0, [], []⟩

/-- `SAFE` of `PWM_CFG` in MOTION.PWM (10, R377). Safe state: 0 OFF, 1 LOW_CLAMP. -/
def PWM_CFG_SAFE : Field :=
  ⟨167, 4, 2, 96, 0x0, 0x0, 1, 2, 1, false, .rw, 0x0, [], []⟩

/-- `MIN_POLICY` of `PWM_CFG` in MOTION.PWM (10, R377). 0 DROP, 1 EXTEND. -/
def PWM_CFG_MIN_POLICY : Field :=
  ⟨168, 4, 2, 96, 0x0, 0x0, 1, 3, 1, false, .rw, 0x0, [], []⟩

/-- `MIN_PULSE` of `PWM_CFG` in MOTION.PWM (10, R377). Minimum on-time, coarse counts 0 to 1,023. -/
def PWM_CFG_MIN_PULSE : Field :=
  ⟨169, 4, 2, 96, 0x0, 0x0, 1, 4, 10, false, .rw, 0x0, [], []⟩

/-- `DT_RISE` of `PWM_DEAD` in MOTION.PWM (10, R377). High-side dead time: [16:5] coarse 0 to 4,095, [4:0] fine. -/
def PWM_DEAD_DT_RISE : Field :=
  ⟨170, 4, 2, 96, 0x8, 0x0, 1, 0, 17, true, .rw, 0x0, [], []⟩

/-- `DT_FALL` of `PWM_DEAD` in MOTION.PWM (10, R377). Low-side dead time, as DT_RISE. -/
def PWM_DEAD_DT_FALL : Field :=
  ⟨171, 4, 2, 96, 0x8, 0x0, 1, 32, 17, true, .rw, 0x0, [], []⟩

/-- `DUTY` of `PWM_SET` in MOTION.PWM (10, R377). D in fine units. -/
def PWM_SET_DUTY : Field :=
  ⟨172, 4, 2, 96, 0x10, 0x0, 1, 0, 21, true, .rw, 0x0, [], []⟩

/-- `PER` of `PWM_SET` in MOTION.PWM (10, R377). P in fine units, 2,048 to 0x1F_FFFF. -/
def PWM_SET_PER : Field :=
  ⟨173, 4, 2, 96, 0x10, 0x0, 1, 32, 21, true, .rw, 0x800, [], []⟩

/-- `FORCE` of `PWM_CTRL` in MOTION.PWM (10, R377). Software cause of the safe state. -/
def PWM_CTRL_FORCE : Field :=
  ⟨174, 4, 2, 96, 0x18, 0x0, 1, 0, 1, false, .rw, 0x1, [], []⟩

/-- `STO_MODE` of `PWM_CTRL` in MOTION.PWM (10, R377). Mode cause, Ranger only. -/
def PWM_CTRL_STO_MODE : Field :=
  ⟨175, 4, 2, 96, 0x18, 0x0, 1, 1, 1, false, .rw, 0x1, [], []⟩

/-- `FORCED` of `PWM_STATUS` in MOTION.PWM (10, R377). Outputs in the safe state. -/
def PWM_STATUS_FORCED : Field :=
  ⟨176, 4, 2, 96, 0x20, 0x0, 1, 0, 1, false, .ro, 0x1, [], []⟩

/-- `CAUSES` of `PWM_STATUS` in MOTION.PWM (10, R377). Present causes: [1] FORCE, [2] STO_MODE, [3] CALDERA, [4] TRIP, [5] ENGINE, [6] CLK. -/
def PWM_STATUS_CAUSES : Field :=
  ⟨177, 4, 2, 96, 0x20, 0x0, 1, 1, 6, false, .ro, 0x3, [], []⟩

/-- `H_ON` of `PWM_STATUS` in MOTION.PWM (10, R377). High-side switch on. -/
def PWM_STATUS_H_ON : Field :=
  ⟨178, 4, 2, 96, 0x20, 0x0, 1, 7, 1, false, .ro, 0x0, [], []⟩

/-- `L_ON` of `PWM_STATUS` in MOTION.PWM (10, R377). Low-side switch on. -/
def PWM_STATUS_L_ON : Field :=
  ⟨179, 4, 2, 96, 0x20, 0x0, 1, 8, 1, false, .ro, 0x0, [], []⟩

/-- `DOWN` of `PWM_STATUS` in MOTION.PWM (10, R377). Counter counting down. -/
def PWM_STATUS_DOWN : Field :=
  ⟨180, 4, 2, 96, 0x20, 0x0, 1, 9, 1, false, .ro, 0x0, [], []⟩

/-- `COUNT` of `PWM_STATUS` in MOTION.PWM (10, R377). Counter, coarse counts. -/
def PWM_STATUS_COUNT : Field :=
  ⟨181, 4, 2, 96, 0x20, 0x0, 1, 16, 16, false, .ro, 0x0, [], []⟩

/-- `TRIP_MASK` of `PWM_TRIP` in MOTION.PWM (10, R377). Trips acting on the pair; Ranger only. -/
def PWM_TRIP_TRIP_MASK : Field :=
  ⟨182, 4, 2, 96, 0x28, 0x0, 1, 0, 16, true, .rw, 0x0, [], []⟩

/-- `TRIP_SRC` of `PWM_TRIP` in MOTION.PWM (10, R377). Named trips that were active at the latch. -/
def PWM_TRIP_TRIP_SRC : Field :=
  ⟨183, 4, 2, 96, 0x28, 0x0, 1, 16, 16, true, .ro, 0x0, [], []⟩

/-- `TRIP_LATCHED` of `PWM_TRIP` in MOTION.PWM (10, R377). Trip latched. -/
def PWM_TRIP_TRIP_LATCHED : Field :=
  ⟨184, 4, 2, 96, 0x28, 0x0, 1, 32, 1, true, .ro, 0x0, [], []⟩

/-- `TRIP_CLEAR` of `PWM_TRIP` in MOTION.PWM (10, R377). 1 requests a clear under R373. -/
def PWM_TRIP_TRIP_CLEAR : Field :=
  ⟨185, 4, 2, 96, 0x28, 0x0, 1, 33, 1, true, .wo, 0x0, [], []⟩

/-- `CLEAR_REFUSED` of `PWM_FLAGS` in MOTION.PWM (10, R377). A trip clear was refused. -/
def PWM_FLAGS_CLEAR_REFUSED : Field :=
  ⟨186, 4, 2, 96, 0x30, 0x0, 1, 0, 1, false, .w1c, 0x0, [], []⟩

/-- `CLK_LOST` of `PWM_FLAGS` in MOTION.PWM (10, R377). PWM clock lost; clears only with the clock present. -/
def PWM_FLAGS_CLK_LOST : Field :=
  ⟨187, 4, 2, 96, 0x30, 0x0, 1, 1, 1, false, .w1c, 0x0, [], []⟩

/-- `DROP_SEEN` of `PWM_FLAGS` in MOTION.PWM (10, R377). A pulse was dropped. -/
def PWM_FLAGS_DROP_SEEN : Field :=
  ⟨188, 4, 2, 96, 0x30, 0x0, 1, 2, 1, false, .w1c, 0x0, [], []⟩

/-- `EXT_SEEN` of `PWM_FLAGS` in MOTION.PWM (10, R377). A pulse was extended. -/
def PWM_FLAGS_EXT_SEEN : Field :=
  ⟨189, 4, 2, 96, 0x30, 0x0, 1, 3, 1, false, .w1c, 0x0, [], []⟩

/-- `LOCK_ERR` of `PWM_FLAGS` in MOTION.PWM (10, R377). Trim beyond its limit. -/
def PWM_FLAGS_LOCK_ERR : Field :=
  ⟨190, 4, 2, 96, 0x30, 0x0, 1, 4, 1, false, .w1c, 0x0, [], []⟩

/-- `COUNT` of `PULSE_DROP` in MOTION.PWM (10, R377). Pulses dropped under R364. -/
def PULSE_DROP_COUNT : Field :=
  ⟨191, 4, 2, 96, 0x38, 0x0, 1, 0, 32, false, .rc, 0x0, [], []⟩

/-- `COUNT` of `PULSE_EXT` in MOTION.PWM (10, R377). Pulses extended under R364. -/
def PULSE_EXT_COUNT : Field :=
  ⟨192, 4, 2, 96, 0x40, 0x0, 1, 0, 32, false, .rc, 0x0, [], []⟩

/-- `COUNT` of `LOCK_CUT` in MOTION.PWM (10, R377). Periods ended at a common instant under R357. -/
def LOCK_CUT_COUNT : Field :=
  ⟨193, 4, 2, 96, 0x48, 0x0, 1, 0, 32, false, .rc, 0x0, [], []⟩

/-- `VALUE` of `TRIM` in MOTION.PWM (10, R377). Signed trim of the running cycle, fine units. -/
def TRIM_VALUE : Field :=
  ⟨194, 4, 2, 96, 0x50, 0x0, 1, 0, 16, false, .ro, 0x0, [], []⟩

/-- `FILT_N` of `TRIP_CFG` in MOTION.TRIP (10, R377). Filter length 1 to 1,024; 0 acts as 1, above 1,024 as 1,024. -/
def TRIP_CFG_FILT_N : Field :=
  ⟨195, 4, 5, 16, 0x0, 0x0, 1, 0, 11, false, .rw, 0x4, [], []⟩

/-- `ACTIVE_LOW` of `TRIP_CFG` in MOTION.TRIP (10, R377). 1: a low level is active. -/
def TRIP_CFG_ACTIVE_LOW : Field :=
  ⟨196, 4, 5, 16, 0x0, 0x0, 1, 11, 1, false, .rw, 0x0, [], []⟩

/-- `EN` of `TRIP_CFG` in MOTION.TRIP (10, R377). Trip enabled. -/
def TRIP_CFG_EN : Field :=
  ⟨197, 4, 5, 16, 0x0, 0x0, 1, 12, 1, false, .rw, 0x0, [], []⟩

/-- `RAW` of `TRIP_STATUS` in MOTION.TRIP (10, R377). Last synchronised sample. -/
def TRIP_STATUS_RAW : Field :=
  ⟨198, 4, 5, 16, 0x8, 0x0, 1, 0, 1, false, .ro, 0x0, [], []⟩

/-- `ACTIVE` of `TRIP_STATUS` in MOTION.TRIP (10, R377). Filtered level is active. -/
def TRIP_STATUS_ACTIVE : Field :=
  ⟨199, 4, 5, 16, 0x8, 0x0, 1, 1, 1, false, .ro, 0x0, [], []⟩

/-- `COUNT` of `TRIP_COUNT` in MOTION.TRIP (10, R377). Activations. -/
def TRIP_COUNT_COUNT : Field :=
  ⟨200, 4, 5, 16, 0x10, 0x0, 1, 0, 32, false, .rc, 0x0, [], []⟩

/-- `PAIR` of `PSYNC_CFG` in MOTION.PSYNC (10, R377). Source pair 0 to 95; above 95 acts as disabled. -/
def PSYNC_CFG_PAIR : Field :=
  ⟨201, 4, 6, 8, 0x0, 0x0, 1, 0, 7, false, .rw, 0x0, [], []⟩

/-- `EN` of `PSYNC_CFG` in MOTION.PSYNC (10, R377). Output enabled; disabled drives the inactive level. -/
def PSYNC_CFG_EN : Field :=
  ⟨202, 4, 6, 8, 0x0, 0x0, 1, 7, 1, false, .rw, 0x0, [], []⟩

/-- `EVENT` of `PSYNC_CFG` in MOTION.PSYNC (10, R377). 0 period start, 1 centre, 2 offset; 3 acts as 0. -/
def PSYNC_CFG_EVENT : Field :=
  ⟨203, 4, 6, 8, 0x0, 0x0, 1, 8, 2, false, .rw, 0x0, [], []⟩

/-- `POL` of `PSYNC_CFG` in MOTION.PSYNC (10, R377). 0 active high, 1 active low. -/
def PSYNC_CFG_POL : Field :=
  ⟨204, 4, 6, 8, 0x0, 0x0, 1, 10, 1, false, .rw, 0x0, [], []⟩

/-- `WIDTH` of `PSYNC_CFG` in MOTION.PSYNC (10, R377). Pulse width in coarse counts; 0 acts as 1. -/
def PSYNC_CFG_WIDTH : Field :=
  ⟨205, 4, 6, 8, 0x0, 0x0, 1, 16, 8, false, .rw, 0x1, [], []⟩

/-- `OFFSET` of `PSYNC_OFFSET` in MOTION.PSYNC (10, R377). Offset for EVENT 2, fine units. -/
def PSYNC_OFFSET_OFFSET : Field :=
  ⟨206, 4, 6, 8, 0x8, 0x0, 1, 0, 21, false, .rw, 0x0, [], []⟩

/-- `COUNT` of `PSYNC_COUNT` in MOTION.PSYNC (10, R377). Pulses output, wrapping. -/
def PSYNC_COUNT_COUNT : Field :=
  ⟨207, 4, 6, 8, 0x10, 0x0, 1, 0, 32, false, .ro, 0x0, [], []⟩

/-- `EN` of `ADC_CFG` in MOTION.ADC (11, R402). Converter enabled. -/
def ADC_CFG_EN : Field :=
  ⟨208, 4, 3, 16, 0x0, 0x0, 1, 0, 1, false, .rw, 0x0, [], []⟩

/-- `ALIGN` of `ADC_CFG` in MOTION.ADC (11, R402). 0 right-aligned, 1 left-aligned. -/
def ADC_CFG_ALIGN : Field :=
  ⟨209, 4, 3, 16, 0x0, 0x0, 1, 1, 1, false, .rw, 0x0, [], []⟩

/-- `REG_TRG` of `ADC_CFG` in MOTION.ADC (11, R402). Regular trigger pin 0 to 15. -/
def ADC_CFG_REG_TRG : Field :=
  ⟨210, 4, 3, 16, 0x0, 0x0, 1, 2, 4, false, .rw, 0x0, [], []⟩

/-- `REG_EDGE` of `ADC_CFG` in MOTION.ADC (11, R402). 0 rising, 1 falling, 2 both; 3 acts as 0. -/
def ADC_CFG_REG_EDGE : Field :=
  ⟨211, 4, 3, 16, 0x0, 0x0, 1, 6, 2, false, .rw, 0x0, [], []⟩

/-- `INJ_TRG` of `ADC_CFG` in MOTION.ADC (11, R402). Injected trigger pin 0 to 15. -/
def ADC_CFG_INJ_TRG : Field :=
  ⟨212, 4, 3, 16, 0x0, 0x0, 1, 8, 4, false, .rw, 0x0, [], []⟩

/-- `INJ_EDGE` of `ADC_CFG` in MOTION.ADC (11, R402). As REG_EDGE. -/
def ADC_CFG_INJ_EDGE : Field :=
  ⟨213, 4, 3, 16, 0x0, 0x0, 1, 12, 2, false, .rw, 0x0, [], []⟩

/-- `REG_LEN` of `ADC_CFG` in MOTION.ADC (11, R402). 0 to 32; above 32 acts as 32. -/
def ADC_CFG_REG_LEN : Field :=
  ⟨214, 4, 3, 16, 0x0, 0x0, 1, 14, 6, false, .rw, 0x0, [], []⟩

/-- `INJ_LEN` of `ADC_CFG` in MOTION.ADC (11, R402). 0 to 8; above 8 acts as 8. -/
def ADC_CFG_INJ_LEN : Field :=
  ⟨215, 4, 3, 16, 0x0, 0x0, 1, 20, 4, false, .rw, 0x0, [], []⟩

/-- `REG_BUSY` of `ADC_STATUS` in MOTION.ADC (11, R402). Regular pass running. -/
def ADC_STATUS_REG_BUSY : Field :=
  ⟨216, 4, 3, 16, 0x8, 0x0, 1, 0, 1, false, .ro, 0x0, [], []⟩

/-- `INJ_BUSY` of `ADC_STATUS` in MOTION.ADC (11, R402). Injected pass running. -/
def ADC_STATUS_INJ_BUSY : Field :=
  ⟨217, 4, 3, 16, 0x8, 0x0, 1, 1, 1, false, .ro, 0x0, [], []⟩

/-- `REG_PENDING` of `ADC_STATUS` in MOTION.ADC (11, R402). Regular pass held under R384. -/
def ADC_STATUS_REG_PENDING : Field :=
  ⟨218, 4, 3, 16, 0x8, 0x0, 1, 2, 1, false, .ro, 0x0, [], []⟩

/-- `RESUME_PENDING` of `ADC_STATUS` in MOTION.ADC (11, R402). Regular pass waiting to resume under R385. -/
def ADC_STATUS_RESUME_PENDING : Field :=
  ⟨219, 4, 3, 16, 0x8, 0x0, 1, 3, 1, false, .ro, 0x0, [], []⟩

/-- `REG_ENTRY` of `ADC_STATUS` in MOTION.ADC (11, R402). Current regular entry. -/
def ADC_STATUS_REG_ENTRY : Field :=
  ⟨220, 4, 3, 16, 0x8, 0x0, 1, 4, 5, false, .ro, 0x0, [], []⟩

/-- `INJ_ENTRY` of `ADC_STATUS` in MOTION.ADC (11, R402). Current injected entry. -/
def ADC_STATUS_INJ_ENTRY : Field :=
  ⟨221, 4, 3, 16, 0x8, 0x0, 1, 9, 3, false, .ro, 0x0, [], []⟩

/-- `GAIN_SETTLE` of `ADC_STATUS` in MOTION.ADC (11, R402). Gain-settling conversions remaining, 0 to 8. -/
def ADC_STATUS_GAIN_SETTLE : Field :=
  ⟨222, 4, 3, 16, 0x8, 0x0, 1, 12, 4, false, .ro, 0x0, [], []⟩

/-- `TRG_LOST_SEEN` of `ADC_FLAGS` in MOTION.ADC (11, R402). A trigger edge was lost. -/
def ADC_FLAGS_TRG_LOST_SEEN : Field :=
  ⟨223, 4, 3, 16, 0x10, 0x0, 1, 0, 1, false, .w1c, 0x0, [], []⟩

/-- `OVERRUN_SEEN` of `ADC_FLAGS` in MOTION.ADC (11, R402). A ring wrapped. -/
def ADC_FLAGS_OVERRUN_SEEN : Field :=
  ⟨224, 4, 3, 16, 0x10, 0x0, 1, 1, 1, false, .w1c, 0x0, [], []⟩

/-- `OVER_RANGE_SEEN` of `ADC_FLAGS` in MOTION.ADC (11, R402). An over-range conversion occurred. -/
def ADC_FLAGS_OVER_RANGE_SEEN : Field :=
  ⟨225, 4, 3, 16, 0x10, 0x0, 1, 2, 1, false, .w1c, 0x0, [], []⟩

/-- `CAL_DONE` of `ADC_FLAGS` in MOTION.ADC (11, R402). A calibration pair was accepted. -/
def ADC_FLAGS_CAL_DONE : Field :=
  ⟨226, 4, 3, 16, 0x10, 0x0, 1, 3, 1, false, .w1c, 0x0, [], []⟩

/-- `CAL_FAIL` of `ADC_FLAGS` in MOTION.ADC (11, R402). A FULL step failed. -/
def ADC_FLAGS_CAL_FAIL : Field :=
  ⟨227, 4, 3, 16, 0x10, 0x0, 1, 4, 1, false, .w1c, 0x0, [], []⟩

/-- `CAL_REFUSED` of `ADC_FLAGS` in MOTION.ADC (11, R402). A step was refused. -/
def ADC_FLAGS_CAL_REFUSED : Field :=
  ⟨228, 4, 3, 16, 0x10, 0x0, 1, 5, 1, false, .w1c, 0x0, [], []⟩

/-- `COUNT` of `REG_TRG_LOST` in MOTION.ADC (11, R402). Regular trigger edges lost. -/
def REG_TRG_LOST_COUNT : Field :=
  ⟨229, 4, 3, 16, 0x18, 0x0, 1, 0, 32, false, .rc, 0x0, [], []⟩

/-- `COUNT` of `INJ_TRG_LOST` in MOTION.ADC (11, R402). Injected trigger edges lost. -/
def INJ_TRG_LOST_COUNT : Field :=
  ⟨230, 4, 3, 16, 0x20, 0x0, 1, 0, 32, false, .rc, 0x0, [], []⟩

/-- `COUNT` of `REG_RERUN` in MOTION.ADC (11, R402). Entries re-run after an interruption. -/
def REG_RERUN_COUNT : Field :=
  ⟨231, 4, 3, 16, 0x28, 0x0, 1, 0, 32, false, .rc, 0x0, [], []⟩

/-- `COUNT` of `OVER_RANGE` in MOTION.ADC (11, R402). Over-range conversions. -/
def OVER_RANGE_COUNT : Field :=
  ⟨232, 4, 3, 16, 0x30, 0x0, 1, 0, 32, false, .rc, 0x0, [], []⟩

/-- `COUNT` of `TRG_COUNT` in MOTION.ADC (11, R402). Passes started, wrapping. -/
def TRG_COUNT_COUNT : Field :=
  ⟨233, 4, 3, 16, 0x38, 0x0, 1, 0, 32, false, .ro, 0x0, [], []⟩

/-- `CAL_EN` of `CAL_CTRL` in MOTION.ADC (11, R402). Calibration enabled; Ranger only, under R397. -/
def CAL_CTRL_CAL_EN : Field :=
  ⟨234, 4, 3, 16, 0x40, 0x0, 1, 0, 1, false, .rw, 0x0, [], []⟩

/-- `STEP` of `CAL_CTRL` in MOTION.ADC (11, R402). 1 ZERO, 2 FULL; 0 and 3 no effect. -/
def CAL_CTRL_STEP : Field :=
  ⟨235, 4, 3, 16, 0x40, 0x0, 1, 1, 2, false, .wo, 0x0, [], []⟩

/-- `INPUT` of `CAL_CTRL` in MOTION.ADC (11, R402). Input of the step. -/
def CAL_CTRL_INPUT : Field :=
  ⟨236, 4, 3, 16, 0x40, 0x0, 1, 3, 3, false, .rw, 0x0, [], []⟩

/-- `DIFF` of `CAL_CTRL` in MOTION.ADC (11, R402). Kind of the step. -/
def CAL_CTRL_DIFF : Field :=
  ⟨237, 4, 3, 16, 0x40, 0x0, 1, 6, 1, false, .rw, 0x0, [], []⟩

/-- `GAIN` of `CAL_CTRL` in MOTION.ADC (11, R402). Gain of the step. -/
def CAL_CTRL_GAIN : Field :=
  ⟨238, 4, 3, 16, 0x40, 0x0, 1, 7, 2, false, .rw, 0x0, [], []⟩

/-- `STEP_BUSY` of `CAL_CTRL` in MOTION.ADC (11, R402). A step runs. -/
def CAL_CTRL_STEP_BUSY : Field :=
  ⟨239, 4, 3, 16, 0x40, 0x0, 1, 9, 1, false, .ro, 0x0, [], []⟩

/-- `CAL_ZERO` of `CAL_TARGET` in MOTION.ADC (11, R402). Ideal corrected code of the zero reference, signed. -/
def CAL_TARGET_CAL_ZERO : Field :=
  ⟨240, 4, 3, 16, 0x48, 0x0, 1, 0, 16, false, .rw, 0x0, [], []⟩

/-- `CAL_FULL` of `CAL_TARGET` in MOTION.ADC (11, R402). Ideal corrected code of the full-scale reference, signed. -/
def CAL_TARGET_CAL_FULL : Field :=
  ⟨241, 4, 3, 16, 0x48, 0x0, 1, 16, 16, false, .rw, 0x0, [], []⟩

/-- `VALID` of `CAL_VALID` in MOTION.ADC (11, R402). Bit i: pair i calibrated; loaded with the pairs. -/
def CAL_VALID_VALID : Field :=
  ⟨242, 4, 3, 16, 0x50, 0x0, 1, 0, 64, true, .ro, 0x0, [], []⟩

/-- `WORD` of `ROUTE_LAST` in MOTION.ADC (11, R402). Latest result word of route r; NEWER under R391. -/
def ROUTE_LAST_WORD : Field :=
  ⟨243, 4, 3, 16, 0x100, 0x8, 16, 0, 64, true, .ro, 0x0, [], []⟩

/-- `ENTRY` of `REG_ENTRY` in MOTION.ADC (11, R402). Regular entry e, 0 to 31, as the entry table. -/
def REG_ENTRY_ENTRY : Field :=
  ⟨244, 4, 3, 16, 0x200, 0x4, 32, 0, 32, false, .rw, 0x0, [], []⟩

/-- `ENTRY` of `INJ_ENTRY` in MOTION.ADC (11, R402). Injected entry e, 0 to 7. -/
def INJ_ENTRY_ENTRY : Field :=
  ⟨245, 4, 3, 16, 0x280, 0x4, 8, 0, 32, false, .rw, 0x0, [], []⟩

/-- `FILT_LEN` of `ROUTE_CFG` in MOTION.ADC (11, R402). 1 to 256; 0 acts as 1, above 256 as 256. -/
def ROUTE_CFG_FILT_LEN : Field :=
  ⟨246, 4, 3, 16, 0x400, 0x10, 16, 0, 9, true, .rw, 0x1, [], []⟩

/-- `NOTIFY_EN` of `ROUTE_CFG` in MOTION.ADC (11, R402). Notify the owner. -/
def ROUTE_CFG_NOTIFY_EN : Field :=
  ⟨247, 4, 3, 16, 0x400, 0x10, 16, 9, 1, true, .rw, 0x0, [], []⟩

/-- `NOTIFY_N` of `ROUTE_CFG` in MOTION.ADC (11, R402). Results per notification; 0 acts as 256. -/
def ROUTE_CFG_NOTIFY_N : Field :=
  ⟨248, 4, 3, 16, 0x400, 0x10, 16, 10, 8, true, .rw, 0x1, [], []⟩

/-- `PRIO` of `ROUTE_CFG` in MOTION.ADC (11, R402). Yarder priority. -/
def ROUTE_CFG_PRIO : Field :=
  ⟨249, 4, 3, 16, 0x400, 0x10, 16, 18, 3, true, .rw, 0x0, [], []⟩

/-- `FLOW` of `ROUTE_CFG` in MOTION.ADC (11, R402). Yarder flow. -/
def ROUTE_CFG_FLOW : Field :=
  ⟨250, 4, 3, 16, 0x400, 0x10, 16, 32, 12, true, .rw, 0x0, [], []⟩

/-- `RING_BASE` of `ROUTE_RING` in MOTION.ADC (11, R402). Cell SRAM offset, 8-byte aligned. -/
def ROUTE_RING_RING_BASE : Field :=
  ⟨251, 4, 3, 16, 0x408, 0x10, 16, 0, 32, true, .rw, 0x2000000, [], []⟩

/-- `RING_LEN` of `ROUTE_RING` in MOTION.ADC (11, R402). 0 no ring, 1 to 65,536. -/
def ROUTE_RING_RING_LEN : Field :=
  ⟨252, 4, 3, 16, 0x408, 0x10, 16, 32, 17, true, .rw, 0x0, [], []⟩

/-- `WR_IDX` of `ROUTE_IDX` in MOTION.ADC (11, R402). Next word written. -/
def ROUTE_IDX_WR_IDX : Field :=
  ⟨253, 4, 3, 16, 0x600, 0x8, 16, 0, 16, false, .ro, 0x0, [], []⟩

/-- `RD_IDX` of `ROUTE_IDX` in MOTION.ADC (11, R402). Next word to read; owner writes. -/
def ROUTE_IDX_RD_IDX : Field :=
  ⟨254, 4, 3, 16, 0x600, 0x8, 16, 16, 16, false, .rw, 0x0, [], []⟩

/-- `COUNT` of `OVERRUN` in MOTION.ADC (11, R402). Words lost by ring wrap. -/
def OVERRUN_COUNT : Field :=
  ⟨255, 4, 3, 16, 0x680, 0x8, 16, 0, 32, false, .rc, 0x0, [], []⟩

/-- `OFFSET` of `CAL_COEF` in MOTION.ADC (11, R402). Pair i offset, signed. -/
def CAL_COEF_OFFSET : Field :=
  ⟨256, 4, 3, 16, 0x800, 0x4, 64, 0, 16, false, .rw, 0x0, [], []⟩

/-- `GAIN` of `CAL_COEF` in MOTION.ADC (11, R402). Pair i gain, Q1.15. -/
def CAL_COEF_GAIN : Field :=
  ⟨257, 4, 3, 16, 0x800, 0x4, 64, 16, 16, false, .rw, 0x8000, [], []⟩

/-- `OUT_MODE` of `STP_CFG` in MOTION.STP (12, R421). 0 STEP/DIR, 1 CW/CCW. -/
def STP_CFG_OUT_MODE : Field :=
  ⟨258, 4, 4, 32, 0x0, 0x0, 1, 0, 1, false, .rw, 0x0, [.l], []⟩

/-- `STEP_POL` of `STP_CFG` in MOTION.STP (12, R421). Invert pulse outputs. -/
def STP_CFG_STEP_POL : Field :=
  ⟨259, 4, 4, 32, 0x0, 0x0, 1, 1, 1, false, .rw, 0x0, [.l], []⟩

/-- `DIR_POL` of `STP_CFG` in MOTION.STP (12, R421). Invert DIRn. -/
def STP_CFG_DIR_POL : Field :=
  ⟨260, 4, 4, 32, 0x0, 0x0, 1, 2, 1, false, .rw, 0x0, [.l], []⟩

/-- `DRVEN_POL` of `STP_CFG` in MOTION.STP (12, R421). 0 active high, 1 active low. -/
def STP_CFG_DRVEN_POL : Field :=
  ⟨261, 4, 4, 32, 0x0, 0x0, 1, 3, 1, false, .rw, 0x0, [.l], []⟩

/-- `FLT_POL` of `STP_CFG` in MOTION.STP (12, R421). 0 active high, 1 active low. -/
def STP_CFG_FLT_POL : Field :=
  ⟨262, 4, 4, 32, 0x0, 0x0, 1, 4, 1, false, .rw, 0x0, [.l], []⟩

/-- `PROFILE` of `STP_CFG` in MOTION.STP (12, R421). 0 trapezoidal, 1 jerk-limited. -/
def STP_CFG_PROFILE : Field :=
  ⟨263, 4, 4, 32, 0x0, 0x0, 1, 5, 1, false, .rw, 0x1, [.l], []⟩

/-- `PULSE_W` of `STP_CFG` in MOTION.STP (12, R421). Pulse width in ticks, 1 to 255; 0 acts as 1. -/
def STP_CFG_PULSE_W : Field :=
  ⟨264, 4, 4, 32, 0x0, 0x0, 1, 6, 8, false, .rw, 0x10, [.l], []⟩

/-- `DIR_SETUP` of `STP_CFG` in MOTION.STP (12, R421). Ticks, 0 to 1,023. -/
def STP_CFG_DIR_SETUP : Field :=
  ⟨265, 4, 4, 32, 0x0, 0x0, 1, 14, 10, false, .rw, 0x7D, [.l], []⟩

/-- `DIR_HOLD` of `STP_TIMING` in MOTION.STP (12, R421). Ticks, 0 to 1,023. -/
def STP_TIMING_DIR_HOLD : Field :=
  ⟨266, 4, 4, 32, 0x8, 0x0, 1, 0, 10, false, .rw, 0x19, [.l], []⟩

/-- `FLT_FILT` of `STP_TIMING` in MOTION.STP (12, R421). µs, 1 to 1,000; 0 acts as 1. -/
def STP_TIMING_FLT_FILT : Field :=
  ⟨267, 4, 4, 32, 0x8, 0x0, 1, 10, 10, false, .rw, 0xA, [.l], []⟩

/-- `PARK_SETTLE` of `STP_TIMING` in MOTION.STP (12, R421). ms, 0 to 1,000. -/
def STP_TIMING_PARK_SETTLE : Field :=
  ⟨268, 4, 4, 32, 0x8, 0x0, 1, 20, 10, false, .rw, 0x64, [.l], []⟩

/-- `USTEP_CYCLE` of `STP_USTEP` in MOTION.STP (12, R421). 4 to 4,096; out-of-range values clamp. -/
def STP_USTEP_USTEP_CYCLE : Field :=
  ⟨269, 4, 4, 32, 0x10, 0x0, 1, 0, 13, false, .rw, 0x400, [.l], []⟩

/-- `USTEP_IDX` of `STP_USTEP` in MOTION.STP (12, R421). Index; a write aligns it. -/
def STP_USTEP_USTEP_IDX : Field :=
  ⟨270, 4, 4, 32, 0x10, 0x0, 1, 16, 13, false, .rw, 0x0, [.l], []⟩

/-- `IDX_VALID` of `STP_USTEP` in MOTION.STP (12, R421). R415. -/
def STP_USTEP_IDX_VALID : Field :=
  ⟨271, 4, 4, 32, 0x10, 0x0, 1, 31, 1, false, .ro, 0x0, [.l], []⟩

/-- `COUNT` of `STP_POS` in MOTION.STP (12, R421). Step count; preset under R421. -/
def STP_POS_COUNT : Field :=
  ⟨272, 4, 4, 32, 0x18, 0x0, 1, 0, 48, true, .rw, 0x0, [.l], []⟩

/-- `NEWER` of `STP_POS` in MOTION.STP (12, R421). R346. -/
def STP_POS_NEWER : Field :=
  ⟨273, 4, 4, 32, 0x18, 0x0, 1, 63, 1, true, .ro, 0x0, [.l], []⟩

/-- `TARGET` of `STP_TARGET` in MOTION.STP (12, R421). Staged target, signed steps. -/
def STP_TARGET_TARGET : Field :=
  ⟨274, 4, 4, 32, 0x20, 0x0, 1, 0, 64, true, .rw, 0x0, [], []⟩

/-- `TVEL` of `STP_TVEL` in MOTION.STP (12, R421). Staged velocity, signed steps/s. -/
def STP_TVEL_TVEL : Field :=
  ⟨275, 4, 4, 32, 0x28, 0x0, 1, 0, 32, false, .rw, 0x0, [], []⟩

/-- `VEL` of `STP_LIM_V` in MOTION.STP (12, R421). Staged velocity limit, steps/s. -/
def STP_LIM_V_VEL : Field :=
  ⟨276, 4, 4, 32, 0x30, 0x0, 1, 0, 32, true, .rw, 0x1, [], []⟩

/-- `ACCEL` of `STP_LIM_V` in MOTION.STP (12, R421). Staged, 10 steps/s². -/
def STP_LIM_V_ACCEL : Field :=
  ⟨277, 4, 4, 32, 0x30, 0x0, 1, 32, 32, true, .rw, 0x1, [], []⟩

/-- `DECEL` of `STP_LIM_D` in MOTION.STP (12, R421). Staged, 10 steps/s². -/
def STP_LIM_D_DECEL : Field :=
  ⟨278, 4, 4, 32, 0x38, 0x0, 1, 0, 32, true, .rw, 0x1, [], []⟩

/-- `DECEL_MAX` of `STP_LIM_D` in MOTION.STP (12, R421). Staged, 10 steps/s². -/
def STP_LIM_D_DECEL_MAX : Field :=
  ⟨279, 4, 4, 32, 0x38, 0x0, 1, 32, 32, true, .rw, 0x1, [], []⟩

/-- `JERK` of `STP_LIM_J` in MOTION.STP (12, R421). Staged, 1,000 steps/s³. -/
def STP_LIM_J_JERK : Field :=
  ⟨280, 4, 4, 32, 0x40, 0x0, 1, 0, 32, true, .rw, 0x1, [], []⟩

/-- `V_START` of `STP_LIM_J` in MOTION.STP (12, R421). Speed stopped without loss, steps/s. -/
def STP_LIM_J_V_START : Field :=
  ⟨281, 4, 4, 32, 0x40, 0x0, 1, 32, 32, true, .rw, 0x0, [], []⟩

/-- `CMD` of `STP_CMD` in MOTION.STP (12, R421). Command of R408. -/
def STP_CMD_CMD : Field :=
  ⟨282, 4, 4, 32, 0x48, 0x0, 1, 0, 3, false, .wo, 0x0, [], []⟩

/-- `ENABLE` of `STP_CTRL` in MOTION.STP (12, R421). Driver enable requested. -/
def STP_CTRL_ENABLE : Field :=
  ⟨283, 4, 4, 32, 0x50, 0x0, 1, 0, 1, false, .rw, 0x0, [], []⟩

/-- `DRV_PARK` of `STP_CTRL` in MOTION.STP (12, R421). Planned driver power-down, R416. -/
def STP_CTRL_DRV_PARK : Field :=
  ⟨284, 4, 4, 32, 0x50, 0x0, 1, 1, 1, false, .rw, 0x0, [.l], []⟩

/-- `STATE` of `STP_STATUS` in MOTION.STP (12, R421). 0 DISABLED, 1 IDLE, 2 MOVING, 3 TRACKING, 4 STOPPING, 5 HALTED, 6 PARKED. -/
def STP_STATUS_STATE : Field :=
  ⟨285, 4, 4, 32, 0x58, 0x0, 1, 0, 3, true, .ro, 0x0, [], []⟩

/-- `DIR` of `STP_STATUS` in MOTION.STP (12, R421). Direction of the last step: 0 positive. -/
def STP_STATUS_DIR : Field :=
  ⟨286, 4, 4, 32, 0x58, 0x0, 1, 3, 1, true, .ro, 0x0, [], []⟩

/-- `DRVEN` of `STP_STATUS` in MOTION.STP (12, R421). DRVENn active. -/
def STP_STATUS_DRVEN : Field :=
  ⟨287, 4, 4, 32, 0x58, 0x0, 1, 4, 1, true, .ro, 0x0, [], []⟩

/-- `FLT` of `STP_STATUS` in MOTION.STP (12, R421). Filtered DRVFLTn active. -/
def STP_STATUS_FLT : Field :=
  ⟨288, 4, 4, 32, 0x58, 0x0, 1, 5, 1, true, .ro, 0x0, [], []⟩

/-- `DECEL_RAISED` of `STP_STATUS` in MOTION.STP (12, R421). R409. -/
def STP_STATUS_DECEL_RAISED : Field :=
  ⟨289, 4, 4, 32, 0x58, 0x0, 1, 6, 1, true, .ro, 0x0, [], []⟩

/-- `OVERSHOOT` of `STP_STATUS` in MOTION.STP (12, R421). R409. -/
def STP_STATUS_OVERSHOOT : Field :=
  ⟨290, 4, 4, 32, 0x58, 0x0, 1, 7, 1, true, .ro, 0x0, [], []⟩

/-- `SPEED` of `STP_STATUS` in MOTION.STP (12, R421). Profile velocity, signed steps/s. -/
def STP_STATUS_SPEED : Field :=
  ⟨291, 4, 4, 32, 0x58, 0x0, 1, 32, 32, true, .ro, 0x0, [], []⟩

/-- `POS_UNSURE` of `STP_FLAGS` in MOTION.STP (12, R421). R418. -/
def STP_FLAGS_POS_UNSURE : Field :=
  ⟨292, 4, 4, 32, 0x60, 0x0, 1, 0, 1, false, .w1c, 0x0, [.l], []⟩

/-- `INDEX_LOST_SEEN` of `STP_FLAGS` in MOTION.STP (12, R421). R415. -/
def STP_FLAGS_INDEX_LOST_SEEN : Field :=
  ⟨293, 4, 4, 32, 0x60, 0x0, 1, 1, 1, false, .w1c, 0x0, [.l], []⟩

/-- `FLT_SEEN` of `STP_FLAGS` in MOTION.STP (12, R421). R414. -/
def STP_FLAGS_FLT_SEEN : Field :=
  ⟨294, 4, 4, 32, 0x60, 0x0, 1, 2, 1, false, .w1c, 0x0, [.l], []⟩

/-- `RATE_CLAMP_SEEN` of `STP_FLAGS` in MOTION.STP (12, R421). R411. -/
def STP_FLAGS_RATE_CLAMP_SEEN : Field :=
  ⟨295, 4, 4, 32, 0x60, 0x0, 1, 3, 1, false, .w1c, 0x0, [], []⟩

/-- `CMD_REFUSED` of `STP_FLAGS` in MOTION.STP (12, R421). R413, R416, R419, R421. -/
def STP_FLAGS_CMD_REFUSED : Field :=
  ⟨296, 4, 4, 32, 0x60, 0x0, 1, 4, 1, false, .w1c, 0x0, [], []⟩

/-- `CAUSES` of `STP_HALT` in MOTION.STP (12, R421). [0] ABORT, [1] ENGINE, [2] STO_MODE, [3] CALDERA, [4] DRVFLT, [5] RANGE. -/
def STP_HALT_CAUSES : Field :=
  ⟨297, 4, 4, 32, 0x68, 0x0, 1, 0, 6, false, .ro, 0x0, [], []⟩

/-- `SPEED` of `STOP_SPEED` in MOTION.STP (12, R421). |v| at the last halt, steps/s. -/
def STOP_SPEED_SPEED : Field :=
  ⟨298, 4, 4, 32, 0x70, 0x0, 1, 0, 32, false, .ro, 0x0, [.l], []⟩

/-- `COUNT` of `RATE_CLAMP` in MOTION.STP (12, R421). Steps delayed under R407 and R411. -/
def RATE_CLAMP_COUNT : Field :=
  ⟨299, 4, 4, 32, 0x78, 0x0, 1, 0, 32, false, .rc, 0x0, [], []⟩

/-- Fields of the MOTION domain, part 0. -/
def fieldsMotion0 : List Field :=
  [PTIMG_STATUS_MAP_VALID, PTIMG_STATUS_MAP_RANGES, PT_DENIED_TOTAL_COUNT, PT_LAST_DENIED_POINT, PT_LAST_DENIED_MASTER,
   HALF_DROP_COUNT, JCE_STATE_STATE, JCE_STATE_PC, JCE_STATE_TRAP_CAUSE, JCE_STATE_TRAP_CODE,
   JCE_CTRL_START, JCE_CTRL_STOP, JCE_TICK_SRC, JCE_TICK_PAIR, JCE_TICK_DIV,
   JCE_FLAGS_LOOP_OVERRUN, JCE_FLAGS_PT_DENIED, JCE_FLAGS_IND_REFUSED, OVERRUN_COUNT_COUNT, TICK_MISSED_COUNT,
   PT_DENIED_COUNT_COUNT, PT_LAST_POINT, BUSY_LAST_CYCLES, BUSY_MAX_CYCLES, SIG_LAST_N,
   IND_ADDR_ADDR, IND_ADDR_SPACE, IND_ADDR_INC, IND_DATA_DATA, STAGE_LEVEL_LEVEL,
   PROG_SLOT_SLOT, PROG_SLOT_ASSIGNED, PROG_SLOT_SEC_VERSION, PROG_VERSION_VERSION, FB_CFG_MODE,
   FB_CFG_DIR_INV, FB_CFG_A_INV, FB_CFG_B_INV, FB_CFG_Z_INV, FB_CFG_STEP_EDGE]

/-- Fields of the MOTION domain, part 1. -/
def fieldsMotion1 : List Field :=
  [FB_CFG_FILT_N, FB_CFG_ILLEGAL_MAX, FB_TIMING_STILL_T, FB_TIMING_ERR_WIN, CNT_LO_LIMIT,
   CNT_HI_LIMIT, POS_COUNT, POS_NEWER, SPEED_VALUE, SPEED_NEWER,
   FB_STATUS_SPEED_VALID, FB_STATUS_STILL, FB_STATUS_DIR, FB_STATUS_SAT_LO, FB_STATUS_SAT_HI,
   FB_STATUS_A, FB_STATUS_B, FB_STATUS_Z, FB_STATUS_AMP_OK, FB_STATUS_COND,
   FB_FLAGS_FAULT, FB_FLAGS_ILLEGAL_SEEN, FB_FLAGS_AMP_SEEN, FB_FLAGS_SSI_SEEN, FB_FLAGS_SAT_SEEN,
   FB_FLAGS_INDEX_SEEN, FB_FLAGS_PARK_GAP, FB_FLAGS_QUAL_SEEN, ILLEGAL_EDGE_COUNT, AMP_ERR_COUNT,
   SSI_ERR_COUNT, SAT_DROPPED_COUNT, QUAL_SKIP_COUNT, INDEX_CTRL_INDEX_MODE, INDEX_CTRL_INDEX_QUAL,
   INDEX_CTRL_ARM, INDEX_CTRL_ARMED, INDEX_POS_COUNT, INDEX_COUNT_COUNT, SNAP_POS_COUNT]

/-- Fields of the MOTION domain, part 2. -/
def fieldsMotion2 : List Field :=
  [SNAP_SPEED_VALUE, SNAP_STATUS_STATE, SNAP_STATUS_CYCLE, SNAP_DSPEED_VALUE, SINCOS_CFG_SIN_CV,
   SINCOS_CFG_SIN_IN, SINCOS_CFG_COS_CV, SINCOS_CFG_COS_IN, SINCOS_CFG_ENTRY, AMP_WIN_AMP_MIN,
   AMP_WIN_AMP_MAX, SINCOS_RAW_SIN, SINCOS_RAW_COS, SINCOS_RAW_ANGLE, SSI_CFG_BITS,
   SSI_CFG_GRAY, SSI_CFG_PARITY, SSI_CFG_SSI_DIV, SSI_RAW_WORD, PWM_CFG_MODE,
   PWM_CFG_LOCK, PWM_CFG_SAFE, PWM_CFG_MIN_POLICY, PWM_CFG_MIN_PULSE, PWM_DEAD_DT_RISE,
   PWM_DEAD_DT_FALL, PWM_SET_DUTY, PWM_SET_PER, PWM_CTRL_FORCE, PWM_CTRL_STO_MODE,
   PWM_STATUS_FORCED, PWM_STATUS_CAUSES, PWM_STATUS_H_ON, PWM_STATUS_L_ON, PWM_STATUS_DOWN,
   PWM_STATUS_COUNT, PWM_TRIP_TRIP_MASK, PWM_TRIP_TRIP_SRC, PWM_TRIP_TRIP_LATCHED, PWM_TRIP_TRIP_CLEAR]

/-- Fields of the MOTION domain, part 3. -/
def fieldsMotion3 : List Field :=
  [PWM_FLAGS_CLEAR_REFUSED, PWM_FLAGS_CLK_LOST, PWM_FLAGS_DROP_SEEN, PWM_FLAGS_EXT_SEEN, PWM_FLAGS_LOCK_ERR,
   PULSE_DROP_COUNT, PULSE_EXT_COUNT, LOCK_CUT_COUNT, TRIM_VALUE, TRIP_CFG_FILT_N,
   TRIP_CFG_ACTIVE_LOW, TRIP_CFG_EN, TRIP_STATUS_RAW, TRIP_STATUS_ACTIVE, TRIP_COUNT_COUNT,
   PSYNC_CFG_PAIR, PSYNC_CFG_EN, PSYNC_CFG_EVENT, PSYNC_CFG_POL, PSYNC_CFG_WIDTH,
   PSYNC_OFFSET_OFFSET, PSYNC_COUNT_COUNT, ADC_CFG_EN, ADC_CFG_ALIGN, ADC_CFG_REG_TRG,
   ADC_CFG_REG_EDGE, ADC_CFG_INJ_TRG, ADC_CFG_INJ_EDGE, ADC_CFG_REG_LEN, ADC_CFG_INJ_LEN,
   ADC_STATUS_REG_BUSY, ADC_STATUS_INJ_BUSY, ADC_STATUS_REG_PENDING, ADC_STATUS_RESUME_PENDING, ADC_STATUS_REG_ENTRY,
   ADC_STATUS_INJ_ENTRY, ADC_STATUS_GAIN_SETTLE, ADC_FLAGS_TRG_LOST_SEEN, ADC_FLAGS_OVERRUN_SEEN, ADC_FLAGS_OVER_RANGE_SEEN]

/-- Fields of the MOTION domain, part 4. -/
def fieldsMotion4 : List Field :=
  [ADC_FLAGS_CAL_DONE, ADC_FLAGS_CAL_FAIL, ADC_FLAGS_CAL_REFUSED, REG_TRG_LOST_COUNT, INJ_TRG_LOST_COUNT,
   REG_RERUN_COUNT, OVER_RANGE_COUNT, TRG_COUNT_COUNT, CAL_CTRL_CAL_EN, CAL_CTRL_STEP,
   CAL_CTRL_INPUT, CAL_CTRL_DIFF, CAL_CTRL_GAIN, CAL_CTRL_STEP_BUSY, CAL_TARGET_CAL_ZERO,
   CAL_TARGET_CAL_FULL, CAL_VALID_VALID, ROUTE_LAST_WORD, REG_ENTRY_ENTRY, INJ_ENTRY_ENTRY,
   ROUTE_CFG_FILT_LEN, ROUTE_CFG_NOTIFY_EN, ROUTE_CFG_NOTIFY_N, ROUTE_CFG_PRIO, ROUTE_CFG_FLOW,
   ROUTE_RING_RING_BASE, ROUTE_RING_RING_LEN, ROUTE_IDX_WR_IDX, ROUTE_IDX_RD_IDX, OVERRUN_COUNT,
   CAL_COEF_OFFSET, CAL_COEF_GAIN, STP_CFG_OUT_MODE, STP_CFG_STEP_POL, STP_CFG_DIR_POL,
   STP_CFG_DRVEN_POL, STP_CFG_FLT_POL, STP_CFG_PROFILE, STP_CFG_PULSE_W, STP_CFG_DIR_SETUP]

/-- Fields of the MOTION domain, part 5. -/
def fieldsMotion5 : List Field :=
  [STP_TIMING_DIR_HOLD, STP_TIMING_FLT_FILT, STP_TIMING_PARK_SETTLE, STP_USTEP_USTEP_CYCLE, STP_USTEP_USTEP_IDX,
   STP_USTEP_IDX_VALID, STP_POS_COUNT, STP_POS_NEWER, STP_TARGET_TARGET, STP_TVEL_TVEL,
   STP_LIM_V_VEL, STP_LIM_V_ACCEL, STP_LIM_D_DECEL, STP_LIM_D_DECEL_MAX, STP_LIM_J_JERK,
   STP_LIM_J_V_START, STP_CMD_CMD, STP_CTRL_ENABLE, STP_CTRL_DRV_PARK, STP_STATUS_STATE,
   STP_STATUS_DIR, STP_STATUS_DRVEN, STP_STATUS_FLT, STP_STATUS_DECEL_RAISED, STP_STATUS_OVERSHOOT,
   STP_STATUS_SPEED, STP_FLAGS_POS_UNSURE, STP_FLAGS_INDEX_LOST_SEEN, STP_FLAGS_FLT_SEEN, STP_FLAGS_RATE_CLAMP_SEEN,
   STP_FLAGS_CMD_REFUSED, STP_HALT_CAUSES, STOP_SPEED_SPEED, RATE_CLAMP_COUNT]

end Sys2Proof.Reg
end

