-- ==== Sys2Proof/Machine/RegMapNetwork.lean ====
section
/-!
DEFINITION. The register fields of the NETWORK domain, one definition a field, each from the row of the register table
of spec/ that its docstring names: domain, unit, units, base, stride, count, low bit, width, 64-bit register, access,
Reset, Kept by.
-/
namespace Sys2Proof.Reg

/-- `LANE0_UP` of `TWIN_LANES` in NETWORK.TWIN (16, R530). Lane up. -/
def TWIN_LANES_LANE0_UP : Field :=
  ⟨366, 6, 3, 1, 0x100, 0x0, 1, 0, 1, false, .ro, 0x0, [.l], []⟩

/-- `LANE1_UP` of `TWIN_LANES` in NETWORK.TWIN (16, R530). Lane up. -/
def TWIN_LANES_LANE1_UP : Field :=
  ⟨367, 6, 3, 1, 0x100, 0x0, 1, 1, 1, false, .ro, 0x0, [.l], []⟩

/-- `DEGRADED` of `TWIN_LANES` in NETWORK.TWIN (16, R530). One lane up. -/
def TWIN_LANES_DEGRADED : Field :=
  ⟨368, 6, 3, 1, 0x100, 0x0, 1, 2, 1, false, .ro, 0x0, [.l], []⟩

/-- `LANE0` of `TWIN_LANE_ERR` in NETWORK.TWIN (16, R530). Errored blocks per lane. -/
def TWIN_LANE_ERR_LANE0 : Field :=
  ⟨369, 6, 3, 1, 0x108, 0x0, 1, 0, 16, false, .rc, 0x0, [.l], []⟩

/-- `LANE1` of `TWIN_LANE_ERR` in NETWORK.TWIN (16, R530). Errored blocks per lane. -/
def TWIN_LANE_ERR_LANE1 : Field :=
  ⟨370, 6, 3, 1, 0x108, 0x0, 1, 16, 16, false, .rc, 0x0, [.l], []⟩

/-- `EN` of `PORT_CFG` in NETWORK.PORT (16, R531). Port enabled. -/
def PORT_CFG_EN : Field :=
  ⟨371, 6, 0, 64, 0x0, 0x0, 1, 0, 1, true, .rw, 0x0, [.l], []⟩

/-- `TX_POL` of `PORT_CFG` in NETWORK.PORT (16, R531). Invert TX, RX pair. -/
def PORT_CFG_TX_POL : Field :=
  ⟨372, 6, 0, 64, 0x0, 0x0, 1, 1, 1, true, .rw, 0x0, [.l], []⟩

/-- `RX_POL` of `PORT_CFG` in NETWORK.PORT (16, R531). Invert TX, RX pair. -/
def PORT_CFG_RX_POL : Field :=
  ⟨373, 6, 0, 64, 0x0, 0x0, 1, 2, 1, true, .rw, 0x0, [.l], []⟩

/-- `FEC74` of `PORT_CFG` in NETWORK.PORT (16, R531). Request Clause 74 FEC. -/
def PORT_CFG_FEC74 : Field :=
  ⟨374, 6, 0, 64, 0x0, 0x0, 1, 3, 1, true, .rw, 0x0, [.l], []⟩

/-- `TX_PRESET` of `PORT_CFG` in NETWORK.PORT (16, R531). Equaliser preset, R511. -/
def PORT_CFG_TX_PRESET : Field :=
  ⟨375, 6, 0, 64, 0x0, 0x0, 1, 4, 3, true, .rw, 0x0, [.l], []⟩

/-- `MODE_MASK` of `PORT_CFG` in NETWORK.PORT (16, R531). Mode bits of R508. -/
def PORT_CFG_MODE_MASK : Field :=
  ⟨376, 6, 0, 64, 0x0, 0x0, 1, 8, 8, true, .rw, 0x0, [.l], []⟩

/-- `PERS_MASK` of `PORT_CFG` in NETWORK.PORT (16, R531). Personality bits of R515. -/
def PORT_CFG_PERS_MASK : Field :=
  ⟨377, 6, 0, 64, 0x0, 0x0, 1, 16, 3, true, .rw, 0x0, [.l], []⟩

/-- `MTU` of `PORT_CFG` in NETWORK.PORT (16, R531). 1,518 to 2,048; values outside clamp. -/
def PORT_CFG_MTU : Field :=
  ⟨378, 6, 0, 64, 0x0, 0x0, 1, 32, 12, true, .rw, 0x5F2, [.l], []⟩

/-- `MODE` of `PORT_STATUS` in NETWORK.PORT (16, R531). Mode code. -/
def PORT_STATUS_MODE : Field :=
  ⟨379, 6, 0, 64, 0x8, 0x0, 1, 0, 16, false, .ro, 0x0, [.l], []⟩

/-- `PERSONALITY` of `PORT_STATUS` in NETWORK.PORT (16, R531). Personality code. -/
def PORT_STATUS_PERSONALITY : Field :=
  ⟨380, 6, 0, 64, 0x8, 0x0, 1, 16, 3, false, .ro, 0x0, [.l], []⟩

/-- `FEC_ON` of `PORT_STATUS` in NETWORK.PORT (16, R531). Clause 74 FEC running. -/
def PORT_STATUS_FEC_ON : Field :=
  ⟨381, 6, 0, 64, 0x8, 0x0, 1, 19, 1, false, .ro, 0x0, [.l], []⟩

/-- `SILENT_PARTNER` of `PORT_STATUS` in NETWORK.PORT (16, R531). R522. -/
def PORT_STATUS_SILENT_PARTNER : Field :=
  ⟨382, 6, 0, 64, 0x8, 0x0, 1, 20, 1, false, .ro, 0x0, [.l], []⟩

/-- `REF_OK` of `PORT_STATUS` in NETWORK.PORT (16, R531). Reference clock present. -/
def PORT_STATUS_REF_OK : Field :=
  ⟨383, 6, 0, 64, 0x8, 0x0, 1, 21, 1, false, .ro, 0x0, [.l], []⟩

/-- `LINK_STATE` of `PORT_STATUS` in NETWORK.PORT (16, R531). 0 DISABLED, 1 DETECT, 2 NEGOTIATE, 3 UP, 4 NO_COMMON, 5 LOOPBACK, 6 REF_FAULT. -/
def PORT_STATUS_LINK_STATE : Field :=
  ⟨384, 6, 0, 64, 0x8, 0x0, 1, 24, 3, false, .ro, 0x0, [.l], []⟩

/-- `MAC` of `PARTNER` in NETWORK.PORT (16, R531). Partner source address. -/
def PARTNER_MAC : Field :=
  ⟨385, 6, 0, 64, 0x10, 0x0, 1, 0, 48, true, .ro, 0x0, [.l], []⟩

/-- `PERS_MASK` of `PARTNER` in NETWORK.PORT (16, R531). Partner's mask. -/
def PARTNER_PERS_MASK : Field :=
  ⟨386, 6, 0, 64, 0x10, 0x0, 1, 48, 8, true, .ro, 0x0, [.l], []⟩

/-- `ROLE` of `PARTNER` in NETWORK.PORT (16, R531). Partner's ROLE. -/
def PARTNER_ROLE : Field :=
  ⟨387, 6, 0, 64, 0x10, 0x0, 1, 56, 2, true, .ro, 0x0, [.l], []⟩

/-- `NODE_ID` of `PARTNER_NODE` in NETWORK.PORT (16, R531). Partner's NODE_ID. -/
def PARTNER_NODE_NODE_ID : Field :=
  ⟨388, 6, 0, 64, 0x18, 0x0, 1, 0, 16, false, .ro, 0xFFFF, [.l], []⟩

/-- `COUNT` of `FRAMES_IN` in NETWORK.PORT (16, R531). Good frames received. -/
def FRAMES_IN_COUNT : Field :=
  ⟨389, 6, 0, 64, 0x20, 0x0, 1, 0, 64, true, .ro, 0x0, [.l], []⟩

/-- `COUNT` of `FRAMES_OUT` in NETWORK.PORT (16, R531). Frames sent. -/
def FRAMES_OUT_COUNT : Field :=
  ⟨390, 6, 0, 64, 0x28, 0x0, 1, 0, 64, true, .ro, 0x0, [.l], []⟩

/-- `COUNT` of `RX_DROP` in NETWORK.PORT (16, R531). Frames dropped with the ingress buffer full. -/
def RX_DROP_COUNT : Field :=
  ⟨391, 6, 0, 64, 0x30, 0x0, 1, 0, 32, false, .rc, 0x0, [.l], []⟩

/-- `COUNT` of `FCS_ERR` in NETWORK.PORT (16, R531). FCS failures. -/
def FCS_ERR_COUNT : Field :=
  ⟨392, 6, 0, 64, 0x34, 0x0, 1, 0, 32, false, .rc, 0x0, [.l], []⟩

/-- `COUNT` of `PCS_ERR` in NETWORK.PORT (16, R531). Code violations or errored blocks. -/
def PCS_ERR_COUNT : Field :=
  ⟨393, 6, 0, 64, 0x38, 0x0, 1, 0, 32, false, .rc, 0x0, [.l], []⟩

/-- `COUNT` of `OVERSIZE` in NETWORK.PORT (16, R531). Frames above MTU. -/
def OVERSIZE_COUNT : Field :=
  ⟨394, 6, 0, 64, 0x3C, 0x0, 1, 0, 32, false, .rc, 0x0, [.l], []⟩

/-- `COUNT` of `PAUSE_DISCARD` in NETWORK.PORT (16, R531). PAUSE and PFC frames. -/
def PAUSE_DISCARD_COUNT : Field :=
  ⟨395, 6, 0, 64, 0x40, 0x0, 1, 0, 32, false, .rc, 0x0, [.l], []⟩

/-- `COUNT` of `LINK_DOWN` in NETWORK.PORT (16, R531). Link losses, R514. -/
def LINK_DOWN_COUNT : Field :=
  ⟨396, 6, 0, 64, 0x44, 0x0, 1, 0, 16, false, .rc, 0x0, [.l], []⟩

/-- `NEG_RESTART` of `LINK_DOWN` in NETWORK.PORT (16, R531). Entries into NEGOTIATE after the first. -/
def LINK_DOWN_NEG_RESTART : Field :=
  ⟨397, 6, 0, 64, 0x44, 0x0, 1, 16, 16, false, .rc, 0x0, [.l], []⟩

/-- `LINK_LOST` of `PORT_FLAGS` in NETWORK.PORT (16, R531). R514. -/
def PORT_FLAGS_LINK_LOST : Field :=
  ⟨398, 6, 0, 64, 0x48, 0x0, 1, 0, 1, false, .w1c, 0x0, [.l], []⟩

/-- `NO_COMMON_SEEN` of `PORT_FLAGS` in NETWORK.PORT (16, R531). R523. -/
def PORT_FLAGS_NO_COMMON_SEEN : Field :=
  ⟨399, 6, 0, 64, 0x48, 0x0, 1, 1, 1, false, .w1c, 0x0, [.l], []⟩

/-- `RENEG_SEEN` of `PORT_FLAGS` in NETWORK.PORT (16, R531). R524. -/
def PORT_FLAGS_RENEG_SEEN : Field :=
  ⟨400, 6, 0, 64, 0x48, 0x0, 1, 2, 1, false, .w1c, 0x0, [.l], []⟩

/-- `REF_LOST` of `PORT_FLAGS` in NETWORK.PORT (16, R531). R507. -/
def PORT_FLAGS_REF_LOST : Field :=
  ⟨401, 6, 0, 64, 0x48, 0x0, 1, 3, 1, false, .w1c, 0x0, [.l], []⟩

/-- `LINK_DOWN_T` of `LINK_TIMING` in NETWORK.PORT (16, R531). µs, 0 to 10,000; values above clamp. -/
def LINK_TIMING_LINK_DOWN_T : Field :=
  ⟨402, 6, 0, 64, 0x50, 0x0, 1, 0, 14, false, .rw, 0x64, [.l], []⟩

/-- `EYE_WIDTH` of `LANE_DIAG` in NETWORK.PORT (16, R531). Receive eye width, 1/128 UI. -/
def LANE_DIAG_EYE_WIDTH : Field :=
  ⟨403, 6, 0, 64, 0x58, 0x0, 1, 0, 8, false, .ro, 0x0, [.l], []⟩

/-- `EYE_HEIGHT` of `LANE_DIAG` in NETWORK.PORT (16, R531). Receive eye height, 4 mV units. -/
def LANE_DIAG_EYE_HEIGHT : Field :=
  ⟨404, 6, 0, 64, 0x58, 0x0, 1, 8, 8, false, .ro, 0x0, [.l], []⟩

/-- `CDR_LOCK` of `LANE_DIAG` in NETWORK.PORT (16, R531). Receiver clock locked. -/
def LANE_DIAG_CDR_LOCK : Field :=
  ⟨405, 6, 0, 64, 0x58, 0x0, 1, 16, 1, false, .ro, 0x0, [.l], []⟩

/-- `CYCLE` of `STAR_CFG` in Star reg (17, R566). C in 8 ns ticks, 6,250 to 125,000. -/
def STAR_CFG_CYCLE : Field :=
  ⟨406, 6, 1, 1, 0x0, 0x0, 1, 0, 17, false, .rw, 0x3D09, [.l], []⟩

/-- `GUARD` of `STAR_CFG` in Star reg (17, R566). G in 8 ns ticks, 1 to 255. -/
def STAR_CFG_GUARD : Field :=
  ⟨407, 6, 1, 1, 0x0, 0x0, 1, 17, 8, false, .rw, 0x20, [.l], []⟩

/-- `COLD_SRC` of `STAR_CFG` in Star reg (17, R566). 0 STAR, 1 NODES_THEN_STAR. -/
def STAR_CFG_COLD_SRC : Field :=
  ⟨408, 6, 1, 1, 0x0, 0x0, 1, 25, 1, false, .rw, 0x0, [.l], []⟩

/-- `SYNC_MIN` of `STAR_CFG` in Star reg (17, R566). 0 to 15. -/
def STAR_CFG_SYNC_MIN : Field :=
  ⟨409, 6, 1, 1, 0x0, 0x0, 1, 26, 4, false, .rw, 0x0, [.l], []⟩

/-- `STATE` of `STAR_STATUS` in Star reg (17, R566). Star state. -/
def STAR_STATUS_STATE : Field :=
  ⟨410, 6, 1, 1, 0x8, 0x0, 1, 0, 3, false, .ro, 0x0, [.l], []⟩

/-- `SYNC_VALUES` of `STAR_STATUS` in Star reg (17, R566). n of the last cycle, 0 to 16. -/
def STAR_STATUS_SYNC_VALUES : Field :=
  ⟨411, 6, 1, 1, 0x8, 0x0, 1, 8, 5, false, .ro, 0x0, [.l], []⟩

/-- `INTEGRATED` of `STAR_STATUS` in Star reg (17, R566). Nodes in INTEGRATED, 0 to 256. -/
def STAR_STATUS_INTEGRATED : Field :=
  ⟨412, 6, 1, 1, 0x8, 0x0, 1, 16, 9, false, .ro, 0x0, [.l], []⟩

/-- `NUMBER` of `CYCLE_NUM` in Star reg (17, R566). TB0 div C. -/
def CYCLE_NUM_NUMBER : Field :=
  ⟨413, 6, 1, 1, 0x10, 0x0, 1, 0, 64, true, .ro, 0x0, [.l], []⟩

/-- `COUNT` of `CYCLES_RUN` in Star reg (17, R566). Cycles since RUNNING was entered. -/
def CYCLES_RUN_COUNT : Field :=
  ⟨414, 6, 1, 1, 0x18, 0x0, 1, 0, 32, false, .ro, 0x0, [.l], []⟩

/-- `OFFSET` of `SYNC_CORR` in Star reg (17, R566). o of the last cycle, s32 ns. -/
def SYNC_CORR_OFFSET : Field :=
  ⟨415, 6, 1, 1, 0x20, 0x0, 1, 0, 32, true, .ro, 0x0, [.l], []⟩

/-- `RATE` of `SYNC_CORR` in Star reg (17, R566). ρ ÷ C, s32 ppb. -/
def SYNC_CORR_RATE : Field :=
  ⟨416, 6, 1, 1, 0x20, 0x0, 1, 32, 32, true, .ro, 0x0, [.l], []⟩

/-- `MEMBERS` of `SYNC_SET` in Star reg (17, R566). Bit i: sync node i, in ID order, is a member. -/
def SYNC_SET_MEMBERS : Field :=
  ⟨417, 6, 1, 1, 0x28, 0x0, 1, 0, 15, false, .ro, 0x0, [.l], []⟩

/-- `COLL_COUNT` of `STAR_COUNT` in Star reg (17, R566). Coldstart collisions. -/
def STAR_COUNT_COLL_COUNT : Field :=
  ⟨418, 6, 1, 1, 0x30, 0x0, 1, 0, 16, false, .rc, 0x0, [.l], []⟩

/-- `HOLDOVER_COUNT` of `STAR_COUNT` in Star reg (17, R566). Entries into HOLDOVER. -/
def STAR_COUNT_HOLDOVER_COUNT : Field :=
  ⟨419, 6, 1, 1, 0x30, 0x0, 1, 16, 16, false, .rc, 0x0, [.l], []⟩

/-- `SYNC_LOST` of `STAR_FLAGS` in Star reg (17, R566). R555. -/
def STAR_FLAGS_SYNC_LOST : Field :=
  ⟨420, 6, 1, 1, 0x38, 0x0, 1, 0, 1, false, .w1c, 0x0, [.l], []⟩

/-- `COLLISION_SEEN` of `STAR_FLAGS` in Star reg (17, R566). R562. -/
def STAR_FLAGS_COLLISION_SEEN : Field :=
  ⟨421, 6, 1, 1, 0x38, 0x0, 1, 1, 1, false, .w1c, 0x0, [.l], []⟩

/-- `NODE_ID` of `NODE_CFG` in Node slot (17, R566). Node ID. -/
def NODE_CFG_NODE_ID : Field :=
  ⟨422, 6, 1, 8, 0x1000, 0x40, 32, 0, 8, true, .rw, 0x0, [.l], []⟩

/-- `PORT` of `NODE_CFG` in Node slot (17, R566). Port 0 to 63. -/
def NODE_CFG_PORT : Field :=
  ⟨423, 6, 1, 8, 0x1000, 0x40, 32, 8, 6, true, .rw, 0x0, [.l], []⟩

/-- `CHAIN` of `NODE_CFG` in Node slot (17, R566). Chain position 0 to 3. -/
def NODE_CFG_CHAIN : Field :=
  ⟨424, 6, 1, 8, 0x1000, 0x40, 32, 14, 2, true, .rw, 0x0, [.l], []⟩

/-- `SYNC` of `NODE_CFG` in Node slot (17, R566). Sync node. -/
def NODE_CFG_SYNC : Field :=
  ⟨425, 6, 1, 8, 0x1000, 0x40, 32, 16, 1, true, .rw, 0x0, [.l], []⟩

/-- `COLDSTART` of `NODE_CFG` in Node slot (17, R566). Coldstart node. -/
def NODE_CFG_COLDSTART : Field :=
  ⟨426, 6, 1, 8, 0x1000, 0x40, 32, 17, 1, true, .rw, 0x0, [.l], []⟩

/-- `USED` of `NODE_CFG` in Node slot (17, R566). Slot holds a node. -/
def NODE_CFG_USED : Field :=
  ⟨427, 6, 1, 8, 0x1000, 0x40, 32, 18, 1, true, .rw, 0x0, [.l], []⟩

/-- `ARRIVE` of `NODE_CFG` in Node slot (17, R566). ns after cycle start. -/
def NODE_CFG_ARRIVE : Field :=
  ⟨428, 6, 1, 8, 0x1000, 0x40, 32, 32, 20, true, .rw, 0x0, [.l], []⟩

/-- `DN_START` of `NODE_SLOT` in Node slot (17, R566). ns after cycle start. -/
def NODE_SLOT_DN_START : Field :=
  ⟨429, 6, 1, 8, 0x1008, 0x40, 32, 0, 20, true, .rw, 0x0, [.l], []⟩

/-- `UP_LEN` of `NODE_SLOT` in Node slot (17, R566). Bytes. -/
def NODE_SLOT_UP_LEN : Field :=
  ⟨430, 6, 1, 8, 0x1008, 0x40, 32, 32, 11, true, .rw, 0x0, [.l], []⟩

/-- `DN_LEN` of `NODE_SLOT` in Node slot (17, R566). Bytes. -/
def NODE_SLOT_DN_LEN : Field :=
  ⟨431, 6, 1, 8, 0x1008, 0x40, 32, 44, 11, true, .rw, 0x0, [.l], []⟩

/-- `DELAY` of `NODE_DELAY` in Node slot (17, R566). D in ns. -/
def NODE_DELAY_DELAY : Field :=
  ⟨432, 6, 1, 8, 0x1010, 0x40, 32, 0, 32, true, .ro, 0x0, [.l], []⟩

/-- `DELAY_VALID` of `NODE_DELAY` in Node slot (17, R566). R548. -/
def NODE_DELAY_DELAY_VALID : Field :=
  ⟨433, 6, 1, 8, 0x1010, 0x40, 32, 32, 1, true, .ro, 0x0, [.l], []⟩

/-- `NOM_DELAY` of `NODE_DELAY` in Node slot (17, R566). ns. -/
def NODE_DELAY_NOM_DELAY : Field :=
  ⟨434, 6, 1, 8, 0x1010, 0x40, 32, 48, 16, true, .rw, 0x0, [.l], []⟩

/-- `STATE` of `NODE_STATUS` in Node slot (17, R566). 0 ABSENT, 1 INTEGRATING, 2 INTEGRATED, 3 OUT_OF_SYNC. -/
def NODE_STATUS_STATE : Field :=
  ⟨435, 6, 1, 8, 0x1018, 0x40, 32, 0, 2, true, .ro, 0x0, [.l], []⟩

/-- `IN_SET` of `NODE_STATUS` in Node slot (17, R566). Sync set member. -/
def NODE_STATUS_IN_SET : Field :=
  ⟨436, 6, 1, 8, 0x1018, 0x40, 32, 2, 1, true, .ro, 0x0, [.l], []⟩

/-- `VIOL_RUN` of `NODE_STATUS` in Node slot (17, R566). Consecutive violating cycles, 0 to 3. -/
def NODE_STATUS_VIOL_RUN : Field :=
  ⟨437, 6, 1, 8, 0x1018, 0x40, 32, 3, 2, true, .ro, 0x0, [.l], []⟩

/-- `LAST_CYCLE` of `NODE_STATUS` in Node slot (17, R566). Cycle[15:0] of the last accepted frame. -/
def NODE_STATUS_LAST_CYCLE : Field :=
  ⟨438, 6, 1, 8, 0x1018, 0x40, 32, 16, 16, true, .ro, 0x0, [.l], []⟩

/-- `DEV` of `NODE_STATUS` in Node slot (17, R566). dev of the last accepted frame, s32 ns. -/
def NODE_STATUS_DEV : Field :=
  ⟨439, 6, 1, 8, 0x1018, 0x40, 32, 32, 32, true, .ro, 0x0, [.l], []⟩

/-- `COUNT` of `SLOT_VIOLATION` in Node slot (17, R566). Blocked frames. -/
def SLOT_VIOLATION_COUNT : Field :=
  ⟨440, 6, 1, 8, 0x1020, 0x40, 32, 0, 32, false, .rc, 0x0, [.l], []⟩

/-- `CRC_ERR` of `NODE_ERR` in Node slot (17, R566). Geyser CRC failures. -/
def NODE_ERR_CRC_ERR : Field :=
  ⟨441, 6, 1, 8, 0x1028, 0x40, 32, 0, 16, false, .rc, 0x0, [.l], []⟩

/-- `FORMAT_ERR` of `NODE_ERR` in Node slot (17, R566). LENGTH, TYPE or CYCLE mismatches. -/
def NODE_ERR_FORMAT_ERR : Field :=
  ⟨442, 6, 1, 8, 0x1028, 0x40, 32, 16, 16, false, .rc, 0x0, [.l], []⟩

/-- `MISSED` of `NODE_MISS` in Node slot (17, R566). Cycles without an accepted frame. -/
def NODE_MISS_MISSED : Field :=
  ⟨443, 6, 1, 8, 0x1030, 0x40, 32, 0, 16, false, .rc, 0x0, [.l], []⟩

/-- `DELAY_REJECT` of `NODE_MISS` in Node slot (17, R566). Rejected delay measurements. -/
def NODE_MISS_DELAY_REJECT : Field :=
  ⟨444, 6, 1, 8, 0x1030, 0x40, 32, 16, 16, false, .rc, 0x0, [.l], []⟩

/-- `NS` of `TB_TIME` in NETWORK.TB (18, R590). Time in ns; TB6 as R567. -/
def TB_TIME_NS : Field :=
  ⟨445, 6, 4, 8, 0x0, 0x0, 1, 0, 64, true, .ro, 0x0, [.d, .l], []⟩

/-- `FRAC` of `TB_FRAC` in NETWORK.TB (18, R590). Fraction, 2^−16 ns. -/
def TB_FRAC_FRAC : Field :=
  ⟨446, 6, 4, 8, 0x8, 0x0, 1, 0, 16, false, .ro, 0x0, [.d, .l], []⟩

/-- `PPB` of `TB_RATE` in NETWORK.TB (18, R590). Rate correction, s32 ppb; clamps under R568. -/
def TB_RATE_PPB : Field :=
  ⟨447, 6, 4, 8, 0x10, 0x0, 1, 0, 32, true, .rw, 0x0, [.d, .l], []⟩

/-- `PPB_FRAC` of `TB_RATE` in NETWORK.TB (18, R590). 2^−16 ppb. -/
def TB_RATE_PPB_FRAC : Field :=
  ⟨448, 6, 4, 8, 0x10, 0x0, 1, 32, 16, true, .rw, 0x0, [.d, .l], []⟩

/-- `NS` of `TB_CORR` in NETWORK.TB (18, R590). Signed correction under R572. -/
def TB_CORR_NS : Field :=
  ⟨449, 6, 4, 8, 0x18, 0x0, 1, 0, 64, true, .wo, 0x0, [], []⟩

/-- `STATE` of `TB_STATE` in NETWORK.TB (18, R590). R570. -/
def TB_STATE_STATE : Field :=
  ⟨450, 6, 4, 8, 0x20, 0x0, 1, 0, 2, false, .ro, 0x0, [.d, .l], []⟩

/-- `STEP_PENDING` of `TB_STATE` in NETWORK.TB (18, R590). R572. -/
def TB_STATE_STEP_PENDING : Field :=
  ⟨451, 6, 4, 8, 0x20, 0x0, 1, 2, 1, false, .ro, 0x0, [.d, .l], []⟩

/-- `NS` of `PENDING_STEP` in NETWORK.TB (18, R590). Signed pending step. -/
def PENDING_STEP_NS : Field :=
  ⟨452, 6, 4, 8, 0x28, 0x0, 1, 0, 64, true, .ro, 0x0, [.d, .l], []⟩

/-- `NS` of `JUMP_LIMIT` in NETWORK.TB (18, R590). 100 to 1,000,000. -/
def JUMP_LIMIT_NS : Field :=
  ⟨453, 6, 4, 8, 0x30, 0x0, 1, 0, 20, false, .rw, 0x3E8, [.d, .l], []⟩

/-- `STEPS_APPLIED` of `TB_COUNT` in NETWORK.TB (18, R590). Steps applied. -/
def TB_COUNT_STEPS_APPLIED : Field :=
  ⟨454, 6, 4, 8, 0x38, 0x0, 1, 0, 16, false, .rc, 0x0, [.d, .l], []⟩

/-- `STEPS_REFUSED` of `TB_COUNT` in NETWORK.TB (18, R590). Corrections refused. -/
def TB_COUNT_STEPS_REFUSED : Field :=
  ⟨455, 6, 4, 8, 0x38, 0x0, 1, 16, 16, false, .rc, 0x0, [.d, .l], []⟩

/-- `OTHER` of `TB_SNAP` in NETWORK.TB (18, R590). Write latches this base and base OTHER at one tick. -/
def TB_SNAP_OTHER : Field :=
  ⟨456, 6, 4, 8, 0x40, 0x0, 1, 0, 3, false, .wo, 0x0, [], []⟩

/-- `NS` of `SNAP_SELF` in NETWORK.TB (18, R590). This base at the latch. -/
def SNAP_SELF_NS : Field :=
  ⟨457, 6, 4, 8, 0x48, 0x0, 1, 0, 64, true, .ro, 0x0, [], []⟩

/-- `NS` of `SNAP_OTHER` in NETWORK.TB (18, R590). Base OTHER at the latch. -/
def SNAP_OTHER_NS : Field :=
  ⟨458, 6, 4, 8, 0x50, 0x0, 1, 0, 64, true, .ro, 0x0, [], []⟩

/-- `LATE_MAX` of `BR_CFG` in NETWORK.BRIDGE (18, R590). ns, 0 to 1,000,000. -/
def BR_CFG_LATE_MAX : Field :=
  ⟨459, 6, 2, 1, 0x0, 0x0, 1, 0, 20, false, .rw, 0x3E8, [.l], []⟩

/-- `COUNT` of `PTP_DISCARD` in NETWORK.BRIDGE (18, R590). R578. -/
def PTP_DISCARD_COUNT : Field :=
  ⟨460, 6, 2, 1, 0x8, 0x0, 1, 0, 32, false, .rc, 0x0, [.l], []⟩

/-- `ADDR` of `TXR_BASE` in NETWORK.BRIDGE (18, R590). Ring base, 8-byte aligned. -/
def TXR_BASE_ADDR : Field :=
  ⟨461, 6, 2, 1, 0x100, 0x20, 8, 0, 64, true, .rw, 0x0, [.l], []⟩

/-- `TXR_SIZE` of `TXR_CTRL` in NETWORK.BRIDGE (18, R590). 16 to 4,096. -/
def TXR_CTRL_TXR_SIZE : Field :=
  ⟨462, 6, 2, 1, 0x108, 0x20, 8, 0, 13, false, .rw, 0x10, [.l], []⟩

/-- `TXR_HEAD` of `TXR_IDX` in NETWORK.BRIDGE (18, R590). Next descriptor taken. -/
def TXR_IDX_TXR_HEAD : Field :=
  ⟨463, 6, 2, 1, 0x110, 0x20, 8, 0, 12, false, .ro, 0x0, [.l], []⟩

/-- `TXR_TAIL` of `TXR_IDX` in NETWORK.BRIDGE (18, R590). Next descriptor written; software. -/
def TXR_IDX_TXR_TAIL : Field :=
  ⟨464, 6, 2, 1, 0x110, 0x20, 8, 16, 12, false, .rw, 0x0, [.l], []⟩

/-- `COUNT` of `TXR_BAD` in NETWORK.BRIDGE (18, R590). Descriptors skipped. -/
def TXR_BAD_COUNT : Field :=
  ⟨465, 6, 2, 1, 0x118, 0x20, 8, 0, 32, false, .rc, 0x0, [.l], []⟩

/-- `GATES` of `GATE_STATUS` in NETWORK.BRIDGE (18, R590). Present gate mask. -/
def GATE_STATUS_GATES : Field :=
  ⟨466, 6, 2, 1, 0x1000, 0x40, 64, 0, 8, false, .ro, 0xFF, [.l], []⟩

/-- `ENTRY` of `GATE_STATUS` in NETWORK.BRIDGE (18, R590). Present list entry. -/
def GATE_STATUS_ENTRY : Field :=
  ⟨467, 6, 2, 1, 0x1000, 0x40, 64, 8, 8, false, .ro, 0x0, [.l], []⟩

/-- `LIST_PENDING` of `GATE_STATUS` in NETWORK.BRIDGE (18, R590). A new list waits for its base time. -/
def GATE_STATUS_LIST_PENDING : Field :=
  ⟨468, 6, 2, 1, 0x1000, 0x40, 64, 16, 1, false, .ro, 0x0, [.l], []⟩

/-- `COUNT` of `GATE_TOO_LONG` in NETWORK.BRIDGE (18, R590). R585. -/
def GATE_TOO_LONG_COUNT : Field :=
  ⟨469, 6, 2, 1, 0x1008, 0x40, 64, 0, 32, false, .rc, 0x0, [.l], []⟩

/-- `COUNT` of `LATE_DROP` in NETWORK.BRIDGE (18, R590). R586. -/
def LATE_DROP_COUNT : Field :=
  ⟨470, 6, 2, 1, 0x100C, 0x40, 64, 0, 32, false, .rc, 0x0, [.l], []⟩

/-- `COUNT` of `TC_FRAMES` in NETWORK.BRIDGE (18, R590). Frames corrected under R581. -/
def TC_FRAMES_COUNT : Field :=
  ⟨471, 6, 2, 1, 0x1010, 0x40, 64, 0, 32, false, .rc, 0x0, [.l], []⟩

/-- `PAIR_EN` of `TWIN_CFG` in NETWORK.TWIN (19, R611). Pair configured; set by TWIN_CONFIG. -/
def TWIN_CFG_PAIR_EN : Field :=
  ⟨483, 6, 3, 1, 0x0, 0x0, 1, 0, 1, false, .rw, 0x0, [.l], []⟩

/-- `PRIO` of `TWIN_CFG` in NETWORK.TWIN (19, R611). PRIO strap level. Reset: strap. -/
def TWIN_CFG_PRIO : Field :=
  ⟨484, 6, 3, 1, 0x0, 0x0, 1, 1, 1, false, .ro, 0x0, [.l], []⟩

/-- `ROLE` of `TWIN_STATE` in NETWORK.TWIN (19, R611). 0 standalone, 1 ACTIVE, 2 STANDBY. -/
def TWIN_STATE_ROLE : Field :=
  ⟨485, 6, 3, 1, 0x8, 0x0, 1, 0, 2, false, .ro, 0x0, [.l], []⟩

/-- `TOKEN` of `TWIN_STATE` in NETWORK.TWIN (19, R611). INTLK_OUT level. -/
def TWIN_STATE_TOKEN : Field :=
  ⟨486, 6, 3, 1, 0x8, 0x0, 1, 2, 1, false, .ro, 0x0, [.l], []⟩

/-- `PARTNER_TOKEN` of `TWIN_STATE` in NETWORK.TWIN (19, R611). INTLK_IN level. -/
def TWIN_STATE_PARTNER_TOKEN : Field :=
  ⟨487, 6, 3, 1, 0x8, 0x0, 1, 3, 1, false, .ro, 0x0, [.l], []⟩

/-- `HB_OK` of `TWIN_STATE` in NETWORK.TWIN (19, R611). Partner heartbeat present. -/
def TWIN_STATE_HB_OK : Field :=
  ⟨488, 6, 3, 1, 0x8, 0x0, 1, 4, 1, false, .ro, 0x0, [.l], []⟩

/-- `LINK_UP` of `TWIN_STATE` in NETWORK.TWIN (19, R611). Twin link running. -/
def TWIN_STATE_LINK_UP : Field :=
  ⟨489, 6, 3, 1, 0x8, 0x0, 1, 5, 1, false, .ro, 0x0, [.l], []⟩

/-- `SYNC` of `TWIN_STATE` in NETWORK.TWIN (19, R611). 0 unsynchronised, 1 resynchronising, 2 synchronised. -/
def TWIN_STATE_SYNC : Field :=
  ⟨490, 6, 3, 1, 0x8, 0x0, 1, 6, 2, false, .ro, 0x0, [.l], []⟩

/-- `TWIN_LINK_FAULT` of `TWIN_FLAGS` in NETWORK.TWIN (19, R611). R597. -/
def TWIN_FLAGS_TWIN_LINK_FAULT : Field :=
  ⟨491, 6, 3, 1, 0x10, 0x0, 1, 0, 1, false, .w1c, 0x0, [.l], []⟩

/-- `DIVERGED` of `TWIN_FLAGS` in NETWORK.TWIN (19, R611). R603. -/
def TWIN_FLAGS_DIVERGED : Field :=
  ⟨492, 6, 3, 1, 0x10, 0x0, 1, 1, 1, false, .w1c, 0x0, [.l], []⟩

/-- `ARB_LOST` of `TWIN_FLAGS` in NETWORK.TWIN (19, R611). R595. -/
def TWIN_FLAGS_ARB_LOST : Field :=
  ⟨493, 6, 3, 1, 0x10, 0x0, 1, 2, 1, false, .w1c, 0x0, [.l], []⟩

/-- `CHANNEL_DEGRADED` of `TWIN_FLAGS` in NETWORK.TWIN (19, R611). R602. -/
def TWIN_FLAGS_CHANNEL_DEGRADED : Field :=
  ⟨494, 6, 3, 1, 0x10, 0x0, 1, 3, 1, false, .w1c, 0x0, [.l], []⟩

/-- `COUNT` of `DIGEST_MISMATCH` in NETWORK.TWIN (19, R611). R603. -/
def DIGEST_MISMATCH_COUNT : Field :=
  ⟨495, 6, 3, 1, 0x18, 0x0, 1, 0, 32, false, .rc, 0x0, [.l], []⟩

/-- `COUNT` of `TAKEOVERS` in NETWORK.TWIN (19, R611). Tokens taken. -/
def TAKEOVERS_COUNT : Field :=
  ⟨496, 6, 3, 1, 0x1C, 0x0, 1, 0, 32, false, .rc, 0x0, [.l], []⟩

/-- `COUNT` of `INPUT_FWD` in NETWORK.TWIN (19, R611). Uplinks forwarded under R601. -/
def INPUT_FWD_COUNT : Field :=
  ⟨497, 6, 3, 1, 0x20, 0x0, 1, 0, 32, false, .rc, 0x0, [.l], []⟩

/-- `CYCLE` of `FIRST_MISMATCH` in NETWORK.TWIN (19, R611). Cycle of the first mismatch since the flag was cleared. -/
def FIRST_MISMATCH_CYCLE : Field :=
  ⟨498, 6, 3, 1, 0x28, 0x0, 1, 0, 32, false, .ro, 0x0, [.l], []⟩

/-- `MIB_DIRTY` of `RESYNC_PROGRESS` in NETWORK.TWIN (19, R611). Dirty MiB in the present pass. -/
def RESYNC_PROGRESS_MIB_DIRTY : Field :=
  ⟨499, 6, 3, 1, 0x30, 0x0, 1, 0, 32, true, .ro, 0x0, [.l], []⟩

/-- `PHASE` of `RESYNC_PROGRESS` in NETWORK.TWIN (19, R611). 0 none, 1 bulk, 2 cut. -/
def RESYNC_PROGRESS_PHASE : Field :=
  ⟨500, 6, 3, 1, 0x30, 0x0, 1, 32, 2, true, .ro, 0x0, [.l], []⟩

/-- `DIGEST` of `LOCAL_DIGEST` in NETWORK.TWIN (19, R611). This unit's digest of the last compared cycle. -/
def LOCAL_DIGEST_DIGEST : Field :=
  ⟨501, 6, 3, 1, 0x40, 0x8, 4, 0, 64, true, .ro, 0x0, [.l], []⟩

/-- `DIGEST` of `PARTNER_DIGEST` in NETWORK.TWIN (19, R611). Partner's digest of that cycle. -/
def PARTNER_DIGEST_DIGEST : Field :=
  ⟨502, 6, 3, 1, 0x60, 0x8, 4, 0, 64, true, .ro, 0x0, [.l], []⟩

/-- Fields of the NETWORK domain, part 0. -/
def fieldsNetwork0 : List Field :=
  [TWIN_LANES_LANE0_UP, TWIN_LANES_LANE1_UP, TWIN_LANES_DEGRADED, TWIN_LANE_ERR_LANE0, TWIN_LANE_ERR_LANE1,
   PORT_CFG_EN, PORT_CFG_TX_POL, PORT_CFG_RX_POL, PORT_CFG_FEC74, PORT_CFG_TX_PRESET,
   PORT_CFG_MODE_MASK, PORT_CFG_PERS_MASK, PORT_CFG_MTU, PORT_STATUS_MODE, PORT_STATUS_PERSONALITY,
   PORT_STATUS_FEC_ON, PORT_STATUS_SILENT_PARTNER, PORT_STATUS_REF_OK, PORT_STATUS_LINK_STATE, PARTNER_MAC,
   PARTNER_PERS_MASK, PARTNER_ROLE, PARTNER_NODE_NODE_ID, FRAMES_IN_COUNT, FRAMES_OUT_COUNT,
   RX_DROP_COUNT, FCS_ERR_COUNT, PCS_ERR_COUNT, OVERSIZE_COUNT, PAUSE_DISCARD_COUNT,
   LINK_DOWN_COUNT, LINK_DOWN_NEG_RESTART, PORT_FLAGS_LINK_LOST, PORT_FLAGS_NO_COMMON_SEEN, PORT_FLAGS_RENEG_SEEN,
   PORT_FLAGS_REF_LOST, LINK_TIMING_LINK_DOWN_T, LANE_DIAG_EYE_WIDTH, LANE_DIAG_EYE_HEIGHT, LANE_DIAG_CDR_LOCK]

/-- Fields of the NETWORK domain, part 1. -/
def fieldsNetwork1 : List Field :=
  [STAR_CFG_CYCLE, STAR_CFG_GUARD, STAR_CFG_COLD_SRC, STAR_CFG_SYNC_MIN, STAR_STATUS_STATE,
   STAR_STATUS_SYNC_VALUES, STAR_STATUS_INTEGRATED, CYCLE_NUM_NUMBER, CYCLES_RUN_COUNT, SYNC_CORR_OFFSET,
   SYNC_CORR_RATE, SYNC_SET_MEMBERS, STAR_COUNT_COLL_COUNT, STAR_COUNT_HOLDOVER_COUNT, STAR_FLAGS_SYNC_LOST,
   STAR_FLAGS_COLLISION_SEEN, NODE_CFG_NODE_ID, NODE_CFG_PORT, NODE_CFG_CHAIN, NODE_CFG_SYNC,
   NODE_CFG_COLDSTART, NODE_CFG_USED, NODE_CFG_ARRIVE, NODE_SLOT_DN_START, NODE_SLOT_UP_LEN,
   NODE_SLOT_DN_LEN, NODE_DELAY_DELAY, NODE_DELAY_DELAY_VALID, NODE_DELAY_NOM_DELAY, NODE_STATUS_STATE,
   NODE_STATUS_IN_SET, NODE_STATUS_VIOL_RUN, NODE_STATUS_LAST_CYCLE, NODE_STATUS_DEV, SLOT_VIOLATION_COUNT,
   NODE_ERR_CRC_ERR, NODE_ERR_FORMAT_ERR, NODE_MISS_MISSED, NODE_MISS_DELAY_REJECT, TB_TIME_NS]

/-- Fields of the NETWORK domain, part 2. -/
def fieldsNetwork2 : List Field :=
  [TB_FRAC_FRAC, TB_RATE_PPB, TB_RATE_PPB_FRAC, TB_CORR_NS, TB_STATE_STATE,
   TB_STATE_STEP_PENDING, PENDING_STEP_NS, JUMP_LIMIT_NS, TB_COUNT_STEPS_APPLIED, TB_COUNT_STEPS_REFUSED,
   TB_SNAP_OTHER, SNAP_SELF_NS, SNAP_OTHER_NS, BR_CFG_LATE_MAX, PTP_DISCARD_COUNT,
   TXR_BASE_ADDR, TXR_CTRL_TXR_SIZE, TXR_IDX_TXR_HEAD, TXR_IDX_TXR_TAIL, TXR_BAD_COUNT,
   GATE_STATUS_GATES, GATE_STATUS_ENTRY, GATE_STATUS_LIST_PENDING, GATE_TOO_LONG_COUNT, LATE_DROP_COUNT,
   TC_FRAMES_COUNT, TWIN_CFG_PAIR_EN, TWIN_CFG_PRIO, TWIN_STATE_ROLE, TWIN_STATE_TOKEN,
   TWIN_STATE_PARTNER_TOKEN, TWIN_STATE_HB_OK, TWIN_STATE_LINK_UP, TWIN_STATE_SYNC, TWIN_FLAGS_TWIN_LINK_FAULT,
   TWIN_FLAGS_DIVERGED, TWIN_FLAGS_ARB_LOST, TWIN_FLAGS_CHANNEL_DEGRADED, DIGEST_MISMATCH_COUNT, TAKEOVERS_COUNT]

/-- Fields of the NETWORK domain, part 3. -/
def fieldsNetwork3 : List Field :=
  [INPUT_FWD_COUNT, FIRST_MISMATCH_CYCLE, RESYNC_PROGRESS_MIB_DIRTY, RESYNC_PROGRESS_PHASE, LOCAL_DIGEST_DIGEST,
   PARTNER_DIGEST_DIGEST]

end Sys2Proof.Reg
end

