-- ==== Sys2Proof/Machine/RegMapPlatform.lean ====
section
/-!
DEFINITION. The register fields of the PLATFORM domain, one definition a field, each from the row of the register table
of spec/ that its docstring names: domain, unit, units, base, stride, count, low bit, width, 64-bit register, access,
Reset, Kept by.
-/
namespace Sys2Proof.Reg

/-- `FUNC` of `TIME_CFG` in PLATFORM.GPIO (18, R590). 0 none, 1 capture, 2 trigger; 3 acts as 0. -/
def TIME_CFG_FUNC : Field :=
  ⟨472, 0, 5, 64, 0x100, 0x0, 1, 0, 2, false, .rw, 0x0, [], []⟩

/-- `BASE` of `TIME_CFG` in PLATFORM.GPIO (18, R590). Time base 0 to 7. -/
def TIME_CFG_BASE : Field :=
  ⟨473, 0, 5, 64, 0x100, 0x0, 1, 2, 3, false, .rw, 0x0, [], []⟩

/-- `EDGE` of `TIME_CFG` in PLATFORM.GPIO (18, R590). Capture: 0 rising, 1 falling, 2 both; 3 acts as 0. -/
def TIME_CFG_EDGE : Field :=
  ⟨474, 0, 5, 64, 0x100, 0x0, 1, 5, 2, false, .rw, 0x0, [], []⟩

/-- `POL` of `TIME_CFG` in PLATFORM.GPIO (18, R590). Trigger: 0 active high. -/
def TIME_CFG_POL : Field :=
  ⟨475, 0, 5, 64, 0x100, 0x0, 1, 7, 1, false, .rw, 0x0, [], []⟩

/-- `NS` of `CAP_TIME` in PLATFORM.GPIO (18, R590). Last capture. -/
def CAP_TIME_NS : Field :=
  ⟨476, 0, 5, 64, 0x108, 0x0, 1, 0, 64, true, .ro, 0x0, [], []⟩

/-- `CAP_OVERRUN` of `CAP_STATUS` in PLATFORM.GPIO (18, R590). R588. -/
def CAP_STATUS_CAP_OVERRUN : Field :=
  ⟨477, 0, 5, 64, 0x110, 0x0, 1, 0, 1, false, .w1c, 0x0, [], []⟩

/-- `CAP_COUNT` of `CAP_STATUS` in PLATFORM.GPIO (18, R590). Captures. -/
def CAP_STATUS_CAP_COUNT : Field :=
  ⟨478, 0, 5, 64, 0x110, 0x0, 1, 16, 16, false, .rc, 0x0, [], []⟩

/-- `NS` of `TRIG_START` in PLATFORM.GPIO (18, R590). First edge. -/
def TRIG_START_NS : Field :=
  ⟨479, 0, 5, 64, 0x118, 0x0, 1, 0, 64, true, .rw, 0x0, [], []⟩

/-- `NS` of `TRIG_PERIOD` in PLATFORM.GPIO (18, R590). 0 single pulse. -/
def TRIG_PERIOD_NS : Field :=
  ⟨480, 0, 5, 64, 0x120, 0x0, 1, 0, 32, true, .rw, 0x0, [], []⟩

/-- `TRIG_WIDTH` of `TRIG_PERIOD` in PLATFORM.GPIO (18, R590). ns, 8 to period − 8. -/
def TRIG_PERIOD_TRIG_WIDTH : Field :=
  ⟨481, 0, 5, 64, 0x120, 0x0, 1, 32, 32, true, .rw, 0x8, [], []⟩

/-- `COUNT` of `TRIG_SKIP` in PLATFORM.GPIO (18, R590). R589. -/
def TRIG_SKIP_COUNT : Field :=
  ⟨482, 0, 5, 64, 0x128, 0x0, 1, 0, 32, false, .rc, 0x0, [], []⟩

/-- `VECTOR` of `EV_ROUTE` in PLATFORM.EVT (21, R659). MSI-X vector. -/
def EV_ROUTE_VECTOR : Field :=
  ⟨532, 0, 4, 1, 0x0, 0x8, 256, 0, 6, false, .rw, 0x0, [.l], []⟩

/-- `MSIX_EN` of `EV_ROUTE` in PLATFORM.EVT (21, R659). Route to the vector. -/
def EV_ROUTE_MSIX_EN : Field :=
  ⟨533, 0, 4, 1, 0x0, 0x8, 256, 6, 1, false, .rw, 0x0, [.l], []⟩

/-- `RANGER_EN` of `EV_ROUTE` in PLATFORM.EVT (21, R659). Route to Ranger. -/
def EV_ROUTE_RANGER_EN : Field :=
  ⟨534, 0, 4, 1, 0x0, 0x8, 256, 7, 1, false, .rw, 0x0, [.l], []⟩

/-- `CALDERA_EN` of `EV_ROUTE` in PLATFORM.EVT (21, R659). Route to Caldera, R651. -/
def EV_ROUTE_CALDERA_EN : Field :=
  ⟨535, 0, 4, 1, 0x0, 0x8, 256, 8, 1, false, .rw, 0x0, [.l], []⟩

/-- `CORE_MASK` of `EV_ROUTE` in PLATFORM.EVT (21, R659). Bit c: route to core c. -/
def EV_ROUTE_CORE_MASK : Field :=
  ⟨536, 0, 4, 1, 0x0, 0x8, 256, 16, 16, false, .rw, 0x0, [.l], []⟩

/-- `PEND` of `HOST_PEND` in PLATFORM.EVT (21, R659). Events 64w to 64w + 63 pending for MSI-X. -/
def HOST_PEND_PEND : Field :=
  ⟨537, 0, 4, 1, 0x800, 0x8, 4, 0, 64, true, .rc, 0x0, [.l], []⟩

/-- `N` of `EV_RAISE` in PLATFORM.EVT (21, R659). Raises EV(240 + N). -/
def EV_RAISE_N : Field :=
  ⟨538, 0, 4, 1, 0xC00, 0x0, 1, 0, 4, false, .wo, 0x0, [], []⟩

/-- `COUNT` of `EV_MERGED` in PLATFORM.EVT (21, R659). Raises merged under R652. -/
def EV_MERGED_COUNT : Field :=
  ⟨539, 0, 4, 1, 0xC08, 0x0, 1, 0, 32, false, .rc, 0x0, [.l], []⟩

/-- `PEND` of `AC_PEND` in PLATFORM.EVT (21, R659). Events 64w to 64w + 63 pending for core c. -/
def AC_PEND_PEND : Field :=
  ⟨540, 0, 4, 1, 0x1000, 0x8, 64, 0, 64, true, .w1c, 0x0, [.l], []⟩

/-- `LOCK` of `CLK_STATUS` in PLATFORM.CLK (23, R707). PLL locked: [0] CORE, [1] MGMT, [2] FABRIC, [3] JCE, [4] SAW, [5] PWM, [6] ADC, [7] TIME, [8] SAFE, [9] DRAM, [10] PCIe. -/
def CLK_STATUS_LOCK : Field :=
  ⟨608, 0, 1, 1, 0x0, 0x0, 1, 0, 11, false, .ro, 0x0, [.l], []⟩

/-- `MAIN_OK` of `CLK_STATUS` in PLATFORM.CLK (23, R707). XTAL_MAIN within tolerance. -/
def CLK_STATUS_MAIN_OK : Field :=
  ⟨609, 0, 1, 1, 0x0, 0x0, 1, 11, 1, false, .ro, 0x0, [.l], []⟩

/-- `PCIE_REF_OK` of `CLK_STATUS` in PLATFORM.CLK (23, R707). PCIE_REFCLK present. -/
def CLK_STATUS_PCIE_REF_OK : Field :=
  ⟨610, 0, 1, 1, 0x0, 0x0, 1, 12, 1, false, .ro, 0x0, [.l], []⟩

/-- `PCIE_REF_LOST` of `CLK_FLAGS` in PLATFORM.CLK (23, R707). R686. -/
def CLK_FLAGS_PCIE_REF_LOST : Field :=
  ⟨611, 0, 1, 1, 0x8, 0x0, 1, 0, 1, false, .w1c, 0x0, [.l], []⟩

/-- `SAG_HOLD` of `SAG_CFG` in PLATFORM.PWR (23, R707). µs, 1 to 1,000; 0 acts as 1. -/
def SAG_CFG_SAG_HOLD : Field :=
  ⟨612, 0, 2, 1, 0x0, 0x0, 1, 0, 10, false, .rw, 0x14, [.d, .l], []⟩

/-- `RATE` of `SAG_STATUS` in PLATFORM.PWR (23, R707). Slowed clocks in eighths of full rate: 4, 5, 6, 7 or 8. -/
def SAG_STATUS_RATE : Field :=
  ⟨613, 0, 2, 1, 0x8, 0x0, 1, 0, 4, false, .ro, 0x8, [], []⟩

/-- `WARN_CORE` of `SAG_STATUS` in PLATFORM.PWR (23, R707). VDD_CORE below warning. -/
def SAG_STATUS_WARN_CORE : Field :=
  ⟨614, 0, 2, 1, 0x8, 0x0, 1, 4, 1, false, .ro, 0x0, [], []⟩

/-- `WARN_SAW` of `SAG_STATUS` in PLATFORM.PWR (23, R707). VDD_SAW below warning. -/
def SAG_STATUS_WARN_SAW : Field :=
  ⟨615, 0, 2, 1, 0x8, 0x0, 1, 5, 1, false, .ro, 0x0, [], []⟩

/-- `HOLDING` of `SAG_STATUS` in PLATFORM.PWR (23, R707). SAG_HOLD running. -/
def SAG_STATUS_HOLDING : Field :=
  ⟨616, 0, 2, 1, 0x8, 0x0, 1, 6, 1, false, .ro, 0x0, [], []⟩

/-- `SAG_WARN` of `SAG_FLAGS` in PLATFORM.PWR (23, R707). R691. -/
def SAG_FLAGS_SAG_WARN : Field :=
  ⟨617, 0, 2, 1, 0x10, 0x0, 1, 0, 1, false, .w1c, 0x0, [.d, .l], []⟩

/-- `RAIL_FAULT` of `SAG_FLAGS` in PLATFORM.PWR (23, R707). R690. -/
def SAG_FLAGS_RAIL_FAULT : Field :=
  ⟨618, 0, 2, 1, 0x10, 0x0, 1, 1, 1, false, .w1c, 0x0, [.d, .l], []⟩

/-- `COUNT` of `SAG_COUNT` in PLATFORM.PWR (23, R707). Sag events. -/
def SAG_COUNT_COUNT : Field :=
  ⟨619, 0, 2, 1, 0x18, 0x0, 1, 0, 32, false, .rc, 0x0, [.d, .l], []⟩

/-- `US` of `SAG_MAX` in PLATFORM.PWR (23, R707). Longest event, warning to full rate. -/
def SAG_MAX_US : Field :=
  ⟨620, 0, 2, 1, 0x1C, 0x0, 1, 0, 32, false, .rc, 0x0, [.d, .l], []⟩

/-- `IN_RANGE` of `RAIL_STATUS` in PLATFORM.PWR (23, R707). Rails of the rail table, in table order. -/
def RAIL_STATUS_IN_RANGE : Field :=
  ⟨621, 0, 2, 1, 0x20, 0x0, 1, 0, 8, false, .ro, 0x0, [], []⟩

/-- `STATE` of `PWR_STATE` in PLATFORM.PWR (23, R707). 0 RUNNING, 1 entering PARK, 2 PARK, 3 leaving PARK. -/
def PWR_STATE_STATE : Field :=
  ⟨622, 0, 2, 1, 0x28, 0x0, 1, 0, 2, false, .ro, 0x0, [.l], []⟩

/-- `JUNCTION` of `TEMP` in PLATFORM.PWR (23, R707). Highest junction reading, s16 in 1/16 °C. -/
def TEMP_JUNCTION : Field :=
  ⟨623, 0, 2, 1, 0x30, 0x0, 1, 0, 16, false, .ro, 0x0, [], []⟩

/-- `LETTER` of `RST_CAUSE` in PLATFORM.RST (23, R707). ASCII letter of the last reset, as SYS_STATUS reports it; rewritten at every P, W, D, M and Z with that reset's letter. -/
def RST_CAUSE_LETTER : Field :=
  ⟨624, 0, 3, 1, 0x0, 0x0, 1, 0, 8, false, .ro, 0x50, [.l], []⟩

/-- `CAUSE` of `RST_CAUSE` in PLATFORM.RST (23, R707). 0 PORST_N, 1 RESET_N, 2 BROWNOUT_CORE, 3 BROWNOUT_SAW, 4 CLOCK, 5 THERMAL, 6 command, 7 Ranger watchdog, 8 firmware activation, 9 pair rejoin, 10 WAKE; rewritten at every P, W, D, M and Z. -/
def RST_CAUSE_CAUSE : Field :=
  ⟨625, 0, 3, 1, 0x0, 0x0, 1, 8, 4, false, .ro, 0x0, [.l], []⟩

/-- `DOMAIN` of `RST_CAUSE` in PLATFORM.RST (23, R707). Domain of the last M; rewritten at every M. -/
def RST_CAUSE_DOMAIN : Field :=
  ⟨626, 0, 3, 1, 0x0, 0x0, 1, 12, 4, false, .ro, 0x0, [.w, .d, .l, .z], []⟩

/-- `W_COUNT` of `RST_COUNT` in PLATFORM.RST (23, R707). W resets since P; increases by 1 at every W. -/
def RST_COUNT_W_COUNT : Field :=
  ⟨627, 0, 3, 1, 0x8, 0x0, 1, 0, 16, false, .ro, 0x0, [.d, .m, .l, .z], []⟩

/-- `D_COUNT` of `RST_COUNT` in PLATFORM.RST (23, R707). D resets since P; increases by 1 at every D. -/
def RST_COUNT_D_COUNT : Field :=
  ⟨628, 0, 3, 1, 0x8, 0x0, 1, 16, 16, false, .ro, 0x0, [.w, .m, .l, .z], []⟩

/-- `ENROLLED` of `OTP_STATUS` in PLATFORM.OTP (24, R721). Bit k − 1: slot k holds a hash. Reset: From OTP. -/
def OTP_STATUS_ENROLLED : Field :=
  ⟨629, 0, 6, 1, 0x0, 0x0, 1, 0, 4, false, .ro, 0x0, [], []⟩

/-- `REVOKED` of `OTP_STATUS` in PLATFORM.OTP (24, R721). Bit k − 1: slot k revoked. Reset: From OTP. -/
def OTP_STATUS_REVOKED : Field :=
  ⟨630, 0, 6, 1, 0x0, 0x0, 1, 4, 4, false, .ro, 0x0, [], []⟩

/-- `ROLLBACK` of `OTP_STATUS` in PLATFORM.OTP (24, R721). Anti-rollback count, 0 to 64. Reset: From OTP. -/
def OTP_STATUS_ROLLBACK : Field :=
  ⟨631, 0, 6, 1, 0x0, 0x0, 1, 8, 7, false, .ro, 0x0, [], []⟩

/-- `OTP_OK` of `OTP_STATUS` in PLATFORM.OTP (24, R721). OTP shadow checked at step 2 of R711. -/
def OTP_STATUS_OTP_OK : Field :=
  ⟨632, 0, 6, 1, 0x0, 0x0, 1, 15, 1, false, .ro, 0x0, [], []⟩

/-- `PROG_RESULT` of `OTP_STATUS` in PLATFORM.OTP (24, R721). 0 none, 1 done, 2 refused: slot used, 3 refused: mode or CONFIRM, 4 refused: slot 0. -/
def OTP_STATUS_PROG_RESULT : Field :=
  ⟨633, 0, 6, 1, 0x0, 0x0, 1, 16, 3, false, .ro, 0x0, [], []⟩

/-- `SLOT` of `OTP_PROG` in PLATFORM.OTP (24, R721). Slot 1 to 4. -/
def OTP_PROG_SLOT : Field :=
  ⟨634, 0, 6, 1, 0x8, 0x0, 1, 0, 3, false, .wo, 0x0, [], []⟩

/-- `OP` of `OTP_PROG` in PLATFORM.OTP (24, R721). 1 enrol, 2 revoke; 0 and 3 no effect. -/
def OTP_PROG_OP : Field :=
  ⟨635, 0, 6, 1, 0x8, 0x0, 1, 4, 2, false, .wo, 0x0, [], []⟩

/-- `CONFIRM` of `OTP_PROG` in PLATFORM.OTP (24, R721). Must be 0x5A4B. -/
def OTP_PROG_CONFIRM : Field :=
  ⟨636, 0, 6, 1, 0x8, 0x0, 1, 16, 16, false, .wo, 0x0, [], []⟩

/-- `WORD` of `KEY_BUF` in PLATFORM.OTP (24, R721). Public key bytes 4i to 4i + 3, i = 0 to 327. -/
def KEY_BUF_WORD : Field :=
  ⟨637, 0, 6, 1, 0x1000, 0x4, 328, 0, 32, false, .rw, 0x0, [], []⟩

/-- Fields of the PLATFORM domain, part 0. -/
def fieldsPlatform0 : List Field :=
  [TIME_CFG_FUNC, TIME_CFG_BASE, TIME_CFG_EDGE, TIME_CFG_POL, CAP_TIME_NS,
   CAP_STATUS_CAP_OVERRUN, CAP_STATUS_CAP_COUNT, TRIG_START_NS, TRIG_PERIOD_NS, TRIG_PERIOD_TRIG_WIDTH,
   TRIG_SKIP_COUNT, EV_ROUTE_VECTOR, EV_ROUTE_MSIX_EN, EV_ROUTE_RANGER_EN, EV_ROUTE_CALDERA_EN,
   EV_ROUTE_CORE_MASK, HOST_PEND_PEND, EV_RAISE_N, EV_MERGED_COUNT, AC_PEND_PEND,
   CLK_STATUS_LOCK, CLK_STATUS_MAIN_OK, CLK_STATUS_PCIE_REF_OK, CLK_FLAGS_PCIE_REF_LOST, SAG_CFG_SAG_HOLD,
   SAG_STATUS_RATE, SAG_STATUS_WARN_CORE, SAG_STATUS_WARN_SAW, SAG_STATUS_HOLDING, SAG_FLAGS_SAG_WARN,
   SAG_FLAGS_RAIL_FAULT, SAG_COUNT_COUNT, SAG_MAX_US, RAIL_STATUS_IN_RANGE, PWR_STATE_STATE,
   TEMP_JUNCTION, RST_CAUSE_LETTER, RST_CAUSE_CAUSE, RST_CAUSE_DOMAIN, RST_COUNT_W_COUNT]

/-- Fields of the PLATFORM domain, part 1. -/
def fieldsPlatform1 : List Field :=
  [RST_COUNT_D_COUNT, OTP_STATUS_ENROLLED, OTP_STATUS_REVOKED, OTP_STATUS_ROLLBACK, OTP_STATUS_OTP_OK,
   OTP_STATUS_PROG_RESULT, OTP_PROG_SLOT, OTP_PROG_OP, OTP_PROG_CONFIRM, KEY_BUF_WORD]

end Sys2Proof.Reg
end

