-- ==== Sys2Proof/Machine/RegMapSafety.lean ====
section
/-!
DEFINITION. The register fields of the SAFETY domain, one definition a field, each from the row of the register table
of spec/ that its docstring names: domain, unit, units, base, stride, count, low bit, width, 64-bit register, access,
Reset, Kept by.
-/
namespace Sys2Proof.Reg

/-- `KIND` of `SIP_CFG` in SAFETY.SIP (13, R459). Pair kind; 3 acts as 0. -/
def SIP_CFG_KIND : Field :=
  ⟨300, 7, 2, 16, 0x0, 0x0, 1, 0, 2, false, .ro, 0x0, [.d, .l], []⟩

/-- `SRC_A` of `SIP_CFG` in SAFETY.SIP (13, R459). 0 NONE, 1 to 8 TPS0 to TPS7. -/
def SIP_CFG_SRC_A : Field :=
  ⟨301, 7, 2, 16, 0x0, 0x0, 1, 2, 4, false, .ro, 0x0, [.d, .l], []⟩

/-- `SRC_B` of `SIP_CFG` in SAFETY.SIP (13, R459). As SRC_A. -/
def SIP_CFG_SRC_B : Field :=
  ⟨302, 7, 2, 16, 0x0, 0x0, 1, 6, 4, false, .ro, 0x0, [.d, .l], []⟩

/-- `SI_FILT` of `SIP_CFG` in SAFETY.SIP (13, R459). 250 µs units, 1 to 80. -/
def SIP_CFG_SI_FILT : Field :=
  ⟨303, 7, 2, 16, 0x0, 0x0, 1, 10, 7, false, .ro, 0x4, [.d, .l], []⟩

/-- `T_DISC` of `SIP_CFG` in SAFETY.SIP (13, R459). ms, 1 to 500. -/
def SIP_CFG_T_DISC : Field :=
  ⟨304, 7, 2, 16, 0x0, 0x0, 1, 17, 10, false, .ro, 0x32, [.d, .l], []⟩

/-- `DEMAND` of `SIP_STATUS` in SAFETY.SIP (13, R459). Pair in demand. -/
def SIP_STATUS_DEMAND : Field :=
  ⟨305, 7, 2, 16, 0x8, 0x0, 1, 0, 1, false, .ro, 0x1, [.d, .l], []⟩

/-- `LEVEL` of `SIP_STATUS` in SAFETY.SIP (13, R459). Used levels of A, B. -/
def SIP_STATUS_LEVEL : Field :=
  ⟨306, 7, 2, 16, 0x8, 0x0, 1, 1, 2, false, .ro, 0x0, [.d, .l], []⟩

/-- `MASKED` of `SIP_STATUS` in SAFETY.SIP (13, R459). A, B masked by a window. -/
def SIP_STATUS_MASKED : Field :=
  ⟨307, 7, 2, 16, 0x8, 0x0, 1, 3, 2, false, .ro, 0x0, [.d, .l], []⟩

/-- `DISC_RUNNING` of `SIP_STATUS` in SAFETY.SIP (13, R459). Channels disagree. -/
def SIP_STATUS_DISC_RUNNING : Field :=
  ⟨308, 7, 2, 16, 0x8, 0x0, 1, 5, 1, false, .ro, 0x0, [.d, .l], []⟩

/-- `DISCREPANCY` of `SIP_STATUS` in SAFETY.SIP (13, R459). R446. -/
def SIP_STATUS_DISCREPANCY : Field :=
  ⟨309, 7, 2, 16, 0x8, 0x0, 1, 6, 1, false, .ro, 0x0, [.d, .l], []⟩

/-- `TP_FAIL` of `SIP_STATUS` in SAFETY.SIP (13, R459). R449. -/
def SIP_STATUS_TP_FAIL : Field :=
  ⟨310, 7, 2, 16, 0x8, 0x0, 1, 7, 1, false, .ro, 0x0, [.d, .l], []⟩

/-- `BOTH_SEEN` of `SIP_STATUS` in SAFETY.SIP (13, R459). R444. -/
def SIP_STATUS_BOTH_SEEN : Field :=
  ⟨311, 7, 2, 16, 0x8, 0x0, 1, 8, 1, false, .ro, 0x0, [.d, .l], []⟩

/-- `COUNT` of `DISAGREE_COUNT` in SAFETY.SIP (13, R459). Disagreements shorter than T_DISC. -/
def DISAGREE_COUNT_COUNT : Field :=
  ⟨312, 7, 2, 16, 0x10, 0x0, 1, 0, 32, false, .rc, 0x0, [.d, .l], []⟩

/-- `COUNT` of `DISC_COUNT` in SAFETY.SIP (13, R459). Discrepancies latched. -/
def DISC_COUNT_COUNT : Field :=
  ⟨313, 7, 2, 16, 0x18, 0x0, 1, 0, 16, false, .rc, 0x0, [.d, .l], []⟩

/-- `TP_FAIL_COUNT` of `DISC_COUNT` in SAFETY.SIP (13, R459). Failed tests of either channel. -/
def DISC_COUNT_TP_FAIL_COUNT : Field :=
  ⟨314, 7, 2, 16, 0x18, 0x0, 1, 16, 16, false, .rc, 0x0, [.d, .l], []⟩

/-- `EN` of `TPS_CFG` in SAFETY.TPS (13, R459). Output enabled; disabled drives low. -/
def TPS_CFG_EN : Field :=
  ⟨315, 7, 4, 8, 0x0, 0x0, 1, 0, 1, false, .ro, 0x0, [.d, .l], []⟩

/-- `TP_WIDTH` of `TPS_CFG` in SAFETY.TPS (13, R459). 250 µs units, 2 to 4. -/
def TPS_CFG_TP_WIDTH : Field :=
  ⟨316, 7, 4, 8, 0x0, 0x0, 1, 1, 3, false, .ro, 0x2, [.d, .l], []⟩

/-- `TP_SETTLE` of `TPS_CFG` in SAFETY.TPS (13, R459). 250 µs units, 0 to 4. -/
def TPS_CFG_TP_SETTLE : Field :=
  ⟨317, 7, 4, 8, 0x0, 0x0, 1, 4, 3, false, .ro, 0x0, [.d, .l], []⟩

/-- `TP_PERIOD` of `TPS_CFG` in SAFETY.TPS (13, R459). ms, 100 to 60,000. -/
def TPS_CFG_TP_PERIOD : Field :=
  ⟨318, 7, 4, 8, 0x0, 0x0, 1, 7, 16, false, .ro, 0x3E8, [.d, .l], []⟩

/-- `WINDOW` of `TPS_STATUS` in SAFETY.TPS (13, R459). Window open. -/
def TPS_STATUS_WINDOW : Field :=
  ⟨319, 7, 4, 8, 0x8, 0x0, 1, 0, 1, false, .ro, 0x0, [.d, .l], []⟩

/-- `LAST_PASS` of `TPS_STATUS` in SAFETY.TPS (13, R459). Last completed test passed. -/
def TPS_STATUS_LAST_PASS : Field :=
  ⟨320, 7, 4, 8, 0x8, 0x0, 1, 1, 1, false, .ro, 0x0, [.d, .l], []⟩

/-- `TP_DEFER` of `TPS_STATUS` in SAFETY.TPS (13, R459). Boundaries waited under R457. -/
def TPS_STATUS_TP_DEFER : Field :=
  ⟨321, 7, 4, 8, 0x8, 0x0, 1, 16, 16, false, .rc, 0x0, [.d, .l], []⟩

/-- `TIME` of `TPS_LAST` in SAFETY.TPS (13, R459). TB6 in ns at the last pulse start. -/
def TPS_LAST_TIME : Field :=
  ⟨322, 7, 4, 8, 0x10, 0x0, 1, 0, 64, true, .ro, 0x0, [.d, .l], []⟩

/-- `EN` of `SO_CFG` in SAFETY.SO (13, R459). Output in use. -/
def SO_CFG_EN : Field :=
  ⟨323, 7, 3, 16, 0x0, 0x0, 1, 0, 1, false, .ro, 0x0, [.d, .l], []⟩

/-- `TEST_EN` of `SO_CFG` in SAFETY.SO (13, R459). Test pulses, R453. -/
def SO_CFG_TEST_EN : Field :=
  ⟨324, 7, 3, 16, 0x0, 0x0, 1, 1, 1, false, .ro, 0x0, [.d, .l], []⟩

/-- `OTP_WIDTH` of `SO_CFG` in SAFETY.SO (13, R459). 250 µs units, 1 to 4. -/
def SO_CFG_OTP_WIDTH : Field :=
  ⟨325, 7, 3, 16, 0x0, 0x0, 1, 2, 3, false, .ro, 0x2, [.d, .l], []⟩

/-- `OTP_PERIOD` of `SO_CFG` in SAFETY.SO (13, R459). ms, 100 to 60,000. -/
def SO_CFG_OTP_PERIOD : Field :=
  ⟨326, 7, 3, 16, 0x0, 0x0, 1, 5, 16, false, .ro, 0x3E8, [.d, .l], []⟩

/-- `SORB_T` of `SO_CFG` in SAFETY.SO (13, R459). 250 µs units, 1 to 20. -/
def SO_CFG_SORB_T : Field :=
  ⟨327, 7, 3, 16, 0x0, 0x0, 1, 21, 5, false, .ro, 0x4, [.d, .l], []⟩

/-- `CMD` of `SO_STATUS` in SAFETY.SO (13, R459). Function commands on. -/
def SO_STATUS_CMD : Field :=
  ⟨328, 7, 3, 16, 0x8, 0x0, 1, 0, 1, false, .ro, 0x0, [.d, .l], []⟩

/-- `OUT` of `SO_STATUS` in SAFETY.SO (13, R459). Ball level. -/
def SO_STATUS_OUT : Field :=
  ⟨329, 7, 3, 16, 0x8, 0x0, 1, 1, 1, false, .ro, 0x0, [.d, .l], []⟩

/-- `SORB` of `SO_STATUS` in SAFETY.SO (13, R459). Readback level. -/
def SO_STATUS_SORB : Field :=
  ⟨330, 7, 3, 16, 0x8, 0x0, 1, 2, 1, false, .ro, 0x0, [.d, .l], []⟩

/-- `TESTING` of `SO_STATUS` in SAFETY.SO (13, R459). Test pulse running. -/
def SO_STATUS_TESTING : Field :=
  ⟨331, 7, 3, 16, 0x8, 0x0, 1, 3, 1, false, .ro, 0x0, [.d, .l], []⟩

/-- `SO_FAULT` of `SO_STATUS` in SAFETY.SO (13, R459). R452. -/
def SO_STATUS_SO_FAULT : Field :=
  ⟨332, 7, 3, 16, 0x8, 0x0, 1, 4, 1, false, .ro, 0x0, [.d, .l], []⟩

/-- `RETEST` of `SO_STATUS` in SAFETY.SO (13, R459). Discarded test waiting under R454. -/
def SO_STATUS_RETEST : Field :=
  ⟨333, 7, 3, 16, 0x8, 0x0, 1, 5, 1, false, .ro, 0x0, [.d, .l], []⟩

/-- `COUNT` of `TEST_DISCARD` in SAFETY.SO (13, R459). Tests discarded. -/
def TEST_DISCARD_COUNT : Field :=
  ⟨334, 7, 3, 16, 0x10, 0x0, 1, 0, 16, false, .rc, 0x0, [.d, .l], []⟩

/-- `SO_FAULT_COUNT` of `TEST_DISCARD` in SAFETY.SO (13, R459). Readback failures. -/
def TEST_DISCARD_SO_FAULT_COUNT : Field :=
  ⟨335, 7, 3, 16, 0x10, 0x0, 1, 16, 16, false, .rc, 0x0, [.d, .l], []⟩

/-- `EDM_EN` of `EDM_CFG` in SAFETY.EDM (13, R459). Monitoring of SOn. -/
def EDM_CFG_EDM_EN : Field :=
  ⟨336, 7, 5, 16, 0x0, 0x0, 1, 0, 1, false, .ro, 0x0, [.d, .l], []⟩

/-- `EDM_T` of `EDM_CFG` in SAFETY.EDM (13, R459). ms, 10 to 1,000. -/
def EDM_CFG_EDM_T : Field :=
  ⟨337, 7, 5, 16, 0x0, 0x0, 1, 1, 10, false, .ro, 0xC8, [.d, .l], []⟩

/-- `LEVEL` of `EDM_STATUS` in SAFETY.EDM (13, R459). Filtered EDMn. -/
def EDM_STATUS_LEVEL : Field :=
  ⟨338, 7, 5, 16, 0x8, 0x0, 1, 0, 1, false, .ro, 0x0, [.d, .l], []⟩

/-- `EDM_FAULT` of `EDM_STATUS` in SAFETY.EDM (13, R459). R456. -/
def EDM_STATUS_EDM_FAULT : Field :=
  ⟨339, 7, 5, 16, 0x8, 0x0, 1, 1, 1, false, .ro, 0x0, [.d, .l], []⟩

/-- `REFUSED` of `EDM_STATUS` in SAFETY.EDM (13, R459). Switch-on refused. -/
def EDM_STATUS_REFUSED : Field :=
  ⟨340, 7, 5, 16, 0x8, 0x0, 1, 2, 1, false, .ro, 0x0, [.d, .l], []⟩

/-- `STATE` of `CAL_STATE` in SAFETY.CORE (13, R459). 0 STARTUP, 1 OPERATIONAL, 2 SAFE_FAULT; others unused. -/
def CAL_STATE_STATE : Field :=
  ⟨341, 7, 0, 1, 0x0, 0x0, 1, 0, 3, false, .ro, 0x0, [.d, .l], []⟩

/-- `DIAG_FIRST` of `CAL_STATE` in SAFETY.CORE (13, R459). First diagnostic code of R440. -/
def CAL_STATE_DIAG_FIRST : Field :=
  ⟨342, 7, 0, 1, 0x0, 0x0, 1, 8, 8, false, .ro, 0x0, [.d, .l], []⟩

/-- `COUNT` of `CYCLE` in SAFETY.CORE (13, R459). Safety cycle boundaries in OPERATIONAL since STARTUP ended: 0 at its end, plus 1 at each boundary in OPERATIONAL; it stops counting in SAFE_FAULT. -/
def CYCLE_COUNT : Field :=
  ⟨343, 7, 0, 1, 0x8, 0x0, 1, 0, 64, true, .ro, 0x0, [.d, .l], []⟩

/-- `NS` of `TB0_OFS` in SAFETY.CORE (13, R459). TB0 − TB6 at the latest cycle boundary, signed (R437). -/
def TB0_OFS_NS : Field :=
  ⟨344, 7, 0, 1, 0x50, 0x0, 1, 0, 64, true, .ro, 0x0, [.d, .l], []⟩

/-- `STOP` of `STOP_STATE` in SAFETY.CORE (14, R487). 0 NONE, 1 SS1, 2 STO. -/
def STOP_STATE_STOP : Field :=
  ⟨345, 7, 0, 1, 0x10, 0x0, 1, 0, 2, false, .ro, 0x2, [.d, .l], []⟩

/-- `RESTART_PEND` of `STOP_STATE` in SAFETY.CORE (14, R487). R469. -/
def STOP_STATE_RESTART_PEND : Field :=
  ⟨346, 7, 0, 1, 0x10, 0x0, 1, 2, 1, false, .ro, 0x0, [.d, .l], []⟩

/-- `STOP_CAUSE` of `STOP_STATE` in SAFETY.CORE (14, R487). Cause of the last demand. -/
def STOP_STATE_STOP_CAUSE : Field :=
  ⟨347, 7, 0, 1, 0x10, 0x0, 1, 8, 8, false, .ro, 0x0, [.d, .l], []⟩

/-- `TIME` of `SS1_START` in SAFETY.CORE (14, R487). TB6 in ns at t_s. -/
def SS1_START_TIME : Field :=
  ⟨348, 7, 0, 1, 0x18, 0x0, 1, 0, 64, true, .ro, 0x0, [.d, .l], []⟩

/-- `LEVEL` of `LEVELS` in SAFETY.CORE (14, R487). As pt 0x2_1003 [31:0]. -/
def LEVELS_LEVEL : Field :=
  ⟨349, 7, 0, 1, 0x20, 0x0, 1, 0, 32, false, .ro, 0xAAAAAAAA, [.d, .l], []⟩

/-- `PERMIT` of `PERMIT` in SAFETY.CORE (14, R487). Axes 64n to 64n + 63. -/
def PERMIT : Field :=
  ⟨350, 7, 0, 1, 0x28, 0x8, 4, 0, 64, true, .ro, 0x0, [.d, .l], []⟩

/-- `COUNT` of `XCHK_FAIL` in SAFETY.CORE (14, R487). Cross-check failures. -/
def XCHK_FAIL_COUNT : Field :=
  ⟨351, 7, 0, 1, 0x48, 0x0, 1, 0, 32, false, .rc, 0x0, [.d, .l], []⟩

/-- `STATE` of `CONN_STATE` in SAFETY.CORE (14, R487). Connection c, 0 to 271 (nodes, then sensors): 0 unused, 1 waiting, 2 accepted, 3 timed out. -/
def CONN_STATE_STATE : Field :=
  ⟨352, 7, 0, 1, 0x1000, 0x10, 272, 0, 2, true, .ro, 0x0, [.d, .l], []⟩

/-- `CRC_ERR` of `CONN_STATE` in SAFETY.CORE (14, R487). CRC failures. -/
def CONN_STATE_CRC_ERR : Field :=
  ⟨353, 7, 0, 1, 0x1000, 0x10, 272, 16, 16, true, .rc, 0x0, [.d, .l], []⟩

/-- `SEQ_GAP` of `CONN_STATE` in SAFETY.CORE (14, R487). Gaps of R478. -/
def CONN_STATE_SEQ_GAP : Field :=
  ⟨354, 7, 0, 1, 0x1000, 0x10, 272, 32, 16, true, .rc, 0x0, [.d, .l], []⟩

/-- `TIMEOUTS` of `CONN_STATE` in SAFETY.CORE (14, R487). Timeouts. -/
def CONN_STATE_TIMEOUTS : Field :=
  ⟨355, 7, 0, 1, 0x1000, 0x10, 272, 48, 16, true, .rc, 0x0, [.d, .l], []⟩

/-- `EN` of `SEP_STATUS` in SAFETY.SEP (14, R487). Separation monitoring configured. -/
def SEP_STATUS_EN : Field :=
  ⟨356, 7, 1, 1, 0x0, 0x0, 1, 0, 1, false, .ro, 0x0, [.d, .l], []⟩

/-- `TRACKS` of `SEP_STATUS` in SAFETY.SEP (14, R487). Valid tracks, 0 to 32. -/
def SEP_STATUS_TRACKS : Field :=
  ⟨357, 7, 1, 1, 0x0, 0x0, 1, 1, 6, false, .ro, 0x0, [.d, .l], []⟩

/-- `DIST` of `SEP_MIN` in SAFETY.SEP (14, R487). Smallest distance in the cell, mm. -/
def SEP_MIN_DIST : Field :=
  ⟨358, 7, 1, 1, 0x8, 0x0, 1, 0, 32, true, .ro, 0x0, [.d, .l], []⟩

/-- `ARM` of `SEP_MIN` in SAFETY.SEP (14, R487). Its arm. -/
def SEP_MIN_ARM : Field :=
  ⟨359, 7, 1, 1, 0x8, 0x0, 1, 32, 4, true, .ro, 0x0, [.d, .l], []⟩

/-- `TRACK` of `SEP_MIN` in SAFETY.SEP (14, R487). Its track slot. -/
def SEP_MIN_TRACK : Field :=
  ⟨360, 7, 1, 1, 0x8, 0x0, 1, 36, 5, true, .ro, 0x0, [.d, .l], []⟩

/-- `COUNT` of `SEP_STOPS` in SAFETY.SEP (14, R487). Separation stops. -/
def SEP_STOPS_COUNT : Field :=
  ⟨361, 7, 1, 1, 0x10, 0x0, 1, 0, 32, false, .rc, 0x0, [.d, .l], []⟩

/-- `LEVEL` of `SEAL_STATUS` in SAFETY.SEAL (15, R771). Accepted levels of SEAL0 to SEAL3, bit k for SEALk. -/
def SEAL_STATUS_LEVEL : Field :=
  ⟨362, 7, 6, 1, 0x0, 0x0, 1, 0, 4, false, .ro, 0x0, [.d, .l], []⟩

/-- `CONFIG_SEAL` of `SEAL_STATUS` in SAFETY.SEAL (15, R771). Configuration seal: 0 OPEN, 1 SEALED, 2 INVALID. -/
def SEAL_STATUS_CONFIG_SEAL : Field :=
  ⟨363, 7, 6, 1, 0x0, 0x0, 1, 4, 2, false, .ro, 0x2, [.d, .l], []⟩

/-- `SERVICE_SEAL` of `SEAL_STATUS` in SAFETY.SEAL (15, R771). Service seal, coded as CONFIG_SEAL. -/
def SEAL_STATUS_SERVICE_SEAL : Field :=
  ⟨364, 7, 6, 1, 0x0, 0x0, 1, 6, 2, false, .ro, 0x2, [.d, .l], []⟩

/-- `SEAL_MODE` of `SEAL_STATUS` in SAFETY.SEAL (15, R771). Seal mode on. -/
def SEAL_STATUS_SEAL_MODE : Field :=
  ⟨365, 7, 6, 1, 0x0, 0x0, 1, 8, 1, false, .ro, 0x0, [.d, .l], []⟩

/-- Fields of the SAFETY domain, part 0. -/
def fieldsSafety0 : List Field :=
  [SIP_CFG_KIND, SIP_CFG_SRC_A, SIP_CFG_SRC_B, SIP_CFG_SI_FILT, SIP_CFG_T_DISC,
   SIP_STATUS_DEMAND, SIP_STATUS_LEVEL, SIP_STATUS_MASKED, SIP_STATUS_DISC_RUNNING, SIP_STATUS_DISCREPANCY,
   SIP_STATUS_TP_FAIL, SIP_STATUS_BOTH_SEEN, DISAGREE_COUNT_COUNT, DISC_COUNT_COUNT, DISC_COUNT_TP_FAIL_COUNT,
   TPS_CFG_EN, TPS_CFG_TP_WIDTH, TPS_CFG_TP_SETTLE, TPS_CFG_TP_PERIOD, TPS_STATUS_WINDOW,
   TPS_STATUS_LAST_PASS, TPS_STATUS_TP_DEFER, TPS_LAST_TIME, SO_CFG_EN, SO_CFG_TEST_EN,
   SO_CFG_OTP_WIDTH, SO_CFG_OTP_PERIOD, SO_CFG_SORB_T, SO_STATUS_CMD, SO_STATUS_OUT,
   SO_STATUS_SORB, SO_STATUS_TESTING, SO_STATUS_SO_FAULT, SO_STATUS_RETEST, TEST_DISCARD_COUNT,
   TEST_DISCARD_SO_FAULT_COUNT, EDM_CFG_EDM_EN, EDM_CFG_EDM_T, EDM_STATUS_LEVEL, EDM_STATUS_EDM_FAULT]

/-- Fields of the SAFETY domain, part 1. -/
def fieldsSafety1 : List Field :=
  [EDM_STATUS_REFUSED, CAL_STATE_STATE, CAL_STATE_DIAG_FIRST, CYCLE_COUNT, TB0_OFS_NS,
   STOP_STATE_STOP, STOP_STATE_RESTART_PEND, STOP_STATE_STOP_CAUSE, SS1_START_TIME, LEVELS_LEVEL,
   PERMIT, XCHK_FAIL_COUNT, CONN_STATE_STATE, CONN_STATE_CRC_ERR, CONN_STATE_SEQ_GAP,
   CONN_STATE_TIMEOUTS, SEP_STATUS_EN, SEP_STATUS_TRACKS, SEP_MIN_DIST, SEP_MIN_ARM,
   SEP_MIN_TRACK, SEP_STOPS_COUNT, SEAL_STATUS_LEVEL, SEAL_STATUS_CONFIG_SEAL, SEAL_STATUS_SERVICE_SEAL,
   SEAL_STATUS_SEAL_MODE]

end Sys2Proof.Reg
end

