-- ==== Sys2Proof/Machine/RegMapSolver.lean ====
section
/-!
DEFINITION. The register fields of the SOLVER domain, one definition a field, each from the row of the register table
of spec/ that its docstring names: domain, unit, units, base, stride, count, low bit, width, 64-bit register, access,
Reset, Kept by.
-/
namespace Sys2Proof.Reg

/-- `SCHED_VALID` of `TILE_STATUS` in SOLVER.SAW (05, R172). 1 when the schedule and pattern of the bound problem are resident. -/
def TILE_STATUS_SCHED_VALID : Field :=
  ⟨19, 5, 0, 8, 0x0, 0x0, 1, 0, 1, false, .ro, 0x0, [], []⟩

/-- `BUSY` of `TILE_STATUS` in SOLVER.SAW (05, R172). 1 while the tile executes a run. -/
def TILE_STATUS_BUSY : Field :=
  ⟨20, 5, 0, 8, 0x0, 0x0, 1, 1, 1, false, .ro, 0x0, [], []⟩

/-- `INSTANCE` of `TILE_STATUS` in SOLVER.SAW (05, R172). Instance the tile belongs to. -/
def TILE_STATUS_INSTANCE : Field :=
  ⟨21, 5, 0, 8, 0x0, 0x0, 1, 2, 3, false, .ro, 0x0, [], []⟩

/-- `UNASSIGNED` of `TILE_STATUS` in SOLVER.SAW (05, R172). 1 when the tile belongs to no instance. -/
def TILE_STATUS_UNASSIGNED : Field :=
  ⟨22, 5, 0, 8, 0x0, 0x0, 1, 5, 1, false, .ro, 0x1, [], []⟩

/-- `SCHED_KIB` of `TILE_STATUS` in SOLVER.SAW (05, R172). Schedule memory in use, in KiB, 0 to 512. -/
def TILE_STATUS_SCHED_KIB : Field :=
  ⟨23, 5, 0, 8, 0x0, 0x0, 1, 16, 16, false, .ro, 0x0, [], []⟩

/-- `RECORD` of `DQ_PUSH` in SOLVER.DQ (05, R199). Posts one record. A 32-bit master posts by writing the low half and then the high half; the pair commits at the high-half write. -/
def DQ_PUSH_RECORD : Field :=
  ⟨24, 5, 2, 8, 0x0, 0x0, 1, 0, 64, true, .wo, 0x0, [], []⟩

/-- `RECORD` of `DQ_BURST` in SOLVER.DQ (05, R199). Each aligned 8-byte write posts one record; bursts are posted in address order. -/
def DQ_BURST_RECORD : Field :=
  ⟨25, 5, 2, 8, 0x1000, 0x8, 512, 0, 64, true, .wo, 0x0, [], []⟩

/-- `LEVEL` of `DQ_LEVEL` in SOLVER.DQ (05, R199). Records in the ring, 0 to 131,072. -/
def DQ_LEVEL_LEVEL : Field :=
  ⟨26, 5, 2, 8, 0x2000, 0x0, 1, 0, 18, false, .ro, 0x0, [], []⟩

/-- `HOLD` of `DQ_LEVEL` in SOLVER.DQ (05, R199). 1 while a run holds new records. -/
def DQ_LEVEL_HOLD : Field :=
  ⟨27, 5, 2, 8, 0x2000, 0x0, 1, 31, 1, false, .ro, 0x0, [], []⟩

/-- `COUNT` of `DQ_DROP` in SOLVER.DQ (05, R199). Records discarded by a full ring. -/
def DQ_DROP_COUNT : Field :=
  ⟨28, 5, 2, 8, 0x2008, 0x0, 1, 0, 32, false, .rc, 0x0, [], []⟩

/-- `COUNT` of `DQ_BAD` in SOLVER.DQ (05, R199). Records discarded as invalid. -/
def DQ_BAD_COUNT : Field :=
  ⟨29, 5, 2, 8, 0x2010, 0x0, 1, 0, 32, false, .rc, 0x0, [], []⟩

/-- `COUNT` of `DQ_SAT` in SOLVER.DQ (05, R199). Conversions or sums saturated. -/
def DQ_SAT_COUNT : Field :=
  ⟨30, 5, 2, 8, 0x2018, 0x0, 1, 0, 32, false, .rc, 0x0, [], []⟩

/-- `COUNT` of `DQ_APPLIED` in SOLVER.DQ (05, R199). Records applied for the latest run, counted up to its run start. -/
def DQ_APPLIED_COUNT : Field :=
  ⟨31, 5, 2, 8, 0x2020, 0x0, 1, 0, 32, false, .ro, 0x0, [], []⟩

/-- `DELTA_LOST` of `DQ_FLAGS` in SOLVER.DQ (05, R199). A record was dropped. -/
def DQ_FLAGS_DELTA_LOST : Field :=
  ⟨32, 5, 2, 8, 0x2028, 0x0, 1, 0, 1, false, .w1c, 0x0, [], []⟩

/-- `BAD_SEEN` of `DQ_FLAGS` in SOLVER.DQ (05, R199). A record was invalid. -/
def DQ_FLAGS_BAD_SEEN : Field :=
  ⟨33, 5, 2, 8, 0x2028, 0x0, 1, 1, 1, false, .w1c, 0x0, [], []⟩

/-- `SAT_SEEN` of `DQ_FLAGS` in SOLVER.DQ (05, R199). A conversion saturated. -/
def DQ_FLAGS_SAT_SEEN : Field :=
  ⟨34, 5, 2, 8, 0x2028, 0x0, 1, 2, 1, false, .w1c, 0x0, [], []⟩

/-- `ENTRY` of `DQ_LAST_BAD` in SOLVER.DQ (05, R199). Index of the last invalid record. -/
def DQ_LAST_BAD_ENTRY : Field :=
  ⟨35, 5, 2, 8, 0x2030, 0x0, 1, 0, 24, false, .ro, 0x0, [], []⟩

/-- `TAG` of `DQ_LAST_BAD` in SOLVER.DQ (05, R199). Its format tag. -/
def DQ_LAST_BAD_TAG : Field :=
  ⟨36, 5, 2, 8, 0x2030, 0x0, 1, 24, 8, false, .ro, 0x0, [], []⟩

/-- `TILES` of `INST_CFG` in SOLVER.INST[n].INST_CFG (05, R202). Tile mask. Reset: 0xFF for n = 0, 0 otherwise. -/
def INST_CFG_TILES : Field :=
  ⟨37, 5, 1, 8, 0x0, 0x0, 1, 0, 8, false, .ro, 0x0, [.l, .m], [(0, 255)]⟩

/-- `SIZE` of `INST_CFG` in SOLVER.INST[n].INST_CFG (05, R202). Tiles in the instance: 0 absent, 1, 2, 4 or 8. Reset: 8 for n = 0, 0 otherwise. -/
def INST_CFG_SIZE : Field :=
  ⟨38, 5, 1, 8, 0x0, 0x0, 1, 8, 4, false, .ro, 0x0, [.l, .m], [(0, 8)]⟩

/-- `PROBLEM` of `INST_CFG` in SOLVER.INST[n].INST_CFG (05, R202). Bound problem number. -/
def INST_CFG_PROBLEM : Field :=
  ⟨39, 5, 1, 8, 0x0, 0x0, 1, 16, 3, false, .ro, 0x0, [.l, .m], []⟩

/-- `NO_PROBLEM` of `INST_CFG` in SOLVER.INST[n].INST_CFG (05, R202). 1 when the instance has no problem. -/
def INST_CFG_NO_PROBLEM : Field :=
  ⟨40, 5, 1, 8, 0x0, 0x0, 1, 19, 1, false, .ro, 0x1, [.l, .m], []⟩

/-- `CELL` of `INST_CFG` in SOLVER.INST[n].INST_CFG (05, R202). 1 when instance 0 runs the whole-cell problem with the enable on. -/
def INST_CFG_CELL : Field :=
  ⟨41, 5, 1, 8, 0x0, 0x0, 1, 20, 1, false, .ro, 0x0, [.l, .m], []⟩

/-- `START` of `RUN_CTRL` in SOLVER.INST (06, R206). 1 starts a run. -/
def RUN_CTRL_START : Field :=
  ⟨42, 5, 1, 8, 0x100, 0x0, 1, 0, 1, false, .wo, 0x0, [], []⟩

/-- `ABORT` of `RUN_CTRL` in SOLVER.INST (06, R206). 1 ends the running run as ABORTED. -/
def RUN_CTRL_ABORT : Field :=
  ⟨43, 5, 1, 8, 0x100, 0x0, 1, 1, 1, false, .wo, 0x0, [], []⟩

/-- `TIMED` of `RUN_CTRL` in SOLVER.INST (06, R206). 1 arms a start at START_AT. -/
def RUN_CTRL_TIMED : Field :=
  ⟨44, 5, 1, 8, 0x100, 0x0, 1, 2, 1, false, .rw, 0x0, [], []⟩

/-- `COLD_NEXT` of `RUN_CTRL` in SOLVER.INST (06, R206). 1: the next run starts cold. -/
def RUN_CTRL_COLD_NEXT : Field :=
  ⟨45, 5, 1, 8, 0x100, 0x0, 1, 3, 1, false, .wo, 0x0, [], []⟩

/-- `TIME` of `START_AT` in SOLVER.INST (06, R206). TB0 value in ns for a timed start. -/
def START_AT_TIME : Field :=
  ⟨46, 5, 1, 8, 0x108, 0x0, 1, 0, 64, true, .rw, 0x0, [], []⟩

/-- `BUSY` of `RUN_STATUS` in SOLVER.INST (06, R206). 1 from run start to the end of publication. -/
def RUN_STATUS_BUSY : Field :=
  ⟨47, 5, 1, 8, 0x110, 0x0, 1, 0, 1, false, .ro, 0x0, [], []⟩

/-- `OUTCOME` of `RUN_STATUS` in SOLVER.INST (06, R206). Outcome code of the last run. -/
def RUN_STATUS_OUTCOME : Field :=
  ⟨48, 5, 1, 8, 0x110, 0x0, 1, 1, 4, false, .ro, 0x0, [], []⟩

/-- `QUALITY` of `RUN_STATUS` in SOLVER.INST (06, R206). Result quality, 0 to 3. -/
def RUN_STATUS_QUALITY : Field :=
  ⟨49, 5, 1, 8, 0x110, 0x0, 1, 5, 2, false, .ro, 0x0, [], []⟩

/-- `OVERFLOW` of `RUN_STATUS` in SOLVER.INST (06, R206). A saturation occurred in the run. -/
def RUN_STATUS_OVERFLOW : Field :=
  ⟨50, 5, 1, 8, 0x110, 0x0, 1, 7, 1, false, .ro, 0x0, [], []⟩

/-- `DELTA_LOST` of `RUN_STATUS` in SOLVER.INST (06, R206). Copied from the delta queue under R197. -/
def RUN_STATUS_DELTA_LOST : Field :=
  ⟨51, 5, 1, 8, 0x110, 0x0, 1, 8, 1, false, .ro, 0x0, [], []⟩

/-- `PIVOT_SEEN` of `RUN_STATUS` in SOLVER.INST (06, R206). At least one pivot was replaced. -/
def RUN_STATUS_PIVOT_SEEN : Field :=
  ⟨52, 5, 1, 8, 0x110, 0x0, 1, 9, 1, false, .ro, 0x0, [], []⟩

/-- `PAIR_TRIMMED` of `RUN_STATUS` in SOLVER.INST (06, R206). The published iteration count was lowered to the partner's. -/
def RUN_STATUS_PAIR_TRIMMED : Field :=
  ⟨53, 5, 1, 8, 0x110, 0x0, 1, 10, 1, false, .ro, 0x0, [], []⟩

/-- `WRAP_LATE` of `RUN_STATUS` in SOLVER.INST (06, R206). Publication ended after the deadline. -/
def RUN_STATUS_WRAP_LATE : Field :=
  ⟨54, 5, 1, 8, 0x110, 0x0, 1, 11, 1, false, .ro, 0x0, [], []⟩

/-- `COLD` of `RUN_STATUS` in SOLVER.INST (06, R206). The run started from the cold point. -/
def RUN_STATUS_COLD : Field :=
  ⟨55, 5, 1, 8, 0x110, 0x0, 1, 12, 1, false, .ro, 0x0, [], []⟩

/-- `START_REFUSED` of `RUN_STATUS` in SOLVER.INST (06, R206). A start was refused. -/
def RUN_STATUS_START_REFUSED : Field :=
  ⟨56, 5, 1, 8, 0x110, 0x0, 1, 13, 1, false, .w1c, 0x0, [], []⟩

/-- `PAIR_ALONE` of `RUN_STATUS` in SOLVER.INST (06, R206). The partner's outcome did not arrive in time. -/
def RUN_STATUS_PAIR_ALONE : Field :=
  ⟨57, 5, 1, 8, 0x110, 0x0, 1, 14, 1, false, .ro, 0x0, [], []⟩

/-- `RESULT_CODE` of `RUN_STATUS` in SOLVER.INST (06, R206). 0x0504 (E_DEADLINE_SMALL) for outcome DEADLINE_SMALL, otherwise 0x0000. -/
def RUN_STATUS_RESULT_CODE : Field :=
  ⟨58, 5, 1, 8, 0x110, 0x0, 1, 16, 16, false, .ro, 0x0, [], []⟩

/-- `ITERATIONS` of `RUN_ITER` in SOLVER.INST (06, R206). Completed iterations the result is drawn from. -/
def RUN_ITER_ITERATIONS : Field :=
  ⟨59, 5, 1, 8, 0x118, 0x0, 1, 0, 16, true, .ro, 0x0, [], []⟩

/-- `LOCAL_ITER` of `RUN_ITER` in SOLVER.INST (06, R206). Iterations completed by this unit. -/
def RUN_ITER_LOCAL_ITER : Field :=
  ⟨60, 5, 1, 8, 0x118, 0x0, 1, 16, 16, true, .ro, 0x0, [], []⟩

/-- `BEST_ITER` of `RUN_ITER` in SOLVER.INST (06, R206). Iteration published, 0 for the warm-start point. -/
def RUN_ITER_BEST_ITER : Field :=
  ⟨61, 5, 1, 8, 0x118, 0x0, 1, 32, 16, true, .ro, 0x0, [], []⟩

/-- `FRAME` of `RUN_FRAME` in SOLVER.INST (06, R206). TB0 in ms at the run's frame start, low 32 bits; for small instances, at run start. -/
def RUN_FRAME_FRAME : Field :=
  ⟨62, 5, 1, 8, 0x120, 0x0, 1, 0, 32, false, .ro, 0x0, [], []⟩

/-- `VALUE` of `RES_PRIMAL` in SOLVER.INST (06, R206). Primal residual of the published point. -/
def RES_PRIMAL_VALUE : Field :=
  ⟨63, 5, 1, 8, 0x128, 0x0, 1, 0, 32, false, .ro, 0x0, [], []⟩

/-- `VALUE` of `RES_DUAL` in SOLVER.INST (06, R206). Dual residual. -/
def RES_DUAL_VALUE : Field :=
  ⟨64, 5, 1, 8, 0x12C, 0x0, 1, 0, 32, false, .ro, 0x0, [], []⟩

/-- `VALUE` of `RES_GAP` in SOLVER.INST (06, R206). Complementarity measure μ. -/
def RES_GAP_VALUE : Field :=
  ⟨65, 5, 1, 8, 0x130, 0x0, 1, 0, 32, false, .ro, 0x0, [], []⟩

/-- `VALUE` of `MERIT` in SOLVER.INST (06, R206). Merit, unsigned Q16.16. -/
def MERIT_VALUE : Field :=
  ⟨66, 5, 1, 8, 0x134, 0x0, 1, 0, 32, false, .ro, 0x0, [], []⟩

/-- `COUNT` of `PIVOT_REG` in SOLVER.INST (06, R206). Pivots replaced in the run. -/
def PIVOT_REG_COUNT : Field :=
  ⟨67, 5, 1, 8, 0x138, 0x0, 1, 0, 32, false, .ro, 0x0, [], []⟩

/-- `COLUMN` of `PIVOT_FIRST` in SOLVER.INST (06, R206). KKT column of the first replacement; 0xFF_FFFF for none. -/
def PIVOT_FIRST_COLUMN : Field :=
  ⟨68, 5, 1, 8, 0x13C, 0x0, 1, 0, 24, false, .ro, 0xFFFFFF, [], []⟩

/-- `COUNT` of `OVF_COUNT` in SOLVER.INST (06, R206). Saturations in the run. -/
def OVF_COUNT_COUNT : Field :=
  ⟨69, 5, 1, 8, 0x140, 0x0, 1, 0, 32, false, .ro, 0x0, [], []⟩

/-- `NS` of `RUN_TIME` in SOLVER.INST (06, R206). Run start to end of publication, in ns. -/
def RUN_TIME_NS : Field :=
  ⟨70, 5, 1, 8, 0x144, 0x0, 1, 0, 32, false, .ro, 0x0, [], []⟩

/-- `COUNT` of `NNI_STREAK` in SOLVER.INST (06, R206). Consecutive whole-cell frames with outcome NO_NEW_ITERATE. -/
def NNI_STREAK_COUNT : Field :=
  ⟨71, 5, 1, 8, 0x148, 0x0, 1, 0, 8, false, .ro, 0x0, [], []⟩

/-- Fields of the SOLVER domain, part 0. -/
def fieldsSolver0 : List Field :=
  [TILE_STATUS_SCHED_VALID, TILE_STATUS_BUSY, TILE_STATUS_INSTANCE, TILE_STATUS_UNASSIGNED, TILE_STATUS_SCHED_KIB,
   DQ_PUSH_RECORD, DQ_BURST_RECORD, DQ_LEVEL_LEVEL, DQ_LEVEL_HOLD, DQ_DROP_COUNT,
   DQ_BAD_COUNT, DQ_SAT_COUNT, DQ_APPLIED_COUNT, DQ_FLAGS_DELTA_LOST, DQ_FLAGS_BAD_SEEN,
   DQ_FLAGS_SAT_SEEN, DQ_LAST_BAD_ENTRY, DQ_LAST_BAD_TAG, INST_CFG_TILES, INST_CFG_SIZE,
   INST_CFG_PROBLEM, INST_CFG_NO_PROBLEM, INST_CFG_CELL, RUN_CTRL_START, RUN_CTRL_ABORT,
   RUN_CTRL_TIMED, RUN_CTRL_COLD_NEXT, START_AT_TIME, RUN_STATUS_BUSY, RUN_STATUS_OUTCOME,
   RUN_STATUS_QUALITY, RUN_STATUS_OVERFLOW, RUN_STATUS_DELTA_LOST, RUN_STATUS_PIVOT_SEEN, RUN_STATUS_PAIR_TRIMMED,
   RUN_STATUS_WRAP_LATE, RUN_STATUS_COLD, RUN_STATUS_START_REFUSED, RUN_STATUS_PAIR_ALONE, RUN_STATUS_RESULT_CODE]

/-- Fields of the SOLVER domain, part 1. -/
def fieldsSolver1 : List Field :=
  [RUN_ITER_ITERATIONS, RUN_ITER_LOCAL_ITER, RUN_ITER_BEST_ITER, RUN_FRAME_FRAME, RES_PRIMAL_VALUE,
   RES_DUAL_VALUE, RES_GAP_VALUE, MERIT_VALUE, PIVOT_REG_COUNT, PIVOT_FIRST_COLUMN,
   OVF_COUNT_COUNT, RUN_TIME_NS, NNI_STREAK_COUNT]

end Sys2Proof.Reg
end

