-- ==== Sys2Proof/Machine/RegMap.lean ====
section
/-!
DEFINITION. Every register field of the machine in one list: what a register access by address and a reset go over.
-/
namespace Sys2Proof.Reg

/-- All register fields of the manual, in the order of its chapters within each domain. -/
def all : List Field :=
  fieldsMotion0 ++ fieldsMotion1 ++ fieldsMotion2 ++ fieldsMotion3 ++
  fieldsMotion4 ++ fieldsMotion5 ++ fieldsHost0 ++ fieldsSolver0 ++
  fieldsSolver1 ++ fieldsSafety0 ++ fieldsSafety1 ++ fieldsNetwork0 ++
  fieldsNetwork1 ++ fieldsNetwork2 ++ fieldsNetwork3 ++ fieldsPlatform0 ++
  fieldsPlatform1 ++ fieldsMemory0 ++ fieldsCompute0 ++ fieldsCompute1

/-- The field with number `n`, if there is one. -/
def byId (n : Nat) : Option Field := all.find? fun f => f.id == n

end Sys2Proof.Reg
end

