-- ==== Sys2Proof/Machine/State.lean ====
section
/-!
DEFINITION. The state of the machine as plain data: every register field of the manual's register tables in one sparse
store, the parts of Parts.lean beside them, and the queue of the waiting commands, `pending`.
-/
namespace Sys2Proof.Machine

/-- Everything the manual gives the machine, and the queue of the commands that wait, first in, first out. -/
structure State where
  /-- Every register field of the RegMap files: field number, element, value. -/
  regs : Tab (Tab Nat)
  /-- The model's clock: TIME ticks of 8 ns, never reset (log entry 5). -/
  ticks : Nat
  /-- The model's own counter of free values taken (log entry 1). -/
  freeCtr : Nat
  /-- The point image (R19, R21). -/
  points : Tab Word64
  /-- The bytes of the data space outside the point image (R27). -/
  mem : Tab Byte
  /-- High halves latched for 32-bit masters (R22, R346): address, value. -/
  readShadow : Tab (Option (Nat × Nat))
  /-- Low halves held for 32-bit masters (R23): address, value. -/
  writeHeld : Tab (Option (Nat × Nat))
  /-- The answer of the last access. -/
  bus : BusResp
  /-- What the machine has sent, newest first. -/
  outbox : List Out
  /-- No reset holds the device (R702) and it is not DORMANT (R700). -/
  alive : Bool
  /-- Host links and mailboxes (chapter 2). -/
  host : HostState
  /-- Operating mode (chapter 4). -/
  mode : ModeState
  /-- The four logs of R127. -/
  logs : Tab LogRing
  /-- The content of the active image while it is installed. -/
  cell : Option CellContent
  /-- What flash and OTP hold. -/
  flash : FlashState
  /-- The Yarder's queues, timers and items in progress (chapter 22). -/
  yard : YarderState
  /-- The joint control engines beside their registers (chapter 7). -/
  jce : Tab JceState
  /-- For each cluster port, the engine last granted within it (R256). -/
  clusterLast : Tab Nat
  /-- The PWM pairs beside their registers (chapter 10). -/
  pwm : Tab PwmPair
  /-- The PWM clock is present (R368). -/
  pwmClock : Bool
  /-- The filtered level of each trip input; none until its filter has seen one (R370). -/
  tripHigh : Tab (Option Bool)
  /-- The feedback channels beside their registers (chapter 9). -/
  fb : Tab FbState
  /-- The converters beside their registers (chapter 11). -/
  adc : Tab AdcState
  /-- The step channels beside their registers (chapter 12). -/
  stp : Tab StpState
  /-- The limit and home inputs of the local axes (R422 to R424). -/
  axisIn : Tab AxisIn
  /-- The axes as the servo kernel and Ranger hold them (chapter 8). -/
  axes : Tab AxisState
  /-- Consecutive overrun periods of each engine (R312). -/
  kernelOverruns : Tab Nat
  /-- The Sawmill tiles beside their registers (chapter 5). -/
  tiles : Tab SawTile
  /-- The Sawmill instances and their delta queues beside their registers (chapters 5 and 6). -/
  insts : Tab SawInst
  /-- The arms with their banks and the frame of a whole-cell result that the next frame start selects (R48). -/
  published : Option (List (Nat × Nat) × Nat)
  /-- Debug access (chapter 24). -/
  dbg : DebugState
  /-- Clocks, power and resets (chapter 23). -/
  power : PowerState
  /-- Caldera beside its registers (chapters 13 to 15). -/
  cal : CalState
  /-- The SerDes ports beside their registers (chapter 16). -/
  ports : Tab PortState
  /-- The lost SerDes references (R507). -/
  refLost : BitVec 2
  /-- PTP, gates, transmit queues, capture and trigger (chapter 18). -/
  time : TimeState
  /-- The Geyser star beside its registers (chapter 17). -/
  star : StarState
  /-- The redundant pair beside its registers (chapter 19). -/
  twin : TwinState
  /-- Damaged code words by byte (R614, R616): 1 one bit, 2 two bits, 3 poison pattern. -/
  memErr : Tab Nat
  /-- Scrubbing, error records, repair (chapter 20). -/
  memory : MemState
  /-- The application cores beside their registers (chapter 21). -/
  cores : Tab CoreState
  /-- What INIT chose to run (chapter 24). -/
  boot : BootState
  /-- The commands that wait, the next one first. -/
  pending : List Instr
deriving DecidableEq, Repr, Inhabited

/-- Why a step stops with a fault. No command of this block raises one: what the manual calls a fault of the machine is a
state of it (an error flag, a trapped engine, the mode FAULT). -/
inductive Fault where
  /-- Raised by no command; safe, since a stop would only hide behaviour. -/
  | unused
deriving DecidableEq, Repr, Inhabited

/-- Why a step is refused. -/
inductive Refusal where
  /-- A command whose meaning is not written yet: raised by its arm of exec; safe. -/
  | notModelled (mnemonic : String)
deriving DecidableEq, Repr, Inhabited

/-- The machine right after a power-on reset has been released: every field at its Reset value, the mode INIT, no
command waiting. Values the manual does not give are named in the assumption log (entries 5 to 9). -/
def State.reset : State :=
  { regs := Tab.empty,
    ticks := 0,
    freeCtr := 0,
    points := Tab.empty,
    mem := Tab.empty,
    readShadow := Tab.empty,
    writeHeld := Tab.empty,
    bus := .idle,
    outbox := [],
    alive := true,
    host := HostState.reset,
    mode := ModeState.reset,
    logs := Tab.empty,
    cell := none,
    flash := FlashState.reset,
    yard := YarderState.reset,
    jce := Tab.empty,
    clusterLast := Tab.empty,
    pwm := Tab.empty,
    pwmClock := true,
    tripHigh := Tab.empty,
    fb := Tab.empty,
    adc := Tab.empty,
    stp := Tab.empty,
    axisIn := Tab.empty,
    axes := Tab.empty,
    kernelOverruns := Tab.empty,
    tiles := Tab.empty,
    insts := Tab.empty,
    published := none,
    dbg := DebugState.reset,
    power := PowerState.reset,
    cal := CalState.reset,
    ports := Tab.empty,
    refLost := 0,
    time := TimeState.reset,
    star := StarState.reset,
    twin := TwinState.reset,
    memErr := Tab.empty,
    memory := MemState.reset,
    cores := Tab.empty,
    boot := BootState.reset,
    pending := [] }

end Sys2Proof.Machine
end

