-- ==== Sys2Proof/Machine/Ops.lean ====
section
/-!
DEFINITION. The named operations that every family uses: register fields, free values, what is sent out, events (R648),
logs (R127), time.
-/
namespace Sys2Proof.Machine

/-- The value of field `f`, element `i`. -/
def State.get (s : State) (f : Field) (i : Nat) : Nat :=
  (s.regs.get Tab.empty f.id).get (f.resetAt i) i

/-- Writes field `f`, element `i`; the value is cut to the field's width. -/
def State.set (s : State) (f : Field) (i v : Nat) : State :=
  let row := (s.regs.get Tab.empty f.id).put (f.resetAt i) i (v % 2 ^ f.width)
  { s with regs := s.regs.put Tab.empty f.id row }

/-- The signed reading of a field. -/
def State.getS (s : State) (f : Field) (i : Nat) : Int := toS f.width (s.get f i)

/-- Writes a signed number, cut to the field's width. -/
def State.setS (s : State) (f : Field) (i : Nat) (x : Int) : State := s.set f i (ofS f.width x)

/-- A one-bit field as a truth value. -/
def State.flag (s : State) (f : Field) (i : Nat) : Bool := s.get f i != 0

/-- Writes a one-bit field. -/
def State.setFlag (s : State) (f : Field) (i : Nat) (b : Bool) : State := s.set f i (b2n b)

/-- Adds `n` to an event counter, which saturates at its maximum (R9). -/
def State.count (s : State) (f : Field) (i n : Nat) : State :=
  s.set f i (min (s.get f i + n) (2 ^ f.width - 1))

/-- Takes the next free value of the machine (log entry 1). -/
def State.free (s : State) : Nat := Config.freeNat s.freeCtr

/-- The state after a free value has been taken. -/
def State.tookFree (s : State) : State := { s with freeCtr := s.freeCtr + 1 }

/-- Sends `o`. -/
def State.out (s : State) (o : Out) : State := { s with outbox := o :: s.outbox }

/-- Answers the present access. -/
def State.answer (s : State) (b : BusResp) : State := { s with bus := b }

/-- Sends the MSI-X message of a vector under the mask and pending-bit rules; none while MSI-X is disabled (R52). -/
def State.msix (s : State) (v : Nat) : State :=
  if s.host.msixOn then
    if bitOf (s.host.msixTable.get 0 (16 * v + 12)).toNat 0 then
      { s with host := { s.host with msixPending := s.host.msixPending ||| (1#64 <<< v) } }
    else s.out (.msix v)
  else s

/-- Sets event `n` pending for the host and signals its vector, or merges it there (R648, R652). -/
def State.raiseHost (s : State) (n : Nat) : State :=
  if s.flag Reg.EV_ROUTE_MSIX_EN n then
    if bitOf (s.get Reg.HOST_PEND_PEND (n / 64)) (n % 64) then s.count Reg.EV_MERGED_COUNT 0 1
    else (s.set Reg.HOST_PEND_PEND (n / 64) (s.get Reg.HOST_PEND_PEND (n / 64) + 2 ^ (n % 64))).msix
      (s.get Reg.EV_ROUTE_VECTOR n)
  else s

/-- Sets event `n` pending for core `c` and signals its line, or merges it there (R647, R648, R652). -/
def State.raiseCore (s : State) (n c : Nat) : State :=
  if bitOf (s.get Reg.EV_ROUTE_CORE_MASK n) c then
    if bitOf (s.get Reg.AC_PEND_PEND (4 * c + n / 64)) (n % 64) then s.count Reg.EV_MERGED_COUNT 0 1
    else (s.set Reg.AC_PEND_PEND (4 * c + n / 64)
      (s.get Reg.AC_PEND_PEND (4 * c + n / 64) + 2 ^ (n % 64))).out (.coreEvent c n)
  else s

/-- Raises event `n` at every target of its route (R648). -/
def State.raise (s : State) (n : Nat) : State :=
  let s := (List.range 16).foldl (fun s c => s.raiseCore n c) (s.raiseHost n)
  let s := if s.flag Reg.EV_ROUTE_RANGER_EN n then s.out (.rangerEvent n) else s
  if s.flag Reg.EV_ROUTE_CALDERA_EN n then s.out (.calderaNotice n) else s

/-- Raises event `n` when `b` holds. -/
def State.raiseIf (s : State) (b : Bool) (n : Nat) : State := if b then s.raise n else s

/-- The time of base `n` in ns (R567). -/
def State.tb (s : State) (n : Nat) : Nat := s.get Reg.TB_TIME_NS n

/-- Appends an entry to log `k`; the oldest entry goes when the log is full (R127). -/
def State.log (s : State) (k code source : Nat) (data : List Byte) : State :=
  let l := s.logs.get LogRing.empty k
  let e : LogEntry := { seq := l.next, time := s.tb 5, code := code % 65536, source := source % 65536,
                        data := (data ++ zeros 16).take 16 }
  let l' : LogRing := { entries := (e :: l.entries).take (max 1 (Config.logCapacity k)), next := l.next + 1 }
  { s with logs := s.logs.put LogRing.empty k l' }

/-- The device is parked (R698). -/
def State.parked (s : State) : Bool := s.get Reg.PWR_STATE_STATE 0 == 2

/-- A write of `n` bytes at `a` stores full code words (R614, R616). -/
def State.healed (s : State) (a n : Nat) : State :=
  { s with memErr := s.memErr.keep fun k => decide (k < a ∨ a + n ≤ k) }

/-- Byte keys above the data space: SRAM groups outside it, then L1 caches. -/
def groupKey (g off : Nat) : Nat := 2 ^ 48 * (1 + g) + off

/-- The byte key of word `a` of data or instruction memory of engine `k` (R612; the data memory first in its group: DESIGN
CHOICE, log entry 28). -/
def jmemKey (k : Nat) (imem : Bool) (a : Nat) : Nat := groupKey (96 + k) ((if imem then 0x10000 else 0) + 4 * a)

/-- The memories of all engines lose their contents, damage with them (R272). -/
def State.engineMemLost (s : State) : State :=
  { s with memErr := s.memErr.keep fun k => decide (k < groupKey 96 0 ∨ groupKey 160 0 ≤ k) }

/-- Writes bytes of the data space from address `a` on. -/
def State.memPut (s : State) (a : Nat) (bs : List Byte) : State :=
  { s.healed a bs.length with mem := s.mem.putAll 0 a bs }

/-- Reads `n` bytes of the data space from address `a` on. -/
def State.memGet (s : State) (a n : Nat) : List Byte := s.mem.getAll 0 a n

/-- Where cell SRAM begins in the data space (R27). -/
def csramBase : Nat := 0xE000000000

/-- The cell SRAM address of point `p` (R28). -/
def pointAddr (p : Nat) : Nat := csramBase + 0x3800000 + 8 * p

/-- The owner number of a pooled resource under the installed image (R18): an engine below 64, 64 for the application
cores, above that another unit; none where no image assigns it. -/
def State.owner (s : State) (kind number : Nat) : Option Nat :=
  match s.cell with
  | some c => (c.claims.find? fun x => x.kind == kind && x.number == number).map Claim.owner
  | none => none

/-- `n ÷ d` for any divisor but 0, rounded to the nearest integer with a half upwards. -/
def ratRound (n d : Int) : Int := if d < 0 then roundDiv (-n) (-d).toNat else roundDiv n d.toNat

/-- The integer square root below 2^(n+1), built from bit `n` downwards on `r`. -/
def natRootBits (x : Nat) : Nat → Nat → Nat
  | 0, r => if (r + 1) * (r + 1) ≤ x then r + 1 else r
  | n + 1, r => natRootBits x n (if (r + 2 ^ (n + 1)) * (r + 2 ^ (n + 1)) ≤ x then r + 2 ^ (n + 1) else r)

/-- The integer square root of a number below 2^256. -/
def natRoot (x : Nat) : Nat := natRootBits x 127 0

/-- The square root: exact where it is a fraction. -/
def rootQ (q : Rat) : Rat :=
  let n := natRoot q.num.toNat
  let d := natRoot q.den
  if (n * n : Nat) = q.num ∧ d * d = q.den then (n : Rat) / (d : Nat) else Config.root q

/-- Sine and cosine of an angle in µrad. -/
def sinCosQ (a : Rat) : Rat × Rat := if a = 0 then (0, 1) else Config.sinCos a

/-- Sine and cosine of an angle in turns. -/
def sinCosTurn (a : Rat) : Rat × Rat :=
  let f := a - a.floor
  if f = 0 then (0, 1) else if f = 1 / 4 then (1, 0) else if f = 1 / 2 then (0, -1) else if f = 3 / 4 then (-1, 0)
  else Config.sinCosTurn f

/-- A unit writes a point it owns. -/
def State.putPoint (s : State) (p : Nat) (v : Nat) : State :=
  { s.healed (pointAddr p) 8 with points := s.points.put 0 p (BitVec.ofNat 64 v) }

/-- The effect of a command on everything but the queue of the waiting commands. -/
def State.beside (s : State) (f : State → State) : State := { f s with pending := s.pending }

/-- A command acts while the device is out of reset and not DORMANT; otherwise it has no effect (log entry 6). -/
def State.run (s : State) (f : State → State) : Host.Outcome State Fault Refusal :=
  .next (if s.alive then s.beside f else s)

end Sys2Proof.Machine
end

