-- ==== Sys2Proof/Machine/Yarder.lean ====
section
/-!
DEFINITION. The Yarder (chapter 22): posting, delivery, ordered flows, delay lists, the Landing, held hardware items.
-/
namespace Sys2Proof.Machine

/-- The on-chip store holds 32,768 items (R676). -/
def yardStoreSize : Nat := 32768

/-- Replaces the Yarder's part of the state. -/
def State.withYard (s : State) (f : YarderState → YarderState) : State := { s with yard := f s.yard }

/-- All items in progress, over the cores. -/
def YarderState.inProgress (y : YarderState) : List Item :=
  (List.range 16).flatMap fun c => y.progress.get [] c

/-- Store slots in use: items queued and in progress (R676). -/
def YarderState.used (y : YarderState) : Nat := y.store.length + y.inProgress.length

/-- `HW_RESERVE`; above 16,384 acts as 16,384. -/
def State.hwReserve (s : State) : Nat := min (s.get Reg.YD_CFG_HW_RESERVE 0) 16384

/-- Free slots of the store. -/
def State.yardFree (s : State) : Nat := yardStoreSize - s.yard.used

/-- The flow takes items: `EN` is 1 and `CORE_MASK` is not 0 (R663). -/
def FlowCfg.usable (c : FlowCfg) : Bool := c.en && c.coreMask != 0

/-- The configuration of a flow. -/
def State.flowCfg (s : State) (flow : Nat) : FlowCfg := s.yard.flows.get FlowCfg.off flow

/-- The item of a post, with the next sequence number and the next position of its flow (R662). -/
def State.newItem (s : State) (prio flow src count : Nat) (arg0 arg1 : Word64) : Item :=
  { seq := s.yard.next, pos := s.yard.flowNext.get 0 flow, prio := prio, flow := flow, src := src,
    count := min count 65535, arg0 := arg0, arg1 := arg1, born := s.ticks, ticket := 0, waited := false }

/-- The sequence number and the flow position of an accepted item are used up. -/
def State.numbered (s : State) (flow : Nat) : State :=
  s.withYard fun y =>
    { y with next := (y.next + 1) % 2 ^ 64, flowNext := y.flowNext.put 0 flow (y.flowNext.get 0 flow + 1) }

/-- An item whose wait began at `born` is accepted into the store. -/
def State.acceptBorn (s : State) (born prio flow src count : Nat) (arg0 arg1 : Word64) : State :=
  let it := { s.newItem prio flow src count arg0 arg1 with born := born }
  (s.numbered flow).withYard fun y => { y with store := y.store ++ [it] }

/-- An item is accepted into the store; its wait begins (R680). -/
def State.acceptItem (s : State) (prio flow src count : Nat) (arg0 arg1 : Word64) : State :=
  s.acceptBorn s.ticks prio flow src count arg0 arg1

/-- A refused spill-class post into a full Landing (R677). -/
def State.postFull (s : State) : State := (s.count Reg.YD_COUNT0_FULL_REFUSED 0 1).raise 41

/-- `LOAD_HIGH` and `EV040` after a change of the Landing's occupancy (R677): set at 90 % of the slots, rounded up, and
armed again below 80 %. -/
def State.landingLevel (s : State) : State :=
  let used := s.yard.landing.length
  let slots := s.yard.landingSlots
  if s.flag Reg.YD_STATUS_LOAD_HIGH 0 then
    if used * 10 < slots * 8 then s.setFlag Reg.YD_STATUS_LOAD_HIGH 0 false else s
  else if slots * 9 ≤ used * 10 then (s.setFlag Reg.YD_STATUS_LOAD_HIGH 0 true).raise 40 else s

/-- An item spills to the Landing; the first into an empty Landing raises `EV042` (R676). -/
def State.spillItem (s : State) (prio flow src count : Nat) (arg0 arg1 : Word64) : State :=
  let it := s.newItem prio flow src count arg0 arg1
  let s := s.raiseIf s.yard.landing.isEmpty 42
  ((s.numbered flow).withYard fun y => { y with landing := y.landing ++ [it] }).landingLevel

/-- The result word of a post (R665): status, `SPILLED`, the low 32 bits of the sequence number. -/
def postResult (status : Nat) (spilled : Bool) (seq : Nat) : Nat :=
  status % 65536 + b2n spilled * 65536 + seq % 2 ^ 32 * 2 ^ 32

/-- A spill-class post (R663, R665, R676 to R678): the state after it and its result word. A post refused in PARK counts in
`PARK_REFUSED` alone (DEDUCED, log entry 86). -/
def State.postSpill (s : State) (prio flow src count : Nat) (arg0 arg1 : Word64) : State × Nat :=
  if !(s.flowCfg flow).usable then (s, postResult 0x000E false 0)
  else if s.hwReserve < s.yardFree ∧ s.yard.landing.all (fun it => it.prio != prio) then
    (s.acceptItem prio flow src count arg0 arg1, postResult 0 false s.yard.next)
  else if s.parked then ((s.count Reg.YD_COUNT0_PARK_REFUSED 0 1).raise 41, postResult 0x000F false 0)
  else if s.yard.landingSlots ≤ s.yard.landing.length then (s.postFull, postResult 0x000F false 0)
  else (s.spillItem prio flow src count arg0 arg1, postResult 0 true s.yard.next)

/-- Producer numbers of held items, in the order of R662: Geyser node m, ADC converter and route, JCE, timer. -/
def producerNode (m : Nat) : Nat := m
/-- Producer number of ADC converter `c`, route `r`. -/
def producerAdc (c r : Nat) : Nat := 0x1000 + 16 * c + r
/-- Producer number of engine `k`. -/
def producerJce (k : Nat) : Nat := 0x2000 + k
/-- Producer number of timer `h`. -/
def producerTimer (h : Nat) : Nat := 0x10000 + h

/-- Adds a further event of a producer to its held item: the count grows, saturating; a JCE signal replaces ARG1 (R661,
R679). An ADC item keeps the `WR_IDX` of its post (DEDUCED, log entry 86). -/
def HeldItem.merge (h : HeldItem) (n : Nat) (arg1 : Word64) : HeldItem :=
  { h with item := { h.item with count := min (h.item.count + n) 65535,
                                 arg1 := if h.item.src = 6 then arg1 else h.item.arg1 } }

/-- A producer begins to hold an item: the first hold since the store was last not full raises `EV043` (R679). -/
def State.beginHold (s : State) : State := (s.raiseIf (!s.yard.backed) 43).withYard fun y => { y with backed := true }

/-- A producer's item is held: merged into the item it already holds, or held anew in producer order (R679). -/
def State.holdItem (s : State) (producer prio flow src count : Nat) (arg0 arg1 : Word64) (due : Option Nat) : State :=
  if s.yard.held.any (fun h => h.producer == producer) then
    s.withYard fun y =>
      { y with held := y.held.map fun h => if h.producer == producer then h.merge count arg1 else h }
  else
    let s := s.beginHold
    let h : HeldItem := { producer := producer, item := s.newItem prio flow src count arg0 arg1, due := due }
    s.withYard fun y =>
      { y with held := y.held.filter (fun x => x.producer < producer) ++ [h]
                        ++ y.held.filter (fun x => producer < x.producer) }

/-- A hardware-class post (R663, R679): refused binding, held while the store is full, or accepted. -/
def State.postHw (s : State) (producer prio flow src count : Nat) (arg0 arg1 : Word64) : State :=
  if !(s.flowCfg flow).usable then (s.count Reg.YD_COUNT1_BIND_ERR 0 1).raise 46
  else if s.yardFree = 0 ∨ s.yard.held.any (fun h => h.producer == producer) then
    s.holdItem producer prio flow src count arg0 arg1 none
  else s.acceptItem prio flow src count arg0 arg1

/-- The items of a flow that are not released: queued, spilled, in progress, or completed and waiting. -/
def YarderState.unreleased (y : YarderState) (flow : Nat) : List Item :=
  (y.store ++ y.landing ++ y.inProgress ++ y.finished.map Prod.fst).filter fun it => it.flow == flow

/-- The oldest position of a flow that is not released; `d` where there is none. -/
def YarderState.oldest (y : YarderState) (flow d : Nat) : Nat :=
  match y.unreleased flow with
  | [] => d
  | it :: r => r.foldl (fun m x => min m x.pos) it.pos

/-- The item lies within the reorder window of its flow: 256 positions from the oldest unreleased item (R673). -/
def State.inWindow (s : State) (it : Item) : Bool :=
  !(s.flowCfg it.flow).ordered || decide (it.pos < s.yard.oldest it.flow it.pos + 256)

/-- Core `c` takes items: it runs or waits in WFI (R671). -/
def State.coreRuns (s : State) (c : Nat) : Bool := s.get Reg.AC_STATE_STATE c == 1 || s.get Reg.AC_STATE_STATE c == 3

/-- The item is offered to core `c` (R668, R671, R673). -/
def State.offered (s : State) (c : Nat) (it : Item) : Bool :=
  let cfg := s.flowCfg it.flow
  s.coreRuns c && cfg.en && cfg.coreMask.getLsbD c && s.inWindow it &&
    match s.yard.progress.get [] c with
    | [] => true
    | top :: _ => decide (it.prio < top.prio)

/-- The better ranked of two items: the lower priority number, then the lower sequence number (R669). -/
def Item.better (a b : Item) : Bool := decide (a.prio < b.prio ∨ (a.prio = b.prio ∧ a.seq < b.seq))

/-- The highest-ranked item of a list. -/
def bestItem : List Item → Option Item
  | [] => none
  | it :: r =>
    match bestItem r with
    | none => some it
    | some b => if it.better b then some it else some b

/-- The highest-ranked item offered to core `c`. -/
def State.offer (s : State) (c : Nat) : Option Item := bestItem (s.yard.store.filter (s.offered c))

/-- `mip` bit 11 of core `c` is held: an offered item waits and `DELIVER_EN` is 1 (R668). -/
def State.delivery (s : State) (c : Nat) : Bool := s.flag Reg.PORT_CTRL_DELIVER_EN c && (s.offer c).isSome

/-- Whether master `m` owns port `p` (R684): core n port n, Ranger port 16. -/
def ownsPort (m : Master) (p : Nat) : Bool :=
  match m with
  | .core c => c.val == p
  | .ranger => p == 16
  | _ => false

/-- The model clock in µs. -/
def ticksToUs (t : Nat) : Nat := t / 125

/-- The histogram bin of a wait in µs (R680). -/
def waitBin (us : Nat) : Nat := if us = 0 then 0 else min (Nat.log2 us + 1) 15

/-- The header that `TAKE` answers. -/
def takeHeader (it : Item) (ticket : Nat) : Nat :=
  1 + it.prio % 8 * 2 + it.flow % 4096 * 2 ^ 4 + it.src % 16 * 2 ^ 16 + it.count % 65536 * 2 ^ 20
    + ticket % 2 ^ 15 * 2 ^ 36

/-- POST (R665, R684). -/
def State.doPost (s : State) (m : Master) (p : Nat) : State :=
  if ownsPort m p then
    let src := if p = 16 then 1 else 0
    let r := s.postSpill (s.get Reg.POST_HDR_PRIO p) (s.get Reg.POST_HDR_FLOW p) src 1
      (BitVec.ofNat 64 (s.get Reg.ARG0 p)) (BitVec.ofNat 64 (s.get Reg.ARG1 p))
    r.1.answer (.data r.2)
  else s.answer (.data 0)

/-- TAKE of core `c` with an offered item (R669, R680). -/
def State.takeItem (s : State) (c : Nat) (it : Item) : State :=
  let ticket := s.free % 2 ^ 15
  let it' := { it with ticket := ticket, waited := true }
  let wait := waitBin (ticksToUs (s.ticks - it.born))
  let wasIdle := (s.yard.progress.get [] c).isEmpty
  let s := s.tookFree
  let s := s.withYard fun y =>
    { y with store := y.store.erase it, progress := y.progress.put [] c (it' :: y.progress.get [] c),
             busySince := if wasIdle then y.busySince.put 0 c s.ticks else y.busySince }
  let s := if it.waited then s
    else (s.count Reg.QUEUE_HIST_COUNT (16 * it.prio + wait) 1).count Reg.CORE_HIST_COUNT (16 * c + wait) 1
  let s := (s.set Reg.ITEM_ARG0_ARG0 c it.arg0.toNat).set Reg.ITEM_ARG1_ARG1 c it.arg1.toNat
  s.answer (.data (takeHeader it ticket))

/-- TAKE (R665, R669); delivery is held during the cut of a resynchronisation (R610). -/
def State.doTake (s : State) (m : Master) (p : Nat) : State :=
  if ownsPort m p ∧ p < 16 ∧ s.twin.cut = none then
    match s.offer p with
    | some it => s.takeItem p it
    | none => s.answer (.data 0)
  else s.answer (.data 0)

/-- Releases the completed items of an ordered flow that are the oldest ones, in order (R672); `n` bounds the number.
A release whose item finds the store full waits (R679). -/
def State.releaseFlow (s : State) (flow : Nat) : Nat → State
  | 0 => s
  | n + 1 =>
    match s.yard.finished.find? (fun e => e.1.flow == flow && decide (e.1.pos = s.yard.oldest flow 0)) with
    | none => s
    | some e =>
      let cfg := s.flowCfg flow
      let dropped := s.withYard fun y => { y with finished := y.finished.erase e }
      if cfg.nextEn then
        if (s.flowCfg cfg.nextFlow).usable then
          if s.yardFree = 0 then s.beginHold
          else
            (dropped.acceptItem e.1.prio cfg.nextFlow 7 1 (BitVec.ofNat 64 e.2) e.1.arg0).releaseFlow flow n
        else ((dropped.count Reg.YD_COUNT1_BIND_ERR 0 1).raise 46).releaseFlow flow n
      else dropped.releaseFlow flow n

/-- A release waits for a slot of the store (R679). -/
def State.releaseWaits (s : State) : Bool :=
  decide (s.yardFree = 0) && s.yard.finished.any fun e => decide (e.1.pos = s.yard.oldest e.1.flow 0)

/-- A hardware producer holds an item (R679). -/
def State.holding (s : State) : Bool := !s.yard.held.isEmpty || s.releaseWaits

/-- The top item of core `c` ends and frees its slot (R670, R672). -/
def State.endItem (s : State) (c : Nat) (top : Item) (rest : List Item) (result : Nat) : State :=
  let s := s.withYard fun y =>
    { y with progress := y.progress.put [] c rest, backed := false,
             busyTicks := if rest.isEmpty then
                 y.busyTicks.put 0 c (y.busyTicks.get 0 c + (s.ticks - y.busySince.get 0 c)) else y.busyTicks }
  if (s.flowCfg top.flow).ordered then
    let s := s.withYard fun y => { y with finished := y.finished ++ [(top, result)] }
    s.releaseFlow top.flow s.yard.finished.length
  else s

/-- DONE (R670): the top item ends; any other ticket sets `DONE_ERR` and raises `EV046`. -/
def State.doDone (s : State) (m : Master) (p ticket result : Nat) : State :=
  if ownsPort m p then
    match s.yard.progress.get [] p with
    | top :: rest =>
      if top.ticket = ticket then (s.endItem p top rest result).answer .done
      else ((s.setFlag Reg.PORT_CTRL_DONE_ERR p true).raise 46).answer .done
    | [] => ((s.setFlag Reg.PORT_CTRL_DONE_ERR p true).raise 46).answer .done
  else s.answer .busError

/-- TB0 in µs. -/
def State.nowUs (s : State) : Nat := s.tb 0 / 1000

/-- TMR_ARM (R674, R675). -/
def State.doArm (s : State) (m : Master) (p handle flow prio period : Nat) : State :=
  if ownsPort m p then
    if (s.flowCfg flow).usable then
      let deadline := s.get Reg.TMR_DEADLINE_US p
      let past := decide (deadline ≤ s.nowUs)
      let t : Timer := { deadline := deadline, period := period, prio := prio, flow := flow,
                         arg0 := BitVec.ofNat 64 (s.get Reg.ARG0 p), arg1 := BitVec.ofNat 64 (s.get Reg.ARG1 p),
                         past := past }
      let code := if past then 2 else if (s.yard.timers.get none handle).isSome then 1 else 0
      ((s.withYard fun y => { y with timers := y.timers.put none handle (some t) }).set
        Reg.TMR_RESULT_CODE p code).answer .done
    else (s.set Reg.TMR_RESULT_CODE p 6).answer .done
  else s.answer .busError

/-- A step of TB0 passed over the deadline of an expiry (R675). -/
def State.timerStepped (s : State) (t : Timer) : Bool :=
  match s.yard.stepFrom with
  | some from0 => decide (from0 < t.deadline)
  | none => false

/-- The deadline after whose tick an expiry is late, if it can be (R675): not one that was stepped over; for one that was
past at arming, the tick of its expiry. -/
def State.timerDue (s : State) (t : Timer) : Option Nat :=
  if s.timerStepped t then none else some (if t.past then s.nowUs else t.deadline)

/-- An expiry's item is posted: it is late after the tick of `due`, and the first late one of a tick raises `EV044`
(R675). -/
def State.timerPosted (s : State) (due : Option Nat) : State :=
  match due with
  | none => s
  | some d =>
    if s.nowUs ≤ d then s
    else
      let s := (s.raiseIf (s.yard.lateAt != s.nowUs + 1) 44).withYard fun y => { y with lateAt := s.nowUs + 1 }
      (s.count Reg.TMR_STAT_TMR_LATE 0 1).set Reg.TMR_STAT_TMR_LATE_MAX 0
        (max (s.get Reg.TMR_STAT_TMR_LATE_MAX 0) (min (s.nowUs - d) 65535))

/-- The item of an expiry (R663, R675, R679): refused binding, held while the store is full, or posted. -/
def State.postTimer (s : State) (handle : Nat) (t : Timer) (n : Nat) (due : Option Nat) : State :=
  if !(s.flowCfg t.flow).usable then (s.count Reg.YD_COUNT1_BIND_ERR 0 1).raise 46
  else if s.yardFree = 0 ∨ s.yard.held.any (fun h => h.producer == producerTimer handle) then
    s.holdItem (producerTimer handle) t.prio t.flow 3 n t.arg0 t.arg1 due
  else (s.timerPosted due).acceptItem t.prio t.flow 3 n t.arg0 t.arg1

/-- The deadlines of a periodic timer that a step passed over (R675); 1 for a one-shot timer or without a step. -/
def State.timerCount (s : State) (t : Timer) (now : Nat) : Nat :=
  if s.yard.stepFrom.isSome ∧ 0 < t.period ∧ t.deadline ≤ now then (now - t.deadline) / t.period + 1 else 1

/-- Timer `handle` expires: its item is posted and a periodic timer takes its next deadline (R674, R675). -/
def State.expireTimer (s : State) (handle : Nat) (t : Timer) : State :=
  let now := s.nowUs
  let n := s.timerCount t now
  let next := if t.period = 0 then none else some { t with deadline := t.deadline + n * t.period, past := false }
  let due := s.timerDue t
  let s := if s.timerStepped t then s.count Reg.TMR_STAT_TMR_STEPPED 0 1 else s
  let s := s.withYard fun y =>
    { y with timers := y.timers.put none handle next, expiredAt := y.expiredAt.put 0 handle (now + 1) }
  s.postTimer handle t n due

/-- Order of the expiries of one tick: deadline, then priority, then handle (R674). -/
def timerBefore (a b : Nat × Timer) : Bool :=
  decide (a.2.deadline < b.2.deadline ∨ (a.2.deadline = b.2.deadline ∧
    (a.2.prio < b.2.prio ∨ (a.2.prio = b.2.prio ∧ a.1 ≤ b.1))))

/-- Inserts a timer in the order of expiry. -/
def insertTimer (a : Nat × Timer) : List (Nat × Timer) → List (Nat × Timer)
  | [] => [a]
  | b :: r => if timerBefore a b then a :: b :: r else b :: insertTimer a r

/-- The armed timers whose deadline has come, in the order of expiry. -/
def State.dueTimers (s : State) : List (Nat × Timer) :=
  (s.yard.timers.entries.filterMap fun e =>
    match e.2 with
    | some t => if t.deadline ≤ s.nowUs then some (e.1, t) else none
    | none => none).foldr insertTimer []

/-- TIMER_EXPIRY (R674): every due timer expires. -/
def State.doTimers (s : State) : State :=
  let s := s.dueTimers.foldl (fun s e => s.expireTimer e.1 e.2) s
  s.withYard fun y => { y with stepFrom := none }

/-- TMR_CANCEL (R675). -/
def State.doCancel (s : State) (m : Master) (p handle : Nat) : State :=
  if ownsPort m p then
    match s.yard.timers.get none handle with
    | some t =>
      if t.deadline ≤ s.nowUs then
        let s := s.expireTimer handle t
        ((s.withYard fun y => { y with timers := y.timers.put none handle none }).set
          Reg.TMR_RESULT_CODE p 5).answer .done
      else
        ((s.withYard fun y => { y with timers := y.timers.put none handle none }).set
          Reg.TMR_RESULT_CODE p (if s.yard.expiredAt.get 0 handle = s.nowUs + 1 then 5 else 3)).answer .done
    | none =>
      let code := if s.yard.expiredAt.get 0 handle = s.nowUs + 1 then 5 else 4
      (s.set Reg.TMR_RESULT_CODE p code).answer .done
  else s.answer .busError

/-- The fields of a `FLOW_CFG` word. -/
def flowCfgOf (v : Nat) : FlowCfg :=
  { en := bitOf v 0, ordered := bitOf v 1, coreMask := BitVec.ofNat 16 (bitsOf v 2 16), nextFlow := bitsOf v 18 12,
    nextEn := bitOf v 30 }

/-- The `FLOW_CFG` word of a flow. -/
def FlowCfg.word (c : FlowCfg) : Nat :=
  b2n c.en + b2n c.ordered * 2 + c.coreMask.toNat * 4 + c.nextFlow % 4096 * 2 ^ 18 + b2n c.nextEn * 2 ^ 30

/-- Items of a flow are taken and not released (R664). -/
def YarderState.flowBusy (y : YarderState) (flow : Nat) : Bool :=
  (y.inProgress ++ y.finished.map Prod.fst).any fun it => it.flow == flow

/-- FLOW_CFG_WRITE (R664, R684): masters other than Ranger and the port's core get a bus error. -/
def State.doFlowCfg (s : State) (m : Master) (p v : Nat) : State :=
  if ownsPort m p then
    let flow := s.get Reg.FLOW_SEL_FLOW p
    let cfg := flowCfgOf v
    if cfg.ordered != (s.flowCfg flow).ordered && s.yard.flowBusy flow then
      (s.setFlag Reg.PORT_CTRL_CFG_REFUSED p true).answer .done
    else (s.withYard fun y => { y with flows := y.flows.put FlowCfg.off flow cfg }).answer .done
  else s.answer .busError

/-- One refill: the best-ranked spilled item enters the store while more than `HW_RESERVE` + 64 slots are free. -/
def State.refillOne (s : State) : State :=
  if s.hwReserve + 64 < s.yardFree then
    match bestItem s.yard.landing with
    | some it => (s.withYard fun y => { y with landing := y.landing.erase it, store := y.store ++ [it] }).landingLevel
    | none => s
  else s

/-- LANDING_REFILL (R676, R678): up to 128 items of one µs; none in PARK. -/
def State.doRefill (s : State) : State := if s.parked then s else iterate State.refillOne 128 s

/-- HELD_ITEM_ENTRY (R679): with a slot free, the first held item in the order of R662 enters the store; with none held,
waiting releases go on. The wait of a timer's item runs from its expiry (R680). -/
def State.doHeldEntry (s : State) : State :=
  if s.yardFree = 0 then s
  else
    match s.yard.held with
    | h :: r =>
      let s := if h.item.src = 3 then s.timerPosted h.due else s
      (s.withYard fun y => { y with held := r }).acceptBorn (if h.item.src = 3 then h.item.born else s.ticks) h.item.prio h.item.flow h.item.src h.item.count
        h.item.arg0 h.item.arg1
    | [] =>
      (s.yard.finished.map fun e => e.1.flow).foldl (fun s flow => s.releaseFlow flow s.yard.finished.length) s

/-- Items of a stopped core return to the heads of their priorities in sequence order (R671). -/
def State.requeueCore (s : State) (c : Nat) : State :=
  match s.yard.progress.get [] c with
  | [] => s
  | items =>
    let s := s.withYard fun y =>
      { y with progress := y.progress.put [] c [], store := items.map (fun it => { it with ticket := 0 }) ++ y.store,
               busyTicks := y.busyTicks.put 0 c (y.busyTicks.get 0 c + (s.ticks - y.busySince.get 0 c)) }
    (s.count Reg.YD_COUNT2_REQUEUED 0 items.length).raise 47

/-- `LOAD_WIN` in model ticks; 0 acts as 1 µs, above 1,000,000 as 1,000,000. -/
def State.loadWindow (s : State) : Nat := 125 * clampN 1 1000000 (s.get Reg.YD_CFG_LOAD_WIN 0)

/-- `LOAD` of core `c` at the end of a window: the busy fraction in Q0.16, a full window as 0xFFFF (R681). -/
def State.coreLoad (s : State) (c : Nat) : Nat :=
  let w := s.loadWindow
  let run := if (s.yard.progress.get [] c).isEmpty then 0 else min w (s.ticks - s.yard.busySince.get 0 c)
  min 0xFFFF ((s.yard.busyTicks.get 0 c + run) * 65536 / w)

/-- LOAD_WINDOW_END (R681): the window is over `LOAD_WIN` after its begin. -/
def State.loadWindowEnd (s : State) : State :=
  let s' := (List.range 16).foldl (fun t c => t.set Reg.CORE_STAT_LOAD c (s.coreLoad c)) s
  s'.withYard fun y =>
    { y with busyTicks := Tab.empty, loadAt := s.ticks,
             busySince := (List.range 16).foldl (fun t c =>
               if (y.progress.get [] c).isEmpty then t else t.put 0 c s.ticks) y.busySince }

/-- An item waits beyond the window of its flow (R673). -/
def State.windowHolds (s : State) : Bool :=
  s.yard.store.any fun it => (s.flowCfg it.flow).usable && !s.inWindow it

/-- The counters that run with the FABRIC clock (R673, R679): `n` clocks pass. -/
def State.yardClocks (s : State) (n : Nat) : State :=
  let s := if s.holding then s.count Reg.YD_COUNT1_BP_CLOCKS 0 n else s
  if s.windowHolds then
    ((s.raiseIf (!s.yard.stalled) 45).count Reg.YD_COUNT2_WINDOW_STALL 0 n).withYard
      fun y => { y with stalled := true }
  else s.withYard fun y => { y with stalled := false }

/-- POST. -/
def execYardPost (m : Master) (port : Fin 17) (s : State) : Host.Outcome State Fault Refusal :=
  s.run fun s => s.doPost m port.val

/-- TAKE. -/
def execYardTake (m : Master) (port : Fin 17) (s : State) : Host.Outcome State Fault Refusal :=
  s.run fun s => s.doTake m port.val

/-- DONE. -/
def execYardDone (m : Master) (port : Fin 17) (ticket : BitVec 15) (result : Word32) (s : State) :
    Host.Outcome State Fault Refusal :=
  s.run fun s => s.doDone m port.val ticket.toNat result.toNat

/-- TMR_ARM. -/
def execTmrArm (m : Master) (port : Fin 17) (handle : Word16) (flow : BitVec 12) (prio : Fin 8) (period : Word32)
    (s : State) : Host.Outcome State Fault Refusal :=
  s.run fun s => s.doArm m port.val handle.toNat flow.toNat prio.val period.toNat

/-- TMR_CANCEL. -/
def execTmrCancel (m : Master) (port : Fin 17) (handle : Word16) (s : State) : Host.Outcome State Fault Refusal :=
  s.run fun s => s.doCancel m port.val handle.toNat

/-- FLOW_CFG_WRITE. -/
def execFlowCfgWrite (m : Master) (port : Fin 17) (v : Word32) (s : State) : Host.Outcome State Fault Refusal :=
  s.run fun s => s.doFlowCfg m port.val v.toNat

/-- LANDING_REFILL. -/
def execLandingRefill (s : State) : Host.Outcome State Fault Refusal := s.run State.doRefill

/-- HELD_ITEM_ENTRY. -/
def execHeldItemEntry (s : State) : Host.Outcome State Fault Refusal := s.run State.doHeldEntry

end Sys2Proof.Machine
end

