-- ==== Sys2Proof/Machine/Clock.lean ====
section
/-!
DEFINITION. Time: the TIME tick of 8 ns moves the time bases (R567, R568) and the counters of the FABRIC clock. An event
that a rule places at a time moves the model's clock there when the clock has not reached it (log entry 5).
-/
namespace Sys2Proof.Machine

/-- The rate correction of base `n` in 2^-16 ppb (R568). -/
def State.rate16 (s : State) (n : Nat) : Int := s.getS Reg.TB_RATE_PPB n * 65536 + (s.get Reg.TB_RATE_PPB_FRAC n : Nat)

/-- Base `n` advances by `k` periods of `ns` nanoseconds, corrected by its rate (R568). -/
def State.moveTb (s : State) (n ns k : Nat) : State :=
  let now : Int := (s.get Reg.TB_TIME_NS n * 65536 + s.get Reg.TB_FRAC_FRAC n : Nat)
  let corr := (ns * k : Nat) * s.rate16 n + s.power.tbRest.get 0 n
  let next := (now + (ns * k * 65536 : Nat) + corr / 1000000000).toNat
  let s := (s.set Reg.TB_TIME_NS n (next / 65536)).set Reg.TB_FRAC_FRAC n (next % 65536)
  { s with power := { s.power with tbRest := s.power.tbRest.put 0 n (corr % 1000000000) } }

/-- Ticks of the 40 MHz time clock of SAFE within the next `n` TIME ticks. -/
def State.safeTicks (s : State) (n : Nat) : Nat := (8 * (s.ticks + n)) / 25 - (8 * s.ticks) / 25

/-- `n` TIME ticks pass. The bases run through the hold of a D reset, which keeps them (R706; DEDUCED, log entry 5). TB6 runs on while only `PORST_N` does not hold the device (R438, R700). -/
def State.advance (s : State) (n : Nat) : State :=
  let s := if s.power.porst then s else s.moveTb 6 25 (s.safeTicks n)
  let s := { s with ticks := s.ticks + n }
  let on := s.alive || s.power.held == some .d
  let s := if on then [0, 1, 2, 3, 4, 5, 7].foldl (fun s b => s.moveTb b 8 n) s else s
  if s.alive then s.yardClocks (n * s.get Reg.SAG_STATUS_RATE 0) else s

/-- The clock stands at least at tick `t`. -/
def State.waitTill (s : State) (t : Nat) : State := s.advance (t - s.ticks)

/-- The least number of steps of `ns` nanoseconds after which base `n` reads at least `t` ns (R568). -/
def State.tbSteps (s : State) (n ns t : Nat) : Nat :=
  let now : Int := (s.get Reg.TB_TIME_NS n * 65536 + s.get Reg.TB_FRAC_FRAC n : Nat)
  let need := ((t * 65536 : Nat) - now) * 1000000000 - s.power.tbRest.get 0 n
  let d := (ns : Int) * (65536 * 1000000000 + s.rate16 n)
  if need ≤ 0 ∨ d ≤ 0 then 0 else ((need + d - 1) / d).toNat

/-- The ticks from now to the first one at which base `n` reads at least `t` ns. -/
def State.ticksTill (s : State) (n t : Nat) : Nat :=
  if n = 6 then
    let k := s.tbSteps 6 25 t
    if k = 0 then 0 else (25 * (8 * s.ticks / 25 + k) - 8 * s.ticks + 7) / 8
  else s.tbSteps n 8 t

/-- The clock stands at the first tick at which base `n` reads at least `t` ns. -/
def State.waitTb (s : State) (n t : Nat) : State := s.advance (s.ticksTill n t)

/-- The earliest deadline of an armed timer, in µs of TB0. -/
def State.nextDeadline (s : State) : Option Nat :=
  s.yard.timers.entries.foldl (fun d e =>
    match e.2, d with
    | some t, some d => some (min d t.deadline)
    | some t, none => some t.deadline
    | none, d => d) none

/-- LOAD_WINDOW_END (R681). -/
def execLoadWindowEnd (s : State) : Host.Outcome State Fault Refusal :=
  s.run fun s => (s.waitTill (s.yard.loadAt + s.loadWindow)).loadWindowEnd

/-- TIMER_EXPIRY: the tick of the earliest deadline has come; past deadlines expire at the next tick (R674, R675). -/
def execTimerExpiry (s : State) : Host.Outcome State Fault Refusal :=
  s.run fun s =>
    match s.nextDeadline with
    | some d => (s.waitTb 0 (1000 * max d ((s.tb 0 + 999) / 1000))).doTimers
    | none => s.doTimers

/-- The state of a time base (R570); a change raises `EV178`. -/
def State.setTbState (s : State) (n st : Nat) : State :=
  if s.get Reg.TB_STATE_STATE n = st then s else (s.set Reg.TB_STATE_STATE n st).raise 178

/-- Ticks of 8 ns that `us` microseconds take. -/
def usTicks (us : Nat) : Nat := 125 * us

/-- Ticks that `ms` milliseconds take. -/
def msTicks (ms : Nat) : Nat := 125000 * ms

end Sys2Proof.Machine
end

