-- ==== Sys2Proof/Machine/Profile.lean ====
section
/-!
DEFINITION. The profile generator that the servo kernel and the step sequencers share (R292 to R302, R409): the update,
the braking distance, and the choice of the jerk of each update. Positions are counts, times seconds, exact.
-/
namespace Sys2Proof.Machine

/-- The state of motion along the direction of travel: distance covered, speed, acceleration. -/
structure Motion where
  s : Rat
  u : Rat
  c : Rat
deriving DecidableEq, Repr, Inhabited

/-- One update of R292. -/
def Motion.next (m : Motion) (j t : Rat) : Motion :=
  { s := m.s + m.u * t + m.c * t * t / 2 + j * t * t * t / 6, u := m.u + m.c * t + j * t * t / 2, c := m.c + j * t }

/-- The stop from speed `u` without acceleration, with deceleration `d` and jerk `j`, needs at most `r` (R293). The root
of the second case is compared by squares. -/
def stopsFrom (u d j r : Rat) : Bool :=
  if r < 0 then false
  else if d * d ≤ u * j then decide (u * u / (2 * d) + u * d / (2 * j) ≤ r)
  else decide (u * u * u ≤ r * r * j)

/-- The stop from speed `u ≥ 0` and acceleration `c` needs at most `r`, the return of the acceleration to 0 included
(R293). A running deceleration is read as the middle of the stop that would have led to it. -/
def stopsIn (smooth : Bool) (u c d j r : Rat) : Bool :=
  if !smooth then decide (0 ≤ r) && decide (u * u ≤ 2 * d * r)
  else if 0 ≤ c then
    let t := c / j
    stopsFrom (u + c * t / 2) d j (r - (u * t + c * t * t / 2 - j * t * t * t / 6))
  else
    let b := -c
    let t := b / j
    if b * t / 2 ≤ u then
      let u0 := u + b * t / 2
      stopsFrom u0 (max d b) j (r + (u0 * t - j * t * t * t / 6))
    else decide (u * t - b * t * t / 2 + j * t * t * t / 6 ≤ r)

/-- The least whole deceleration between `lo` and `hi` whose stop needs at most `r`, by halving (R297). -/
def leastDecel (smooth : Bool) (u c j r : Rat) (lo hi : Nat) : Nat → Nat
  | 0 => hi
  | n + 1 =>
    let mid := (lo + hi) / 2
    if hi ≤ lo + 1 then hi
    else if stopsIn smooth u c mid j r then leastDecel smooth u c j r lo mid n
    else leastDecel smooth u c j r mid hi n

/-- The sign of `x`, `d` for 0. -/
def signOr (x d : Rat) : Rat := if x < 0 then -1 else if 0 < x then 1 else d

/-- The generator stands: a trapezoidal one has no acceleration to bring down. -/
def Prof.still (q : Prof) : Bool := q.v == 0 && (q.a == 0 || !q.smooth)

/-- The motion of a generator seen along `σ`. -/
def Prof.along (q : Prof) (σ : Rat) : Motion := { s := 0, u := σ * q.v, c := σ * q.a }

/-- `x` held between `lo` and `hi`. -/
def clampQ (lo hi x : Rat) : Rat := if x < lo then lo else if hi < x then hi else x

/-- The speed that is left once the acceleration has been brought to 0 at the jerk limit. -/
def Motion.settled (m : Motion) (j : Rat) : Rat := m.u + m.c * m.c.abs / (2 * j)

/-- The acceleration after an update stays within its limits, or comes nearer to them (R292). -/
def Motion.within (m n : Motion) (acc d : Rat) : Bool :=
  (decide (n.c ≤ acc) || decide (n.c ≤ m.c)) && (decide (-d ≤ n.c) || decide (m.c ≤ n.c))

/-- The last two updates of a change of speed: the jerk, within its limit, that ends at `w` without acceleration after this
update, or after this one and the next (log entry 32). -/
def landJerk (m : Motion) (w acc d j t : Rat) : Option Rat :=
  let x := (w - m.u - 3 * m.c * t / 2) / (t * t)
  if m.c.abs ≤ j * t ∧ m.u + m.c * t / 2 = w then some (-m.c / t)
  else if x.abs ≤ j ∧ (m.c + x * t).abs ≤ j * t ∧ m.within (m.next x t) acc d = true then some x
  else none

/-- A jerk that brings the acceleration to its limit `a` in one update where the jerk limit would cross it there. -/
def reachJerk (c a j t : Rat) : List Rat := if a.abs < j * t ∧ ((a - c) / t).abs ≤ j then [(a - c) / t] else []

/-- The jerk of an update that brings the speed to `w` (R295, R300, R301): −J, 0 or +J, but in the last two updates. -/
def speedJerk (m : Motion) (w acc d j t : Rat) : Rat :=
  match landJerk m w acc d j t with
  | some x => x
  | none =>
    if m.settled j ≤ w then
      (([j] ++ reachJerk m.c acc j t ++ [0]).find? fun x =>
        decide ((m.next x t).settled j ≤ w) && m.within (m.next x t) acc d).getD (-j)
    else
      (([-j] ++ reachJerk m.c (-d) j t ++ [0]).find? fun x =>
        decide (w ≤ (m.next x t).settled j) && m.within (m.next x t) acc d).getD j

/-- The running update takes jerk `j` along `σ`. -/
def Prof.withJerk (q : Prof) (σ j : Rat) : Prof := { q with j := σ * j }

/-- The running update takes acceleration `a` along `σ` (R409, trapezoidal). -/
def Prof.withAcc (q : Prof) (σ a : Rat) : Prof := { q with a := σ * a, j := 0 }

/-- The generator brings its speed along `σ` to `w ≥ 0` (R295, R300, R301), with deceleration `d`. -/
def Prof.toSpeed (q : Prof) (σ w : Rat) (d : Nat) (t : Rat) : Prof :=
  let m := q.along σ
  if q.smooth then q.withJerk σ (speedJerk m w q.acc d q.jerk t)
  else q.withAcc σ (clampQ (-(d : Rat)) q.acc ((w - m.u) / t))

/-- The final update of a move (R294). -/
def Prof.land (q : Prof) (target : Rat) : Prof := { q with landing := some (target, 0) }

/-- After an update with jerk `x` the axis still stops `r` away, and its acceleration is within the limits. -/
def Prof.allows (q : Prof) (m : Motion) (r t x : Rat) : Bool :=
  let n := m.next x t
  decide (0 ≤ n.u) && stopsIn true n.u n.c q.brake q.jerk (r - n.s) && m.within n q.acc q.brake

/-- The jerks that a move tries, the most speed first: while it brakes or holds its velocity (R299) it does not
accelerate. -/
def Prof.wanted (q : Prof) (m : Motion) (t : Rat) : List Rat :=
  let j : Rat := q.jerk
  let zero := if m.c.abs ≤ j * t then [-m.c / t] else []
  if (q.vel : Rat) < m.settled j then [speedJerk m q.vel q.acc q.brake j t]
  else if q.braking || q.hold then
    ([j] ++ zero ++ [0, -j] ++ reachJerk m.c (-(q.brake : Rat)) j t).filter fun x => decide ((m.next x t).c ≤ 0)
  else [speedJerk m q.vel q.acc q.brake j t, 0] ++ zero ++ [-j] ++ reachJerk m.c (-(q.brake : Rat)) j t

/-- One update of a smooth move towards a target `r ≥ 0` away, moving towards it (R293, R294, R299, R301). -/
def Prof.moveJerk (q : Prof) (σ r t : Rat) (target : Rat) : Prof :=
  let m := q.along σ
  let step : Rat := q.jerk * t
  let above := decide ((q.vel : Rat) < m.settled q.jerk)
  if !q.passing && decide (m.c.abs ≤ step) && decide (m.u ≤ step * t) && decide (r ≤ max 1 (4 * step * t * t)) then
    (q.withJerk σ 0).land target
  else
    match (q.wanted m t).find? (q.allows m r t) with
    | some x => { q.withJerk σ x with braking := q.braking || (!above && decide ((m.next x t).c < 0) && decide (x ≤ 0)) }
    | none =>
      let x := speedJerk m 0 q.acc q.brake q.jerk t
      let q := { q with braking := true }
      if !q.passing && decide (m.c.abs ≤ step) && decide (r ≤ (m.next x t).s) then (q.withJerk σ x).land target
      else q.withJerk σ x

/-- One update of a trapezoidal move (R409). -/
def Prof.moveAcc (q : Prof) (σ r t : Rat) (target : Rat) : Prof :=
  let m := q.along σ
  let vmax : Rat := q.vel
  let d : Rat := q.brake
  let ok := fun (a : Rat) =>
    decide (0 ≤ m.u + a * t) && stopsIn false (m.u + a * t) 0 q.brake 1 (r - (m.u * t + a * t * t / 2))
  let a := clampQ (-d) q.acc ((vmax - m.u) / t)
  if (vmax < m.u ∨ !(q.braking || q.hold)) ∧ ok a then q.withAcc σ a
  else if !q.braking && decide (0 < m.u) && decide (m.u ≤ vmax) && ok 0 then q.withAcc σ 0
  else
    let q := { q with braking := true }
    let s := m.u * t - d * t * t / 2
    if !q.passing && decide (m.u ≤ d * t ∨ r ≤ s) then (q.withAcc σ (-d)).land target
    else q.withAcc σ (max (-d) (-m.u / t))

/-- A new command or limit is judged (R297, R298): the deceleration in force, and what it must be raised to. -/
def Prof.judgeStop (q : Prof) (σ r : Rat) : Prof :=
  let m := q.along σ
  if stopsIn q.smooth m.u m.c q.dec q.jerk r then { q with brake := q.dec, fresh := false }
  else if stopsIn q.smooth m.u m.c q.decMax q.jerk r then
    let d := leastDecel q.smooth m.u m.c q.jerk r q.dec q.decMax 40
    { q with brake := d, raised := q.raised || decide (q.dec < d), fresh := false }
  else { q with brake := max q.dec q.decMax, raised := q.raised || decide (q.dec < q.decMax), passed := true,
                passing := true, fresh := false }

/-- How far the soft limit lies in direction `σ`; none where no soft limit is known. -/
def Prof.softRoom (q : Prof) (σ : Rat) (soft : Option (Int × Int)) : Option Rat :=
  soft.map fun l => if 0 < σ then (l.2 : Rat) - q.p else q.p - (l.1 : Rat)

/-- Whether the stop with deceleration `d` stays within the soft limit in direction `σ`. -/
def Prof.withinSoft (q : Prof) (σ : Rat) (d : Nat) (soft : Option (Int × Int)) : Bool :=
  match q.softRoom σ soft with
  | none => true
  | some r => stopsIn q.smooth (q.along σ).u (q.along σ).c d q.jerk r

/-- The soft limit in direction `σ`. -/
def softEnd (σ : Rat) (soft : Option (Int × Int)) (d : Int) : Int :=
  match soft with
  | none => d
  | some (lo, hi) => if 0 < σ then hi else lo

/-- A stop before a reversal (R300 under R297 and R298): `DECEL`, raised where the soft limit ahead asks for it; where even
`DECEL_MAX` crosses that limit, it brakes with it and the axis faults (DEDUCED, log entry 32). -/
def Prof.judgeTurn (q : Prof) (σ : Rat) (soft : Option (Int × Int)) : Prof :=
  if q.withinSoft σ q.dec soft then { q with brake := q.dec, fresh := false }
  else
    let q' := q.judgeStop σ ((q.softRoom σ soft).getD 0)
    { q' with softHit := q'.softHit || q'.passing, passed := q.passed }

/-- The coming update of a move (R293, R294, R297 to R301). -/
def Prof.planMove (q : Prof) (target : Int) (soft : Option (Int × Int)) (t : Rat) : Prof :=
  let x : Rat := (target : Rat) - q.p
  if x = 0 ∧ q.still = true then { q with kind := .idle, a := 0, j := 0, fresh := false }
  else
    let σ := signOr x (if 0 < q.v then -1 else 1)
    if σ * q.v < 0 then
      let q := if q.fresh then q.judgeTurn (-σ) soft else q
      q.toSpeed (-σ) 0 q.brake t
    else
      let r : Rat := x.abs
      let q := if q.fresh then q.judgeStop σ r
        else if q.v = 0 then { q with brake := q.dec, braking := false, hold := false, passing := false } else q
      let q := if q.passing && !q.withinSoft σ q.brake soft then
          { q with kind := .move (softEnd σ soft target), softHit := true } else q
      if q.smooth then q.moveJerk σ r t target else q.moveAcc σ r t target

/-- The generator after an update with the jerk it has chosen (R292). -/
def Prof.moved (q : Prof) (t : Rat) : Prof :=
  let n := Motion.next { s := q.p, u := q.v, c := q.a } q.j t
  { q with p := n.s, v := n.u, a := n.c }

/-- The coming update of a jog towards the signed velocity `w` (R295, R300): it brakes to stop at a soft limit. -/
def Prof.planVelocity (q : Prof) (w : Int) (soft : Option (Int × Int)) (t : Rat) : Prof :=
  let w' : Rat := clampI (-(q.vel : Int)) q.vel w
  let σ := signOr q.v (signOr w' 1)
  if w' = 0 ∧ q.still = true then { q with kind := .idle, a := 0, j := 0, fresh := false }
  else if σ * w' < 0 then
    let q := if q.fresh then q.judgeTurn σ soft else q
    q.toSpeed σ 0 q.brake t
  else
    let q := { q with fresh := false, brake := q.dec }
    let q' := q.toSpeed σ (σ * w') q.dec t
    if w' ≠ 0 ∧ (q'.moved t).withinSoft σ q.dec soft = false then
      ({ q with kind := .move (softEnd σ soft 0), fresh := true }).planMove (softEnd σ soft 0) soft t
    else q'

/-- The choice for the coming update of `t` seconds. -/
def Prof.plan (q : Prof) (soft : Option (Int × Int)) (t : Rat) : Prof :=
  match q.kind with
  | .idle => { q with j := 0, fresh := false }
  | .move target => q.planMove target soft t
  | .velocity w => q.planVelocity w soft t
  | .stop d =>
    if q.still then { q with kind := .idle, a := 0, j := 0, fresh := false }
    else ({ q with fresh := false }).toSpeed (signOr q.v 1) 0 d t
  | .track _ _ _ => { q with fresh := false }

/-- The update of `ns` nanoseconds that was chosen has run (R292, R294). -/
def Prof.advance (q : Prof) (ns : Nat) : Prof :=
  let t : Rat := (ns : Rat) / 1000000000
  match q.landing with
  | some (p, v) =>
    let q := { q with p := p, v := v, a := 0, j := 0, landing := none, braking := false }
    match q.kind with
    | .move target => if p = (target : Rat) ∧ v = 0 then { q with kind := .idle } else q
    | _ => q
  | none =>
    let n := q.moved t
    match q.kind with
    | .track target w left =>
      if left ≤ ns then { q with p := target, v := w, a := 0, j := 0, kind := .track target w 0 }
      else { n with kind := .track target w (left - ns) }
    | .stop _ => if n.still then { n with kind := .idle, a := 0, j := 0 } else n
    | .velocity w => if w = 0 ∧ n.still = true then { n with kind := .idle, a := 0, j := 0 } else n
    | _ => n

/-- The position `ns` nanoseconds into the running update. -/
def Prof.at (q : Prof) (ns : Nat) : Rat := (q.moved ((ns : Rat) / 1000000000)).p

/-- The generator takes a move, a jog or a stop (R280, R296). -/
def Prof.command (q : Prof) (k : ProfKind) : Prof :=
  { q with kind := k, fresh := true, raised := false, passed := false, passing := false, hold := false, braking := false, softHit := false,
           landing := none }

/-- New limits from the next update on (R296); a larger deceleration while braking holds the velocity (R299). -/
def Prof.limits (q : Prof) (vel acc dec decMax jerk : Nat) : Prof :=
  let hold := q.hold || (q.braking && decide (q.dec < dec))
  { q with vel := vel, acc := acc, dec := dec, decMax := decMax, jerk := jerk, fresh := true,
           hold := hold, braking := if hold then false else q.braking, landing := none }

/-- The generator stands at `p`. -/
def Prof.rest (q : Prof) (p : Rat) : Prof :=
  { q with kind := .idle, p := p, v := 0, a := 0, j := 0, landing := none, braking := false, hold := false, fresh := false }

/-- The Hermite segment from the present (p, v) to (`target`, `w`) in `ns` (R304, R410), as an acceleration and a jerk. -/
def Prof.track (q : Prof) (target w : Int) (ns : Nat) : Prof :=
  let h : Rat := (max 1 ns : Nat) / 1000000000
  let dp : Rat := (target : Rat) - q.p
  let c2 := (3 * dp / h - 2 * q.v - w) / h
  let c3 := (w + q.v - 2 * dp / h) / (h * h)
  { q with kind := .track target w (max 1 ns), a := 2 * c2, j := 6 * c3, fresh := false, landing := none }

/-- A profile is in progress. -/
def Prof.busy (q : Prof) : Bool :=
  match q.kind with
  | .idle => false
  | _ => true

end Sys2Proof.Machine
end

