-- ==== Sys2Proof/Machine/PwmCore.lean ====
section
/-!
DEFINITION. A PWM pair: its reference signal, its two switches, dead time, minimum pulse, the safe state and its causes
(chapter 10, R350 to R369). Times are absolute fine units of 62.5 ps.
-/
namespace Sys2Proof.Machine

/-- The pair beside its registers. -/
def State.pair (s : State) (p : Nat) : PwmPair := s.pwm.get PwmPair.reset p

/-- Changes the pair beside its registers. -/
def State.onPair (s : State) (p : Nat) (f : PwmPair → PwmPair) : State :=
  { s with pwm := s.pwm.put PwmPair.reset p (f (s.pair p)) }

/-- Fine units of the model's clock: 128 a TIME tick. -/
def State.fineNow (s : State) : Nat := 128 * s.ticks

/-- The engine that owns pair `p` (R17). -/
def pairEngine (p : Nat) : Nat := 48 + p / 12

/-- The axis that pair `p` serves. -/
def pairAxis (p : Nat) : Nat := 192 + p / 3

/-- `PER` as it acts: at least 2,048 (R354). -/
def State.pairPer (s : State) (p : Nat) : Nat := max 2048 (s.get Reg.PWM_SET_PER p)

/-- `DUTY`. -/
def State.pairDuty (s : State) (p : Nat) : Nat := s.get Reg.PWM_SET_DUTY p

/-- The period's length: P or 2P, with the trim of the period (R352, R356). -/
def State.pairLength (s : State) (p : Nat) : Nat :=
  let per := s.pairPer p
  (((if (s.pair p).mode then 2 * per else per : Nat) : Int) + (s.pair p).trim).toNat

/-- The first half of the trim in centre-aligned mode (R356). -/
def PwmPair.halfTrim (q : PwmPair) : Int := if q.mode then q.trim / 2 else 0

/-- When H_ref rises, from the period start (R352, R353). -/
def State.pairRise (s : State) (p : Nat) : Nat :=
  if (s.pair p).mode && decide (s.pairDuty p < s.pairPer p) then
    ((s.pairPer p : Int) - (s.pairDuty p : Int) + (s.pair p).halfTrim).toNat
  else 0

/-- When H_ref falls, from the period start; none when it stays on for the whole period (R352, R353). -/
def State.pairFall (s : State) (p : Nat) : Option Nat :=
  let per := s.pairPer p
  let d := s.pairDuty p
  if per ≤ d then none
  else if (s.pair p).mode then some ((per : Int) + (d : Int) + (s.pair p).halfTrim).toNat
  else some d

/-- The causes of the safe state that are present (R365), as the bits of `CAUSES`. -/
def State.pairCauses (s : State) (p : Nat) : Nat :=
  s.get Reg.PWM_CTRL_FORCE p + 2 * s.get Reg.PWM_CTRL_STO_MODE p + 4 * b2n (s.pair p).caldera
    + 8 * s.get Reg.PWM_TRIP_TRIP_LATCHED p + 16 * b2n (s.pair p).engine
    + 32 * (if s.flag Reg.PWM_FLAGS_CLK_LOST p || !s.pwmClock then 1 else 0)

/-- The pair is in its safe state. -/
def State.pairForced (s : State) (p : Nat) : Bool := s.flag Reg.PWM_STATUS_FORCED p

/-- `CAUSES` shows the present causes. -/
def State.showCauses (s : State) (p : Nat) : State := s.set Reg.PWM_STATUS_CAUSES p (s.pairCauses p)

/-- The high-side switch turns off at `t`; its last turn-off is remembered for `DT_FALL` (R365). -/
def State.hOff (s : State) (p t : Nat) : State :=
  if s.flag Reg.PWM_STATUS_H_ON p then
    (s.setFlag Reg.PWM_STATUS_H_ON p false).onPair p fun q => { q with hOffAt := t, hStretch := none, hShort := false }
  else s.onPair p fun q => { q with hStretch := none, hShort := false }

/-- The low-side switch turns off. -/
def State.lOff (s : State) (p : Nat) : State :=
  (s.setFlag Reg.PWM_STATUS_L_ON p false).onPair p fun q => { q with lStretch := none, lShort := false }

/-- The low-side switch turns on at `t`. -/
def State.lOn (s : State) (p t : Nat) : State :=
  (s.setFlag Reg.PWM_STATUS_L_ON p true).onPair p fun q => { q with lOnAt := t, lDue := none }

/-- The high-side switch turns on at `t`. -/
def State.hOn (s : State) (p t : Nat) : State :=
  (s.setFlag Reg.PWM_STATUS_H_ON p true).onPair p fun q => { q with hOnAt := t, hDue := none }

/-- A pair enters its safe state at `t` (R365, R366): the high side turns off at once; the low side is off with `SAFE`
OFF or without the PWM clock (R368), and with LOW_CLAMP turns on once `DT_FALL` has run from the last high-side
turn-off. -/
def State.enterSafe (s : State) (p t : Nat) : State :=
  let wasOn := s.flag Reg.PWM_STATUS_H_ON p
  let s := ((s.hOff p t).setFlag Reg.PWM_STATUS_FORCED p true).onPair p fun q =>
    { q with hDue := none, lStretch := none, lShort := false }
  let q := s.pair p
  if q.clampLow && s.pwmClock then
    if wasOn then s.onPair p fun q => { q with lDue := some (t + q.dtFall) }
    else if s.flag Reg.PWM_STATUS_L_ON p then s
    else if q.lDue.isSome then s
    else if q.hOffAt + q.dtFall ≤ t then s.lOn p t
    else s.onPair p fun q => { q with lDue := some (q.hOffAt + q.dtFall) }
  else (s.lOff p).onPair p fun q => { q with lDue := none }

/-- After a change of a cause: `CAUSES` is shown, and a present cause puts the pair into its safe state (R365). The way
back is at the next period start (R367). -/
def State.judgeCauses (s : State) (p t : Nat) : State :=
  let s := s.showCauses p
  if s.pairCauses p ≠ 0 ∧ s.pairForced p = false then s.enterSafe p t else s

/-- A switch that would turn off at `t` before it has been on for `MIN_PULSE`, from `onAt`: when it may (R364). -/
def PwmPair.offTime (q : PwmPair) (onAt t : Nat) : Nat := max t (onAt + 32 * q.minPulse)

/-- A pulse of a switch that was never on is dropped (R364). -/
def State.dropPulse (s : State) (p : Nat) : State :=
  (s.count Reg.PULSE_DROP_COUNT p 1).setFlag Reg.PWM_FLAGS_DROP_SEEN p true

/-- H_ref rises at `t`: the low side turns off, or later when its pulse must reach `MIN_PULSE`; the high side is due
`DT_RISE` after that (R363, R364). A low side still waiting for its dead time has lost its pulse. -/
def State.refRise (s : State) (p t : Nat) : State :=
  let s := s.onPair p fun q => { q with href := true, rose := true }
  if s.pairForced p then s
  else
    let q := s.pair p
    let s := if q.lDue.isSome then s.dropPulse p else s
    if s.flag Reg.PWM_STATUS_L_ON p then
      if q.offTime q.lOnAt t = t then (s.lOff p).onPair p fun q => { q with lDue := none, hDue := some (t + q.dtRise) }
      else s.onPair p fun q => { q with lDue := none, lStretch := some (q.offTime q.lOnAt t) }
    else s.onPair p fun q => { q with lDue := none, hDue := some (t + q.dtRise) }

/-- H_ref falls at `t`: the mirror image of `refRise`. -/
def State.refFall (s : State) (p t : Nat) : State :=
  let s := s.onPair p fun q => { q with href := false, fell := true }
  if s.pairForced p then s
  else
    let q := s.pair p
    let s := if q.hDue.isSome then s.dropPulse p else s
    if s.flag Reg.PWM_STATUS_H_ON p then
      if q.offTime q.hOnAt t = t then (s.hOff p t).onPair p fun q => { q with hDue := none, lDue := some (t + q.dtFall) }
      else s.onPair p fun q => { q with hDue := none, hStretch := some (q.offTime q.hOnAt t) }
    else s.onPair p fun q => { q with hDue := none, lDue := some (t + q.dtFall) }

/-- When H_ref next falls, for a high side due at `t`; none when it does not fall in this period. -/
def State.nextFall (s : State) (p : Nat) : Option Nat :=
  if (s.pair p).fell then some (s.pair p).start else (s.pairFall p).map fun f => (s.pair p).start + f

/-- When H_ref next rises: in this period, or in the next (R364 judges a low-side interval across a period start as one). -/
def State.nextRise (s : State) (p : Nat) : Option Nat :=
  if s.pairDuty p = 0 then none
  else if (s.pair p).rose then some ((s.pair p).start + s.pairLength p + s.pairRise p)
  else some ((s.pair p).start + s.pairRise p)

/-- The judgement of R364 at a turn-on edge at `t` whose turn-off is scheduled at `off`: 0 leave off, 1 turn on, 2 turn on
with an extended pulse. -/
def PwmPair.judge (q : PwmPair) (t : Nat) (off : Option Nat) : Nat :=
  match off with
  | none => 1
  | some o =>
    if o ≤ t then 0
    else if o - t < 32 * q.minPulse then (if q.extend then 2 else 0)
    else 1

/-- An extended pulse counts in `PULSE_EXT` when it was judged short (R364). -/
def State.countExt (s : State) (p : Nat) (short : Bool) : State :=
  if short then (s.count Reg.PULSE_EXT_COUNT p 1).setFlag Reg.PWM_FLAGS_EXT_SEEN p true else s

/-- The dead time of the high side ends at `t` (R363, R364). A high side that its minimum pulse still keeps on stays on, and
the pulse of the low side between is dropped. -/
def State.hTurnOn (s : State) (p t : Nat) : State :=
  let j := (s.pair p).judge t (s.nextFall p)
  if s.flag Reg.PWM_STATUS_H_ON p then
    ((s.countExt p (s.pair p).hShort).dropPulse p).onPair p fun q => { q with hDue := none, hStretch := none, hShort := false }
  else if j = 0 then (s.dropPulse p).onPair p fun q => { q with hDue := none }
  else (s.hOn p t).onPair p fun q => { q with hShort := j == 2 }

/-- The dead time of the low side ends at `t`; a low clamp is not judged. -/
def State.lTurnOn (s : State) (p t : Nat) : State :=
  if s.pairForced p then s.lOn p t
  else if s.flag Reg.PWM_STATUS_L_ON p then
    ((s.countExt p (s.pair p).lShort).dropPulse p).onPair p fun q => { q with lDue := none, lStretch := none, lShort := false }
  else
    let j := (s.pair p).judge t (s.nextRise p)
    if j = 0 then (s.dropPulse p).onPair p fun q => { q with lDue := none }
    else (s.lOn p t).onPair p fun q => { q with lShort := j == 2 }

/-- A dead time that has run out at `t` ends (R363). -/
def State.deadTimeEnd (s : State) (p : Nat) (high : Bool) (t : Nat) : State :=
  if high then
    match (s.pair p).hDue with
    | some d => if d ≤ t then s.hTurnOn p d else s
    | none => s
  else
    match (s.pair p).lDue with
    | some d => if d ≤ t then s.lTurnOn p d else s
    | none => s

/-- A switch kept on for `MIN_PULSE` turns off at `t`; the other one is due its own dead time later (R364). Where the
reference has turned again meanwhile, the other switch's pulse is empty and dropped. -/
def State.minPulseEnd (s : State) (p : Nat) (high : Bool) (t : Nat) : State :=
  let q := s.pair p
  if high then
    match q.hStretch with
    | some e =>
      if t < e then s
      else if q.href then ((s.countExt p q.hShort).dropPulse p).hOff p e
      else ((s.countExt p q.hShort).hOff p e).onPair p fun q => { q with lDue := some (e + q.dtFall) }
    | none => s
  else
    match q.lStretch with
    | some e =>
      if t < e then s
      else if q.href then ((s.countExt p q.lShort).lOff p).onPair p fun q => { q with hDue := some (e + q.dtRise) }
      else ((s.countExt p q.lShort).dropPulse p).lOff p
    | none => s

/-- The trim of period `i` of a cycle whose error `e` is spread over `n` periods (R356). -/
def periodTrim (e : Int) (n i : Nat) : Int :=
  if n ≤ i then 0
  else
    let m := e.natAbs
    let x : Int := (m / n : Nat) + (if i < m % n then 1 else 0)
    if e < 0 then -x else x

/-- The configuration registers take effect (R362). -/
def State.latchPairConfig (s : State) (p : Nat) : State :=
  s.onPair p fun q =>
    { q with mode := s.flag Reg.PWM_CFG_MODE p, lock := s.flag Reg.PWM_CFG_LOCK p,
             clampLow := s.flag Reg.PWM_CFG_SAFE p, extend := s.flag Reg.PWM_CFG_MIN_POLICY p,
             minPulse := s.get Reg.PWM_CFG_MIN_PULSE p, dtRise := s.get Reg.PWM_DEAD_DT_RISE p,
             dtFall := s.get Reg.PWM_DEAD_DT_FALL p }

/-- At a period start with no cause left the outputs resume (R367): the switch of the present reference is due its dead
time from here (DESIGN CHOICE, log entry 79). -/
def State.resumePair (s : State) (p t : Nat) : State :=
  if s.pairForced p && s.pairCauses p == 0 then
    let s := s.setFlag Reg.PWM_STATUS_FORCED p false
    if (s.pair p).href then (s.lOff p).onPair p fun q => { q with hDue := some (t + q.dtRise), lDue := none }
    else if s.flag Reg.PWM_STATUS_L_ON p then s
    else s.onPair p fun q => { q with lDue := some (t + q.dtFall) }
  else s

/-- H_ref at a period start: it stays on without an edge, rises or falls there (R352, R353). -/
def State.startRef (s : State) (p t : Nat) : State :=
  let rises := decide (0 < s.pairDuty p ∧ s.pairRise p = 0)
  let was := (s.pair p).href
  let s := s.onPair p fun q => { q with rose := rises, fell := false }
  if was && !rises then (s.refFall p t).onPair p fun q => { q with fell := false }
  else if !was && rises then s.refRise p t
  else s

/-- A period of the pair starts at `t`: configuration, trim, reference, resumption (R356, R362, R367). -/
def State.periodStart (s : State) (p t : Nat) : State :=
  let s := (s.latchPairConfig p).onPair p fun q =>
    { q with start := t, trim := if q.lock then periodTrim q.trimE q.trimN q.trimIdx else 0, trimIdx := q.trimIdx + 1,
             restart := false }
  (s.startRef p t).resumePair p t

/-- Sets or clears a cause kept beside the registers and judges the safe state. -/
def State.setPairEngine (s : State) (p t : Nat) (on : Bool) : State :=
  (s.onPair p fun q => { q with engine := on }).judgeCauses p t

/-- Caldera's STO for the pair's axis (R365, R471). -/
def State.setPairCaldera (s : State) (p t : Nat) (on : Bool) : State :=
  (s.onPair p fun q => { q with caldera := on }).judgeCauses p t

/-- `FORCE` is written (R365, R369). -/
def State.setForce (s : State) (p t : Nat) (on : Bool) : State :=
  (s.setFlag Reg.PWM_CTRL_FORCE p on).judgeCauses p t

/-- The mode cause (R365). -/
def State.setStoMode (s : State) (p t : Nat) (on : Bool) : State :=
  (s.setFlag Reg.PWM_CTRL_STO_MODE p on).judgeCauses p t

/-- The pairs of a local servo axis. -/
def axisPairs (axis : Nat) : List Nat :=
  if 192 ≤ axis ∧ axis < 224 then [3 * (axis - 192), 3 * (axis - 192) + 1, 3 * (axis - 192) + 2] else []

/-- The pairs of an engine. -/
def enginePairs (k : Nat) : List Nat :=
  if 48 ≤ k ∧ k < 56 then (List.range 12).map fun i => 12 * (k - 48) + i else []

end Sys2Proof.Machine
end

