-- ==== Sys2Proof/Machine/StpCore.lean ====
section
/-!
DEFINITION. A step channel: its state as it reads, its halt causes and its profile (chapter 12, R408 to R419).
-/
namespace Sys2Proof.Machine

/-- Channel `ch` beside its registers. -/
def State.step (s : State) (ch : Nat) : StpState := s.stp.get StpState.reset ch

/-- Changes channel `ch` beside its registers. -/
def State.onStep (s : State) (ch : Nat) (f : StpState → StpState) : State :=
  { s with stp := s.stp.put StpState.reset ch (f (s.step ch)) }

/-- The step count. -/
def State.stepPos (s : State) (ch : Nat) : Int := s.getS Reg.STP_POS_COUNT ch

/-- The channel is PARKED (R416). -/
def State.stepParked (s : State) (ch : Nat) : Bool := s.parked || s.flag Reg.STP_CTRL_DRV_PARK ch

/-- `DRVENn` is active (R413): causes other than `ABORT` and `RANGE` make it inactive. -/
def State.driveOn (s : State) (ch : Nat) : Bool :=
  let c := s.get Reg.STP_HALT_CAUSES ch
  s.flag Reg.STP_CTRL_ENABLE ch && !s.stepParked ch && bitsOf c 1 4 == 0

/-- `STATE` (R408, R413, R416, R417). -/
def State.stepState (s : State) (ch : Nat) : Nat :=
  if s.stepParked ch then 6
  else if !s.driveOn ch then 0
  else if s.get Reg.STP_HALT_CAUSES ch ≠ 0 then 5
  else
    match (s.step ch).prof.kind with
    | .idle => 1
    | .stop _ => 4
    | .track _ _ _ => 3
    | _ => 2

/-- A rational number without its fraction. -/
def truncQ (x : Rat) : Int := x.num.tdiv x.den

/-- `STP_STATUS` shows the channel. -/
def State.showStep (s : State) (ch : Nat) : State :=
  let q := (s.step ch).prof
  let s := (s.set Reg.STP_STATUS_STATE ch (s.stepState ch)).setFlag Reg.STP_STATUS_DRVEN ch (s.driveOn ch)
  let s := (s.setFlag Reg.STP_STATUS_DECEL_RAISED ch q.raised).setFlag Reg.STP_STATUS_OVERSHOOT ch q.passed
  s.setS Reg.STP_STATUS_SPEED ch (truncQ q.v)

/-- The profile stands at the step count and the waiting command is gone (R417). -/
def State.stepRest (s : State) (ch : Nat) : State :=
  s.onStep ch fun c => { c with prof := c.prof.rest (s.stepPos ch), cmd := none }

/-- A halt begins (R417 to R419). -/
def State.haltBegins (s : State) (ch : Nat) : State :=
  let c := s.step ch
  let v : Rat := c.prof.v.abs
  let s := match c.cmd with
    | some k => if k.written = s.ticks then s.setFlag Reg.STP_FLAGS_CMD_REFUSED ch true else s
    | none => s
  let s := if (c.vStart : Rat) < v then
      ((s.setFlag Reg.STP_FLAGS_POS_UNSURE ch true).set Reg.STOP_SPEED_SPEED ch (truncQ v).toNat).raise 81
    else s
  (s.stepRest ch).onStep ch fun c => { c with haltAt := some s.ticks }

/-- Sets or clears a halt cause, by its bit (R417). -/
def State.setHalt (s : State) (ch bit : Nat) (on : Bool) : State :=
  let c := s.get Reg.STP_HALT_CAUSES ch
  if bitOf c bit = on then s
  else if on then
    let s := if c = 0 then s.haltBegins ch else s
    (s.set Reg.STP_HALT_CAUSES ch (c + 2 ^ bit)).showStep ch
  else (s.set Reg.STP_HALT_CAUSES ch (c - 2 ^ bit)).showStep ch

/-- Bits of `CAUSES`. -/
def haltAbort : Nat := 0
/-- `ENGINE`. -/
def haltEngine : Nat := 1
/-- `STO_MODE`. -/
def haltStoMode : Nat := 2
/-- `CALDERA`. -/
def haltCaldera : Nat := 3
/-- `DRVFLT`. -/
def haltDrvflt : Nat := 4
/-- `RANGE`. -/
def haltRange : Nat := 5

/-- `IDX_VALID` becomes 0 (R415). -/
def State.loseIndex (s : State) (ch : Nat) : State :=
  if s.flag Reg.STP_USTEP_IDX_VALID ch then
    ((s.setFlag Reg.STP_USTEP_IDX_VALID ch false).setFlag Reg.STP_FLAGS_INDEX_LOST_SEEN ch true).raise 82
  else s

/-- `ENABLE` is written; it acknowledges a driver fault whose input is inactive (R413, R417). -/
def State.writeEnable (s : State) (ch : Nat) (on : Bool) : State :=
  let s := s.setFlag Reg.STP_CTRL_ENABLE ch on
  let s := if s.flag Reg.STP_STATUS_FLT ch then s else s.setHalt ch haltDrvflt false
  (if on then s else s.stepRest ch).showStep ch

/-- The driver's fault input is ignored: the channel is PARKED, or settles after it (R416). -/
def State.fltIgnored (s : State) (ch : Nat) : Bool := s.stepParked ch || (s.step ch).settle.isSome

/-- The channel leaves PARKED: its fault input stays ignored for `PARK_SETTLE` (R416). -/
def State.leaveParked (s : State) (ch : Nat) : State :=
  let t := min 1000 (s.get Reg.STP_TIMING_PARK_SETTLE ch)
  s.onStep ch fun c => { c with settle := some (s.ticks + 125000 * t) }

/-- The step channels of an engine (R17). -/
def engineSteps (k : Nat) : List Nat :=
  if 56 ≤ k ∧ k < 64 then (List.range 4).map fun i => 4 * (k - 56) + i else []

/-- The step channel of an axis. -/
def axisStep (axis : Nat) : List Nat := if 224 ≤ axis ∧ axis < 256 then [axis - 224] else []

/-- The outputs of engine `k` go to their safe states, or come back when it runs again (R264, R365, R417). -/
def State.engineOutputs (s : State) (k : Nat) (safe : Bool) : State :=
  let s := (enginePairs k).foldl (fun s p => s.setPairEngine p s.fineNow safe) s
  (engineSteps k).foldl (fun s ch => s.setHalt ch haltEngine safe) s

end Sys2Proof.Machine
end

