-- ==== Sys2Proof/Machine/JceCore.lean ====
section
/-!
DEFINITION. What other units do to a joint control engine: its tick (R252, R254), its peripheral events (R253), its
start (R268).
-/
namespace Sys2Proof.Machine

/-- The states of an engine, as `STATE` codes them. -/
def jceStopped : Nat := 0
/-- RUNNING. -/
def jceRunning : Nat := 1
/-- TRAPPED. -/
def jceTrapped : Nat := 2
/-- HALTED. -/
def jceHalted : Nat := 3

/-- Engine `k` beside its registers. -/
def State.eng (s : State) (k : Nat) : JceState := s.jce.get JceState.reset k

/-- Changes engine `k` beside its registers. -/
def State.onEng (s : State) (k : Nat) (f : JceState → JceState) : State :=
  { s with jce := s.jce.put JceState.reset k (f (s.eng k)) }

/-- The engine runs. -/
def State.jceRuns (s : State) (k : Nat) : Bool := s.get Reg.JCE_STATE_STATE k == jceRunning

/-- The engine has PWM pairs (R17). -/
def hasPairs (k : Nat) : Bool := decide (48 ≤ k ∧ k < 56)

/-- The tick source as it acts: 0 none, 1 PWM period start, 2 cycle division (R268). -/
def State.tickSource (s : State) (k : Nat) : Nat :=
  let src := s.get Reg.JCE_TICK_SRC k
  if src = 1 then (if hasPairs k && decide (s.get Reg.JCE_TICK_PAIR k < 12) then 1 else 0)
  else if src = 2 then 2 else 0

/-- The engine starts at its entry point (R268, R271). -/
def State.jceBegin (s : State) (k : Nat) : State :=
  (((s.set Reg.JCE_STATE_STATE k jceRunning).set Reg.JCE_STATE_PC k (s.eng k).entry).onEng k fun e =>
    { e with startAtTick := false, outSafe := false, waiting := none, reading := none }).engineOutputs k false

/-- An engine that may start does so at its next tick, or at once with no tick source (R268). -/
def State.jceArm (s : State) (k : Nat) : State :=
  if s.tickSource k = 0 then s.jceBegin k else s.onEng k fun e => { e with startAtTick := true }

/-- A tick arrives at engine `k` (R254): it starts an engine that waits for it, becomes pending, or overruns. -/
def State.jceTick (s : State) (k : Nat) : State :=
  if (s.eng k).startAtTick then s.jceBegin k
  else if s.jceRuns k then
    if (s.eng k).tickPending then
      (((s.setFlag Reg.JCE_FLAGS_LOOP_OVERRUN k true).count Reg.OVERRUN_COUNT_COUNT k 1).count
        Reg.TICK_MISSED_COUNT k 1).raise 65
    else s.onEng k fun e => { e with tickPending := true }
  else s

/-- A peripheral event reaches engine `k` (R253). -/
def State.periphEvent (s : State) (k : Nat) : State := s.onEng k fun e => { e with periphPending := true }

/-- The engine that serves an axis (R17). -/
def axisEngine (axis : Nat) : Nat := axis / 4

end Sys2Proof.Machine
end

