-- ==== Sys2Proof/Machine/Feedback.lean ====
section
/-!
DEFINITION. The position feedback channels (chapter 9): counting, saturating limits, index, sin/cos and SSI encoders,
speed, snapshots.
-/
namespace Sys2Proof.Machine

/-- Channel `ch` beside its registers. -/
def State.fbk (s : State) (ch : Nat) : FbState := s.fb.get FbState.reset ch

/-- Changes channel `ch` beside its registers. -/
def State.onFb (s : State) (ch : Nat) (f : FbState → FbState) : State :=
  { s with fb := s.fb.put FbState.reset ch (f (s.fbk ch)) }

/-- The engine that owns channel `ch` (R17). -/
def fbEngine (ch : Nat) : Nat := 48 + ch / 4

/-- The owning engine and Ranger write a channel (R347). -/
def fbWriter (m : Master) (ch : Nat) : Bool :=
  match m with
  | .ranger => true
  | .jce k => k.val == fbEngine ch
  | _ => false

/-- `MODE` as it acts: 6 and 7 act as 0. -/
def State.fbMode (s : State) (ch : Nat) : Nat :=
  let m := s.get Reg.FB_CFG_MODE ch
  if m < 6 then m else 0

/-- The counter. -/
def State.pos (s : State) (ch : Nat) : Int := s.getS Reg.POS_COUNT ch

/-- `STILL_T` in ticks. -/
def State.stillTicks (s : State) (ch : Nat) : Nat := 125 * clampN 100 1000000 (s.get Reg.FB_TIMING_STILL_T ch)

/-- `ERR_WIN` in ticks. -/
def State.errWinTicks (s : State) (ch : Nat) : Nat := 125 * clampN 100 1000000 (s.get Reg.FB_TIMING_ERR_WIN ch)

/-- Closes the error window (R326). -/
def State.closeWindow (s : State) (ch : Nat) : State := s.onFb ch fun c => { c with winOpen := none, winCount := 0 }

/-- The error window has run out. -/
def State.windowOver (s : State) (ch : Nat) : Bool :=
  match (s.fbk ch).winOpen with
  | some t => decide (t + s.errWinTicks ch ≤ s.ticks)
  | none => false

/-- An error event (R326): it opens a window or counts in the open one; the event that reaches `ILLEGAL_MAX` sets `FAULT`,
sends a peripheral event and raises `EV068`. -/
def State.fbError (s : State) (ch : Nat) : State :=
  let s := if s.windowOver ch then s.closeWindow ch else s
  let s := s.onFb ch fun c =>
    { c with winOpen := some (c.winOpen.getD s.ticks), winCount := c.winCount + 1 }
  if (s.fbk ch).winCount = max 1 (s.get Reg.FB_CFG_ILLEGAL_MAX ch) then
    ((s.setFlag Reg.FB_FLAGS_FAULT ch true).periphEvent (fbEngine ch)).raise 68
  else s

/-- `n` counts are dropped at a limit (R328); `EV070` where dropping begins there. -/
def State.dropCounts (s : State) (ch n : Nat) (low : Bool) : State :=
  let f := if low then Reg.FB_STATUS_SAT_LO else Reg.FB_STATUS_SAT_HI
  let s := s.raiseIf (!s.flag f ch) 70
  ((s.setFlag f ch true).setFlag Reg.FB_FLAGS_SAT_SEEN ch true).count Reg.SAT_DROPPED_COUNT ch n

/-- The counter moves by `d`, held at its limits; what does not fit is dropped and counted (R328, R329). -/
def State.moveCounter (s : State) (ch : Nat) (d : Int) : State :=
  let lo := s.getS Reg.CNT_LO_LIMIT ch
  let hi := s.getS Reg.CNT_HI_LIMIT ch
  let want := s.pos ch + d
  let got := clampI lo hi want
  let lost := (want - got).natAbs
  let moved := decide (got ≠ s.pos ch)
  let s := s.setS Reg.POS_COUNT ch got
  let s := if moved then s.onFb ch fun c => { c with lastMove := s.ticks } else s
  let s := if d = 0 then s else s.setFlag Reg.FB_STATUS_DIR ch (decide (d < 0))
  if lost = 0 then
    if d = 0 then s else (s.setFlag Reg.FB_STATUS_SAT_LO ch false).setFlag Reg.FB_STATUS_SAT_HI ch false
  else
    let low := decide (want < lo)
    (s.setFlag (if low then Reg.FB_STATUS_SAT_HI else Reg.FB_STATUS_SAT_LO) ch false).dropCounts ch lost low

/-- The speed measurement sees an edge in direction `down` (R341): the first edge after standstill or a reversal gives no
speed; each later edge keeps its interval. -/
def State.speedEdge (s : State) (ch : Nat) (down : Bool) (wasDown : Bool) : State :=
  let c := s.fbk ch
  let same := c.moving && (down == wasDown)
  let iv := min (s.ticks - c.lastEdge) (2 ^ 32 - 1)
  let s := s.onFb ch fun c => { c with lastEdge := s.ticks, moving := true, interval := if same then iv else 0 }
  (s.setFlag Reg.FB_STATUS_SPEED_VALID ch same).setFlag Reg.FB_STATUS_STILL ch false

/-- The count of a change of the filtered levels from (a, b) to (a', b') in a mode (R324), before `DIR_INV`. -/
def edgeCount (mode : Nat) (stepEdge a b a' b' : Bool) : Int :=
  match mode with
  | 1 => if a != a' then (if a' != b then 1 else -1) else if b != b' then (if b' == a then 1 else -1) else 0
  | 2 => if a != a' && (a' != stepEdge) then (if b then -1 else 1) else 0
  | 3 => if !a && a' then 1 else if !b && b' then -1 else 0
  | _ => 0

/-- The filter of a channel accepts a level that as many consecutive samples have shown (R322). -/
def State.fbAccepts (s : State) (ch samples : Nat) : Bool := decide (clampN 1 64 (s.get Reg.FB_CFG_FILT_N ch) ≤ samples)

/-- The levels of A and B after the filter and the inversion (R322). -/
def State.fbLevels (s : State) (ch : Nat) (a b : Bool) : Bool × Bool :=
  (a != s.flag Reg.FB_CFG_A_INV ch, b != s.flag Reg.FB_CFG_B_INV ch)

/-- `FB_B` drives the clock in mode 5 and is an input in every other mode (R321). -/
def State.fbClockOut (s : State) (ch : Nat) : Bool := decide (s.fbMode ch = 5)

/-- The channel counts nothing in the sample of its restart (R321). -/
def State.fbStopped (s : State) (ch : Nat) : Bool := (s.fbk ch).restarted == some s.ticks

/-- A sample shows new filtered levels of A and B (R324, R325, R341). -/
def State.countEdge (s : State) (ch : Nat) (a b : Bool) : State :=
  let m := s.fbMode ch
  if m = 0 ∨ m = 4 ∨ s.fbClockOut ch = true then s
  else if s.fbStopped ch then (s.setFlag Reg.FB_STATUS_A ch a).setFlag Reg.FB_STATUS_B ch b
  else
    let a0 := s.flag Reg.FB_STATUS_A ch
    let b0 := s.flag Reg.FB_STATUS_B ch
    let s := (s.setFlag Reg.FB_STATUS_A ch a).setFlag Reg.FB_STATUS_B ch b
    if a0 != a && b0 != b then
      ((s.count Reg.ILLEGAL_EDGE_COUNT ch 1).setFlag Reg.FB_FLAGS_ILLEGAL_SEEN ch true).fbError ch
    else
      let n := edgeCount m (s.flag Reg.FB_CFG_STEP_EDGE ch) a0 b0 a b
      let d := if s.flag Reg.FB_CFG_DIR_INV ch then -n else n
      if d = 0 then s
      else
        let wasDown := s.flag Reg.FB_STATUS_DIR ch
        (s.moveCounter ch d).speedEdge ch (decide (d < 0)) wasDown

/-- FB_COUNT_EDGE: the synchronised lines A and B have shown these levels for `samples` samples (R322). -/
def State.doCountEdge (s : State) (ch : Nat) (a b : Bool) (samples : Nat) : State :=
  if s.fbAccepts ch samples then s.countEdge ch (s.fbLevels ch a b).1 (s.fbLevels ch a b).2 else s

/-- ERR_WIN_EXPIRY (R326). -/
def State.doErrWin (s : State) (ch : Nat) : State :=
  match (s.fbk ch).winOpen with
  | some t => (s.waitTill (t + s.errWinTicks ch)).closeWindow ch
  | none => s

/-- STANDSTILL_TIMEOUT (R342, R343). -/
def State.doStandstill (s : State) (ch : Nat) : State :=
  let m := s.fbMode ch
  if m = 0 then s
  else if m < 4 then
    let s := s.waitTill ((s.fbk ch).lastEdge + s.stillTicks ch)
    (((s.onFb ch fun c => { c with moving := false, interval := 0 }).set Reg.SPEED_VALUE ch 0).setFlag
      Reg.FB_STATUS_SPEED_VALID ch false).setFlag Reg.FB_STATUS_STILL ch true
  else
    ((s.waitTill ((s.fbk ch).lastMove + s.stillTicks ch)).set Reg.SPEED_VALUE ch 0).setFlag Reg.FB_STATUS_STILL ch true

/-- Counts per second in Q31.16 of `n` counts in `t` ticks, truncated towards 0 (R341). -/
def speedRaw (n : Int) (t : Nat) : Int := (n * 125000000 * 65536).tdiv (max 1 t : Nat)

/-- The speed as it reads now (R341, R343). -/
def State.fbSpeed (s : State) (ch : Nat) : Int :=
  let m := s.fbMode ch
  if m < 4 then
    if s.flag Reg.FB_STATUS_SPEED_VALID ch then
      let c := s.fbk ch
      let t := max c.interval (s.ticks - c.lastEdge)
      speedRaw (if s.flag Reg.FB_STATUS_DIR ch then -1 else 1) t
    else 0
  else s.getS Reg.SPEED_VALUE ch

/-- An index event latches the counter (R332). -/
def State.latchIndex (s : State) (ch : Nat) : State :=
  let s := (s.setS Reg.INDEX_POS_COUNT ch (s.pos ch)).count Reg.INDEX_COUNT_COUNT ch 1
  ((s.setFlag Reg.FB_FLAGS_INDEX_SEEN ch true).periphEvent (fbEngine ch)).raise 69

/-- A rising edge of the filtered Z (R332). -/
def State.indexEdge (s : State) (ch : Nat) : State :=
  let m := s.fbMode ch
  let unqualified := decide (m = 1) && s.flag Reg.INDEX_CTRL_INDEX_QUAL ch &&
    !(s.flag Reg.FB_STATUS_A ch && s.flag Reg.FB_STATUS_B ch)
  if m = 0 ∨ m = 5 ∨ unqualified = true ∨ s.fbStopped ch = true then s
  else
    match s.get Reg.INDEX_CTRL_INDEX_MODE ch with
    | 1 => if s.flag Reg.INDEX_CTRL_ARMED ch then (s.latchIndex ch).setFlag Reg.INDEX_CTRL_ARMED ch false else s
    | 2 => s.latchIndex ch
    | _ => s

/-- INDEX_EVENT: the synchronised line Z has shown the level for `samples` samples (R322, R332); mode 0 and mode 5 do not use
it (R320). -/
def State.doIndex (s : State) (ch : Nat) (z : Bool) (samples : Nat) : State :=
  let z := z != s.flag Reg.FB_CFG_Z_INV ch
  if s.fbAccepts ch samples then
    let rises := z && !s.flag Reg.FB_STATUS_Z ch
    let s := s.setFlag Reg.FB_STATUS_Z ch z
    if rises then s.indexEdge ch else s
  else s

/-- An accepted sample of mode 4 or 5 has moved the counter by `moved`: the speed of R343. -/
def State.sampleSpeed (s : State) (ch : Nat) (moved : Int) : State :=
  let c := s.fbk ch
  let dt := s.ticks - c.lastSample
  let s := s.onFb ch fun c => { c with lastSample := s.ticks, accepted := c.accepted + 1 }
  let s := if moved = 0 then s else s.setFlag Reg.FB_STATUS_STILL ch false
  if 1 ≤ c.accepted then
    (s.setS Reg.SPEED_VALUE ch (speedRaw moved dt)).setFlag Reg.FB_STATUS_SPEED_VALID ch true
  else s.setFlag Reg.FB_STATUS_SPEED_VALID ch false

/-- A rejected or skipped sample ends the run of accepted ones (R343). -/
def State.sampleLost (s : State) (ch : Nat) : State :=
  (s.onFb ch fun c => { c with accepted := 0 }).setFlag Reg.FB_STATUS_SPEED_VALID ch false

/-- `x` modulo 2^w, taken into the signed range. -/
def signedMod (w : Nat) (x : Int) : Int := toS w (ofS w x)

/-- An amplitude error (R335): `AMP_ERR`, `AMP_SEEN`, `AMP_OK` 0, the fault condition, an error event. -/
def State.ampError (s : State) (ch : Nat) : State :=
  let s := (s.count Reg.AMP_ERR_COUNT ch 1).setFlag Reg.FB_FLAGS_AMP_SEEN ch true
  let s := (s.setFlag Reg.FB_STATUS_AMP_OK ch false).setFlag Reg.FB_STATUS_COND ch true
  (s.sampleLost ch).fbError ch

/-- An accepted angle moves the counter by its step, or is illegal (R336, R337). -/
def State.angleStep (s : State) (ch angle : Nat) : State :=
  let s' := s.onFb ch fun c => { c with reference := some angle }
  match (s.fbk ch).reference with
  | none => s'.sampleSpeed ch 0
  | some r =>
    let step := signedMod 12 ((angle : Int) - (r : Int))
    if step.natAbs ≤ 1024 then
      let before := s.pos ch
      let t := s'.moveCounter ch step
      t.sampleSpeed ch (t.pos ch - before)
    else
      ((s'.count Reg.ILLEGAL_EDGE_COUNT ch 1).setFlag Reg.FB_FLAGS_ILLEGAL_SEEN ch true
        |>.sampleSpeed ch 0).fbError ch

/-- The leading `n` bits of the fraction of a turn at which the vector (`c`, `s`) points, and the vector turned back by
them: each bit doubles the angle. -/
def turnBits : Nat → Int → Int → Nat → Nat × Int × Int
  | 0, c, s, v => (v, c, s)
  | n + 1, c, s, v =>
    let half := s < 0 || (s == 0 && c < 0)
    turnBits n (c * c - s * s) (2 * c * s) (2 * v + b2n half)

/-- atan2(sin, cos) as a 12-bit fraction of the signal period (R336): exact where the angle is a multiple of 1/4,096, else one
of its two neighbours (log entry 20). -/
def sinCosAngle (sin cos : Int) : Nat :=
  if sin = 0 ∧ cos = 0 then Config.cordicZero.toNat
  else
    let r := turnBits 12 cos sin 0
    if r.2.2 = 0 ∧ 0 < r.2.1 then r.1 else (r.1 + b2n (Config.cordicUp sin cos)) % 4096

/-- A sin/cos pair of conversions with its qualities (R334 to R337). -/
def State.sinCosPair (s : State) (ch : Nat) (sin cos : BitVec 14) (qsin qcos : Nat) : State :=
  if s.fbMode ch ≠ 4 ∨ s.parked = true ∨ s.fbStopped ch = true then s
  else if qsin = 1 ∨ qsin = 2 ∨ qcos = 1 ∨ qcos = 2 then
    ((s.count Reg.QUAL_SKIP_COUNT ch 1).setFlag Reg.FB_FLAGS_QUAL_SEEN ch true).sampleLost ch
  else
    let s := (s.set Reg.SINCOS_RAW_SIN ch sin.toNat).set Reg.SINCOS_RAW_COS ch cos.toNat
    let sq := (sin.toInt * sin.toInt + cos.toInt * cos.toInt).toNat
    let lo := s.get Reg.AMP_WIN_AMP_MIN ch
    let hi := s.get Reg.AMP_WIN_AMP_MAX ch
    if qsin = 3 ∨ qcos = 3 ∨ sq < lo * lo ∨ hi * hi < sq then s.ampError ch
    else
      let angle := sinCosAngle sin.toInt cos.toInt
      let s := (s.setFlag Reg.FB_STATUS_AMP_OK ch true).setFlag Reg.FB_STATUS_COND ch false
      (s.set Reg.SINCOS_RAW_ANGLE ch angle).angleStep ch angle

/-- SINCOS_SAMPLE: the conversions that the two converters have made of the sin and cos inputs at `ENTRY` form a pair
(R333). A row that names another pair than the channel holds has no effect (log entry 6). -/
def State.doSinCos (s : State) (ch : Nat) (x y : BitVec 14 × Nat) : State :=
  if (s.fbk ch).sin = some x ∧ (s.fbk ch).cos = some y then
    (s.onFb ch fun c => { c with sin := none, cos := none }).sinCosPair ch x.1 y.1 x.2 y.2
  else s

/-- A result of converter `c` at regular entry `e` of input `i` reaches the channels in mode 4 that name it (R333). -/
def State.sinCosInput (s : State) (c e i : Nat) (code : BitVec 14) (q : Nat) : State :=
  (List.range 64).foldl (fun (s : State) ch =>
    if s.fbMode ch ≠ 4 ∨ s.parked = true ∨ s.get Reg.SINCOS_CFG_ENTRY ch ≠ e then s
    else if s.get Reg.SINCOS_CFG_SIN_CV ch = c ∧ s.get Reg.SINCOS_CFG_SIN_IN ch = i then
      s.onFb ch fun b => { b with sin := some (code, q) }
    else if s.get Reg.SINCOS_CFG_COS_CV ch = c ∧ s.get Reg.SINCOS_CFG_COS_IN ch = i then
      s.onFb ch fun b => { b with cos := some (code, q) }
    else s) s

/-- `BITS` as it acts. -/
def State.ssiBits (s : State) (ch : Nat) : Nat := clampN 8 48 (s.get Reg.SSI_CFG_BITS ch)

/-- Binary value of a Gray-coded word: each bit is the exclusive or of the Gray bits from the top down to it. -/
def grayToBinary (w : BitVec 48) : BitVec 48 :=
  let w := w ^^^ (w >>> 1)
  let w := w ^^^ (w >>> 2)
  let w := w ^^^ (w >>> 4)
  let w := w ^^^ (w >>> 8)
  let w := w ^^^ (w >>> 16)
  w ^^^ (w >>> 32)

/-- Number of 1 bits of a word. -/
def ones (v : Nat) (n : Nat) : Nat := ((List.range n).filter fun i => bitOf v i).length

/-- The low 16 bits of the Geyser cycle count and the state go to the snapshot registers (R344). -/
def State.fbSnapshot (s : State) (ch : Nat) : State :=
  let p := s.pos ch
  let ns := 8 * s.get Reg.STAR_CFG_CYCLE 0
  let st := b2n (s.flag Reg.FB_STATUS_SPEED_VALID ch) + 2 * b2n (s.flag Reg.FB_STATUS_STILL ch)
    + 4 * b2n (s.flag Reg.FB_STATUS_DIR ch) + 8 * b2n (s.flag Reg.FB_STATUS_SAT_LO ch)
    + 16 * b2n (s.flag Reg.FB_STATUS_SAT_HI ch)
  let ds := ((p - (s.fbk ch).snapPos) * 65536 * 1000000000).tdiv (max 1 ns : Nat)
  let s' := (s.setS Reg.SNAP_POS_COUNT ch p).setS Reg.SNAP_SPEED_VALUE ch (s.fbSpeed ch)
  let s' := (s'.set Reg.SNAP_STATUS_STATE ch st).set Reg.SNAP_STATUS_CYCLE ch (s.get Reg.CYCLE_NUM_NUMBER 0)
  (s'.setS Reg.SNAP_DSPEED_VALUE ch ds).onFb ch fun c => { c with snapPos := p }

/-- An accepted SSI word loads the counter, or moves it by the signed difference (R340). -/
def State.ssiWord (s : State) (ch word : Nat) : State :=
  let bits := s.ssiBits ch
  let s' := (s.set Reg.SSI_RAW_WORD ch word).onFb ch fun c => { c with reference := some word }
  match (s.fbk ch).reference with
  | none =>
    let got := clampI (s.getS Reg.CNT_LO_LIMIT ch) (s.getS Reg.CNT_HI_LIMIT ch) (word : Int)
    (s'.setS Reg.POS_COUNT ch got).sampleSpeed ch 0
  | some r =>
    let d := signedMod bits ((word : Int) - (r : Int))
    if d.natAbs < 2 ^ (bits - 2) then
      let before := s.pos ch
      let t := s'.moveCounter ch d
      t.sampleSpeed ch (t.pos ch - before)
    else
      ((s'.count Reg.ILLEGAL_EDGE_COUNT ch 1).setFlag Reg.FB_FLAGS_ILLEGAL_SEEN ch true
        |>.sampleSpeed ch 0).fbError ch

/-- SSI_FRAME: the frame of a common instant ends (R338 to R340, R344). -/
def State.doSsi (s : State) (ch : Nat) (ready parity : Bool) (raw : BitVec 48) : State :=
  if s.fbMode ch ≠ 5 ∨ s.parked = true ∨ s.fbStopped ch = true then s
  else
    let bits := s.ssiBits ch
    let raw := raw &&& BitVec.ofNat 48 (2 ^ bits - 1)
    let odd := (ones raw.toNat 48 + b2n parity) % 2 == 1
    let s :=
      if !ready || (s.flag Reg.SSI_CFG_PARITY ch && odd) then
        let s := (s.count Reg.SSI_ERR_COUNT ch 1).setFlag Reg.FB_FLAGS_SSI_SEEN ch true
        ((s.setFlag Reg.FB_STATUS_COND ch true).sampleLost ch).fbError ch
      else
        let word := if s.flag Reg.SSI_CFG_GRAY ch then grayToBinary raw else raw
        (s.setFlag Reg.FB_STATUS_COND ch false).ssiWord ch word.toNat
    s.fbSnapshot ch

/-- FB_FAULT_CLEAR (R327). -/
def State.doFbFaultClear (s : State) (m : Master) (ch : Nat) : State :=
  if fbWriter m ch then
    if s.flag Reg.FB_STATUS_COND ch then s.answer .done else (s.setFlag Reg.FB_FLAGS_FAULT ch false).answer .done
  else s.answer .busError

/-- POS_PRESET (R331). -/
def State.doPreset (s : State) (m : Master) (ch : Nat) (v : Int) : State :=
  if fbWriter m ch then
    let got := clampI (s.getS Reg.CNT_LO_LIMIT ch) (s.getS Reg.CNT_HI_LIMIT ch) v
    let s := s.setS Reg.POS_COUNT ch got
    ((s.setFlag Reg.FB_STATUS_SAT_LO ch false).setFlag Reg.FB_STATUS_SAT_HI ch false).answer .done
  else s.answer .busError

/-- The channel restarts its work in a mode (R321). -/
def State.fbRestart (s : State) (ch : Nat) : State :=
  let s := (s.closeWindow ch).onFb ch fun c =>
    { c with moving := false, interval := 0, reference := none, accepted := 0, restarted := some s.ticks, sin := none,
             cos := none }
  let s := (s.setFlag Reg.FB_STATUS_SPEED_VALID ch false).setFlag Reg.FB_STATUS_STILL ch true
  s.setFlag Reg.FB_STATUS_COND ch false

/-- FB_MODE_WRITE (R320, R321). -/
def State.doFbMode (s : State) (m : Master) (ch mode : Nat) : State :=
  if fbWriter m ch then ((s.set Reg.FB_CFG_MODE ch mode).fbRestart ch).answer .done else s.answer .busError

/-- A write of limits moves a counter outside them to the nearer one; the difference counts as dropped (R330). -/
def State.setLimits (s : State) (ch : Nat) (lo hi : Int) : State :=
  let s := (s.setS Reg.CNT_LO_LIMIT ch lo).setS Reg.CNT_HI_LIMIT ch hi
  let got := clampI lo hi (s.pos ch)
  let lost := (s.pos ch - got).natAbs
  if lost = 0 then s else (s.setS Reg.POS_COUNT ch got).count Reg.SAT_DROPPED_COUNT ch lost

/-- CNT_LIMIT_WRITE. -/
def State.doLimits (s : State) (m : Master) (ch : Nat) (lo hi : Int) : State :=
  if fbWriter m ch then (s.setLimits ch lo hi).answer .done else s.answer .busError

/-- INDEX_ARM (R332). -/
def State.doArmIndex (s : State) (m : Master) (ch : Nat) : State :=
  if fbWriter m ch then (s.setFlag Reg.INDEX_CTRL_ARMED ch true).answer .done else s.answer .busError

/-- The snapshots of a common instant: modes other than 5, which copy at the end of their frame; modes 4 and 5 take none
in PARK (R344, R348). -/
def State.fbCommon (s : State) : State :=
  (List.range 64).foldl (fun s ch =>
    if s.fbMode ch = 5 ∨ (s.fbMode ch = 4 ∧ s.parked = true) then s else s.fbSnapshot ch) s

/-- FB_COUNT_EDGE, with the levels of A and B and the samples for which they have stood. -/
def execFbCountEdge (ch : Fin 64) (levels : Bool × Bool) (samples : Fin 65) (s : State) : Host.Outcome State Fault Refusal :=
  s.run fun s => s.doCountEdge ch.val levels.1 levels.2 samples.val

/-- ERR_WIN_EXPIRY. -/
def execErrWinExpiry (ch : Fin 64) (s : State) : Host.Outcome State Fault Refusal := s.run fun s => s.doErrWin ch.val

/-- STANDSTILL_TIMEOUT. -/
def execStandstillTimeout (ch : Fin 64) (s : State) : Host.Outcome State Fault Refusal :=
  s.run fun s => s.doStandstill ch.val

/-- INDEX_EVENT. -/
def execIndexEvent (z : InputRun 64 65) (s : State) : Host.Outcome State Fault Refusal :=
  s.run fun s => s.doIndex z.input.val z.high z.span.val

/-- SINCOS_SAMPLE, with the codes and the quality of the pair. -/
def execSincosSample (ch : Fin 64) (sin cos : BitVec 14) (qsin qcos : Fin 4) (s : State) : Host.Outcome State Fault Refusal :=
  s.run fun s => s.doSinCos ch.val (sin, qsin.val) (cos, qcos.val)

/-- FB_FAULT_CLEAR. -/
def execFbFaultClear (m : Master) (ch : Fin 64) (s : State) : Host.Outcome State Fault Refusal :=
  s.run fun s => s.doFbFaultClear m ch.val

/-- POS_PRESET. -/
def execPosPreset (m : Master) (ch : Fin 64) (v : BitVec 48) (s : State) : Host.Outcome State Fault Refusal :=
  s.run fun s => s.doPreset m ch.val v.toInt

/-- FB_MODE_WRITE. -/
def execFbModeWrite (m : Master) (ch : Fin 64) (mode : BitVec 3) (s : State) : Host.Outcome State Fault Refusal :=
  s.run fun s => s.doFbMode m ch.val mode.toNat

/-- CNT_LIMIT_WRITE. -/
def execCntLimitWrite (m : Master) (ch : Fin 64) (lo hi : BitVec 48) (s : State) :
    Host.Outcome State Fault Refusal :=
  s.run fun s => s.doLimits m ch.val lo.toInt hi.toInt

/-- INDEX_ARM. -/
def execIndexArm (m : Master) (ch : Fin 64) (s : State) : Host.Outcome State Fault Refusal :=
  s.run fun s => s.doArmIndex m ch.val

end Sys2Proof.Machine
end

