-- ==== Sys2Proof/Machine/Adc.lean ====
section
/-!
DEFINITION. The analogue-to-digital converters (chapter 11): triggers, passes, corrected conversions, routes and their
rings, calibration. One ADC clock is one tick of the model's clock.
-/
namespace Sys2Proof.Machine

/-- Converter `c` beside its registers. -/
def State.adcv (s : State) (c : Nat) : AdcState := s.adc.get AdcState.reset c

/-- Changes converter `c` beside its registers. -/
def State.onAdc (s : State) (c : Nat) (f : AdcState → AdcState) : State :=
  { s with adc := s.adc.put AdcState.reset c (f (s.adcv c)) }

/-- Route `r` of a converter beside its registers. -/
def AdcState.route (a : AdcState) (r : Nat) : AdcRoute := a.routes.get AdcRoute.reset r

/-- Changes a route. -/
def State.onRoute (s : State) (c r : Nat) (f : AdcRoute → AdcRoute) : State :=
  s.onAdc c fun a => { a with routes := a.routes.put AdcRoute.reset r (f (a.route r)) }

/-- The fields of a sequence entry (R382). -/
def entryInput (w : Nat) : Nat := bitsOf w 0 3
/-- `DIFF`, 0 or 1. -/
def entryDiff (w : Nat) : Nat := bitsOf w 3 1
/-- `GAIN`, as coded. -/
def entryGain (w : Nat) : Nat := bitsOf w 4 2
/-- `ROUTE`. -/
def entryRoute (w : Nat) : Nat := bitsOf w 6 4
/-- `DWELL`; 0 acts as 1. -/
def entryDwell (w : Nat) : Nat := max 1 (bitsOf w 10 8)
/-- `SETTLE_N`. -/
def entrySettle (w : Nat) : Nat := bitsOf w 18 4

/-- The pair number of an input, kind and gain (R396). -/
def calIndex (input diff gain : Nat) : Nat := 16 * gain + 8 * diff + input

/-- The entries of the regular sequence as they stand. -/
def State.regEntries (s : State) (c : Nat) : List Nat :=
  (List.range (min 32 (s.get Reg.ADC_CFG_REG_LEN c))).map fun e => s.get Reg.REG_ENTRY_ENTRY (32 * c + e)

/-- The entries of the injected sequence as they stand. -/
def State.injEntries (s : State) (c : Nat) : List Nat :=
  (List.range (min 8 (s.get Reg.ADC_CFG_INJ_LEN c))).map fun e => s.get Reg.INJ_ENTRY_ENTRY (8 * c + e)

/-- A pass start takes the configuration of a route; a new filter length discards the partial sum and starts the filter
fill (R388, R401). -/
def State.latchRoute (s : State) (c r : Nat) : State :=
  let i := 16 * c + r
  let len := clampN 1 256 (s.get Reg.ROUTE_CFG_FILT_LEN i)
  let n := s.get Reg.ROUTE_CFG_NOTIFY_N i
  s.onRoute c r fun x =>
    let y := { x with known := true, filt := len, notify := s.flag Reg.ROUTE_CFG_NOTIFY_EN i,
                      every := if n = 0 then 256 else n, prio := s.get Reg.ROUTE_CFG_PRIO i,
                      flow := s.get Reg.ROUTE_CFG_FLOW i }
    if x.known && x.filt == len then y
    else { y with sum := 0, n := 0, settling := false, overRange := false, fill := len }

/-- A pass starts (R382, R390): it counts in `TRG_COUNT`. -/
def State.startPass (s : State) (c : Nat) (entries : List Nat) (first time : Nat) : State × AdcPass :=
  let s := entries.foldl (fun s w => s.latchRoute c (entryRoute w)) s
  let n := (s.get Reg.TRG_COUNT_COUNT c + 1) % 2 ^ 32
  (s.set Reg.TRG_COUNT_COUNT c n,
   { entries := entries, align := s.flag Reg.ADC_CFG_ALIGN c, next := first, entry := 0, sampled := 0, pass := n % 256,
     time := time })

/-- A regular pass starts. -/
def State.startRegular (s : State) (c first time : Nat) : State :=
  let r := s.startPass c (s.regEntries c) first time
  r.1.onAdc c fun a => { a with reg := some r.2, held := none, interrupted := false, captured := s.ticks }

/-- An injected pass starts. -/
def State.startInjected (s : State) (c time : Nat) : State :=
  let r := s.startPass c (s.injEntries c) (s.ticks + 3) time
  r.1.onAdc c fun a => { a with inj := some r.2 }

/-- A conversion enters the pipeline and moves the settling counts (R388). -/
def AdcState.convert (a : AdcState) (p : AdcPass) (inj : Bool) (w : Nat) : AdcState :=
  let input := entryInput w
  let diff := entryDiff w
  let gain := entryGain w
  let change := match a.prev with
    | some (i, d, _) => i != input || d != diff
    | none => true
  let gchange := match a.prev with
    | some (_, _, g) => g != gain
    | none => false
  let settle := if change then entrySettle w else if p.sampled = 0 then 0 else a.settle
  let gleft := if gchange then 8 else a.gainSettle
  let conv : AdcConv :=
    { due := p.next + 11, word := w, entry := p.entry, inj := inj, align := p.align,
      settling := decide (0 < settle) || decide (0 < gleft), last := decide (p.sampled + 1 = entryDwell w),
      pass := p.pass, time := p.time }
  { a with prev := some (input, diff, gain), settle := settle - 1, gainSettle := gleft - 1, pipe := a.pipe ++ [conv] }

/-- A pass after one more conversion of entry word `w`; none after the last one. -/
def AdcPass.advance (p : AdcPass) (w : Nat) : Option AdcPass :=
  if p.sampled + 1 < entryDwell w then some { p with sampled := p.sampled + 1, next := p.next + 1 }
  else if p.entry + 1 < p.entries.length then some { p with entry := p.entry + 1, sampled := 0, next := p.next + 1 }
  else none

/-- The injected pass has taken its last sample at `t`: a held regular pass starts, an interrupted one resumes, in the
next clock (R384, R385). -/
def State.injectedEnds (s : State) (c t : Nat) : State :=
  let a := s.adcv c
  let s := s.onAdc c fun a => { a with inj := none }
  match a.held with
  | some time => s.startRegular c (t + 1) time
  | none =>
    match a.reg with
    | none => s
    | some p =>
      if a.interrupted then
        let s := if 0 < p.sampled then s.count Reg.REG_RERUN_COUNT c 1 else s
        s.onAdc c fun a => { a with reg := some { p with sampled := 0, next := t + 1 }, interrupted := false }
      else s

/-- One conversion that is due is sampled: of the injected pass from its first sample on, else of the regular pass. -/
def State.adcSample (s : State) (c : Nat) : State :=
  let a := s.adcv c
  match a.inj with
  | some p =>
    let regFirst := match a.reg with
      | some r => !a.interrupted && decide (r.next < p.next)
      | none => false
    if regFirst then
      match a.reg with
      | some r =>
        if r.next ≤ s.ticks then
          let w := r.entries.getD r.entry 0
          s.onAdc c fun a => { a.convert r false w with reg := r.advance w }
        else s
      | none => s
    else if p.next ≤ s.ticks then
      let w := p.entries.getD p.entry 0
      let s := s.onAdc c fun a => { a.convert p true w with inj := p.advance w, interrupted := a.reg.isSome }
      if (p.advance w).isNone then s.injectedEnds c p.next else s
    else s
  | none =>
    match a.reg with
    | some r =>
      if r.next ≤ s.ticks then
        let w := r.entries.getD r.entry 0
        s.onAdc c fun a => { a.convert r false w with reg := r.advance w }
      else s
    | none => s

/-- Samples that may be due: none without a pass. -/
def State.adcDue (s : State) (c : Nat) : Nat :=
  let a := s.adcv c
  let left := fun (p : Option AdcPass) => match p with
    | some p => s.ticks + 1 - p.next
    | none => 0
  min 16384 (left a.reg + left a.inj)

/-- Every conversion due by now is sampled. -/
def State.adcAdvance (s : State) (c : Nat) : State := iterate (fun s => s.adcSample c) (s.adcDue c) s

/-- `ADC_STATUS` as it reads. -/
def State.adcStatus (s : State) (c : Nat) : State :=
  let s := s.adcAdvance c
  let a := s.adcv c
  let s := (s.setFlag Reg.ADC_STATUS_REG_BUSY c (a.reg.isSome && !a.interrupted)).setFlag Reg.ADC_STATUS_INJ_BUSY c
    a.inj.isSome
  let s := (s.setFlag Reg.ADC_STATUS_REG_PENDING c a.held.isSome).setFlag Reg.ADC_STATUS_RESUME_PENDING c
    (a.reg.isSome && a.interrupted)
  let s := s.set Reg.ADC_STATUS_REG_ENTRY c ((a.reg.map AdcPass.entry).getD 0)
  let s := s.set Reg.ADC_STATUS_INJ_ENTRY c ((a.inj.map AdcPass.entry).getD 0)
  s.set Reg.ADC_STATUS_GAIN_SETTLE c a.gainSettle

/-- A trigger edge is lost (R383). -/
def State.triggerLost (s : State) (c : Nat) (f : Field) : State :=
  ((s.count f c 1).setFlag Reg.ADC_FLAGS_TRG_LOST_SEEN c true).raise 77

/-- Whether an edge is one that an edge code names; 3 acts as 0 (R380). -/
def edgeNamed (code : Nat) (rising : Bool) : Bool :=
  match code with
  | 1 => !rising
  | 2 => true
  | _ => rising

/-- The converter takes triggers (R397, R401). -/
def State.adcTakes (s : State) (c : Nat) : Bool := s.flag Reg.ADC_CFG_EN c && !s.flag Reg.CAL_CTRL_CAL_EN c && !s.parked

/-- TB0 as a pass keeps it (R390). -/
def State.adcTime (s : State) : Nat := s.tb 0 % 2 ^ 32

/-- A regular trigger edge at converter `c` (R383, R384); one that finds another held is lost (DESIGN CHOICE, log entry
80). -/
def State.regularEdge (s : State) (c : Nat) : State :=
  let s := s.adcAdvance c
  let a := s.adcv c
  if s.regEntries c = [] then s
  else if a.reg.isSome || a.held.isSome then s.triggerLost c Reg.REG_TRG_LOST_COUNT
  else if a.inj.isSome then s.onAdc c fun a => { a with held := some s.adcTime }
  else s.startRegular c (s.ticks + 3) s.adcTime

/-- An injected trigger edge at converter `c` (R383 to R385); a regular pass captured in the same clock is held. An edge at a
pin that both sequences name is both commands in one tick (log entry 80). -/
def State.injectedEdge (s : State) (c : Nat) : State :=
  let s := s.adcAdvance c
  let a := s.adcv c
  if s.injEntries c = [] then s
  else if a.inj.isSome then s.triggerLost c Reg.INJ_TRG_LOST_COUNT
  else
    match a.reg with
    | some r =>
      if a.captured = s.ticks ∧ r.next = s.ticks + 3 then
        let s := s.set Reg.TRG_COUNT_COUNT c (s.get Reg.TRG_COUNT_COUNT c + (2 ^ 32 - 1))
        (s.onAdc c fun a => { a with reg := none, held := some r.time }).startInjected c s.adcTime
      else s.startInjected c s.adcTime
    | none => s.startInjected c s.adcTime

/-- ADC_TRIGGER: an edge at a trigger pin, for every converter whose regular sequence names it (R380, R381). -/
def State.doAdcTrigger (s : State) (pin : Nat) (rising : Bool) : State :=
  (List.range 16).foldl (fun s c =>
    if s.adcTakes c && s.get Reg.ADC_CFG_REG_TRG c == pin && edgeNamed (s.get Reg.ADC_CFG_REG_EDGE c) rising then
      s.regularEdge c else s) s

/-- ADC_INJECTED_TRIGGER: the same for the injected sequences. -/
def State.doAdcInjected (s : State) (pin : Nat) (rising : Bool) : State :=
  (List.range 16).foldl (fun s c =>
    if s.adcTakes c && s.get Reg.ADC_CFG_INJ_TRG c == pin && edgeNamed (s.get Reg.ADC_CFG_INJ_EDGE c) rising then
      s.injectedEdge c else s) s

/-- The range of a code of its kind. -/
def codeMin (diff : Nat) : Int := if diff = 0 then 0 else -8192
/-- Its upper end. -/
def codeMax (diff : Nat) : Int := if diff = 0 then 16383 else 8191

/-- The corrected value of a code, before it saturates (R386). -/
def State.corrected (s : State) (c w : Nat) (code : Int) : Int :=
  let i := 64 * c + calIndex (entryInput w) (entryDiff w) (entryGain w)
  roundDiv ((code - s.getS Reg.CAL_COEF_OFFSET i) * (s.get Reg.CAL_COEF_GAIN i : Nat)) 32768

/-- `VALUE` of a result (R390). -/
def resultValue (align : Bool) (diff : Nat) (x : Int) : Nat :=
  if align then ofS 14 x * 4 else if diff = 0 then ofS 14 x else ofS 16 x

/-- The result word of R390. -/
def resultWord (value qual entry : Nat) (inj : Bool) (pass time : Nat) : Nat :=
  value % 65536 + qual % 4 * 2 ^ 16 + entry % 32 * 2 ^ 18 + b2n inj * 2 ^ 23 + pass % 256 * 2 ^ 24 + time % 2 ^ 32 * 2 ^ 32

/-- The result goes to the ring (R392, R393). -/
def State.ringWrite (s : State) (c r word : Nat) : State :=
  let i := 16 * c + r
  let len := s.get Reg.ROUTE_RING_RING_LEN i
  if len = 0 then s
  else
    let wr := s.get Reg.ROUTE_IDX_WR_IDX i % len
    let rd := s.get Reg.ROUTE_IDX_RD_IDX i % len
    let off := s.get Reg.ROUTE_RING_RING_BASE i + 8 * wr
    let unread := (wr + len - rd) % len
    let s := if off < 0x03800000 then s.memPut (csramBase + off) (leBytes 8 word) else s
    let s := s.set Reg.ROUTE_IDX_WR_IDX i ((wr + 1) % len)
    if unread = len - 1 then
      let s := (s.set Reg.ROUTE_IDX_RD_IDX i ((rd + 1) % len)).count Reg.OVERRUN_COUNT i 1
      ((s.setFlag Reg.ADC_FLAGS_OVERRUN_SEEN c true).raise 76).onRoute c r fun x => { x with wrapAt := some s.ticks }
    else s

/-- A notification is due after every `NOTIFY_N` results (R394). -/
def State.routeNotify (s : State) (c r : Nat) : State :=
  let s := s.onRoute c r fun x => { x with since := x.since + 1 }
  let x := (s.adcv c).route r
  if x.notify && decide (x.every ≤ x.since) then
    let s := s.onRoute c r fun x => { x with since := 0 }
    match s.owner 4 c with
    | some k =>
      if k < 64 then s.periphEvent k
      else s.postHw (producerAdc c r) x.prio x.flow 4 x.since (BitVec.ofNat 64 (c + 16 * r))
        (BitVec.ofNat 64 (s.get Reg.ROUTE_IDX_WR_IDX (16 * c + r)))
    | none => s
  else s

/-- The quality of a result (R389). -/
def AdcRoute.qual (x : AdcRoute) : Nat := if x.settling then 1 else if x.overRange then 3 else if 0 < x.fill then 2 else 0

/-- The last result of a regular entry with a differential input reaches the sin/cos channels that name its converter, input
and entry (R333, R395). -/
def State.resultToFb (s : State) (c : Nat) (v : AdcConv) (x : Int) (qual : Nat) : State :=
  if v.inj || !v.last || entryDiff v.word == 0 then s else s.sinCosInput c v.entry (entryInput v.word) (BitVec.ofInt 14 x) qual

/-- The filter of a route has its `FILT_LEN` values: the result is written (R387, R389 to R392, R394). -/
def State.emitResult (s : State) (c r : Nat) (v : AdcConv) : State :=
  let x := (s.adcv c).route r
  let avg := roundDiv x.sum x.filt
  let word := resultWord (resultValue v.align (entryDiff v.word) avg) x.qual v.entry v.inj v.pass v.time
  let s := s.onRoute c r fun x =>
    { x with sum := 0, n := 0, settling := false, overRange := false, fill := x.fill - 1 }
  let s := s.set Reg.ROUTE_LAST_WORD (16 * c + r) word
  ((s.resultToFb c v avg x.qual).ringWrite c r word).routeNotify c r

/-- A conversion leaves the pipeline with its raw code (R386 to R389). -/
def State.finishConv (s : State) (c : Nat) (v : AdcConv) (code : Int) : State :=
  let d := entryDiff v.word
  let y := s.corrected c v.word code
  let lim := code = codeMin d ∨ code = codeMax d ∨ y < codeMin d ∨ codeMax d < y
  let s := if lim then ((s.count Reg.OVER_RANGE_COUNT c 1).setFlag Reg.ADC_FLAGS_OVER_RANGE_SEEN c true).raise 79 else s
  let r := entryRoute v.word
  let s := s.onRoute c r fun x =>
    { x with sum := x.sum + clampI (codeMin d) (codeMax d) y, n := x.n + 1, settling := x.settling || v.settling,
             overRange := x.overRange || decide lim }
  let x := (s.adcv c).route r
  if x.filt ≤ x.n then s.emitResult c r v else s

/-- The tick of the next sample of a running pass. -/
def State.adcNext (s : State) (c : Nat) : Option Nat :=
  match (s.adcv c).inj, (s.adcv c).reg with
  | some p, some r => some (if (s.adcv c).interrupted then p.next else min p.next r.next)
  | some p, none => some p.next
  | none, some r => some r.next
  | none, none => none

/-- The clock stands at the next sample of a running pass, which is taken. -/
def State.adcToNext (s : State) (c : Nat) : State :=
  match s.adcNext c with
  | some t => (s.waitTill t).adcAdvance c
  | none => s

/-- The passes in progress. -/
def State.adcPasses (s : State) (c : Nat) : Option Nat × Option Nat :=
  ((s.adcv c).inj.map AdcPass.pass, (s.adcv c).reg.map AdcPass.pass)

/-- ADC_RESULT: the oldest conversion of the pipeline, if its two clocks of correction and filter are over (R381). -/
def State.doAdcResult (s : State) (c : Nat) (code : BitVec 14) : State :=
  let s := s.adcAdvance c
  let s := if (s.adcv c).pipe.isEmpty then s.adcToNext c else s
  match (s.adcv c).pipe with
  | v :: rest =>
    let s := s.waitTill v.due
    if !s.parked then
      (s.onAdc c fun a => { a with pipe := rest }).finishConv c v
        (if entryDiff v.word = 0 then (code.toNat : Int) else code.toInt)
    else s
  | [] => s

/-- The owner of converter `c` under the installed image. -/
def State.adcOwnedBy (s : State) (m : Master) (c : Nat) : Bool :=
  match m with
  | .jce k => s.owner 4 c == some k.val
  | .core _ => s.owner 4 c == some 64
  | _ => false

/-- RD_IDX_WRITE (R393, R400): with a wrap in the same clock the later of the two values in ring order stays. -/
def State.doRdIdx (s : State) (m : Master) (c r v : Nat) : State :=
  if s.adcOwnedBy m c || m == .ranger then
    let i := 16 * c + r
    let len := max 1 (s.get Reg.ROUTE_RING_RING_LEN i)
    let unread := fun x : Nat => (s.get Reg.ROUTE_IDX_WR_IDX i % len + len - x % len) % len
    let old := s.get Reg.ROUTE_IDX_RD_IDX i
    if ((s.adcv c).route r).wrapAt = some s.ticks ∧ unread old < unread v then s.answer .done
    else (s.set Reg.ROUTE_IDX_RD_IDX i v).answer .done
  else s.answer .busError

/-- Every pass ends at once; conversions already sampled complete (R401). -/
def State.adcStopPasses (s : State) (c : Nat) : State :=
  (s.adcAdvance c).onAdc c fun a => { a with reg := none, inj := none, held := none, interrupted := false }

/-- `EN` is written (R388, R401). -/
def State.adcEnable (s : State) (c : Nat) (on : Bool) : State :=
  let was := s.flag Reg.ADC_CFG_EN c
  let s := s.setFlag Reg.ADC_CFG_EN c on
  if on && !was then s.onAdc c fun a => { a with prev := none, settle := 0, gainSettle := 0 }
  else if on then s else s.adcStopPasses c

/-- Ranger sets or clears `CAL_EN` of every converter (R397). -/
def State.adcCalEnable (s : State) (on : Bool) : State :=
  (List.range 16).foldl (fun s c =>
    let s := if on then (s.adcStopPasses c).onAdc c fun a => { a with zero := Tab.empty } else s
    s.setFlag Reg.CAL_CTRL_CAL_EN c on) s

/-- A write of `CAL_CTRL` that starts a step (R397, R398, R400). -/
def State.doCalStep (s : State) (m : Master) (c input : Nat) (diff : Bool) (gain : Nat) (full : Bool) : State :=
  if m == .ranger then
    let s := ((s.set Reg.CAL_CTRL_INPUT c input).setFlag Reg.CAL_CTRL_DIFF c diff).set Reg.CAL_CTRL_GAIN c gain
    if !s.flag Reg.CAL_CTRL_CAL_EN c || s.flag Reg.CAL_CTRL_STEP_BUSY c then
      (s.setFlag Reg.ADC_FLAGS_CAL_REFUSED c true).answer .done
    else
      let st : AdcStep := { full := full, pair := calIndex input (b2n diff) gain, done := s.ticks + 320 }
      ((s.setFlag Reg.CAL_CTRL_STEP_BUSY c true).onAdc c fun a =>
        { a with step := some st, prev := some (input, b2n diff, gain) }).answer .done
  else if s.adcOwnedBy m c then s.answer .done else s.answer .busError

/-- A FULL step ends with its mean `a1`: the pair is accepted or fails (R398). Means are in 1/256 of a code. -/
def State.calFull (s : State) (c i : Nat) (a1 : Int) : State :=
  let z := s.getS Reg.CAL_TARGET_CAL_ZERO c
  let span := s.getS Reg.CAL_TARGET_CAL_FULL c - z
  let fail := (s.setFlag Reg.ADC_FLAGS_CAL_FAIL c true).raise 78
  match (s.adcv c).zero.get none i with
  | none => fail
  | some a0 =>
    if a1 = a0 ∨ span = 0 then fail
    else
      let gain := ratRound (span * 256 * 32768) (a1 - a0)
      let offset := ratRound (a0 * span - z * (a1 - a0)) (256 * span)
      if 0x4000 ≤ gain ∧ gain ≤ 0xFFFF ∧ -32768 ≤ offset ∧ offset ≤ 32767 then
        let s := (s.setS Reg.CAL_COEF_OFFSET (64 * c + i) offset).set Reg.CAL_COEF_GAIN (64 * c + i) gain.toNat
        let s := if bitOf (s.get Reg.CAL_VALID_VALID c) i then s
          else s.set Reg.CAL_VALID_VALID c (s.get Reg.CAL_VALID_VALID c + 2 ^ i)
        ((s.setFlag Reg.ADC_FLAGS_CAL_DONE c true).raise 78).onAdc c fun a => { a with unsaved := a.unsaved ++ [i] }
      else fail

/-- CAL_STEP_END: 2.56 µs after its start a step has the sum of its 256 raw codes (R398). -/
def State.doCalEnd (s : State) (c : Nat) (sum : Int) : State :=
  match (s.adcv c).step with
  | some st =>
    let s := ((s.waitTill st.done).setFlag Reg.CAL_CTRL_STEP_BUSY c false).onAdc c fun a => { a with step := none }
    if st.full then s.calFull c st.pair sum
    else s.onAdc c fun a => { a with zero := a.zero.put none st.pair (some sum) }
  | none => s

/-- CAL_PAIR_PERSIST: Ranger writes an accepted pair to flash and enters it in the operation log (R399). -/
def State.doCalPersist (s : State) (c i : Nat) : State :=
  if (s.adcv c).unsaved.contains i then
    let k := 64 * c + i
    let v := (s.get Reg.CAL_COEF_OFFSET k, s.get Reg.CAL_COEF_GAIN k)
    let s := s.onAdc c fun a => { a with unsaved := a.unsaved.filter fun x => x != i }
    let s := { s with flash := { s.flash with calPairs := s.flash.calPairs.put none k (some v) } }
    s.tookFree.log 1 s.free k (leBytes 2 v.1 ++ leBytes 2 v.2)
  else s

/-- The working copies are loaded from flash (R396). -/
def State.loadCal (s : State) : State :=
  s.flash.calPairs.entries.foldl (fun s e =>
    match e.2 with
    | some v =>
      let s := (s.set Reg.CAL_COEF_OFFSET e.1 v.1).set Reg.CAL_COEF_GAIN e.1 v.2
      if bitOf (s.get Reg.CAL_VALID_VALID (e.1 / 64)) (e.1 % 64) then s
      else s.set Reg.CAL_VALID_VALID (e.1 / 64) (s.get Reg.CAL_VALID_VALID (e.1 / 64) + 2 ^ (e.1 % 64))
    | none => s) s

/-- ADC_TRIGGER. -/
def execAdcTrigger (pin : Fin 16) (rising : Bool) (s : State) : Host.Outcome State Fault Refusal :=
  s.run fun s => s.doAdcTrigger pin.val rising

/-- ADC_INJECTED_TRIGGER. -/
def execAdcInjectedTrigger (pin : Fin 16) (rising : Bool) (s : State) : Host.Outcome State Fault Refusal :=
  s.run fun s => s.doAdcInjected pin.val rising

/-- The samples of the passes in progress are taken until one of them ends (R384, R385). -/
def State.doPassEnd (s : State) (c : Nat) : State :=
  let s := s.adcAdvance c
  let now := s.adcPasses c
  iterate (fun t => if t.adcPasses c = now then t.adcToNext c else t) 1024 s

/-- ADC_PASS_END (R384, R385): a pass that has taken its last sample ends, and what waited for it starts. -/
def execAdcPassEnd (cv : Fin 16) (s : State) : Host.Outcome State Fault Refusal :=
  s.run fun s => s.doPassEnd cv.val

/-- ADC_RESULT. -/
def execAdcResult (cv : Fin 16) (code : BitVec 14) (s : State) : Host.Outcome State Fault Refusal :=
  s.run fun s => s.doAdcResult cv.val code

/-- RD_IDX_WRITE. -/
def execRdIdxWrite (m : Master) (cv route : Fin 16) (v : Word16) (s : State) : Host.Outcome State Fault Refusal :=
  s.run fun s => s.doRdIdx m cv.val route.val v.toNat

/-- CAL_STEP_ZERO. -/
def execCalStepZero (m : Master) (cv : Fin 16) (input : Fin 8) (diff : Bool) (gain : Fin 4) (s : State) :
    Host.Outcome State Fault Refusal :=
  s.run fun s => s.doCalStep m cv.val input.val diff gain.val false

/-- CAL_STEP_FULL. -/
def execCalStepFull (m : Master) (cv : Fin 16) (input : Fin 8) (diff : Bool) (gain : Fin 4) (s : State) :
    Host.Outcome State Fault Refusal :=
  s.run fun s => s.doCalStep m cv.val input.val diff gain.val true

/-- CAL_STEP_END. -/
def execCalStepEnd (cv : Fin 16) (sum : Int) (s : State) : Host.Outcome State Fault Refusal :=
  s.run fun s => s.doCalEnd cv.val sum

/-- CAL_PAIR_PERSIST. -/
def execCalPairPersist (cv : Fin 16) (pair : Fin 64) (s : State) : Host.Outcome State Fault Refusal :=
  s.run fun s => s.doCalPersist cv.val pair.val

end Sys2Proof.Machine
end

