-- ==== Sys2Proof/Machine/ModeCore.lean ====
section
/-!
DEFINITION. Operating modes as other units see them (R138 to R141) and the latching of fault causes (R155 to R157).
-/
namespace Sys2Proof.Machine

/-- The present mode. -/
def State.inMode (s : State) (l : List Mode) : Bool := l.contains s.mode.mode

/-- The mode's Torque entry is STO (R138). -/
def Mode.sto : Mode → Bool
  | .jog => false
  | .run => false
  | .halting => false
  | _ => true

/-- The mode's code (R94). -/
def Mode.code : Mode → Nat
  | .init => 0
  | .config => 1
  | .idle => 2
  | .jog => 3
  | .run => 4
  | .halting => 5
  | .fault => 6
  | .service => 7

/-- The mode of a code. -/
def Mode.ofCode : Nat → Option Mode
  | 0 => some .init
  | 1 => some .config
  | 2 => some .idle
  | 3 => some .jog
  | 4 => some .run
  | 5 => some .halting
  | 6 => some .fault
  | 7 => some .service
  | _ => none

/-- A cause of class A (R155). -/
def causeA (c : Nat) : Bool := decide (1 ≤ c ∧ c ≤ 5) || c == 11

/-- A cause of class B. -/
def causeB (c : Nat) : Bool := decide (6 ≤ c ∧ c ≤ 10)

/-- A fault cause is latched and recorded in the fault log (R155); the mode follows at the next Geyser cycle start
(R156). The entry's source and data are free values, since the manual does not say them. In SERVICE the cause is recorded
as one of that mode (R157). -/
def State.latchCause (s : State) (c : Nat) : State :=
  let s := if s.mode.mode = .service ∧ !s.mode.inService.contains c then
      { s with mode := { s.mode with inService := s.mode.inService ++ [c] } } else s
  if s.mode.causes.contains c then s
  else
    let s' := s.tookFree.log 0 c s.free []
    { s' with mode := { s'.mode with causes := s'.mode.causes ++ [c] } }

/-- A class B cause is latched. -/
def State.causeBPending (s : State) : Bool := s.mode.causes.any causeB

/-- A class A cause is latched. -/
def State.causeAPending (s : State) : Bool := s.mode.causes.any causeA

end Sys2Proof.Machine
end

