-- ==== Sys2Proof/Machine/Status.lean ====
section
/-!
DEFINITION. The status codes of commands (R80 and the error tables of chapter 3), under the manual's names.
-/
namespace Sys2Proof.Machine.Status

/-- The command succeeded (R80). -/
def OK : Nat := 0
/-- Wrong magic. -/
def E_MAGIC : Nat := 0x0001
/-- Header version not supported. -/
def E_VERSION : Nat := 0x0002
/-- CRC mismatch. -/
def E_CRC : Nat := 0x0003
/-- Length too large, or wrong for the command. -/
def E_LENGTH : Nat := 0x0004
/-- Unknown command code. -/
def E_COMMAND : Nat := 0x0005
/-- Command not allowed in this mailbox. -/
def E_MAILBOX : Nat := 0x0006
/-- Segment does not continue the transfer. -/
def E_SEQUENCE : Nat := 0x0007
/-- Session missing, expired or unknown. -/
def E_SESSION : Nat := 0x0008
/-- Safety session required. -/
def E_SAFE_SESSION : Nat := 0x0009
/-- Not accepted in the current mode. -/
def E_MODE : Nat := 0x000A
/-- Not accepted in the current redundancy role. -/
def E_ROLE : Nat := 0x000B
/-- Object in use by a running command. -/
def E_BUSY : Nat := 0x000C
/-- Aborted before start. -/
def E_ABORTED : Nat := 0x000D
/-- Payload field out of range. -/
def E_PARAM : Nat := 0x000E
/-- Table or store full. -/
def E_FULL : Nat := 0x000F
/-- Management epoch mismatch. -/
def E_EPOCH : Nat := 0x0010
/-- Safety login locked out. -/
def E_LOCKED : Nat := 0x0011
/-- Resource owned by another writer. -/
def E_OWNER : Nat := 0x0012
/-- Firmware fault; recorded in the log. -/
def E_INTERNAL : Nat := 0x0013
/-- Domain reset not allowed for this domain. -/
def E_SYS_DOMAIN : Nat := 0x0101
/-- MOTION and SOLVER are powered off in PARK. -/
def E_SYS_PARKED : Nat := 0x0102
/-- Wake GPIO is owned by the cell image. -/
def E_SYS_WAKE : Nat := 0x0103
/-- Event is not in the subset routable to Caldera. -/
def E_SYS_EVENT : Nat := 0x0104
/-- Transition not allowed by command. -/
def E_MODE_TRANSITION : Nat := 0x0201
/-- No active valid cell image or committed safety set. -/
def E_MODE_NOT_READY : Nat := 0x0202
/-- Caldera refuses the target, for example a safe input pair in demand. -/
def E_MODE_SAFETY : Nat := 0x0203
/-- The latched fault cause is still present. -/
def E_MODE_CAUSE_ACTIVE : Nat := 0x0204
/-- Header, section table or section CRC wrong. -/
def E_CELL_FORMAT : Nat := 0x0301
/-- Key not enrolled or signature invalid. -/
def E_CELL_SIGNATURE : Nat := 0x0302
/-- Arm, joint or binding counts broken. -/
def E_CELL_HIERARCHY : Nat := 0x0303
/-- Pooled resource with two owners, or axis bound to an absent node. -/
def E_CELL_OWNER : Nat := 0x0304
/-- Cycle or loop rates not allowed. -/
def E_CELL_TIMING : Nat := 0x0305
/-- Problem exceeds solver limits. -/
def E_CELL_SOLVER : Nat := 0x0306
/-- Image compiled against another safety set, or its Geyser cycle exceeds the set's T_CYCLE. -/
def E_CELL_SAFETY_REF : Nat := 0x0307
/-- Slot is active. -/
def E_CELL_ACTIVE : Nat := 0x0308
/-- Slot holds no valid image. -/
def E_CELL_EMPTY : Nat := 0x0309
/-- Partner slot digest differs. -/
def E_CELL_TWIN : Nat := 0x030A
/-- Image length out of range. -/
def E_CELL_SIZE : Nat := 0x030B
/-- Load stopped by abort; slot EMPTY. -/
def E_CELL_STOPPED : Nat := 0x030C
/-- Axis has no parameter set in the active image. -/
def E_AXIS_UNBOUND : Nat := 0x0401
/-- Axis follows the cell trajectory. -/
def E_AXIS_JOINT : Nat := 0x0402
/-- Unknown parameter number. -/
def E_AXIS_PARAM : Nat := 0x0403
/-- Parameter not changeable in this mode. -/
def E_AXIS_ONLINE : Nat := 0x0404
/-- Axis fault latched, or its cause still present. -/
def E_AXIS_FAULT : Nat := 0x0405
/-- Axis not enabled. -/
def E_AXIS_DISABLED : Nat := 0x0406
/-- Target beyond a soft limit. -/
def E_AXIS_LIMIT : Nat := 0x0407
/-- Absolute move on an axis not homed. -/
def E_AXIS_NOT_HOMED : Nat := 0x0408
/-- Tile masks not aligned, wrong size or overlapping. -/
def E_SOLV_TILES : Nat := 0x0501
/-- Unknown parameter or value out of range. -/
def E_SOLV_PARAM : Nat := 0x0502
/-- No whole-cell problem available. -/
def E_SOLV_NO_PROBLEM : Nat := 0x0503
/-- Outcome of a small-configuration run that reached its deadline; reported in run status and SOLV_STATUS. -/
def E_DEADLINE_SMALL : Nat := 0x0504
/-- Port carries the Geyser schedule. -/
def E_NET_PORT_IN_USE : Nat := 0x0601
/-- Mode or personality not supported or not negotiated. -/
def E_NET_MODE : Nat := 0x0602
/-- Star already running or already stopped. -/
def E_NET_STATE : Nat := 0x0603
/-- Node not in the schedule. -/
def E_NET_NODE : Nat := 0x0604
/-- Gate control list inconsistent. -/
def E_NET_GCL : Nat := 0x0605
/-- Time base not allowed for the command. -/
def E_TIME_BASE : Nat := 0x0701
/-- No refused step pending. -/
def E_TIME_NO_STEP : Nat := 0x0702
/-- Profile or domain number not supported. -/
def E_TIME_PROFILE : Nat := 0x0703
/-- Wrong password. -/
def E_SAFE_PASSWORD : Nat := 0x0801
/-- Confirmed CRC differs from the staged set. -/
def E_SAFE_CRC : Nat := 0x0802
/-- Staged set fails validation. -/
def E_SAFE_INVALID : Nat := 0x0803
/-- Seal switches not in the required position. -/
def E_SAFE_SEAL : Nat := 0x0804
/-- Eckin set not convertible. -/
def E_SAFE_IMPORT : Nat := 0x0805
/-- No staged set. -/
def E_SAFE_NO_STAGED : Nat := 0x0806
/-- Cause of the stop or demand still present. -/
def E_SAFE_DEMAND : Nat := 0x0807
/-- New password breaks the password rules. -/
def E_SAFE_WEAK : Nat := 0x0808
/-- Unknown log. -/
def E_LOG_ID : Nat := 0x0901
/-- Entries overwritten. -/
def E_LOG_GONE : Nat := 0x0902
/-- Log is not allowed to be cleared. -/
def E_LOG_PROTECTED : Nat := 0x0903
/-- Signature invalid. -/
def E_FW_SIGNATURE : Nat := 0x0A01
/-- Security version or counter value below the OTP count. -/
def E_FW_ROLLBACK : Nat := 0x0A02
/-- Target or slot not allowed. -/
def E_FW_TARGET : Nat := 0x0A03
/-- Slot holds no verified image. -/
def E_FW_NOT_STAGED : Nat := 0x0A04
/-- Key slot not enrolled. -/
def E_FW_KEY : Nat := 0x0A05
/-- Write stopped by abort. -/
def E_FW_STOPPED : Nat := 0x0A06
/-- Bus error. -/
def E_DIAG_ADDRESS : Nat := 0x0B01
/-- SAFETY domain not writable by command. -/
def E_DIAG_SAFETY : Nat := 0x0B02
/-- Port carries the Geyser schedule. -/
def E_DIAG_PORT : Nat := 0x0B03
/-- Self-test stopped by abort. -/
def E_DIAG_STOPPED : Nat := 0x0B04
/-- No pair configured, or twin link down. -/
def E_TWIN_ABSENT : Nat := 0x0C01
/-- Unit is not STANDBY. -/
def E_TWIN_NOT_STANDBY : Nat := 0x0C02
/-- Partner not synchronised. -/
def E_TWIN_NOT_SYNC : Nat := 0x0C03
/-- Resynchronisation stopped by abort. -/
def E_TWIN_STOPPED : Nat := 0x0C04
/-- Region overlapping or misaligned. -/
def E_MEM_REGION : Nat := 0x0D01
/-- Address outside the named unit. -/
def E_MEM_ADDRESS : Nat := 0x0D02

end Sys2Proof.Machine.Status
end

