-- ==== Sys2Proof/Machine/Params.lean ====
section
/-!
DEFINITION. The servo kernel's parameters (R273 to R278): the table, where they are stored, how they are read.
-/
namespace Sys2Proof.Machine

/-- Axis `axis`. -/
def State.ax (s : State) (axis : Nat) : AxisState := s.axes.get AxisState.reset axis

/-- Changes an axis. -/
def State.onAx (s : State) (axis : Nat) (f : AxisState → AxisState) : State :=
  { s with axes := s.axes.put AxisState.reset axis (f (s.ax axis)) }

/-- A fault bit is noted for the end of the running period (R284, step 8). -/
def State.noteIf (s : State) (axis : Nat) (b : Bool) (bit : Nat) : State :=
  if b then s.onAx axis fun a => { a with noted := a.noted ||| 2 ^ bit } else s

/-- The parameter formats of R275. -/
inductive ParamFmt where
  | u64 | s64 | sg | pu
deriving DecidableEq, Repr, Inhabited

/-- The Online entry of R277. -/
inductive ParamOnline where
  | yes | no | ro
deriving DecidableEq, Repr, Inhabited

/-- A row of the parameter table; the range of a scaled gain is that of its mantissa, and `nonzero` forbids 0. -/
structure ParamDef where
  number : Nat
  fmt : ParamFmt
  lo : Int
  hi : Int
  nonzero : Bool
  dflt : Int
  online : ParamOnline
deriving DecidableEq, Repr, Inhabited

/-- A row whose value may be 0. -/
def paramRow (number : Nat) (fmt : ParamFmt) (lo hi dflt : Int) (online : ParamOnline) : ParamDef :=
  { number := number, fmt := fmt, lo := lo, hi := hi, nonzero := false, dflt := dflt, online := online }

/-- A scaled gain of at least 0. -/
def gainRow (number : Nat) (dflt : Int) : ParamDef := paramRow number .sg 0 (2 ^ 31 - 1) dflt .yes

/-- A scaled gain other than 0. -/
def scaleRow (number : Nat) : ParamDef :=
  { number := number, fmt := .sg, lo := -(2 ^ 31), hi := 2 ^ 31 - 1, nonzero := true, dflt := 1, online := .no }

/-- A per-unit row, in Q3.28. -/
def puRow (number : Nat) (lo hi dflt : Int) : ParamDef := paramRow number .pu lo hi dflt .yes

/-- Position, velocity and current loops. -/
def paramsLoops : List ParamDef :=
  [paramRow 0x0001 .u64 0 2 0 .ro, paramRow 0x0002 .u64 0 1 0 .no, paramRow 0x0003 .u64 0 31 0 .no,
   gainRow 0x0010 0, gainRow 0x0011 0, gainRow 0x0012 0, paramRow 0x0013 .u64 0 1000000000 0 .yes,
   paramRow 0x0014 .u64 0 (2 ^ 40) 0 .yes,
   gainRow 0x0020 0, gainRow 0x0021 0, gainRow 0x0022 0, paramRow 0x0023 .u64 0 1000000000 0 .yes,
   puRow 0x0024 0 (2 ^ 30) (2 ^ 28), puRow 0x0025 0 (2 ^ 30) (2 ^ 28),
   gainRow 0x0030 0, gainRow 0x0031 0, gainRow 0x0032 0, paramRow 0x0033 .u64 0 1000000000 0 .yes,
   puRow 0x0034 0 (2 ^ 28) (2 ^ 28), puRow 0x0035 0 (2 ^ 28) 255013683, puRow 0x0036 0 (2 ^ 30) (2 ^ 29),
   gainRow 0x0037 1]

/-- Feed-forward, divisors, limits. -/
def paramsLimits : List ParamDef :=
  [gainRow 0x0040 1, gainRow 0x0041 0, puRow 0x0042 (-(2 ^ 30)) (2 ^ 30) 0,
   paramRow 0x0050 .u64 1 16 1 .no, paramRow 0x0051 .u64 1 16 1 .no,
   paramRow 0x0060 .u64 1 (2 ^ 32 - 1) 1 .yes, paramRow 0x0061 .u64 1 (2 ^ 32 - 1) 1 .yes,
   paramRow 0x0062 .u64 1 (2 ^ 32 - 1) 1 .yes, paramRow 0x0063 .u64 1 (2 ^ 32 - 1) 1 .yes,
   paramRow 0x0064 .u64 1 (2 ^ 32 - 1) 1 .yes, paramRow 0x0065 .u64 1 (2 ^ 32 - 1) 1 .yes,
   paramRow 0x0070 .s64 (-(2 ^ 47)) (2 ^ 47 - 1) (-(2 ^ 47)) .yes,
   paramRow 0x0071 .s64 (-(2 ^ 47)) (2 ^ 47 - 1) (2 ^ 47 - 1) .yes,
   paramRow 0x0072 .u64 1 (2 ^ 40) (2 ^ 20) .yes, paramRow 0x0073 .u64 0 (2 ^ 32) 16 .yes,
   paramRow 0x0074 .u64 0 1000000 1000 .yes, paramRow 0x0075 .u64 1 (2 ^ 32 - 1) (2 ^ 32 - 1) .yes]

/-- Trajectory, commutation, samples, overruns, stage times. -/
def paramsOther : List ParamDef :=
  [scaleRow 0x0080, paramRow 0x0081 .s64 (-(2 ^ 47)) (2 ^ 47 - 1) 0 .no, paramRow 0x0082 .u64 2000 100000 8000 .yes,
   paramRow 0x0090 .u64 1 64 4 .no, paramRow 0x0091 .u64 4 (2 ^ 40) 4096 .no,
   paramRow 0x0092 .s64 (-(2 ^ 47)) (2 ^ 47 - 1) 0 .no, paramRow 0x0093 .u64 0 255 0 .no,
   paramRow 0x0094 .u64 0 255 0 .no, paramRow 0x0095 .u64 0 255 0 .no, scaleRow 0x0096,
   paramRow 0x0097 .u64 1 64 4 .yes, paramRow 0x00A0 .u64 1 255 8 .yes, paramRow 0x00A1 .u64 1 255 3 .yes]
    ++ (List.range 24).map fun i => paramRow (0x0180 + i) .u64 0 (2 ^ 64 - 1) 0 .ro

/-- The parameter table of R277. -/
def paramTable : List ParamDef := paramsLoops ++ paramsLimits ++ paramsOther

/-- The row of a parameter number. -/
def paramDef (n : Nat) : Option ParamDef := paramTable.find? fun d => d.number == n

/-- The word of a parameter in the engine's data memory (R273). -/
def paramAddr (axis n : Nat) : Nat := 0x3000 + 0x400 * (axis % 4) + 2 * n

/-- A parameter as stored, 64 bits. -/
def State.param (s : State) (axis n : Nat) : Nat :=
  let m := (s.eng (axisEngine axis)).dmem
  (m.get 0 (paramAddr axis n)).toNat + 2 ^ 32 * (m.get 0 (paramAddr axis n + 1)).toNat

/-- Stores a parameter at once. -/
def State.putParam (s : State) (axis n v : Nat) : State :=
  s.onEng (axisEngine axis) fun e =>
    { e with dmem := (e.dmem.put 0 (paramAddr axis n) (BitVec.ofNat 32 v)).put 0 (paramAddr axis n + 1)
                       (BitVec.ofNat 32 (v / 2 ^ 32)) }

/-- A signed parameter. -/
def State.paramS (s : State) (axis n : Nat) : Int := toS 64 (s.param axis n)

/-- The value of a scaled gain (R275). -/
def sgValue (v : Nat) : Rat := (toS 32 v : Rat) / (2 ^ (bitsOf v 32 6) : Nat)

/-- A scaled gain. -/
def State.gain (s : State) (axis n : Nat) : Rat := sgValue (s.param axis n)

/-- A per-unit parameter (R275). -/
def State.pu (s : State) (axis n : Nat) : Rat := (toS 64 (s.param axis n) : Rat) / (2 ^ 28 : Nat)

/-- `AXIS_KIND` of an axis slot: 0 network, 1 local servo, 2 step. -/
def axisKind (axis : Nat) : Nat := if axis < 192 then 0 else if axis < 224 then 1 else 2

/-- The image binds the axis: it has a parameter set, or is a joint's axis (R15, R16). -/
def CellContent.binds (c : CellContent) (axis : Nat) : Bool :=
  c.axes.contains axis || c.arms.any fun a => a.joints.contains axis

/-- The number that a stored word means in its format; none where an SG word has a bit set in [63:38] (R276). -/
def paramNumber (d : ParamDef) (v : Nat) : Option Int :=
  match d.fmt with
  | .u64 => some v
  | .s64 => some (toS 64 v)
  | .pu => some (toS 64 v)
  | .sg => if bitsOf v 38 26 = 0 then some (toS 32 v) else none

/-- The value lies in its range (R276). -/
def paramInRange (d : ParamDef) (v : Nat) : Bool :=
  match paramNumber d v with
  | some x => decide (d.lo ≤ x ∧ x ≤ d.hi) && !(d.nonzero && x == 0)
  | none => false

/-- The relations that R278 keeps, with `n` changed to `v`. -/
def State.paramsAgree (s : State) (axis n v : Nat) : Bool :=
  let p := fun k => if k = n then v else s.param axis k
  let k := axisEngine axis
  let adc := fun q => axisKind axis != 1 || s.owner 4 (p q % 16) == some k
  decide (toS 64 (p 0x70) < toS 64 (p 0x71)) && decide (p 0x62 ≤ p 0x63) && decide (p 0x65 ≤ p 0x63)
    && (axisKind axis != 0 || decide (p 0x03 < clampN 1 32 (s.get Reg.JCE_TICK_DIV k)))
    && (!(n == 0x93 || n == 0x94 || n == 0x95) || adc n)

/-- The status of an `AXIS_PARAM_SET` (R273, R274, R276 to R278): unknown number, then mode, then value. -/
def State.paramCheck (s : State) (axis n v : Nat) : Nat :=
  match paramDef n with
  | none => Status.E_AXIS_PARAM
  | some d =>
    let online := s.mode.mode == .jog || s.mode.mode == .run
    if d.online = .ro ∨ (d.online = .no ∧ online = true) then Status.E_AXIS_ONLINE
    else if paramInRange d v && s.paramsAgree axis n v then Status.OK
    else Status.E_PARAM

/-- The image gives the parameter a value for each axis: the rows that are not RO (R277). -/
def paramSettable (n : Nat) : Bool :=
  match paramDef n with
  | some d => d.online != .ro
  | none => false

/-- The parameter area of an engine from the installed image (R271): defaults, the stage times of section 0x0007 and the
image's values for the bound slots, 0 for the others. -/
def State.loadParams (s : State) (k : Nat) : State :=
  let s := s.onEng k fun e => { e with dmem := e.dmem.keep fun a => decide (a < 0x3000) }
  match s.cell with
  | none => s
  | some c =>
    (List.range 4).foldl (fun s i =>
      let axis := 4 * k + i
      if CellContent.binds c axis then
        let s := paramTable.foldl (fun s d => s.putParam axis d.number (ofS 64 d.dflt)) s
        let s := s.putParam axis 1 (axisKind axis)
        let s := (c.stageTimes.take 24).zipIdx.foldl (fun s e => s.putParam axis (0x180 + e.2) e.1) s
        (c.axisParams.filter fun q => q.inst == axis && paramSettable q.number).foldl
          (fun s q => s.putParam axis q.number q.value) s
      else s) s

end Sys2Proof.Machine
end

