-- ==== Sys2Proof/Machine/Pwm.lean ====
section
/-!
DEFINITION. The PWM generator's commands: period starts, edges, `PWM_SET` writes, trips, the PWM clock, sync outputs, and
the trim at the common instant (chapter 10).
-/
namespace Sys2Proof.Machine

/-- Ranger and the owning engine write the fields of R376 that an engine may write. -/
def pairWriter (m : Master) (p : Nat) : Bool :=
  match m with
  | .ranger => true
  | .jce k => k.val == pairEngine p
  | _ => false

/-- The engine's tick of a period start (R252). -/
def State.pairTick (s : State) (p : Nat) : State :=
  let k := pairEngine p
  if s.tickSource k = 1 ∧ s.get Reg.JCE_TICK_PAIR k = p % 12 then s.jceTick k else s

/-- A period starts and ticks its engine. -/
def State.pairPeriod (s : State) (p t : Nat) : State := (s.periodStart p t).pairTick p

/-- The end of the present period. -/
def State.pairEnd (s : State) (p : Nat) : Nat := (s.pair p).start + s.pairLength p

/-- PWM_PERIOD_START: a natural period end has come. It is not made less than 2,048 fine units before the next common
instant of a locked pair (R357), nor without the PWM clock (R368). -/
def State.doPeriodStart (s : State) (p t : Nat) : State :=
  let q := s.pair p
  let held := q.lock && decide (s.pairEnd p ≤ q.nextCommon ∧ q.nextCommon < s.pairEnd p + 2048)
  if s.pwmClock && !q.restart && decide (s.pairEnd p ≤ t) && !held then s.pairPeriod p (s.pairEnd p) else s

/-- PWM_EDGE: the compare time of H_ref's next edge in this period has come (R352, R361). -/
def State.doPwmEdge (s : State) (p t : Nat) : State :=
  let q := s.pair p
  if !s.pwmClock || q.restart then s
  else if !q.rose then
    if s.pairDuty p ≠ 0 ∧ q.start + s.pairRise p ≤ t then s.refRise p (q.start + s.pairRise p) else s
  else if !q.fell then
    match s.pairFall p with
    | some f => if q.start + f ≤ t then s.refFall p (q.start + f) else s
    | none => s
  else s

/-- The effect of new `PWM_SET` values at `t` within the running period (R360). -/
def State.applySet (s : State) (p t : Nat) : State :=
  let q := s.pair p
  let rel := t - q.start
  if s.pwmClock = false ∨ q.restart then s
  else if s.pairLength p ≤ rel then s.pairPeriod p t
  else if q.rose && !q.fell then
    match s.pairFall p with
    | some f => if f ≤ rel then s.refFall p t else s
    | none => s
  else if !q.rose && q.mode && decide (0 < s.pairDuty p) && decide (s.pairRise p ≤ rel) then
    match s.pairFall p with
    | some f => if rel < f then s.refRise p t else s
    | none => s.refRise p t
  else s

/-- PWM_SET_WRITE: both values change at once (R359, R360, R376). -/
def State.doSetWrite (s : State) (m : Master) (p v t : Nat) : State :=
  if pairWriter m p then
    let s := (s.set Reg.PWM_SET_DUTY p (bitsOf v 0 21)).set Reg.PWM_SET_PER p (bitsOf v 32 21)
    (s.applySet p t).answer .done
  else s.answer .busError

/-- PWM_FORCE (R365, R376). -/
def State.doForce (s : State) (m : Master) (p : Nat) (on : Bool) (t : Nat) : State :=
  if pairWriter m p then (s.setForce p t on).answer .done else s.answer .busError

/-- The trips that are filtered active. -/
def State.activeTrips (s : State) : Nat :=
  (List.range 16).foldl (fun a n => a + s.get Reg.TRIP_STATUS_ACTIVE n * 2 ^ n) 0

/-- The bits common to two 16-bit masks. -/
def maskAnd (a b : Nat) : Nat := (BitVec.ofNat 16 a &&& BitVec.ofNat 16 b).toNat

/-- The bits in either of two 16-bit masks. -/
def maskOr (a b : Nat) : Nat := (BitVec.ofNat 16 a ||| BitVec.ofNat 16 b).toNat

/-- A trip latches at a pair of its group (R372). -/
def State.tripPair (s : State) (p t : Nat) : State :=
  let named := maskAnd (s.get Reg.PWM_TRIP_TRIP_MASK p) s.activeTrips
  let s := (s.set Reg.PWM_TRIP_TRIP_SRC p (maskOr (s.get Reg.PWM_TRIP_TRIP_SRC p) named)).setFlag
    Reg.PWM_TRIP_TRIP_LATCHED p true
  (s.judgeCauses p t).periphEvent (pairEngine p)

/-- The filtered level of a trip is its active one; a trip with `EN` 0 never is active (R370). -/
def State.tripOn (s : State) (n : Nat) : Bool :=
  s.flag Reg.TRIP_CFG_EN n &&
    (match s.tripHigh.get none n with
      | some h => h != s.flag Reg.TRIP_CFG_ACTIVE_LOW n
      | none => false)

/-- A trip becomes active and forces its group, or inactive; latched pairs stay latched (R372, R373). -/
def State.judgeTrip (s : State) (n t : Nat) : State :=
  if s.tripOn n && !s.flag Reg.TRIP_STATUS_ACTIVE n then
    let s := ((s.setFlag Reg.TRIP_STATUS_ACTIVE n true).count Reg.TRIP_COUNT_COUNT n 1).raise 72
    (List.range 96).foldl
      (fun s p => if bitOf (s.get Reg.PWM_TRIP_TRIP_MASK p) n then s.tripPair p t else s) s
  else if s.tripOn n then s
  else s.setFlag Reg.TRIP_STATUS_ACTIVE n false

/-- The last `samples` synchronised samples of a trip input have all shown the level `high`: the filtered level follows
after `FILT_N` of them, 1 to 1,024 (R370). -/
def State.tripSamples (s : State) (n : Nat) (high : Bool) (samples t : Nat) : State :=
  if samples = 0 then s
  else
    let s := s.setFlag Reg.TRIP_STATUS_RAW n high
    if clampN 1 1024 (s.get Reg.TRIP_CFG_FILT_N n) ≤ samples then
      { s with tripHigh := s.tripHigh.put none n (some high) }.judgeTrip n t
    else s

/-- TRIP_ACTIVE: the last `samples` samples showed the active level (R370, R372). -/
def State.doTrip (s : State) (n samples t : Nat) : State :=
  s.tripSamples n (!s.flag Reg.TRIP_CFG_ACTIVE_LOW n) samples t

/-- TRIP_INACTIVE: the last `samples` samples showed the inactive level (R370). -/
def State.doTripOff (s : State) (n samples t : Nat) : State :=
  s.tripSamples n (s.flag Reg.TRIP_CFG_ACTIVE_LOW n) samples t

/-- The pairs and the trips as Ranger has configured them from an image: every pair forced (R369), the running periods
under the new values (R360); `fresh`: the generator has just left its reset and its periods begin. -/
def State.pairsLoaded (s : State) (fresh : Bool) : State :=
  let t := s.fineNow
  let s := (List.range 96).foldl (fun (s : State) p =>
    (if fresh then s.onPair p fun q => { q with start := t } else s.applySet p t).setForce p t true) s
  (List.range 16).foldl (fun (s : State) n => s.judgeTrip n t) s

/-- TRIP_CLEAR (R373, R374, R376). -/
def State.doTripClear (s : State) (m : Master) (p : Nat) : State :=
  if pairWriter m p then
    if maskAnd (s.get Reg.PWM_TRIP_TRIP_MASK p) s.activeTrips = 0 then
      (((s.setFlag Reg.PWM_TRIP_TRIP_LATCHED p false).set Reg.PWM_TRIP_TRIP_SRC p 0).showCauses p).answer .done
    else ((s.setFlag Reg.PWM_FLAGS_CLEAR_REFUSED p true).raise 73).answer .done
  else s.answer .busError

/-- The PWM clock is lost: every pair is forced OFF and sets `CLK_LOST`; `EV074`; a peripheral event to JCE48 to JCE55
(R368). -/
def State.pwmClockLost (s : State) (t : Nat) : State :=
  if s.pwmClock then
    let s := { s with pwmClock := false }
    let s := s.set Reg.CLK_STATUS_LOCK 0 (putBits (s.get Reg.CLK_STATUS_LOCK 0) 5 1 0)
    let s := (List.range 96).foldl
      (fun s p => ((s.setFlag Reg.PWM_FLAGS_CLK_LOST p true).showCauses p).enterSafe p t) s
    (List.range 8).foldl (fun s i => s.periphEvent (48 + i)) (s.raise 74)
  else s

/-- PWM_CLOCK_RETURN: the counters restart at the next common instant (R368). -/
def State.doClockReturn (s : State) : State :=
  if s.pwmClock then s
  else
    let s := s.set Reg.CLK_STATUS_LOCK 0 (putBits (s.get Reg.CLK_STATUS_LOCK 0) 5 1 1)
    (List.range 96).foldl (fun s p => (s.onPair p fun q => { q with restart := true }).showCauses p)
      { s with pwmClock := true }

/-- CLK_LOST_CLEAR: the flag clears only while the clock is present (R368). -/
def State.doClkLostClear (s : State) (m : Master) (p : Nat) : State :=
  if pairWriter m p then
    if s.pwmClock then ((s.setFlag Reg.PWM_FLAGS_CLK_LOST p false).showCauses p).answer .done else s.answer .done
  else s.answer .busError

/-- The event of a sync output falls within the present period of its pair (R375). -/
def State.syncFalls (s : State) (n : Nat) : Bool :=
  let p := s.get Reg.PSYNC_CFG_PAIR n
  let e := s.get Reg.PSYNC_CFG_EVENT n
  s.flag Reg.PSYNC_CFG_EN n && decide (p < 96) && s.pwmClock &&
    (if e = 1 then (s.pair p).mode
     else if e = 2 then decide (s.get Reg.PSYNC_OFFSET_OFFSET n < s.pairLength p)
     else true)

/-- PSYNC_PULSE: a pulse of `WIDTH` coarse counts (0 acts as 1), counted in `PSYNC_COUNT`, which wraps (R375). -/
def State.doPsync (s : State) (n : Nat) : State :=
  if s.syncFalls n then
    (s.set Reg.PSYNC_COUNT_COUNT n (s.get Reg.PSYNC_COUNT_COUNT n + 1)).out
      (.psync n (max 1 (s.get Reg.PSYNC_CFG_WIDTH n)) (!s.flag Reg.PSYNC_CFG_POL n))
  else s

/-- The length of a Geyser cycle of `c` ticks in fine units of the PWM clock, with the rate correction of TB0 (R355). -/
def State.cycleFine (s : State) (c : Nat) : Nat :=
  let rate := s.getS Reg.TB_RATE_PPB 0 * 65536 + (s.get Reg.TB_RATE_PPB_FRAC 0 : Nat)
  let one : Int := 1000000000 * 65536
  (roundDiv ((128 * c : Nat) * one) (one + rate).toNat).toNat

/-- A locked pair at a common instant: the running period ends here, cut or not, and the coming cycle's trim is taken
(R355 to R357). -/
def State.pairCommon (s : State) (p t cycle : Nat) : State :=
  if (s.pair p).lock && s.pwmClock then
    let q := s.pair p
    let cut := !q.restart && decide (t < s.pairEnd p)
    let per := s.pairPer p
    let len := if s.flag Reg.PWM_CFG_MODE p then 2 * per else per
    let n := ((roundDiv (cycle : Nat) len).toNat)
    let e : Int := (cycle : Int) - (n * len : Nat)
    let tooFar := decide (cycle * 200 < e.natAbs * 1000000)
    let s := if cut then s.count Reg.LOCK_CUT_COUNT p 1 else s
    let s := if tooFar then (s.setFlag Reg.PWM_FLAGS_LOCK_ERR p true).raise 75 else s
    let e' := if tooFar then 0 else e
    let s := (s.setS Reg.TRIM_VALUE p e').onPair p fun q =>
      { q with trimE := e', trimN := n, trimIdx := 0, nextCommon := t + cycle }
    s.pairPeriod p t
  else if (s.pair p).restart && s.pwmClock then s.pairPeriod p t
  else s

/-- Every pair at a common instant. -/
def State.pwmCommon (s : State) (t cycle : Nat) : State :=
  (List.range 96).foldl (fun s p => s.pairCommon p t cycle) s

/-- PWM_SET_WRITE. -/
def execPwmSetWrite (m : Master) (pair : Fin 96) (v : Word64) (t : Nat) (s : State) :
    Host.Outcome State Fault Refusal :=
  s.run fun s => s.doSetWrite m pair.val v.toNat t

/-- PWM_PERIOD_START. -/
def execPwmPeriodStart (pair : Fin 96) (t : Nat) (s : State) : Host.Outcome State Fault Refusal :=
  s.run fun s => s.doPeriodStart pair.val t

/-- PWM_EDGE. -/
def execPwmEdge (pair : Fin 96) (t : Nat) (s : State) : Host.Outcome State Fault Refusal :=
  s.run fun s => s.doPwmEdge pair.val t

/-- DEAD_TIME_END. -/
def execDeadTimeEnd (pair : Fin 96) (high : Bool) (t : Nat) (s : State) : Host.Outcome State Fault Refusal :=
  s.run fun s => s.deadTimeEnd pair.val high t

/-- MIN_PULSE_END. -/
def execMinPulseEnd (pair : Fin 96) (high : Bool) (t : Nat) (s : State) : Host.Outcome State Fault Refusal :=
  s.run fun s => s.minPulseEnd pair.val high t

/-- PWM_FORCE. -/
def execPwmForce (m : Master) (pair : Fin 96) (on : Bool) (t : Nat) (s : State) : Host.Outcome State Fault Refusal :=
  s.run fun s => s.doForce m pair.val on t

/-- TRIP_ACTIVE. -/
def execTripActive (trip : Fin 16) (run : TripRun) (s : State) : Host.Outcome State Fault Refusal :=
  s.run fun s => s.doTrip trip.val run.samples.val run.t

/-- TRIP_INACTIVE. -/
def execTripInactive (run : Fin 16 × TripRun) (s : State) : Host.Outcome State Fault Refusal :=
  s.run fun s => s.doTripOff run.1.val run.2.samples.val run.2.t

/-- TRIP_CLEAR. -/
def execTripClear (m : Master) (pair : Fin 96) (s : State) : Host.Outcome State Fault Refusal :=
  s.run fun s => s.doTripClear m pair.val

/-- PWM_CLOCK_RETURN. -/
def execPwmClockReturn (s : State) : Host.Outcome State Fault Refusal := s.run State.doClockReturn

/-- CLK_LOST_CLEAR. -/
def execClkLostClear (m : Master) (pair : Fin 96) (s : State) : Host.Outcome State Fault Refusal :=
  s.run fun s => s.doClkLostClear m pair.val

/-- PSYNC_PULSE. -/
def execPsyncPulse (sync : Fin 8) (s : State) : Host.Outcome State Fault Refusal := s.run fun s => s.doPsync sync.val

end Sys2Proof.Machine
end

