-- ==== Sys2Proof/Machine/Stp.lean ====
section
/-!
DEFINITION. The step channels' commands and events (R403 to R421), and the axis inputs (R422 to R424).
-/
namespace Sys2Proof.Machine

/-- The owning engine and Ranger write a channel (R420). -/
def stepWriter (m : Master) (ch : Nat) : Bool :=
  match m with
  | .ranger => true
  | .jce k => k.val == 56 + ch / 4
  | _ => false

/-- The staged values as a `STP_CMD` write takes them (R408); rates of 0 act as 1. -/
def State.stagedCmd (s : State) (ch code : Nat) : StpCmd :=
  { code := code, target := s.getS Reg.STP_TARGET_TARGET ch, tvel := s.getS Reg.STP_TVEL_TVEL ch,
    vel := s.get Reg.STP_LIM_V_VEL ch, acc := 10 * max 1 (s.get Reg.STP_LIM_V_ACCEL ch),
    dec := 10 * max 1 (s.get Reg.STP_LIM_D_DECEL ch), decMax := 10 * max 1 (s.get Reg.STP_LIM_D_DECEL_MAX ch),
    jerk := 1000 * max 1 (s.get Reg.STP_LIM_J_JERK ch), vStart := s.get Reg.STP_LIM_J_V_START ch, written := s.ticks }

/-- `CMD_REFUSED` (R413, R416, R419, R421). -/
def State.cmdRefused (s : State) (ch : Nat) : State := s.setFlag Reg.STP_FLAGS_CMD_REFUSED ch true

/-- `NONE`: the staged limits, beside a command that still waits (R408). -/
def State.stagedNone (s : State) (ch : Nat) : StpCmd :=
  let k := s.stagedCmd ch 0
  match (s.step ch).cmd with
  | some w => { k with code := w.code, target := w.target, tvel := w.tvel }
  | none => k

/-- A write of `STP_CMD` (R408, R413, R417, R419, R420). An accepted command ends the causes `ABORT` and `RANGE`;
`NONE` commits limits only and ends neither (DEDUCED, log entry 81). -/
def State.doStepCmd (s : State) (m : Master) (ch code : Nat) : State :=
  if !stepWriter m ch then s.answer .busError
  else if (s.step ch).haltAt == some s.ticks && s.get Reg.STP_HALT_CAUSES ch != 0 then (s.cmdRefused ch).answer .done
  else if code = 0 then (s.onStep ch fun c => { c with cmd := some (s.stagedNone ch) }).answer .done
  else if !s.driveOn ch then (s.cmdRefused ch).answer .done
  else
    let s := (s.setHalt ch haltAbort false).setHalt ch haltRange false
    if code = 5 then
      ((s.setHalt ch haltAbort true).onStep ch fun c => { c with cmd := some (s.stagedCmd ch 0) }).answer .done
    else (s.onStep ch fun c => { c with cmd := some (s.stagedCmd ch code) }).answer .done

/-- The time in ns from now to the next tick of the engine of channel `ch` (R252, R410); 1 µs without a tick source. -/
def State.toNextTick (s : State) (ch : Nat) : Nat :=
  let k := 56 + ch / 4
  if s.tickSource k = 2 then
    let div := clampN 1 32 (s.get Reg.JCE_TICK_DIV k)
    let cycle := 8 * s.get Reg.STAR_CFG_CYCLE 0
    let offset := match s.cell with
      | some i => 8 * i.ciOffset
      | none => 0
    let period := cycle / div
    if period = 0 then 1000 else period - (s.tb 0 + cycle - offset % cycle) % cycle % period
  else 1000

/-- The profile takes a command with its limits (R408 to R410). -/
def State.takeCmd (s : State) (ch : Nat) (k : StpCmd) : State :=
  let q := (((s.step ch).prof.limits k.vel k.acc k.dec k.decMax k.jerk))
  let q := { q with smooth := s.flag Reg.STP_CFG_PROFILE ch }
  let q := match k.code with
    | 1 => q.command (.move k.target)
    | 2 => q.command (.velocity k.tvel)
    | 3 => q.command (.stop k.dec)
    | 4 => q.track k.target k.tvel (s.toNextTick ch)
    | _ => match q.kind with
      | .stop _ => { q with kind := .stop k.dec }
      | _ => q
  s.onStep ch fun c => { c with prof := q, cmd := none, vStart := k.vStart }

/-- The soft limits of a step axis that the servo kernel moves (R295, R298, R302). -/
def State.stepSoft (s : State) (ch : Nat) : Option (Int × Int) :=
  let x := 224 + ch
  let bound := match s.cell with
    | some c => CellContent.binds c x
    | none => false
  if bound && (s.eng (axisEngine x)).kernel then some (s.paramS x 0x70, s.paramS x 0x71) else none

/-- STP_PROFILE_UPDATE: every 1 µs of TB0 (R409). -/
def State.doProfileUpdate (s : State) (ch : Nat) : State :=
  let c := s.step ch
  if s.stepParked ch then s
  else
    let s := s.waitTill (c.base + 125)
    let s := if c.prof.busy then s.onStep ch fun c => { c with prof := c.prof.advance 1000, base := c.base + 125 }
      else s.onStep ch fun c => { c with base := s.ticks }
    let s := match c.cmd with
      | some k => s.takeCmd ch k
      | none => s
    let soft := s.stepSoft ch
    (s.onStep ch fun c => { c with prof := c.prof.plan soft (1 / 1000000) }).showStep ch

/-- The least step interval in ticks (R406). -/
def State.minInterval (s : State) (ch : Nat) : Nat := max 32 (2 * max 1 (s.get Reg.STP_CFG_PULSE_W ch))

/-- The direction of the step that the profile asks for at tick `t`: the instants lie within half a tick (R411). -/
def State.stepDue (s : State) (ch t : Nat) : Option Bool :=
  let c := s.step ch
  let p := c.prof.at (8 * (t - c.base) + 4)
  let n : Rat := s.stepPos ch
  if n + 1 ≤ p then some false else if p ≤ n - 1 then some true else none

/-- The first tick at which a step in direction `down` may start (R406, R407). -/
def State.stepFree (s : State) (ch : Nat) (down : Bool) : Nat :=
  match (s.step ch).lastStep with
  | none => 0
  | some t =>
    let turn := !s.flag Reg.STP_CFG_OUT_MODE ch && down != s.flag Reg.STP_STATUS_DIR ch
    let dir := if turn then s.get Reg.STP_TIMING_DIR_HOLD ch + s.get Reg.STP_CFG_DIR_SETUP ch else 0
    t + max (s.minInterval ch) dir

/-- `USTEP_CYCLE` as it acts. -/
def State.ustepCycle (s : State) (ch : Nat) : Nat := clampN 4 4096 (s.get Reg.STP_USTEP_USTEP_CYCLE ch)

/-- A step in direction `down` is issued now (R407, R411, R412). `late`: it was delayed to the first tick at which it may
start; the event belongs to the minimum interval. -/
def State.issueStep (s : State) (ch : Nat) (down : Bool) (late : Bool) : State :=
  let n := s.stepPos ch + (if down then -1 else 1)
  let m := s.ustepCycle ch
  let i := s.get Reg.STP_USTEP_USTEP_IDX ch
  let byRate := match (s.step ch).lastStep with
    | some t => s.stepFree ch down == t + s.minInterval ch
    | none => false
  let s := if late then s.count Reg.RATE_CLAMP_COUNT ch 1 else s
  let s := if late && byRate then (s.setFlag Reg.STP_FLAGS_RATE_CLAMP_SEEN ch true).raise 83 else s
  let s := (s.setS Reg.STP_POS_COUNT ch n).set Reg.STP_USTEP_USTEP_IDX ch ((i + (if down then m - 1 else 1)) % m)
  (s.setFlag Reg.STP_STATUS_DIR ch down).onStep ch fun c => { c with lastStep := some s.ticks }

/-- STEP_ISSUE: a step whose instant has come is issued, unless the minimum interval or the direction setup holds it back
(R407, R411, R412, R417). -/
def State.doStepIssue (s : State) (ch : Nat) : State :=
  if !s.driveOn ch || s.get Reg.STP_HALT_CAUSES ch != 0 then s
  else
    match s.stepDue ch s.ticks with
    | none => s
    | some down =>
      let n := s.stepPos ch + (if down then -1 else 1)
      if n < -(2 ^ 47) ∨ 2 ^ 47 - 1 < n then s.setHalt ch haltRange true
      else if s.ticks < s.stepFree ch down then s
      else
        let f := s.stepFree ch down
        s.issueStep ch down (decide ((s.step ch).base < f) && (s.stepDue ch (f - 1)).isSome)

/-- A driver fault acts (R414); it is ignored while the channel is PARKED and settling (R416). The kernel latches `DRV_FAULT`
and `INDEX_LOST` in its next period. -/
def State.drvFault (s : State) (ch : Nat) : State :=
  if s.fltIgnored ch then s
  else
    let s := (s.setHalt ch haltDrvflt true).setFlag Reg.STP_FLAGS_FLT_SEEN ch true
    let s := ((s.loseIndex ch).periphEvent (56 + ch / 4)).raise 80
    (s.noteIf (224 + ch) true 5).noteIf (224 + ch) true 16

/-- A level that `DRVFLTn` has shown for `us` µs is accepted (R414). -/
def State.fltAccepts (s : State) (ch us : Nat) : Bool := decide (clampN 1 1000 (s.get Reg.STP_TIMING_FLT_FILT ch) ≤ us)

/-- The active level of `DRVFLTn` (R414). -/
def State.fltActive (s : State) (ch : Nat) (high : Bool) : Bool := high != s.flag Reg.STP_CFG_FLT_POL ch

/-- DRVFLT_ACCEPT: the input has shown a level for `us` µs and is accepted active (R414). -/
def State.doDrvflt (s : State) (ch : Nat) (high : Bool) (us : Nat) : State :=
  if s.fltAccepts ch us && s.fltActive ch high then (s.setFlag Reg.STP_STATUS_FLT ch true).drvFault ch else s

/-- DRVFLT_RELEASE: the input has shown a level for `us` µs and is accepted inactive. -/
def State.doDrvfltOff (s : State) (ch : Nat) (high : Bool) (us : Nat) : State :=
  if s.fltAccepts ch us && !s.fltActive ch high then s.setFlag Reg.STP_STATUS_FLT ch false else s

/-- The levels at `STPn`, `DIRn` and `DRVENn` (R404, R405, R407, R413). The direction turns `DIR_SETUP` before the step that
needs it, after `DIR_HOLD`. -/
def State.stepPins (s : State) (ch : Nat) : Bool × Bool × Bool :=
  let c := s.step ch
  let inv := s.flag Reg.STP_CFG_STEP_POL ch
  let off := !s.alive || s.parked
  let down := s.flag Reg.STP_STATUS_DIR ch
  let width := max 1 (s.get Reg.STP_CFG_PULSE_W ch)
  let since := fun n : Nat => match c.lastStep with
    | some t => decide (t + n ≤ s.ticks)
    | none => true
  let pulse := !off && !since width
  let turned := s.stepDue ch (s.ticks + s.get Reg.STP_CFG_DIR_SETUP ch) == some (!down) && since (s.get Reg.STP_TIMING_DIR_HOLD ch)
  let enable := (!off && s.driveOn ch) != s.flag Reg.STP_CFG_DRVEN_POL ch
  if s.flag Reg.STP_CFG_OUT_MODE ch then ((pulse && !down) != inv, (pulse && down) != inv, enable)
  else (pulse != inv, (!off && (down != turned)) != s.flag Reg.STP_CFG_DIR_POL ch, enable)

/-- STP_ENABLE (R413, R417, R420). -/
def State.doStepEnable (s : State) (m : Master) (ch : Nat) (on : Bool) : State :=
  if stepWriter m ch then (s.writeEnable ch on).answer .done else s.answer .busError

/-- USTEP_ALIGN (R415). -/
def State.doAlign (s : State) (m : Master) (ch idx : Nat) : State :=
  if stepWriter m ch then
    ((s.set Reg.STP_USTEP_USTEP_IDX ch idx).setFlag Reg.STP_USTEP_IDX_VALID ch true).answer .done
  else s.answer .busError

/-- DRV_PARK (R416). -/
def State.doDrvPark (s : State) (m : Master) (ch : Nat) (on : Bool) : State :=
  if !stepWriter m ch then s.answer .busError
  else if on then
    let st := s.stepState ch
    if (st = 0 ∨ st = 1) ∧ (s.step ch).prof.v = 0 then
      (((s.setFlag Reg.STP_CTRL_DRV_PARK ch true).onStep ch fun c =>
        { c with settle := none }).showStep ch).answer .done
    else if st = 6 then s.answer .done
    else (s.cmdRefused ch).answer .done
  else
    let was := s.flag Reg.STP_CTRL_DRV_PARK ch
    let s := s.setFlag Reg.STP_CTRL_DRV_PARK ch false
    ((if was && !s.stepParked ch then s.leaveParked ch else s).showStep ch).answer .done

/-- PARK_SETTLE_END (R416): an input that is still active is a fault now. -/
def State.doSettleEnd (s : State) (ch : Nat) : State :=
  match (s.step ch).settle with
  | some t =>
    let s := (s.waitTill t).onStep ch fun c => { c with settle := none }
    if s.flag Reg.STP_STATUS_FLT ch && !bitOf (s.get Reg.STP_HALT_CAUSES ch) haltDrvflt then s.drvFault ch else s
  | none => s

/-- STP_POS_PRESET (R421): only in DISABLED, IDLE and PARKED. -/
def State.doStepPreset (s : State) (m : Master) (ch : Nat) (v : Int) : State :=
  if !stepWriter m ch then s.answer .busError
  else
    let st := s.stepState ch
    if st = 0 ∨ st = 1 ∨ st = 6 then
      ((s.setS Reg.STP_POS_COUNT ch v).onStep ch fun c => { c with prof := c.prof.rest v }).answer .done
    else (s.cmdRefused ch).answer .done

/-- The inputs and homing set that the installed image gives an axis. -/
def State.axisIo (s : State) (axis : Nat) : Option AxisIoDef :=
  match s.cell with
  | some c => c.axisIo.find? fun d => d.axis == axis
  | none => none

/-- The active level of an input of the axis, where it has the input: 0 POS_LIMIT, 1 NEG_LIMIT, 2 HOME. -/
def axisHas (d : AxisIoDef) (input : Nat) : Option Bool :=
  match input with
  | 0 => if d.hasPos then some d.posHigh else none
  | 1 => if d.hasNeg then some d.negHigh else none
  | _ => if d.hasHome then some d.homeHigh else none

/-- The accepted level of an input, as its bit of the axis input point. -/
def AxisIn.level (a : AxisIn) (input : Nat) : Bool :=
  match input with
  | 0 => a.pos
  | 1 => a.neg
  | _ => a.home

/-- The axis input point: the first point of offsets 0x10 to 0xFF of the axis block whose writer is the GPIO unit
(R423). -/
def State.axisInputPoint (s : State) (axis : Nat) : Option Nat :=
  match s.cell with
  | some c =>
    ((List.range 240).map fun i => 256 * axis + 16 + i).find? fun p =>
      c.pointMap.any fun r => decide (r.first ≤ p ∧ p ≤ r.last) && r.writer == .gpio
  | none => none

/-- The content of the axis input point (R423). -/
def AxisIn.word (a : AxisIn) : Nat :=
  b2n a.pos + 2 * b2n a.neg + 4 * b2n a.home + 8 * b2n a.posChatter + 16 * b2n a.negChatter + 256 * (a.lastInput % 4)
    + 2 ^ 32 * (a.edgeTime % 2 ^ 32)

/-- The axis input point is written. -/
def State.writeAxisInput (s : State) (axis : Nat) : State :=
  match s.axisInputPoint axis with
  | some p => s.putPoint p (s.axisIn.get AxisIn.reset axis).word
  | none => s

/-- A limit input chatters: its fifth accepted edge comes within 50 ms of the first of those five (R424). -/
def chatters (edges : List Nat) : Bool :=
  match edges with
  | [e5, _, _, _, e1] => decide (e5 ≤ e1 + 6250000)
  | _ => false

/-- AXIS_INPUT_EDGE: every sample of the last `us` µs has shown the level; a new level is accepted after `LIMIT_FILT`, its edge
time is that of the first sample (R422 to R424). -/
def State.doInputEdge (s : State) (axis input : Nat) (high : Bool) (us : Nat) : State :=
  let a := s.axisIn.get AxisIn.reset axis
  match (s.axisIo axis).bind fun d => (axisHas d input).map fun act => (d, high == act) with
  | none => s
  | some (d, level) =>
    if a.level input != level && decide (clampN 100 100000 d.filt ≤ us) then
      let a := { a with lastInput := input, edgeTime := s.tb 0 - 1000 * us }
      let edges := fun (l : List Nat) => (s.ticks :: l).take 5
      let a' := match input with
        | 0 => { a with pos := level, posEdges := edges a.posEdges,
                        posChatter := a.posChatter || chatters (edges a.posEdges) }
        | 1 => { a with neg := level, negEdges := edges a.negEdges,
                        negChatter := a.negChatter || chatters (edges a.negEdges) }
        | _ => { a with home := level }
      let rose := (a'.posChatter && !a.posChatter) || (a'.negChatter && !a.negChatter)
      let s := ({ s with axisIn := s.axisIn.put AxisIn.reset axis a' }).raiseIf rose 84
      s.writeAxisInput axis
    else s

/-- CHATTER_CLEAR: 50 ms without an accepted edge (R424). -/
def State.doChatterClear (s : State) (axis : Nat) (neg : Bool) : State :=
  let a := s.axisIn.get AxisIn.reset axis
  if if neg then a.negChatter else a.posChatter then
    let s := s.waitTill (((if neg then a.negEdges else a.posEdges).headD 0) + 6250000)
    let a' := if neg then { a with negChatter := false, negEdges := [] } else { a with posChatter := false, posEdges := [] }
    ({ s with axisIn := s.axisIn.put AxisIn.reset axis a' }).writeAxisInput axis
  else s

/-- STP_NONE. -/
def execStpNone (m : Master) (ch : Fin 32) (s : State) : Host.Outcome State Fault Refusal :=
  s.run fun s => s.doStepCmd m ch.val 0

/-- STP_MOVE. -/
def execStpMove (m : Master) (ch : Fin 32) (s : State) : Host.Outcome State Fault Refusal :=
  s.run fun s => s.doStepCmd m ch.val 1

/-- STP_VELOCITY. -/
def execStpVelocity (m : Master) (ch : Fin 32) (s : State) : Host.Outcome State Fault Refusal :=
  s.run fun s => s.doStepCmd m ch.val 2

/-- STP_STOP. -/
def execStpStop (m : Master) (ch : Fin 32) (s : State) : Host.Outcome State Fault Refusal :=
  s.run fun s => s.doStepCmd m ch.val 3

/-- STP_TRACK. -/
def execStpTrack (m : Master) (ch : Fin 32) (s : State) : Host.Outcome State Fault Refusal :=
  s.run fun s => s.doStepCmd m ch.val 4

/-- STP_ABORT. -/
def execStpAbort (m : Master) (ch : Fin 32) (s : State) : Host.Outcome State Fault Refusal :=
  s.run fun s => s.doStepCmd m ch.val 5

/-- STP_PROFILE_UPDATE. -/
def execStpProfileUpdate (ch : Fin 32) (s : State) : Host.Outcome State Fault Refusal :=
  s.run fun s => s.doProfileUpdate ch.val

/-- STEP_ISSUE. -/
def execStepIssue (ch : Fin 32) (s : State) : Host.Outcome State Fault Refusal := s.run fun s => s.doStepIssue ch.val

/-- DRVFLT_ACCEPT. -/
def execDrvfltAccept (flt : InputRun 32 1001) (s : State) : Host.Outcome State Fault Refusal :=
  s.run fun s => s.doDrvflt flt.input.val flt.high flt.span.val

/-- DRVFLT_RELEASE. -/
def execDrvfltRelease (flt : InputRun 32 1001) (s : State) : Host.Outcome State Fault Refusal :=
  s.run fun s => s.doDrvfltOff flt.input.val flt.high flt.span.val

/-- STP_ENABLE. -/
def execStpEnable (m : Master) (ch : Fin 32) (on : Bool) (s : State) : Host.Outcome State Fault Refusal :=
  s.run fun s => s.doStepEnable m ch.val on

/-- USTEP_ALIGN. -/
def execUstepAlign (m : Master) (ch : Fin 32) (idx : BitVec 13) (s : State) : Host.Outcome State Fault Refusal :=
  s.run fun s => s.doAlign m ch.val idx.toNat

/-- DRV_PARK. -/
def execDrvPark (m : Master) (ch : Fin 32) (on : Bool) (s : State) : Host.Outcome State Fault Refusal :=
  s.run fun s => s.doDrvPark m ch.val on

/-- PARK_SETTLE_END. -/
def execParkSettleEnd (ch : Fin 32) (s : State) : Host.Outcome State Fault Refusal :=
  s.run fun s => s.doSettleEnd ch.val

/-- STP_POS_PRESET. -/
def execStpPosPreset (m : Master) (ch : Fin 32) (v : BitVec 48) (s : State) : Host.Outcome State Fault Refusal :=
  s.run fun s => s.doStepPreset m ch.val v.toInt

/-- AXIS_INPUT_EDGE, with the level and the µs for which it has stood. -/
def execAxisInputEdge (axis : Fin 256) (input : Fin 3) (level : Bool × Fin 100001) (s : State) :
    Host.Outcome State Fault Refusal :=
  s.run fun s => s.doInputEdge axis.val input.val level.1 level.2.val

/-- CHATTER_CLEAR. -/
def execChatterClear (axis : Fin 256) (neg : Bool) (s : State) : Host.Outcome State Fault Refusal :=
  s.run fun s => s.doChatterClear axis.val neg

end Sys2Proof.Machine
end

