-- ==== Sys2Proof/Machine/AxisCore.lean ====
section
/-!
DEFINITION. An axis: its outputs, its faults and their reactions, its motion commands and its points (R279, R280, R291,
R307, R313 to R318).
-/
namespace Sys2Proof.Machine

/-- The installed image binds the axis. -/
def State.bound (s : State) (axis : Nat) : Bool :=
  match s.cell with
  | some c => CellContent.binds c axis
  | none => false

/-- The feedback channel of a local servo or step axis (R17). -/
def axisFb (axis : Nat) : Nat := axis - 192

/-- The arm and joint of an axis, if it is a joint (R15). -/
def CellContent.jointOf (c : CellContent) (axis : Nat) : Option (Nat × Nat) :=
  (c.arms.find? fun a => a.joints.contains axis).map fun a => (a.arm, a.joints.idxOf axis)

/-- The node of a network axis with its uplink and downlink word (R18, R538). -/
def CellContent.nodeOf (c : CellContent) (axis : Nat) : Option (NodeDef × Nat × Nat) :=
  match c.netAxes.find? fun e => e.1 == axis with
  | none => none
  | some e =>
    match c.nodes.find? fun n => n.node == e.2 with
    | none => none
    | some n =>
      match n.up.find? (fun r => r.axis == axis), n.down.find? (fun r => r.axis == axis) with
      | some u, some d => some (n, u.word, d.word)
      | _, _ => none

/-- The position that the loops use, in counts. -/
def State.axisPos (s : State) (axis : Nat) : Rat :=
  match axisKind axis with
  | 0 => (s.ax axis).netPos
  | 1 => (s.pos (axisFb axis) : Rat)
  | _ => (s.stepPos (axis - 224) : Rat)

/-- The speed of the axis in counts/s, as its feedback gives it. -/
def State.axisSpeed (s : State) (axis : Nat) : Rat :=
  match axisKind axis with
  | 0 => (s.ax axis).netVel
  | 1 => (s.fbSpeed (axisFb axis) : Rat) / 65536
  | _ => (s.step (axis - 224)).prof.v

/-- The generator that moves the axis: the step sequencer's for a step axis. -/
def State.axisProf (s : State) (axis : Nat) : Prof :=
  if axisKind axis = 2 then (s.step (axis - 224)).prof else (s.ax axis).prof

/-- A profile is in progress or about to start. -/
def State.axisBusy (s : State) (axis : Nat) : Bool :=
  (s.axisProf axis).busy || (axisKind axis == 2 && (s.step (axis - 224)).cmd.isSome)

/-- The feedback reports standstill. -/
def State.axisStill (s : State) (axis : Nat) : Bool :=
  if axisKind axis = 1 then s.flag Reg.FB_STATUS_STILL (axisFb axis) else decide (s.axisSpeed axis = 0)

/-- The pairs of a local servo axis are forced, or released (R365). -/
def State.forcePairs (s : State) (axis : Nat) (on : Bool) : State :=
  (axisPairs axis).foldl (fun s p => s.setForce p s.fineNow on) s

/-- The outputs of the axis go off: pairs in their safe state, or driver off (R313). The drive enable of a network axis
is 0 from its next control word on. -/
def State.outputsOff (s : State) (axis : Nat) : State :=
  let s := s.forcePairs axis true
  (axisStep axis).foldl (fun s ch =>
    let s := if s.driveOn ch then s.setHalt ch haltAbort true else s
    s.writeEnable ch false) s

/-- The axis becomes disabled. -/
def State.axisDisable (s : State) (axis : Nat) : State :=
  let p := s.axisPos axis
  (s.onAx axis fun a =>
    { a with enabled := false, jog := false, reaction := 0, disabling := false, homing := none, following := false,
             prof := a.prof.rest p, spV := 0, spA := 0, velRef := 0, torque := 0, inPosAt := none, owedVel := false,
             owedPos := false }).outputsOff axis

/-- The axis becomes enabled without a bump (R291, R318): the first period of each loop takes its measurement as the last
one too. -/
def State.axisEnable (s : State) (axis : Nat) : State :=
  let p := s.axisPos axis
  let z := LoopState.reset
  let s := s.onAx axis fun a =>
    { a with enabled := true, reaction := 0, disabling := false, jog := false, homing := none, following := false, stayed := false,
             spP := p, spV := 0, spA := 0, err := 0, pos := z, vel := z, curQ := z, curD := z, prof := a.prof.rest p,
             lastPos := p, lastTime := s.ticks, velTime := s.ticks, inPosAt := none, misses := 0, held := 0, noted := 0 }
  let s := s.forcePairs axis false
  (axisStep axis).foldl (fun s ch => s.writeEnable ch true) s

/-- The soft limits. -/
def State.softLimits (s : State) (axis : Nat) : Int × Int := (s.paramS axis 0x70, s.paramS axis 0x71)

/-- A limit of the move in progress: the configured one, or a smaller one given with the move. -/
def capped (conf given : Nat) : Nat := if given = 0 then conf else min conf given

/-- The deceleration of the axis's generator, in 10 counts/s²: `DECEL`, or what the running stop uses (R296). -/
def State.axisDecel (s : State) (axis : Nat) : Nat :=
  match (s.axisProf axis).kind with
  | .stop _ => s.param axis (s.ax axis).stopParam
  | _ => s.param axis 0x62

/-- The limits of the axis's generator, in counts/s, counts/s² and counts/s³; a running stop follows its parameter
(R296). -/
def State.axisLimits (s : State) (axis : Nat) (q : Prof) : Prof :=
  let a := s.ax axis
  let vel := capped (s.param axis 0x60) a.mvVel
  let acc := 10 * capped (s.param axis 0x61) a.mvAcc
  let dec := 10 * s.param axis 0x62
  let decMax := 10 * s.param axis 0x63
  let jerk := 1000 * capped (s.param axis 0x64) a.mvJerk
  let q := match q.kind with
    | .stop _ => { q with kind := .stop (10 * s.param axis a.stopParam) }
    | _ => q
  if q.vel = vel ∧ q.acc = acc ∧ q.dec = dec ∧ q.decMax = decMax ∧ q.jerk = jerk then q
  else q.limits vel acc dec decMax jerk

/-- The master that stands for the engine of an axis. -/
def axisMaster (axis : Nat) : Master := .jce (Fin.ofNat 64 (axisEngine axis))

/-- The staged registers of a step channel take the axis's limits, with `dec` in 10 steps/s² for a stop (R408). -/
def State.stageStep (s : State) (axis dec : Nat) : State :=
  let ch := axis - 224
  let a := s.ax axis
  let s := s.set Reg.STP_LIM_V_VEL ch (capped (s.param axis 0x60) a.mvVel)
  let s := s.set Reg.STP_LIM_V_ACCEL ch (capped (s.param axis 0x61) a.mvAcc)
  let s := (s.set Reg.STP_LIM_D_DECEL ch dec).set Reg.STP_LIM_D_DECEL_MAX ch (s.param axis 0x63)
  s.set Reg.STP_LIM_J_JERK ch (capped (s.param axis 0x64) a.mvJerk)

/-- Gives the axis's generator a command; a step axis passes it to its sequencer (R283, R408). -/
def State.axisCommand (s : State) (axis : Nat) (k : ProfKind) : State :=
  if axisKind axis = 2 then
    let ch := axis - 224
    let m := axisMaster axis
    let b := s.bus
    let s := match k with
      | .move target =>
        ((s.stageStep axis (s.param axis 0x62)).setS Reg.STP_TARGET_TARGET ch target).doStepCmd m ch 1
      | .velocity w =>
        ((s.stageStep axis (s.param axis 0x62)).setS Reg.STP_TVEL_TVEL ch w).doStepCmd m ch 2
      | .stop d => (s.stageStep axis (d / 10)).doStepCmd m ch 3
      | _ => s
    { s with bus := b }
  else s.onAx axis fun a => { a with prof := (s.axisLimits axis a.prof).command k }

/-- An axis that follows the trajectory passes to its generator at the last interpolated set-points (R307). -/
def State.leaveTrajectory (s : State) (axis : Nat) : State :=
  if (s.ax axis).following then
    s.onAx axis fun a => { a with following := false, prof := { a.prof.rest a.spP with v := a.spV, a := a.spA } }
  else s

/-- A fresh command of the axis: the limits given with it, the jog mark, whether homing goes on. -/
def State.axisStart (s : State) (axis : Nat) (k : ProfKind) (vel acc jerk : Nat) (jog : Bool) : State :=
  ((s.leaveTrajectory axis).onAx axis fun a =>
    { a with mvVel := vel, mvAcc := acc, mvJerk := jerk, jog := jog }).axisCommand axis k

/-- A stop with a deceleration parameter (R295, R313). -/
def State.axisStop (s : State) (axis decParam : Nat) : State :=
  (s.onAx axis fun a => { a with stopParam := decParam }).axisStart axis (.stop (10 * s.param axis decParam)) 0 0 0 false

/-- The reaction of a fault bit (R313): 1 RAMP_STOP, 2 QUICK_STOP, 3 OUTPUTS_OFF, 0 none. -/
def faultReaction (bit : Nat) : Nat :=
  match bit with
  | 0 => 2 | 1 => 3 | 2 => 3 | 3 => 3 | 4 => 3 | 5 => 3 | 6 => 2 | 7 => 2 | 8 => 2 | 9 => 2 | 10 => 3
  | 13 => 1 | 14 => 2 | 15 => 2 | 16 => 3
  | _ => 0

/-- A reaction runs at least at severity `r`; one that needs a faulted feedback becomes OUTPUTS_OFF (R314). -/
def State.react (s : State) (axis r : Nat) : State :=
  let a := s.ax axis
  let blind := bitOf a.faults 1 || bitOf a.faults 2
  let r := if (r = 1 ∨ r = 2) ∧ blind = true then 3 else r
  if !a.enabled || decide (r ≤ a.reaction) then s
  else if r = 3 then (s.axisDisable axis).onAx axis fun a => { a with reaction := 3 }
  else
    let s := s.onAx axis fun a => { a with reaction := r, homing := none }
    s.axisStop axis (if r = 1 then 0x65 else 0x63)

/-- The axis lies beyond a soft limit and moves back towards the allowed side. -/
def State.movesBack (s : State) (axis : Nat) : Bool :=
  let p := s.axisPos axis
  let v := if (s.axisProf axis).v = 0 then s.axisSpeed axis else (s.axisProf axis).v
  let l := s.softLimits axis
  (decide ((l.2 : Rat) < p) && decide (v < 0)) || (decide (p < (l.1 : Rat)) && decide (0 < v))

/-- A fault bit latches in the fault word and triggers its reaction (R313, R314); a motion back towards the allowed side
is no motion that `SOFT_LIMIT` stops (DEDUCED, log entry 63). In RUN the fault of an enabled axis that follows the trajectory
is fault cause 0x0009 (R155). -/
def State.latchFault (s : State) (axis bit : Nat) : State :=
  let a := s.ax axis
  if bitOf a.faults bit then s
  else
    let was := a.enabled
    let s := s.onAx axis fun a =>
      { a with faults := a.faults + 2 ^ bit, first := if a.faults = 0 then bit else a.first }
    let s := if bit = 6 && s.movesBack axis then s else s.react axis (faultReaction bit)
    let s := if bit = 11 then s.onAx axis fun a => { a with enabled := false } else s
    if was && a.traj && s.mode.mode == .run then s.latchCause 9 else s

/-- Latches `bit` when `b` holds. -/
def State.faultIf (s : State) (axis : Nat) (b : Bool) (bit : Nat) : State := if b then s.latchFault axis bit else s

/-- The axis input point as the kernel reads it (R423). -/
def State.axisInputs (s : State) (axis : Nat) : Nat :=
  match s.axisInputPoint axis with
  | some p => (s.points.get 0 p).toNat
  | none => 0

/-- A limit is active on the side towards which the axis moves (R425). -/
def State.limitAhead (s : State) (axis : Nat) : Bool :=
  let w := s.axisInputs axis
  let v := if (s.axisProf axis).v = 0 then s.axisSpeed axis else (s.axisProf axis).v
  (decide (0 < v) && bitOf w 0) || (decide (v < 0) && bitOf w 1)

/-- The position lies beyond a soft limit, or the axis overshoots towards it (R298, R313). -/
def State.softBeyond (s : State) (axis : Nat) : Bool :=
  let p := s.axisPos axis
  let l := s.softLimits axis
  decide ((l.2 : Rat) < p) || decide (p < (l.1 : Rat)) || ((s.axisProf axis).softHit && (s.axisProf axis).passing)

/-- The state word of an axis (R279). -/
def State.statusWord (s : State) (axis : Nat) : Nat :=
  let a := s.ax axis
  let q := s.axisProf axis
  let busy := s.axisBusy axis
  b2n a.enabled + 2 * b2n (busy || (a.following && a.spV != 0))
    + 4 * b2n (match a.inPosAt with
        | some t => !busy && decide (t + 125 * s.param axis 0x74 ≤ s.ticks)
        | none => false)
    + 8 * b2n a.homed + 16 * b2n a.traj + 32 * b2n (s.axisStill axis) + 64 * b2n q.raised + 128 * b2n q.passed
    + 256 * b2n (match q.kind with
        | .stop _ => true
        | _ => false)
    + 512 * b2n (a.faults != 0) + 1024 * b2n a.bankHold + 2048 * b2n a.missed + 4096 * b2n a.outSat
    + 8192 * b2n a.frozen + 16384 * b2n (s.kernelOverruns.get 0 (axisEngine axis) != 0) + 32768 * b2n a.jog
    + 2 ^ 24 * (a.first % 32) + 2 ^ 29 * (a.reaction % 8)

/-- A number as Q47.16 in 64 bits. -/
def q16 (x : Rat) : Nat := ofS 64 (x * 65536 + 1 / 2).floor

/-- A per-unit number as Q3.28, sign-extended to 64 bits. -/
def q28 (x : Rat) : Nat := ofS 64 (x * (2 ^ 28 : Nat) + 1 / 2).floor

/-- Position and speed of an axis at the last common instant. -/
def State.axisSnap (s : State) (axis : Nat) : Rat × Rat :=
  let a := s.ax axis
  match axisKind axis with
  | 0 => (a.netPos, a.netVel)
  | 1 => ((s.getS Reg.SNAP_POS_COUNT (axisFb axis) : Rat), (s.getS Reg.SNAP_SPEED_VALUE (axisFb axis) : Rat) / 65536)
  | _ => (a.snapPos, a.snapVel)

/-- Points 0x03 and 0x04 (R20, R279): the velocity set-point, which is the reference handed to the drive in velocity mode
(DEDUCED, log entry 64), and the torque or q-axis current set-point. -/
def State.setPoints (s : State) (axis : Nat) : State :=
  let a := s.ax axis
  let net := decide (axisKind axis = 0 ∧ s.param axis 2 = 1)
  let tq : Rat := match axisKind axis with
    | 0 => if net then 0 else a.torque
    | 1 => s.gain axis 0x37 * a.torque
    | _ => 0
  (s.putPoint (256 * axis + 3) (q16 (if net then a.velRef else a.spV))).putPoint (256 * axis + 4) (q28 tq)

/-- The kernel writes the eight fixed points of an axis block (R20, R279). -/
def State.axisPoints (s : State) (axis : Nat) : State :=
  let a := s.ax axis
  let b := 256 * axis
  let pv := s.axisSnap axis
  let s := ((s.putPoint b (q16 pv.1)).putPoint (b + 1) (q16 pv.2)).putPoint (b + 2) (q16 a.spP)
  let s := (s.setPoints axis).putPoint (b + 5) (q16 a.err)
  (s.putPoint (b + 6) (s.statusWord axis)).putPoint (b + 7) a.faults

/-- The status and fault words alone, on a change (R20). -/
def State.axisWords (s : State) (axis : Nat) : State :=
  (s.putPoint (256 * axis + 6) (s.statusWord axis)).putPoint (256 * axis + 7) (s.ax axis).faults

/-- Ranger passes a command through the command words 0x01F0 to 0x01FF, whose layout the manual does not give (R274). -/
def State.passCommand (s : State) (axis : Nat) : State :=
  (List.range 16).foldl (fun s i => s.tookFree.putParam axis (0x1F0 + i) s.free) s

end Sys2Proof.Machine
end

