-- ==== Sys2Proof/Machine/SafetySet.lean ====
section
/-!
DEFINITION. Safety parameter sets: layout and CRC (R488, R489), the parameters (R490, R491) and the checks of R493.
-/
namespace Sys2Proof

/-- A parameter of R491: number, range, step, whether 0 is excluded, default (none for "—"). -/
structure SafeParam where
  number : Nat
  lo : Int
  hi : Int
  step : Nat
  nonzero : Bool
  dflt : Option Int
deriving DecidableEq, Repr, Inhabited

/-- A parameter in steps of 1. -/
def safeRow (number : Nat) (lo hi dflt : Int) : SafeParam :=
  { number := number, lo := lo, hi := hi, step := 1, nonzero := false, dflt := some dflt }

/-- A parameter in larger steps. -/
def safeStep (number : Nat) (lo hi : Int) (step : Nat) (dflt : Int) : SafeParam :=
  { safeRow number lo hi dflt with step := step }

/-- A parameter without a default. -/
def safeNeed (number : Nat) (lo hi : Int) : SafeParam := { safeRow number lo hi 0 with dflt := none }

/-- The least s32. -/
def s32Lo : Int := -(2 ^ 31)

/-- The greatest s32. -/
def s32Hi : Int := 2 ^ 31 - 1

/-- The greatest u32. -/
def u32Hi : Int := 2 ^ 32 - 1

/-- Input pairs, TPS, safe outputs, EDM. -/
def safeIo : List SafeParam :=
  [safeRow 0x0101 0 2 0, safeRow 0x0102 0 8 0, safeRow 0x0103 0 8 0, safeStep 0x0104 250 20000 250 1000,
   safeRow 0x0105 1 500 50, safeRow 0x0106 0 5 0, safeRow 0x0107 0 0xFFFF 0xFFFF,
   safeRow 0x0201 0 1 0, safeStep 0x0202 500 1000 250 500, safeStep 0x0203 0 1000 250 0, safeRow 0x0204 100 60000 1000,
   safeRow 0x0301 0 1 0, safeRow 0x0302 0 3 0, safeRow 0x0303 0 0xFFFF 0xFFFF, safeRow 0x0304 0 1 0,
   safeStep 0x0305 250 1000 250 500, safeRow 0x0306 100 60000 1000, safeStep 0x0307 250 5000 250 1000,
   safeRow 0x0401 0 1 0, safeRow 0x0402 10 1000 200]

/-- Axes. -/
def safeAxis : List SafeParam :=
  [safeRow 0x0501 0 4 0, safeRow 0x0502 0 0xBFF 0xFF, { safeNeed 0x0503 s32Lo s32Hi with nonzero := true },
   safeRow 0x0504 s32Lo s32Hi 0, safeRow 0x0505 0 255 0, safeRow 0x0506 0 59 0, safeRow 0x0507 1 u32Hi u32Hi,
   safeRow 0x0508 1 u32Hi u32Hi, safeRow 0x0509 1 u32Hi u32Hi, safeStep 0x050A 500 8000 500 2000,
   safeRow 0x050B 1 u32Hi 4096, safeRow 0x050C 1 u32Hi 10000, safeRow 0x050D 1 100 4, safeRow 0x050E 0 100 20,
   safeRow 0x050F 0 (2 ^ 31) 0, safeRow 0x0510 1 u32Hi 1, safeRow 0x0511 0 (2 ^ 31) 0, safeRow 0x0512 1 1000 10]

/-- The fields of the joints of an arm: `TYPE`, `A`, `ALPHA`, `D`, `THETA`. -/
def safeJoints : List SafeParam :=
  (List.range 12).flatMap fun j =>
    safeRow (0x0610 + 8 * j) 0 1 0 :: (List.range 4).map fun f => safeRow (0x0611 + 8 * j + f) s32Lo s32Hi 0

/-- Arms. -/
def safeArm : List SafeParam :=
  [safeNeed 0x0601 1 12, safeRow 0x0602 s32Lo s32Hi 0, safeRow 0x0603 s32Lo s32Hi 0, safeRow 0x0604 s32Lo s32Hi 0,
   safeRow 0x0605 s32Lo s32Hi 0, safeRow 0x0606 s32Lo s32Hi 0, safeRow 0x0607 s32Lo s32Hi 0,
   safeRow 0x0608 s32Lo s32Hi 0, safeRow 0x0609 0 100 20, safeRow 0x060A 100 100000 5000, safeRow 0x060B 0 1 1,
   safeRow 0x060C 0 500 20, safeRow 0x060D 0 500 20, safeRow 0x060E 100 100000 5000] ++ safeJoints

/-- Capsules, the cell, connections. -/
def safeCell : List SafeParam :=
  [safeNeed 0x0701 0 11, safeNeed 0x0702 s32Lo s32Hi, safeNeed 0x0703 s32Lo s32Hi, safeNeed 0x0704 s32Lo s32Hi,
   safeNeed 0x0705 s32Lo s32Hi, safeNeed 0x0706 s32Lo s32Hi, safeNeed 0x0707 s32Lo s32Hi, safeNeed 0x0708 1 5000000,
   safeRow 0x0801 1 10000 1500, safeRow 0x0802 1 10000 500, safeRow 0x0803 1 250 250, safeRow 0x0804 0 10000 500,
   safeNeed 0x0805 0 1000, safeRow 0x0806 100 30000 2000, safeRow 0x0807 300 3000 1600, safeRow 0x0808 0 1000 100,
   safeRow 0x0809 0 500 100, safeRow 0x080A 0 1000 200, safeRow 0x080B 0 2500 2000, safeRow 0x080C 0 5000 300,
   safeRow 0x080D 50 1000 1000,
   safeNeed 0x0901 0 u32Hi, safeNeed 0x0902 1 65535, safeNeed 0x0903 1 60, safeRow 0x0904 0 31 0,
   safeNeed 0x0905 0 1000000, safeNeed 0x0906 0 1000000, safeNeed 0x0907 0 1000000]

/-- Every parameter, in rising order of its number. -/
def safeTable : List SafeParam := safeIo ++ safeAxis ++ safeArm ++ safeCell

/-- The row of a number. -/
def safeParam (number : Nat) : Option SafeParam := safeTable.find? fun p => p.number == number

/-- The instances of a group (R490). -/
def safeInstances (group : Nat) : Nat :=
  match group with
  | 1 => 16 | 2 => 8 | 3 => 16 | 4 => 16 | 5 => 256 | 6 => 16 | 7 => 192 | 8 => 1 | 9 => 272
  | _ => 0

/-- The number that a `VALUE` holds: two's complement where the range has negative numbers. -/
def SafeParam.signedValue (p : SafeParam) (value : Nat) : Int := if p.lo < 0 then toS 32 value else value

/-- The value of a parameter of an object, or its default. -/
def SafetySet.get (s : SafetySet) (number inst : Nat) : Int :=
  match safeParam number with
  | none => 0
  | some p =>
    match s.records.find? fun r => r.number == number && r.inst == inst with
    | some r => p.signedValue r.value
    | none => p.dflt.getD 0

/-- The same as a natural number. -/
def SafetySet.nat (s : SafetySet) (number inst : Nat) : Nat := (s.get number inst).toNat

/-- The record is present. -/
def SafetySet.has (s : SafetySet) (number inst : Nat) : Bool :=
  s.records.any fun r => r.number == number && r.inst == inst

/-- An object is in use when a parameter of it is present (R491). -/
def SafetySet.inUse (s : SafetySet) (group inst : Nat) : Bool :=
  s.records.any fun r => r.number / 256 == group && r.inst == inst

/-- The instances of a group that are in use. -/
def SafetySet.used (s : SafetySet) (group : Nat) : List Nat :=
  (List.range (safeInstances group)).filter fun i => s.inUse group i

/-- The bytes of a record. -/
def SafetyRecord.bytes (r : SafetyRecord) : List Byte := leBytes 2 r.number ++ leBytes 2 r.inst ++ leBytes 4 r.value

/-- The header bytes before the CRC. -/
def SafetySet.header (s : SafetySet) : List Byte :=
  leBytes 4 0x53505346 ++ leBytes 2 1 ++ zeros 2 ++ leBytes 4 s.records.length ++ leBytes 4 s.version
    ++ leBytes 1 s.origin ++ zeros 11

/-- The set CRC (R489). -/
def SafetySet.computeCrc (s : SafetySet) : Nat := crcSafe (s.header ++ s.records.flatMap SafetyRecord.bytes)

/-- The bytes of a set (R488). -/
def SafetySet.bytes (s : SafetySet) : List Byte := s.header ++ leBytes 4 s.crc ++ s.records.flatMap SafetyRecord.bytes

/-- The records of `n` groups of 8 bytes. -/
def safetyRecords : Nat → List Byte → List SafetyRecord
  | 0, _ => []
  | n + 1, b => { number := uAt b 0 2, inst := uAt b 2 2, value := uAt b 4 4 } :: safetyRecords n (b.drop 8)

/-- The set that bytes hold; none for a header fault (R492). -/
def SafetySet.parse (b : List Byte) : Option SafetySet :=
  let n := uAt b 8 4
  if 32 ≤ b.length ∧ uAt b 0 4 = 0x53505346 ∧ uAt b 4 2 = 1 ∧ uAt b 6 2 = 0 ∧ 1 ≤ n ∧ n ≤ 32764 ∧ b.length = 32 + 8 * n
      ∧ uAt b 16 1 ≤ 1 ∧ uAt b 17 11 = 0 then
    some { version := uAt b 12 4, origin := uAt b 16 1, records := safetyRecords n (b.drop 32), crc := uAt b 28 4 }
  else none

/-- The order of records: by number, then by instance. -/
def safeKey (number inst : Nat) : Nat := number * 65536 + inst

/-- The key of a record. -/
def SafetyRecord.key (r : SafetyRecord) : Nat := safeKey r.number r.inst

/-- Check 1: the first record, in the order sent, that is out of order or a duplicate. -/
def checkOrder : List SafetyRecord → Option Nat
  | a :: b :: r => if a.key < b.key then checkOrder (b :: r) else some b.key
  | _ => none

/-- The sources that an axis can have (R491). -/
def sourceFits (axis source : Nat) : Bool :=
  match source with
  | 0 => true
  | 1 => decide (192 ≤ axis ∧ axis < 224)
  | 2 => decide (224 ≤ axis)
  | 3 => decide (224 ≤ axis)
  | _ => decide (axis < 192)

/-- A `JOINT` value: a joint 0 to 11 of an arm 0 to 15, or a free axis. -/
def jointFits (v : Nat) : Bool := decide (v / 256 < 12 ∧ (v % 256 < 16 ∨ v % 256 = 255))

/-- A connection parameter of the kind of its connection. -/
def connFits (number inst : Nat) (v : Int) : Bool :=
  let sensor := decide (256 ≤ inst)
  match number with
  | 0x0903 => !sensor || decide (v ≤ 32)
  | 0x0904 => sensor
  | 0x0905 => sensor
  | 0x0906 => sensor
  | 0x0907 => !sensor
  | _ => true

/-- A record is known and in range (check 2). -/
def SafetyRecord.fits (r : SafetyRecord) : Bool :=
  match safeParam r.number with
  | none => false
  | some p =>
    let v := p.signedValue r.value
    decide (r.inst < safeInstances (r.number / 256)) && decide (p.lo ≤ v ∧ v ≤ p.hi) && decide (v % p.step = 0)
      && !(p.nonzero && v == 0) && (r.number != 0x0501 || sourceFits r.inst r.value)
      && (r.number != 0x0502 || jointFits r.value) && connFits r.number r.inst v

/-- The lowest key of a list. -/
def lowest (l : List Nat) : Option Nat := l.foldl (fun m k => match m with
  | none => some k
  | some m => some (min m k)) none

/-- Check 2: the lowest failing record. -/
def SafetySet.checkRange (s : SafetySet) : Option Nat :=
  lowest ((s.records.filter fun r => !r.fits).map SafetyRecord.key)

/-- A sensor connection is in use. -/
def SafetySet.sensors (s : SafetySet) : List Nat := (s.used 9).filter fun c => 256 ≤ c

/-- The node connections in use. -/
def SafetySet.drives (s : SafetySet) : List Nat := (s.used 9).filter fun c => c < 256

/-- The parameter without a default is required of the object. -/
def SafetySet.needed (s : SafetySet) (number inst : Nat) : Bool :=
  match number with
  | 0x0805 => !s.sensors.isEmpty
  | 0x0905 => decide (256 ≤ inst)
  | 0x0906 => decide (256 ≤ inst)
  | 0x0907 => decide (inst < 256)
  | _ => true

/-- The objects of which check 3 requires a parameter: those in use, and the cell for `TR`. -/
def SafetySet.objects (s : SafetySet) (number : Nat) : List Nat :=
  if number = 0x0805 then [0] else s.used (number / 256)

/-- Check 3: the lowest missing parameter. -/
def SafetySet.checkPresent (s : SafetySet) : Option Nat :=
  lowest ((safeTable.filter fun p => p.dflt.isNone).flatMap fun p =>
    ((s.objects p.number).filter fun i => s.needed p.number i && !s.has p.number i).map fun i => safeKey p.number i)

/-- Check 4: the pair rules of R442. -/
def SafetySet.checkPairs (s : SafetySet) : Option Nat :=
  let shared := (List.range 16).filter fun n =>
    let a := s.get 0x0102 n
    let b := s.get 0x0103 n
    (s.get 0x0101 n == 1 && a != 0 && a == b) || (s.get 0x0101 n == 2 && b != 0)
  let off := (List.range 16).filter fun n => s.get 0x0101 n == 0 && s.get 0x0106 n != 0
  lowest (shared.map (safeKey 0x0103) ++ off.map (safeKey 0x0106))

/-- Check 5: every capsule names a joint of its arm. -/
def SafetySet.checkCapsules (s : SafetySet) : Option Nat :=
  lowest (((s.used 7).filter fun c => !decide (s.get 0x0701 c < s.get 0x0601 (c / 12))).map (safeKey 0x0701))

/-- The last track slot of a sensor connection, plus 1. -/
def SafetySet.slotEnd (s : SafetySet) (c : Nat) : Nat := s.nat 0x0904 c + s.nat 0x0903 c

/-- Check 6: the track slots of the sensors. -/
def SafetySet.checkSlots (s : SafetySet) : Option Nat :=
  let l := s.sensors
  lowest ((l.filter fun c => decide (32 < s.slotEnd c) || l.any fun d =>
    decide (c < d ∧ s.nat 0x0904 c < s.slotEnd d ∧ s.nat 0x0904 d < s.slotEnd c)).map (safeKey 0x0904))

/-- The longest STO path of R485 in ns, T_DRV included. -/
def SafetySet.stoPath (s : SafetySet) : Nat :=
  s.drives.foldl (fun m c => max m (2000 * s.nat 0x080D 0 + 1000 * s.nat 0x0907 c)) 200

/-- Check 7: `TR` meets the "Separation to stop" sum of every sensor (R485). -/
def SafetySet.checkBudget (s : SafetySet) : Option Nat :=
  if s.sensors.any fun c =>
      decide (1000000 * s.nat 0x0805 0 < 1000 * (s.nat 0x0905 c + s.nat 0x0906 c) + 1500000 + s.stoPath)
  then some (safeKey 0x0805 0) else none

/-- The first failure of R493: (`NUMBER` << 16) + `INSTANCE`. -/
def SafetySet.invalid (s : SafetySet) : Option Nat :=
  (checkOrder s.records).or (s.checkRange.or (s.checkPresent.or (s.checkPairs.or (s.checkCapsules.or
    (s.checkSlots.or s.checkBudget)))))

end Sys2Proof
end

