-- ==== Sys2Proof/Machine/Sha3.lean ====
section
/-!
DEFINITION. SHA3-256, which the manual uses for digests (R432, R496, R505, R599, R714): Keccak-f[1600] on 25 lanes of 64
bits, rate 136 bytes.
-/
namespace Sys2Proof

/-- Lane `i` of a Keccak state. -/
def lane (a : List Word64) (i : Nat) : Word64 := a.getD i 0

/-- `x` rotated to the left by `n`. -/
def rotl64 (x : Word64) (n : Nat) : Word64 := x.rotateLeft n

/-- The rotation of each lane, lane `x + 5 y` at its own place. -/
def keccakRot : List Nat :=
  [0, 1, 62, 28, 27, 36, 44, 6, 55, 20, 3, 10, 43, 25, 39, 41, 45, 15, 21, 8, 18, 2, 61, 56, 14]

/-- The constants of the 24 rounds. -/
def keccakRound : List Word64 :=
  [0x1, 0x8082, 0x800000000000808A, 0x8000000080008000, 0x808B, 0x80000001, 0x8000000080008081, 0x8000000000008009,
   0x8A, 0x88, 0x80008009, 0x8000000A, 0x8000808B, 0x800000000000008B, 0x8000000000008089, 0x8000000000008003,
   0x8000000000008002, 0x8000000000000080, 0x800A, 0x800000008000000A, 0x8000000080008081, 0x8000000000008080,
   0x80000001, 0x8000000080008008]

/-- The parity of column `x`. -/
def keccakColumn (a : List Word64) (x : Nat) : Word64 :=
  lane a x ^^^ lane a (x + 5) ^^^ lane a (x + 10) ^^^ lane a (x + 15) ^^^ lane a (x + 20)

/-- One round. -/
def keccakStep (a : List Word64) (rc : Word64) : List Word64 :=
  let c := (List.range 5).map (keccakColumn a)
  let d := (List.range 5).map fun x => lane c ((x + 4) % 5) ^^^ rotl64 (lane c ((x + 1) % 5)) 1
  let t := (List.range 25).map fun i => rotl64 (lane a i ^^^ lane d (i % 5)) (keccakRot.getD i 0)
  let b := (List.range 25).map fun i => lane t ((i % 5 + 3 * (i / 5)) % 5 + 5 * (i % 5))
  let e := (List.range 25).map fun i =>
    lane b i ^^^ (~~~ lane b ((i % 5 + 1) % 5 + 5 * (i / 5)) &&& lane b ((i % 5 + 2) % 5 + 5 * (i / 5)))
  match e with
  | [] => []
  | z :: r => (z ^^^ rc) :: r

/-- The permutation. -/
def keccakF (a : List Word64) : List Word64 := keccakRound.foldl keccakStep a

/-- The 17 lanes of a block of 136 bytes are absorbed. -/
def keccakAbsorb (a : List Word64) (block : List Byte) : List Word64 :=
  keccakF ((List.range 25).map fun i => lane a i ^^^ BitVec.ofNat 64 (uAt block (8 * i) 8))

/-- The blocks of a message, at most `n` of them. -/
def keccakBlocks : Nat → List Byte → List (List Byte)
  | 0, _ => []
  | n + 1, m => if m.isEmpty then [] else m.take 136 :: keccakBlocks n (m.drop 136)

/-- A message with its padding. -/
def sha3Pad (m : List Byte) : List Byte :=
  let r := 136 - m.length % 136
  if r = 1 then m ++ [0x86] else m ++ 0x06 :: zeros (r - 2) ++ [0x80]

/-- The blocks of a padded message are absorbed, and 32 bytes are taken. -/
def keccakHash (p : List Byte) : List Byte :=
  let a := (keccakBlocks (p.length / 136) p).foldl keccakAbsorb (List.replicate 25 0)
  ((List.range 4).flatMap fun i => leBytes 8 (lane a i).toNat)

/-- SHA3-256 of a message, as its 32 bytes. -/
def sha3 (m : List Byte) : List Byte :=
  keccakHash (sha3Pad m)

/-- `left_encode` of a number below 65,536. -/
def leftEncode (n : Nat) : List Byte :=
  if n < 256 then [1, BitVec.ofNat 8 n] else [2, BitVec.ofNat 8 (n / 256), BitVec.ofNat 8 n]

/-- A string with its length in bits. -/
def encodeString (m : List Byte) : List Byte := leftEncode (8 * m.length) ++ m

/-- `bytepad` to the rate of 136 bytes. -/
def bytepad136 (m : List Byte) : List Byte :=
  let b := leftEncode 136 ++ m
  b ++ zeros ((136 - b.length % 136) % 136)

/-- A cSHAKE message with its padding. -/
def shakePad (m : List Byte) : List Byte :=
  let r := 136 - m.length % 136
  if r = 1 then m ++ [0x84] else m ++ 0x04 :: zeros (r - 2) ++ [0x80]

/-- KMAC256 of a message under a key, 256 bits long, with a customisation string (R60). -/
def kmac256 (key m custom : List Byte) : List Byte :=
  let name : List Byte := [0x4B, 0x4D, 0x41, 0x43]
  let x := bytepad136 (encodeString key) ++ m ++ [0x01, 0x00, 0x02]
  keccakHash (shakePad (bytepad136 (encodeString name ++ encodeString custom) ++ x))

/-- The customisation string of management datagrams, "TYV-1690 MGMT". -/
def mgmtString : List Byte := [0x54, 0x59, 0x56, 0x2D, 0x31, 0x36, 0x39, 0x30, 0x20, 0x4D, 0x47, 0x4D, 0x54]

end Sys2Proof
end

