-- ==== Sys2Proof/Machine/CalCore.lean ====
section
/-!
DEFINITION. Caldera's parts and its demands: input channels, axes and arms as it holds them, STO on an axis (R471), stop
demands (R468, R469), diagnostics (R440), the change log (R505, R506).
-/
namespace Sys2Proof.Machine

/-- Changes Caldera. -/
def State.onCal (s : State) (f : CalState → CalState) : State := { s with cal := f s.cal }

/-- Input channel `c`. -/
def State.chan (s : State) (c : Nat) : CalChan := s.cal.chans.get CalChan.reset c

/-- Changes an input channel. -/
def State.onChan (s : State) (c : Nat) (f : CalChan → CalChan) : State :=
  s.onCal fun k => { k with chans := k.chans.put CalChan.reset c (f (k.chans.get CalChan.reset c)) }

/-- Input pair `n`. -/
def State.calPair (s : State) (n : Nat) : CalPair := s.cal.pairs.get ⟨0, false⟩ n

/-- Changes an input pair. -/
def State.onCalPair (s : State) (n : Nat) (f : CalPair → CalPair) : State :=
  s.onCal fun k => { k with pairs := k.pairs.put ⟨0, false⟩ n (f (k.pairs.get ⟨0, false⟩ n)) }

/-- Test-pulse output `t`. -/
def State.calTps (s : State) (t : Nat) : CalTps := s.cal.tps.get CalTps.reset t

/-- Changes a test-pulse output. -/
def State.onTps (s : State) (t : Nat) (f : CalTps → CalTps) : State :=
  s.onCal fun k => { k with tps := k.tps.put CalTps.reset t (f (k.tps.get CalTps.reset t)) }

/-- Safe output `n`. -/
def State.calOut (s : State) (n : Nat) : CalOut := s.cal.outs.get CalOut.reset n

/-- Changes a safe output. -/
def State.onOut (s : State) (n : Nat) (f : CalOut → CalOut) : State :=
  s.onCal fun k => { k with outs := k.outs.put CalOut.reset n (f (k.outs.get CalOut.reset n)) }

/-- Axis `a` as Caldera sees it. -/
def State.calAx (s : State) (a : Nat) : CalAxis := s.cal.axes.get CalAxis.reset a

/-- Changes an axis. -/
def State.onCalAx (s : State) (a : Nat) (f : CalAxis → CalAxis) : State :=
  s.onCal fun k => { k with axes := k.axes.put CalAxis.reset a (f (k.axes.get CalAxis.reset a)) }

/-- Arm `g`. -/
def State.calArm (s : State) (g : Nat) : CalArm := s.cal.arms.get CalArm.reset g

/-- Changes an arm. -/
def State.onArm (s : State) (g : Nat) (f : CalArm → CalArm) : State :=
  s.onCal fun k => { k with arms := k.arms.put CalArm.reset g (f (k.arms.get CalArm.reset g)) }

/-- Connection `c`. -/
def State.conn (s : State) (c : Nat) : CalConn := s.cal.conns.get CalConn.reset c

/-- Changes a connection. -/
def State.onConn (s : State) (c : Nat) (f : CalConn → CalConn) : State :=
  s.onCal fun k => { k with conns := k.conns.put CalConn.reset c (f (k.conns.get CalConn.reset c)) }

/-- A parameter of the set in force; 0 without a set. -/
def State.safe (s : State) (number inst : Nat) : Nat :=
  match s.cal.set with
  | some p => p.nat number inst
  | none => 0

/-- The same, signed. -/
def State.safeI (s : State) (number inst : Nat) : Int :=
  match s.cal.set with
  | some p => p.get number inst
  | none => 0

/-- Caldera is OPERATIONAL and its core runs (R439, R441). -/
def State.calRuns (s : State) : Bool := s.get Reg.CAL_STATE_STATE 0 == 1 && !s.cal.halted

/-- The axes of the set that are monitored (R462). -/
def State.monitored (s : State) : List Nat :=
  match s.cal.set with
  | some p => (p.records.filter fun r => r.number == 0x0501 && r.value != 0).map SafetyRecord.inst
  | none => []

/-- The axes that are enabled. -/
def State.enabledAxes (s : State) : List Nat := (List.range 256).filter fun a => (s.ax a).enabled

/-- The arm of an axis, 255 for a free one. -/
def State.calArmOf (s : State) (a : Nat) : Nat := s.safe 0x0502 a % 256

/-- The level in force of arm `g` (R473): 0 FULL, 1 REDUCED, 2 CREEP. -/
def State.level (s : State) (g : Nat) : Nat := bitsOf (s.get Reg.LEVELS_LEVEL 0) (2 * g) 2

/-- `PERMIT` of an axis (R472). -/
def State.permit (s : State) (a : Nat) : Bool := bitOf (s.get Reg.PERMIT (a / 64)) (a % 64)

/-- STO applies to an axis (R471). -/
def State.applySto (s : State) (a : Nat) : State :=
  if (s.calAx a).sto then s
  else
    let s := s.onCalAx a fun x => { x with sto := true, stoAt := none }
    let s := (axisPairs a).foldl (fun s p => s.setPairCaldera p s.fineNow true) s
    (axisStep a).foldl (fun s ch => s.setHalt ch haltCaldera true) s

/-- STO applies to every axis, whatever Caldera held. -/
def State.stoAll (s : State) : State :=
  let s := (List.range 256).foldl (fun s a => s.applySto a) s
  let s := (List.range 96).foldl (fun s p => if (s.pair p).caldera then s else s.setPairCaldera p s.fineNow true) s
  (List.range 32).foldl (fun s ch =>
    if bitOf (s.get Reg.STP_HALT_CAUSES ch) haltCaldera then s else s.setHalt ch haltCaldera true) s

/-- The `CALDERA` cause of an axis clears (R472). -/
def State.releaseSto (s : State) (a : Nat) : State :=
  if (s.calAx a).sto then
    let s := s.onCalAx a fun x => { x with sto := false, stoAt := none }
    let s := (axisPairs a).foldl (fun s p => s.setPairCaldera p s.fineNow false) s
    (axisStep a).foldl (fun s ch => s.setHalt ch haltCaldera false) s
  else s

/-- A demand for STO is decided at the present instant. -/
def State.wantSto (s : State) (cause : Nat) : State := s.onCal fun k => { k with stoNow := k.stoNow ++ [cause] }

/-- A demand for SS1 is decided at the present instant. -/
def State.wantSs1 (s : State) (cause : Nat) : State := s.onCal fun k => { k with ss1Now := k.ss1Now ++ [cause] }

/-- The safe speed of an axis (R463). -/
def State.safeSpeed (s : State) (a : Nat) : Rat := (s.calAx a).speed.abs

/-- An SS1 or an STO is in force or decided (R468). -/
def State.stopping (s : State) : Bool :=
  s.get Reg.STOP_STATE_STOP 0 != 0 || s.cal.ss1At.isSome || s.cal.stoAt.isSome

/-- An SS1 starts at the present sample with `cause` (R466). -/
def State.armSs1 (s : State) (cause : Nat) : State :=
  let s := s.set Reg.STOP_STATE_STOP_CAUSE 0 cause
  let s := s.set Reg.SS1_START_TIME 0 (s.tb 6)
  let s := s.enabledAxes.foldl (fun s a => s.onCalAx a fun x =>
    { x with v0 := x.speed.abs, confirm := none, stoAt := none, calm := false }) s
  s.onCal fun k => { k with ss1At := some k.n }

/-- The stop causes that set `RESTART_PEND` (R469). -/
def pendCause (c : Nat) : Bool := decide (1 ≤ c ∧ c ≤ 8) || c == 10

/-- Ranger's side of an STO demand (R152, R155, R468). -/
def State.stoAtRanger (s : State) (c : Nat) : State :=
  if c = 8 then s.latchCause 3
  else if s.inMode [.jog, .run, .halting] then
    { s with mode := { s.mode with stops := s.mode.stops ++ [c] } }.latchCause 11
  else s

/-- The STO demands of the instant (R468). -/
def State.decideSto (s : State) (l : List Nat) : State :=
  let s := l.foldl (fun s c => (((s.set Reg.STOP_STATE_STOP_CAUSE 0 c).setFlag Reg.STOP_STATE_RESTART_PEND 0 true).raise
    202).stoAtRanger c) s
  s.onCal fun k => { k with stoAt := some (k.stoAt.getD k.n) }

/-- The SS1 demands of the instant (R468, R469): a stop that is in force or decided is not armed again. -/
def State.decideSs1 (s : State) (l : List Nat) : State :=
  let busy := s.stopping
  let s := l.foldl (fun s _ => (s.setFlag Reg.STOP_STATE_RESTART_PEND 0 true).raise 201) s
  let s := s.onCal fun k => { k with haltAsk := true }
  match l.getLast? with
  | some c => if busy then (if s.cal.stoAt.isSome then s else s.set Reg.STOP_STATE_STOP_CAUSE 0 c) else s.armSs1 c
  | none => s

/-- The demands of the present instant are decided; with an STO and an SS1 together, the STO applies (R468). -/
def State.calDecide (s : State) : State :=
  let a := s.cal.stoNow
  let b := s.cal.ss1Now
  let s := s.onCal fun k => { k with stoNow := [], ss1Now := [] }
  let s := if a.isEmpty then s else s.decideSto a
  if b.isEmpty then s else s.decideSs1 b

/-- A failed diagnostic (R440): SAFE_FAULT, the safe-off line (R434), `DIAG_FIRST`, `EV198`, the fault cause. -/
def State.diagnostic (s : State) (code : Nat) : State :=
  let s := if s.get Reg.CAL_STATE_DIAG_FIRST 0 = 0 then s.set Reg.CAL_STATE_DIAG_FIRST 0 code else s
  let s := (s.raiseIf (s.get Reg.CAL_STATE_STATE 0 != 2) 198).set Reg.CAL_STATE_STATE 0 2
  let s := (List.range 16).foldl (fun s n =>
    ((s.setFlag Reg.SO_STATUS_OUT n false).setFlag Reg.SO_STATUS_TESTING n false).setFlag Reg.SO_STATUS_CMD n false) s
  let s := (List.range 8).foldl (fun s t => (s.onTps t fun k => { k with t0 := none }).setFlag Reg.TPS_STATUS_WINDOW t false) s
  let s := ((List.range 4).foldl (fun s i => s.set Reg.PERMIT i 0) s).stoAll
  let s := s.onCal fun k => { k with tpsOut := 0 }
  s.latchCause (if s.cal.halted then 5 else 2)

/-- The bytes of a change log entry without its chain (R505). -/
def ChangeEntry.head (e : ChangeEntry) : List Byte :=
  leBytes 4 e.entry ++ leBytes 4 e.epoch ++ leBytes 8 e.time ++ leBytes 2 e.code ++ leBytes 2 e.status
    ++ leBytes 4 e.setCrc ++ leBytes 1 e.link ++ leBytes 1 e.mailbox ++ zeros 2 ++ leBytes 4 e.detail
    ++ (e.text ++ zeros 32).take 32

/-- The entry in its 96 bytes. -/
def ChangeEntry.bytes (e : ChangeEntry) : List Byte := ChangeEntry.head e ++ (e.chain ++ zeros 32).take 32

/-- The entries that the change log holds (R506). -/
def changeCapacity : Nat := 65536

/-- Appends a change log entry (R505, R506). -/
def State.change (s : State) (code status link mailbox detail : Nat) (text : List Byte) : State :=
  let f := s.flash
  let prev := match f.changes with
    | e :: _ => (e.chain ++ zeros 32).take 32
    | [] => f.changeAnchor
  let e : ChangeEntry :=
    { entry := f.changeNext, epoch := f.bootEpoch, time := s.tb 5, code := code, status := status,
      setCrc := (f.safeSet.map SafetySet.crc).getD 0, link := link, mailbox := mailbox, detail := detail % 2 ^ 32,
      text := (text ++ zeros 32).take 32, chain := [] }
  let e := { e with chain := sha3 (prev ++ ChangeEntry.head e) }
  let full := changeCapacity ≤ f.changes.length
  let anchor := if full then (match f.changes.getLast? with
    | some o => o.chain
    | none => f.changeAnchor) else f.changeAnchor
  let s := { s with flash := { f with changes := (e :: f.changes).take changeCapacity, changeAnchor := anchor,
                                      changeNext := f.changeNext + 1 } }
  s.raiseIf (f.changeNext == changeCapacity) 211

/-- An entry of Caldera itself: link 0xFF, no mailbox. -/
def State.calChange (s : State) (code detail : Nat) : State := s.change code 0 0xFF 0xFF detail []

end Sys2Proof.Machine
end

