-- ==== Sys2Proof/Machine/CalIo.lean ====
section
/-!
DEFINITION. Caldera's inputs and outputs at its sample instants and cycle boundaries (R442 to R457). Its time is counted in
samples of 250 µs since the end of STARTUP; even samples are cycle boundaries (R435, R436).
-/
namespace Sys2Proof.Machine

/-- `b` as bit `i` of a field. -/
def State.setBit (s : State) (f : Field) (k i : Nat) (b : Bool) : State := s.set f k (putBits (s.get f k) i 1 (b2n b))

/-- The TPS that feeds channel `c`: 1 to 8, or 0. -/
def State.feed (s : State) (c : Nat) : Nat :=
  if c % 2 = 0 then s.get Reg.SIP_CFG_SRC_A (c / 2) else s.get Reg.SIP_CFG_SRC_B (c / 2)

/-- The sample at which the open window of TPS `t` ends. -/
def State.windowEnd (s : State) (t t0 : Nat) : Nat := t0 + s.get Reg.TPS_CFG_TP_WIDTH t + s.get Reg.TPS_CFG_TP_SETTLE t

/-- Channel `c` is masked at sample `n` (R448). -/
def State.chanMasked (s : State) (c n : Nat) : Bool :=
  let f := s.feed c
  if 1 ≤ f ∧ f ≤ 8 then
    match (s.calTps (f - 1)).t0 with
    | some t0 => decide (t0 < n ∧ n < s.windowEnd (f - 1) t0)
    | none => false
  else false

/-- The used level of channel `c`. -/
def State.used (s : State) (c : Nat) : Bool := bitOf (s.get Reg.SIP_STATUS_LEVEL (c / 2)) (c % 2)

/-- The level at the ball of channel `c`. -/
def State.siPin (s : State) (c : Nat) : Bool := bitOf s.cal.si.toNat c

/-- The filter of a channel at sample `n` (R443, R448). -/
def State.chanSample (s : State) (n c : Nat) : State :=
  let was := bitOf (s.get Reg.SIP_STATUS_MASKED (c / 2)) (c % 2)
  let now := s.chanMasked c n
  let s := s.setBit Reg.SIP_STATUS_MASKED (c / 2) (c % 2) now
  if now then s
  else
    let v := s.siPin c
    let s := if was || v != (s.chan c).raw then s.onChan c fun k => { k with raw := v, since := n } else s
    if max 1 (s.get Reg.SIP_CFG_SI_FILT (c / 2)) ≤ n - (s.chan c).since then
      s.setBit Reg.SIP_STATUS_LEVEL (c / 2) (c % 2) v
    else s

/-- The pair has a kind in use (1 EQUIV, 2 ANTIVALENT). -/
def State.pairKind (s : State) (n : Nat) : Nat := let k := s.get Reg.SIP_CFG_KIND n; if k = 3 then 0 else k

/-- IO5 was sensed below 3.0 V at the last release of `PORST_N` (R738, R739). -/
def State.io5Low (s : State) : Bool := !s.boot.banks.getLsbD 5

/-- The demands of the two channels of a pair; every pair is in demand while IO5 counts as low (R739). -/
def State.demands (s : State) (n : Nat) : Bool × Bool :=
  if s.io5Low then (true, true) else (!s.used (2 * n), if s.pairKind n = 2 then s.used (2 * n + 1) else !s.used (2 * n + 1))

/-- The stop that a pair demands when it enters demand (causes 0x01 to 0x03). -/
def State.pairStop (s : State) (n : Nat) : State :=
  match s.safe 0x0106 n with
  | 1 => s.wantSto 1
  | 2 => s.wantSs1 2
  | 3 => if s.mode.mode == .jog then s.wantSs1 3 else s
  | _ => s

/-- A pair enters demand (R446). -/
def State.enterDemand (s : State) (n : Nat) : State :=
  if s.flag Reg.SIP_STATUS_DEMAND n then s
  else ((s.setFlag Reg.SIP_STATUS_DEMAND n true).raise 192).pairStop n

/-- The discrepancy timer of a pair whose channels disagree at sample `now` (R444). -/
def State.discrepancy (s : State) (n now : Nat) : State :=
  let s := if s.flag Reg.SIP_STATUS_DISC_RUNNING n then s
    else (s.setFlag Reg.SIP_STATUS_DISC_RUNNING n true).onCalPair n fun _ => { tDisc := now, latched := false }
  let p := s.calPair n
  if !p.latched && decide (4 * s.get Reg.SIP_CFG_T_DISC n ≤ now - p.tDisc) then
    (((s.setFlag Reg.SIP_STATUS_DISCREPANCY n true).count Reg.DISC_COUNT_COUNT n 1).onCalPair n fun p =>
      { p with latched := true }).raise 193
  else s

/-- The evaluation of a pair at sample `now` (R444). -/
def State.pairSample (s : State) (now n : Nat) : State :=
  if s.pairKind n = 0 then s
  else
    let d := s.demands n
    let s := if d.1 || d.2 then s.enterDemand n else s
    if d.1 != d.2 then s.discrepancy n now
    else
      let s := if s.flag Reg.SIP_STATUS_DISC_RUNNING n && !(s.calPair n).latched then
          s.count Reg.DISAGREE_COUNT_COUNT n 1 else s
      let s := s.setFlag Reg.SIP_STATUS_DISC_RUNNING n false
      let s := if d.1 && s.flag Reg.SIP_STATUS_DISCREPANCY n then s.setFlag Reg.SIP_STATUS_BOTH_SEEN n true else s
      if !d.1 && !s.flag Reg.SIP_STATUS_DISCREPANCY n && !s.flag Reg.SIP_STATUS_TP_FAIL n then
        s.setFlag Reg.SIP_STATUS_DEMAND n false
      else s

/-- The channels that TPS `t` feeds. -/
def State.fed (s : State) (t : Nat) : List Nat :=
  (List.range 32).filter fun c => s.pairKind (c / 2) != 0 && s.feed c == t + 1

/-- The check of an input test (R449). -/
def State.testCheck (s : State) (t : Nat) : State :=
  (s.fed t).foldl (fun s c =>
    if s.siPin c then
      let s := (s.onChan c fun k => { k with fail := true, pass := false }).onTps t fun k => { k with pass := false }
      let s := (s.setFlag Reg.SIP_STATUS_TP_FAIL (c / 2) true).count Reg.DISC_COUNT_TP_FAIL_COUNT (c / 2) 1
      (s.enterDemand (c / 2)).raise 194
    else s.onChan c fun k => { k with pass := k.fail }) s

/-- The end of a test window (R448, R449). -/
def State.testEnd (s : State) (t : Nat) : State :=
  let ok := (s.calTps t).pass
  ((s.onTps t fun k => { k with t0 := none }).setFlag Reg.TPS_STATUS_WINDOW t false).setFlag Reg.TPS_STATUS_LAST_PASS t ok

/-- A test-pulse output at sample `n`: check, end of the pulse, end of the window (R447 to R449). -/
def State.tpsSample (s : State) (n t : Nat) : State :=
  match (s.calTps t).t0 with
  | none => s
  | some t0 =>
    let w := s.get Reg.TPS_CFG_TP_WIDTH t
    let s := if n + 1 = t0 + w then s.testCheck t else s
    let s := if t0 + w ≤ n then s.onCal fun k => { k with tpsOut := k.tpsOut ||| (1#8 <<< t) } else s
    if s.windowEnd t t0 ≤ n then s.testEnd t else s

/-- A pulse of TPS `t` may not start: a pair that it feeds is in its discrepancy timer, or in demand under `TP_FAIL`
(R457). -/
def State.tpsDeferred (s : State) (t : Nat) : Bool :=
  (s.fed t).any fun c => s.flag Reg.SIP_STATUS_DISC_RUNNING (c / 2)
    || (s.flag Reg.SIP_STATUS_DEMAND (c / 2) && s.flag Reg.SIP_STATUS_TP_FAIL (c / 2))

/-- A test pulse starts (R447). -/
def State.tpsStart (s : State) (n t : Nat) : State :=
  let due := if s.flag Reg.TWIN_CFG_PAIR_EN 0 then none else some (n + 4 * s.get Reg.TPS_CFG_TP_PERIOD t)
  let s := s.onTps t fun _ => { t0 := some n, pass := true, due := due }
  let s := (s.setFlag Reg.TPS_STATUS_WINDOW t true).set Reg.TPS_LAST_TIME t (s.tb 6)
  s.onCal fun k => { k with tpsOut := k.tpsOut &&& ~~~(1#8 <<< t) }

/-- On a configured pair a pulse falls due at TB0 multiples of `TP_PERIOD` (R592). -/
def State.tpsPaired (s : State) (n t : Nat) : State :=
  let b := (s.tb 0 + 250000) / 500000
  let per := 2 * s.get Reg.TPS_CFG_TP_PERIOD t
  if s.flag Reg.TWIN_CFG_PAIR_EN 0 && decide (b % max 1 per = 0) then s.onTps t fun k => { k with due := some n } else s

/-- A window is open. -/
def State.anyWindow (s : State) : Bool := (List.range 8).any fun t => (s.calTps t).t0.isSome

/-- A test-pulse output at the boundary of sample `n` (R447, R457, R739). -/
def State.tpsBoundary (s : State) (n t : Nat) : State :=
  if !s.flag Reg.TPS_CFG_EN t || s.io5Low then s.onCal fun k => { k with tpsOut := k.tpsOut &&& ~~~(1#8 <<< t) }
  else
    let s := if (s.calTps t).t0.isNone then s.onCal fun k => { k with tpsOut := k.tpsOut ||| (1#8 <<< t) } else s
    let s := s.tpsPaired n t
    match (s.calTps t).due, (s.calTps t).t0 with
    | some d, none =>
      if n < d then s
      else if s.tpsDeferred t then s.count Reg.TPS_STATUS_TP_DEFER t 1
      else if s.anyWindow then s else s.tpsStart n t
    | _, _ => s

/-- An `SO_FAULT` or `EDM_FAULT` is latched (R451). -/
def State.ioFault (s : State) : Bool :=
  (List.range 16).any fun n => s.flag Reg.SO_STATUS_SO_FAULT n || s.flag Reg.EDM_STATUS_EDM_FAULT n

/-- Ranger's fault cause, and the switching off of every output at the next boundary (R452, R456). -/
def State.outputFault (s : State) : State :=
  (s.onCal fun k => { k with faultAt := some (k.faultAt.getD k.n) }).latchCause 4

/-- A failed readback (R452). -/
def State.soFault (s : State) (n : Nat) : State :=
  if s.flag Reg.SO_STATUS_SO_FAULT n then s
  else (((s.setFlag Reg.SO_STATUS_SO_FAULT n true).count Reg.TEST_DISCARD_SO_FAULT_COUNT n 1).raise 195).outputFault

/-- A failed EDM check (R456). -/
def State.edmFault (s : State) (n : Nat) (refused : Bool) : State :=
  let s := if refused then s.setFlag Reg.EDM_STATUS_REFUSED n true else s
  if s.flag Reg.EDM_STATUS_EDM_FAULT n then s
  else ((s.setFlag Reg.EDM_STATUS_EDM_FAULT n true).raise 196).outputFault

/-- A fault that an earlier sample latched holds the outputs off. -/
def State.faultOff (s : State) (n : Nat) : Bool :=
  match s.cal.faultAt with
  | some t => decide (t < n)
  | none => false

/-- A safe output switches at sample `n`. -/
def State.switchOut (s : State) (k n : Nat) (on : Bool) : State :=
  (s.setFlag Reg.SO_STATUS_OUT k on).onOut k fun o => { o with switched := n }

/-- An output test is discarded (R454). -/
def State.discardTest (s : State) (k n : Nat) : State :=
  let s := (s.setFlag Reg.SO_STATUS_TESTING k false).setFlag Reg.SO_STATUS_RETEST k true
  ((s.onOut k fun o => { o with switched := n }).count Reg.TEST_DISCARD_COUNT k 1).raise 197

/-- The end of an output test at sample `n` (R453, R454). -/
def State.outputTestEnd (s : State) (n k : Nat) : State :=
  if !s.flag Reg.SO_STATUS_CMD k || s.faultOff n then s.discardTest k n
  else
    let s := s.setFlag Reg.SO_STATUS_TESTING k false
    if s.flag Reg.SO_STATUS_SORB k then s.soFault k
    else (s.switchOut k n true).onOut k fun o => { o with nextTest := o.testAt + 4 * s.get Reg.SO_CFG_OTP_PERIOD k }

/-- A safe output at sample `n`: readback and the end of a test (R452 to R454). -/
def State.soSample (s : State) (n k : Nat) : State :=
  let s := s.setFlag Reg.SO_STATUS_SORB k (bitOf s.cal.sorb.toNat k)
  if s.flag Reg.SO_STATUS_TESTING k && decide ((s.calOut k).testAt + s.get Reg.SO_CFG_OTP_WIDTH k ≤ n) then
    s.outputTestEnd n k
  else if s.flag Reg.SO_CFG_EN k && decide (s.get Reg.SO_CFG_SORB_T k ≤ n - (s.calOut k).switched)
      && s.flag Reg.SO_STATUS_SORB k != s.flag Reg.SO_STATUS_OUT k then s.soFault k
  else s

/-- EDM faults are latched by the unit that holds the token (R592). -/
def State.edmChecks (s : State) : Bool := !s.flag Reg.TWIN_CFG_PAIR_EN 0 || s.flag Reg.TWIN_STATE_TOKEN 0

/-- An EDM input at sample `n` (R455). -/
def State.edmSample (s : State) (n k : Nat) : State :=
  let v := bitOf s.cal.edm.toNat k
  let s := if v != (s.calOut k).edmRaw then s.onOut k fun o => { o with edmRaw := v, edmSince := n } else s
  let s := if 4 ≤ n - (s.calOut k).edmSince then s.setFlag Reg.EDM_STATUS_LEVEL k v else s
  let o := s.calOut k
  if s.flag Reg.EDM_CFG_EDM_EN k && s.edmChecks && decide (4 * s.get Reg.EDM_CFG_EDM_T k ≤ n - o.loadAt)
      && s.flag Reg.EDM_STATUS_LEVEL k == o.load then s.edmFault k false
  else s

/-- Whether output `k` may be on at sample `n`: its command, `EN`, IO5 in range (R739), no latched fault; one of this boundary's own sample
only keeps it from going on. -/
def State.soWanted (s : State) (n k : Nat) : Bool :=
  let held := s.flag Reg.SO_STATUS_OUT k || s.flag Reg.SO_STATUS_TESTING k
  s.flag Reg.SO_CFG_EN k && s.flag Reg.SO_STATUS_CMD k && !s.io5Low && !s.twin.hold.getLsbD k
    && !(if held then s.faultOff n else s.ioFault)

/-- A joining unit holds an output off until its function commands on after having commanded off (R608). -/
def State.soJoin (s : State) (k : Nat) : State :=
  let t := s.twin
  if !t.hold.getLsbD k then s
  else if !s.flag Reg.SO_STATUS_CMD k then { s with twin := { t with commandedOff := t.commandedOff ||| (1#16 <<< k) } }
  else if t.commandedOff.getLsbD k then { s with twin := { t with hold := t.hold &&& ~~~(1#16 <<< k) } }
  else s

/-- A switch-on that the EDM input refuses (R455). -/
def State.edmGate (s : State) (n k : Nat) : State :=
  if s.soWanted n k && !s.flag Reg.SO_STATUS_OUT k && !s.flag Reg.SO_STATUS_TESTING k && s.flag Reg.EDM_CFG_EDM_EN k
      && s.edmChecks && !s.flag Reg.EDM_STATUS_LEVEL k then s.edmFault k true
  else s

/-- An output test starts (R453). -/
def State.outputTestStart (s : State) (n k : Nat) : State :=
  let s := (s.switchOut k n false).onOut k fun o => { o with testAt := n }
  (s.setFlag Reg.SO_STATUS_TESTING k true).setFlag Reg.SO_STATUS_RETEST k false

/-- The present state of the load of output `k`. -/
def State.noteLoad (s : State) (n k : Nat) : State :=
  let on := s.flag Reg.SO_STATUS_OUT k || s.flag Reg.SO_STATUS_TESTING k
  if on != (s.calOut k).load then s.onOut k fun o => { o with load := on, loadAt := n } else s

/-- A safe output at the boundary of sample `n` (R451, R453, R454). -/
def State.soBoundary (s : State) (n k : Nat) : State :=
  let s := s.soJoin k
  let want := s.soWanted n k
  let s :=
    if s.flag Reg.SO_STATUS_TESTING k then (if want then s else s.discardTest k n)
    else if want && !s.flag Reg.SO_STATUS_OUT k then
      let wait := if s.flag Reg.SO_STATUS_RETEST k then 40 else 4 * s.get Reg.SO_CFG_OTP_PERIOD k
      (s.switchOut k n true).onOut k fun o => { o with nextTest := n + wait }
    else if !want && s.flag Reg.SO_STATUS_OUT k then s.switchOut k n false
    else s
  let s := if s.flag Reg.SO_STATUS_OUT k && s.flag Reg.SO_CFG_TEST_EN k && decide ((s.calOut k).nextTest ≤ n) then
      s.outputTestStart n k else s
  s.noteLoad n k

/-- The I/O configuration from the set in force, with every pair in demand (R439 steps 4 and 5, R494). A window that is
open ends here (R447); the first pulses follow once its output is high again (DEDUCED, log entry 82). -/
def State.calConfigure (s : State) : State :=
  let n := s.cal.n
  let first := if s.anyWindow then n + 2 else n
  let c := s.cal.set.getD { version := 0, origin := 0, records := [], crc := 0 }
  let s := (List.range 16).foldl (fun s i =>
    let s := (s.set Reg.SIP_CFG_KIND i (c.nat 0x0101 i)).set Reg.SIP_CFG_SRC_A i (c.nat 0x0102 i)
    let s := (s.set Reg.SIP_CFG_SRC_B i (c.nat 0x0103 i)).set Reg.SIP_CFG_SI_FILT i (c.nat 0x0104 i / 250)
    let s := (s.set Reg.SIP_CFG_T_DISC i (c.nat 0x0105 i)).setFlag Reg.SIP_STATUS_DEMAND i (c.nat 0x0101 i != 0)
    s.setFlag Reg.SIP_STATUS_DISC_RUNNING i false) s
  let s := (List.range 8).foldl (fun s i =>
    let s := (s.set Reg.TPS_CFG_EN i (c.nat 0x0201 i)).set Reg.TPS_CFG_TP_WIDTH i (c.nat 0x0202 i / 250)
    let s := (s.set Reg.TPS_CFG_TP_SETTLE i (c.nat 0x0203 i / 250)).set Reg.TPS_CFG_TP_PERIOD i (c.nat 0x0204 i)
    (s.setFlag Reg.TPS_STATUS_WINDOW i false).onTps i fun _ =>
      { t0 := none, pass := true, due := some first }) s
  (List.range 16).foldl (fun s i =>
    let s := (s.set Reg.SO_CFG_EN i (c.nat 0x0301 i)).set Reg.SO_CFG_TEST_EN i (c.nat 0x0304 i)
    let s := (s.set Reg.SO_CFG_OTP_WIDTH i (c.nat 0x0305 i / 250)).set Reg.SO_CFG_OTP_PERIOD i (c.nat 0x0306 i)
    let s := (s.set Reg.SO_CFG_SORB_T i (c.nat 0x0307 i / 250)).set Reg.EDM_CFG_EDM_EN i (c.nat 0x0401 i)
    (s.set Reg.EDM_CFG_EDM_T i (c.nat 0x0402 i)).onOut i fun o => { o with nextTest := n + 4 * c.nat 0x0306 i }) s

/-- The masks of R458: pairs in demand, discrepancies, `TP_FAIL`, open windows, outputs, readback, EDM levels, latched
`SO_FAULT`, latched `EDM_FAULT`. -/
def State.bits (s : State) (f : Field) (n : Nat) : Nat :=
  (List.range n).foldl (fun v i => v + s.get f i * 2 ^ i) 0

/-- The I/O status points of R458. -/
def State.ioPoints (s : State) : State :=
  let s := s.putPoint 0x21000 (s.bits Reg.SIP_STATUS_DEMAND 16 + s.bits Reg.SIP_STATUS_DISCREPANCY 16 * 2 ^ 16
    + s.bits Reg.SIP_STATUS_TP_FAIL 16 * 2 ^ 32 + s.bits Reg.TPS_STATUS_WINDOW 8 * 2 ^ 48)
  let s := s.putPoint 0x21001 (s.bits Reg.SO_STATUS_OUT 16 + s.bits Reg.SO_STATUS_SORB 16 * 2 ^ 16
    + s.bits Reg.EDM_STATUS_LEVEL 16 * 2 ^ 32 + s.bits Reg.SO_STATUS_SO_FAULT 16 * 2 ^ 48)
  s.putPoint 0x21002 (s.bits Reg.EDM_STATUS_EDM_FAULT 16 + s.get Reg.CAL_STATE_STATE 0 * 2 ^ 16
    + s.get Reg.CAL_STATE_DIAG_FIRST 0 * 2 ^ 24 + (s.get Reg.CYCLE_COUNT 0 % 2 ^ 32) * 2 ^ 32)

/-- The code of a seal: 0 OPEN, 1 SEALED, 2 INVALID (R499). -/
def sealCode (a b : Option Bool) : Nat :=
  match a, b with
  | some true, some false => 0
  | some false, some true => 1
  | _, _ => 2

/-- Seal input `k`. -/
def State.sealIn (s : State) (k : Nat) : CalSeal := s.cal.seals.get CalSeal.reset k

/-- The accepted state of the configuration seal (0) or the service seal (1). -/
def State.sealState (s : State) (k : Nat) : Nat := sealCode (s.sealIn (2 * k)).level (s.sealIn (2 * k + 1)).level

/-- A seal input at a boundary: accepted after 20 ms without change (R499). -/
def State.sealSample (s : State) (k : Nat) : State :=
  let v := bitOf s.cal.sealPins.toNat k
  let t := s.tb 6
  let c := s.sealIn k
  let c := if c.since.isNone || v != c.raw then { c with raw := v, since := some t } else c
  let c := match c.since with
    | some t0 => if 20000000 ≤ t - t0 then { c with level := some v } else c
    | none => c
  s.onCal fun x => { x with seals := x.seals.put CalSeal.reset k c }

/-- A change of an accepted seal state is logged; the first one after a start always (R499). -/
def State.sealLog (s : State) (k : Nat) : State :=
  if (s.sealIn (2 * k)).level.isNone || (s.sealIn (2 * k + 1)).level.isNone then s
  else
    let st := s.sealState k
    if s.cal.sealShown.get none k = some st then s
    else (s.onCal fun x => { x with sealShown := x.sealShown.put none k (some st) }).calChange 0x0013 (k + st * 256)

/-- The seals at a boundary (R499, R771). -/
def State.seals (s : State) : State :=
  let s := (List.range 4).foldl State.sealSample s
  let s := (s.sealLog 0).sealLog 1
  let s := (List.range 4).foldl (fun s k => s.setBit Reg.SEAL_STATUS_LEVEL 0 k ((s.sealIn k).level == some true)) s
  (s.set Reg.SEAL_STATUS_CONFIG_SEAL 0 (s.sealState 0)).set Reg.SEAL_STATUS_SERVICE_SEAL 0 (s.sealState 1)

/-- A safe output is commanded on under the states in force (R491 `FUNCTION`, R451). -/
def State.soFunction (s : State) (k : Nat) : Bool :=
  let mask := s.safe 0x0303 k
  match s.safe 0x0302 k with
  | 1 =>
    let l := s.monitored.filter fun a => bitOf mask (s.calArmOf a) && decide (s.calArmOf a < 16)
    !l.isEmpty && l.all s.permit
  | 2 => mask != 0 && (List.range 16).all fun g => !bitOf mask g || s.level g == 0
  | 3 => s.get Reg.STOP_STATE_STOP 0 == 0
  | _ => false

/-- A pair whose function stops the cell is in demand (R470, R472). -/
def State.pairStops (s : State) : Bool :=
  (List.range 16).any fun n => s.flag Reg.SIP_STATUS_DEMAND n && s.pairKind n != 0 &&
    (s.safe 0x0106 n == 1 || s.safe 0x0106 n == 2 || (s.safe 0x0106 n == 3 && s.mode.mode == .jog))

/-- A decision of the present sample withdraws the command of output `k` (R436, R454). -/
def State.soWithdrawn (s : State) (k : Nat) : Bool :=
  match s.safe 0x0302 k with
  | 1 => s.stopping || s.flag Reg.STOP_STATE_RESTART_PEND 0 || s.pairStops
  | 2 => (List.range 16).any fun g => bitOf (s.safe 0x0303 k) g && !(s.calArm g).down.isEmpty
  | _ => s.stopping

/-- `CMD` of every output at a sample: a command is withdrawn here, and given at boundaries. -/
def State.soCommands (s : State) : State :=
  (List.range 16).foldl (fun s k => s.setFlag Reg.SO_STATUS_CMD k (s.soFunction k && !s.soWithdrawn k)) s

end Sys2Proof.Machine
end

