-- ==== Sys2Proof/Machine/CalGeo.lean ====
section
/-!
DEFINITION. Arms and persons as Caldera places them: forward kinematics (R465, R491), distances (R481), protective
separation distances (R482). Lengths are fractions; only roots and angles have no exact value (log entry 24).
-/
namespace Sys2Proof.Machine

/-- A point or a direction. -/
structure V3 where
  x : Rat
  y : Rat
  z : Rat
deriving DecidableEq, Repr, Inhabited

/-- Sum. -/
def V3.add (a b : V3) : V3 := { x := a.x + b.x, y := a.y + b.y, z := a.z + b.z }

/-- Difference. -/
def V3.sub (a b : V3) : V3 := { x := a.x - b.x, y := a.y - b.y, z := a.z - b.z }

/-- A multiple. -/
def V3.scale (k : Rat) (a : V3) : V3 := { x := k * a.x, y := k * a.y, z := k * a.z }

/-- The scalar product. -/
def V3.dot (a b : V3) : Rat := a.x * b.x + a.y * b.y + a.z * b.z

/-- A frame: the images of the three axes, and the origin in µm. -/
structure Pose where
  ex : V3
  ey : V3
  ez : V3
  o : V3
deriving DecidableEq, Repr, Inhabited

/-- A point of a frame in the cell frame. -/
def Pose.place (f : Pose) (p : V3) : V3 := V3.add f.o (V3.add (V3.scale p.x f.ex) (V3.add (V3.scale p.y f.ey) (V3.scale p.z f.ez)))

/-- A frame turned about its own z axis. -/
def Pose.turnZ (f : Pose) (a : Rat) : Pose :=
  let t := sinCosQ a
  { f with ex := V3.add (V3.scale t.2 f.ex) (V3.scale t.1 f.ey), ey := V3.sub (V3.scale t.2 f.ey) (V3.scale t.1 f.ex) }

/-- A frame turned about its own x axis. -/
def Pose.turnX (f : Pose) (a : Rat) : Pose :=
  let t := sinCosQ a
  { f with ey := V3.add (V3.scale t.2 f.ey) (V3.scale t.1 f.ez), ez := V3.sub (V3.scale t.2 f.ez) (V3.scale t.1 f.ey) }

/-- A frame moved along its own axes. -/
def Pose.move (f : Pose) (p : V3) : Pose := { f with o := Pose.place f p }

/-- The axis of the set that is joint `j` of arm `g`. -/
def State.jointAxis (s : State) (g j : Nat) : Option Nat :=
  s.monitored.find? fun a => s.safe 0x0502 a == g + 256 * j

/-- The safe position of an axis in counts (R462): the last one taken. -/
def State.safePos (s : State) (a : Nat) : Rat :=
  match (s.calAx a).hist with
  | h :: _ => h.2
  | [] => 0

/-- The position of a joint in µrad or µm; 0 where no axis of the set is the joint. -/
def State.jointPos (s : State) (g j : Nat) : Rat :=
  match s.jointAxis g j with
  | some a => (s.safeI 0x0503 a : Rat) / 65536 * s.safePos a + (s.safeI 0x0504 a : Rat)
  | none => 0

/-- A parameter as a fraction. -/
def State.safeQ (s : State) (number inst : Nat) : Rat := (s.safeI number inst : Rat)

/-- The base frame of an arm. -/
def State.basePose (s : State) (g : Nat) : Pose :=
  let f : Pose := { ex := { x := 1, y := 0, z := 0 }, ey := { x := 0, y := 1, z := 0 }, ez := { x := 0, y := 0, z := 1 },
                    o := { x := s.safeQ 0x0602 g, y := s.safeQ 0x0603 g, z := s.safeQ 0x0604 g } }
  Pose.turnZ f (s.safeQ 0x0605 g)

/-- The four steps of a joint frame (R491). -/
def State.jointPose (s : State) (g j : Nat) (f : Pose) : Pose :=
  let p := fun k => s.safeQ (0x0610 + 8 * j + k) g
  let q := s.jointPos g j
  let f := Pose.turnZ f (p 4 + if p 0 = 0 then q else 0)
  let f := Pose.move f { x := 0, y := 0, z := p 3 + if p 0 = 0 then 0 else q }
  Pose.turnX (Pose.move f { x := p 1, y := 0, z := 0 }) (p 2)

/-- The frames of joints 0 to `n - 1` of an arm, the last one first. -/
def State.jointPoses (s : State) (g : Nat) : Nat → List Pose
  | 0 => []
  | n + 1 =>
    let l := s.jointPoses g n
    match l with
    | f :: _ => s.jointPose g n f :: l
    | [] => [s.jointPose g 0 (s.basePose g)]

/-- A capsule: its end points in µm in the cell frame, its radius in µm. -/
structure Capsule where
  p : V3
  q : V3
  r : Rat
deriving DecidableEq, Repr, Inhabited

/-- The instances of the capsules of an arm that are in use. -/
def State.armCapsules (s : State) (g : Nat) : List Nat :=
  match s.cal.set with
  | some c => (List.range 12).filterMap fun i => if c.inUse 7 (12 * g + i) then some (12 * g + i) else none
  | none => []

/-- The capsules of an arm. -/
def State.capsules (s : State) (g : Nat) : List Capsule :=
  let l := (s.jointPoses g (s.safe 0x0601 g)).reverse
  (s.armCapsules g).filterMap fun c => (l[s.safe 0x0701 c]?).map fun f =>
    { p := Pose.place f { x := s.safeQ 0x0702 c, y := s.safeQ 0x0703 c, z := s.safeQ 0x0704 c },
      q := Pose.place f { x := s.safeQ 0x0705 c, y := s.safeQ 0x0706 c, z := s.safeQ 0x0707 c },
      r := s.safeQ 0x0708 c }

/-- The monitored points of an arm (R465). -/
def State.armPoints (s : State) (g : Nat) : List V3 :=
  let tool := match s.jointPoses g (s.safe 0x0601 g) with
    | f :: _ => [Pose.place f { x := s.safeQ 0x0606 g, y := s.safeQ 0x0607 g, z := s.safeQ 0x0608 g }]
    | [] => []
  tool ++ if s.safe 0x060B g = 1 then (s.capsules g).flatMap fun c => [c.p, c.q] else []

/-- `x` held between 0 and 1. -/
def unitQ (x : Rat) : Rat := if x < 0 then 0 else if 1 < x then 1 else x

/-- From the segment `a`, `a + u` to the segment `b`, `b + v`: the vectors between the candidates of the shortest
distance, which the shortest of them is. -/
def segVectors (a u b v : V3) : List V3 :=
  let r := V3.sub a b
  let uu := V3.dot u u
  let vv := V3.dot v v
  let uv := V3.dot u v
  let onV := fun k : Rat => if vv = 0 then 0 else unitQ ((V3.dot v r + k * uv) / vv)
  let onU := fun k : Rat => if uu = 0 then 0 else unitQ ((k * uv - V3.dot u r) / uu)
  let den := uu * vv - uv * uv
  let vec := fun (k l : Rat) => V3.sub (V3.add b (V3.scale l v)) (V3.add a (V3.scale k u))
  let k := (uv * V3.dot v r - vv * V3.dot u r) / den
  let l := (uu * V3.dot v r - uv * V3.dot u r) / den
  let inner := if den ≠ 0 ∧ 0 ≤ k ∧ k ≤ 1 ∧ 0 ≤ l ∧ l ≤ 1 then [vec k l] else []
  inner ++ [vec 0 (onV 0), vec 1 (onV 1), vec (onU 0) 0, vec (onU 1) 1]

/-- The shortest of a list of vectors. -/
def shortest : List V3 → V3
  | [] => { x := 0, y := 0, z := 0 }
  | [a] => a
  | a :: r => let b := shortest r; if V3.dot a a ≤ V3.dot b b then a else b

/-- The radius of a track in mm (R481). -/
def State.trackRadius (s : State) (t : CalTrack) : Rat := (max t.radius (s.safe 0x080A 0) : Nat)

/-- From the axis of a track to a capsule, in mm: the vector, and the distance of the surfaces (R481). -/
def State.trackTo (s : State) (t : CalTrack) (c : Capsule) : V3 × Rat :=
  let a : V3 := { x := (t.x : Rat), y := (t.y : Rat), z := 0 }
  let u : V3 := { x := 0, y := 0, z := (max t.height (s.safe 0x080B 0) : Nat) }
  let b := V3.scale (1 / 1000) c.p
  let w := shortest (segVectors a u b (V3.sub (V3.scale (1 / 1000) c.q) b))
  let d := rootQ (V3.dot w w) - c.r / 1000 - s.trackRadius t
  (w, if d < 0 then 0 else d)

/-- The nearest of a list of capsules to a track. -/
def State.nearest (s : State) (t : CalTrack) : List Capsule → Option (V3 × Rat)
  | [] => none
  | c :: r =>
    let a := s.trackTo t c
    match s.nearest t r with
    | some b => if b.2 < a.2 then some b else some a
    | none => some a

/-- The speed of a track towards the nearest capsule, along `w`; its whole speed where they coincide (log entry 25). -/
def approach (t : CalTrack) (w : V3) : Rat :=
  let q := V3.dot w w
  if q = 0 then rootQ ((t.vx * t.vx + t.vy * t.vy : Int) : Rat)
  else ((t.vx : Rat) * w.x + (t.vy : Rat) * w.y) / rootQ q

/-- The protective separation distance of R482 in mm, for an arm speed and an approach speed. -/
def State.protective (s : State) (g : Nat) (vr vh : Rat) : Rat :=
  let vmin : Rat := (s.safe 0x0807 0 : Nat)
  let vh := if vh < vmin then vmin else vh
  let tr : Rat := (s.safe 0x0805 0 : Nat) / 1000
  let lat : Rat := (s.safe 0x060D g : Nat) / 1000
  let dec : Rat := (s.safe 0x060E g : Nat)
  let ts := lat + vr / dec
  let ss := vr * lat + vr * vr / (2 * dec)
  vh * (tr + ts) + vr * tr + ss + ((s.safe 0x0808 0 + s.safe 0x0809 0 + s.safe 0x060C g : Nat) : Rat)

end Sys2Proof.Machine
end

