-- ==== Sys2Proof/Machine/DebugCore.lean ====
section
/-!
DEFINITION. The debug attachment log (R727).
-/
namespace Sys2Proof.Machine

/-- Every PWM pair is forced: the `outputs forced` byte of a log 2 entry. -/
def State.outputsForced (s : State) : Bool := (List.range 96).all fun p => s.flag Reg.PWM_STATUS_FORCED p

/-- Appends an entry to log 2: code, source, program counter (R727). -/
def State.debugLog (s : State) (code source pc : Nat) : State :=
  s.log 2 code source ([BitVec.ofNat 8 (Mode.code s.mode.mode), BitVec.ofNat 8 (s.get Reg.TWIN_STATE_ROLE 0),
    BitVec.ofNat 8 (b2n s.outputsForced), 0] ++ leBytes 4 (s.get Reg.CYCLE_NUM_NUMBER 0) ++ leBytes 8 pc)

/-- A debugger holds hart `h` halted. -/
def State.hartHeld (s : State) (h : Nat) : Bool := s.dbg.heldHarts.contains h

/-- The debugger holds or releases hart `h`. -/
def State.holdHart (s : State) (h : Nat) (on : Bool) : State :=
  { s with dbg := { s.dbg with heldHarts := if on then h :: s.dbg.heldHarts.filter (· != h)
                                            else s.dbg.heldHarts.filter (· != h) } }

/-- The source number of an engine in log 2. -/
def engineSource (k : Nat) : Nat := 0x100 + k

end Sys2Proof.Machine
end

