-- ==== Sys2Proof/Machine/SawNum.lean ====
section
/-!
DEFINITION. The fixed-point arithmetic of the Sawmill (R177 to R180): rounding, saturation, the 72-bit accumulator, the divide
and reciprocal-square-root unit.
-/
namespace Sys2Proof.Machine

/-- `n ÷ d` rounded to the nearest integer, a half to the even one (R179). -/
def roundEven (n : Int) (d : Nat) : Int :=
  let q := n / (d : Int)
  let r := n % (d : Int)
  if 2 * r < d then q else if (d : Int) < 2 * r then q + 1 else if q % 2 = 0 then q else q + 1

/-- `x` shifted from `fa` to `ft` fraction bits, rounded to nearest even (R179). -/
def reformat (x : Int) (fa ft : Nat) : Int :=
  if ft < fa then roundEven x (2 ^ (fa - ft)) else x * (2 ^ (ft - fa) : Nat)

/-- A result in 32 bits and whether it saturated (R179). -/
def sat32 (x : Int) : Int × Bool := (satS 32 x, decide (satS 32 x ≠ x))

/-- The accumulator after one product is added: 72 bits, saturating (R178). -/
def accumulate (acc prod : Int) : Int × Bool := (satS 72 (acc + prod), decide (satS 72 (acc + prod) ≠ acc + prod))

/-- Write-back of an accumulator with `fa` fraction bits to `ft` (R179). -/
def writeBack (acc : Int) (fa ft : Nat) : Int × Bool := sat32 (reformat acc fa ft)

/-- Division in the target format (R180). -/
def sawDiv (a b : Int) (fa fb ft : Nat) : Int × Bool :=
  if b = 0 then (if a < 0 then -(2 ^ 31) else 2 ^ 31 - 1, true)
  else
    let n := if b < 0 then -a else a
    sat32 (roundEven (n * (2 ^ (ft + fb) : Nat)) (b.natAbs * 2 ^ fa))

/-- The integer square root by bits, from bit `k` down. -/
def isqrt (n : Nat) : Nat → Nat → Nat
  | 0, r => r
  | k + 1, r => isqrt n k (if (r + 2 ^ k) * (r + 2 ^ k) ≤ n then r + 2 ^ k else r)

/-- Reciprocal square root in the target format (R180). -/
def sawRoot (b : Int) (fb ft : Nat) : Int × Bool :=
  if b ≤ 0 then (2 ^ 31 - 1, true)
  else
    let n := 4 * 2 ^ (2 * ft + fb)
    let q := n / b.natAbs
    let y := isqrt q 48 0
    let exact := decide (y * y * b.natAbs = n)
    let x := y / 2
    sat32 ((if y % 2 = 0 then x else if exact && x % 2 == 0 then x else x + 1 : Nat) : Int)

/-- A number as the Sawmill reads it (R177): its raw word and the fraction bits of its format. -/
structure FixNum where
  raw : Int
  frac : Nat
deriving DecidableEq, Repr, Inhabited

/-- The number 1, without fraction bits. -/
def FixNum.one : FixNum := ⟨1, 0⟩

/-- The value of a fixed-point number. -/
def FixNum.value (x : FixNum) : Rat := (x.raw : Rat) / (2 ^ x.frac : Nat)

/-- A product, exactly, with the sum of the fraction bits (R178). -/
def FixNum.mul (x y : FixNum) : FixNum := ⟨x.raw * y.raw, x.frac + y.frac⟩

/-- The opposite number. -/
def FixNum.neg (x : FixNum) : FixNum := ⟨-x.raw, x.frac⟩

/-- The products `l` accumulated in order at the finest of their fractions, and how many additions saturated (R178). Products
of unequal fractions are aligned to the finest one (DESIGN CHOICE, log entry 22). -/
def macSum (l : List FixNum) : FixNum × Nat :=
  let f := l.foldl (fun f x => max f x.frac) 0
  let r := l.foldl (fun (r : Int × Nat) x =>
    let a := accumulate r.1 (x.raw * (2 ^ (f - x.frac) : Nat))
    (a.1, r.2 + b2n a.2)) (0, 0)
  (⟨r.1, f⟩, r.2)

/-- The sum of `l` as a raw word of `ft` fraction bits, and how many saturations that took (R178, R179). -/
def macWrite (l : List FixNum) (ft : Nat) : Int × Nat :=
  let a := macSum l
  let v := writeBack a.1.raw a.1.frac ft
  (v.1, a.2 + b2n v.2)

/-- A rational number as a raw word of `f` fraction bits: nearest, ties to even, saturated (R179). -/
def rawOf (x : Rat) (f : Nat) : Int :=
  let y := x * (2 ^ f : Nat)
  (sat32 (roundEven y.num y.den)).1

/-- A power of 2 with exponent −e as a fixed-point number. -/
def FixNum.pow (e : Nat) : FixNum := ⟨1, e⟩

end Sys2Proof.Machine
end

