-- ==== Sys2Proof/Machine/SawProblem.lean ====
section
/-!
DEFINITION. The problems of the Sawmill as an image defines them (R181 to R186, R192): the joints and their order, the
variables and rows of the whole-cell problem, its constant entries, where a number lies in cell SRAM.
-/
namespace Sys2Proof

open Sys2Proof.Machine

/-- The joints of the image by number 12 × arm + joint, with their axes. -/
def CellContent.joints (c : CellContent) : List (Nat × Nat) :=
  c.arms.flatMap fun a => a.joints.zipIdx.map fun j => (12 * a.arm + j.2, j.1)

/-- The joints in joint order G0 j0 to G15 j11 (R181). -/
def CellContent.jointOrder (c : CellContent) : List (Nat × Nat) :=
  (List.range 192).filterMap fun k => c.joints.find? fun j => j.1 == k

/-- The number of joints, J. -/
def CellContent.numJoints (c : CellContent) : Nat := c.jointOrder.length

/-- The place of a joint, by its number, in joint order. -/
def CellContent.jointIdx (c : CellContent) (k : Nat) : Nat := (c.jointOrder.map Prod.fst).idxOf k

/-- The variable of stage `s`, joint `j` in joint order, quantity `k` (0 q, 1 v, 2 a; R181). The order of the variables is
the model's (DESIGN CHOICE, log entry 22). -/
def CellContent.varAt (c : CellContent) (s j k : Nat) : Nat := 3 * (c.numJoints * s + j) + k

/-- The rows of one stage: 2J of state, J of torque, one of each clearance slot, in that order (R183). -/
def CellContent.stageRows (c : CellContent) : Nat := 3 * c.numJoints + c.slots.length

/-- The row of stage `s` at place `o` within the stage. -/
def CellContent.rowAt (c : CellContent) (s o : Nat) : Nat := c.stageRows * s + o

/-- Variables of a problem: 3JN for the whole cell (R181). -/
def CellContent.numVars (c : CellContent) (p : ProblemDef) : Nat :=
  if p.number = 0 then 3 * c.numJoints * c.numStages else p.vars

/-- Rows of a problem: 2J + 2J(N − 1) + JN + PN for the whole cell (R183). -/
def CellContent.numRows (c : CellContent) (p : ProblemDef) : Nat :=
  if p.number = 0 then c.stageRows * c.numStages else p.rows

/-- The time of a stage after stage 0, in s (R277). -/
def CellContent.stageSec (c : CellContent) (s : Nat) : Rat := (c.stageTimes.getD s 0 : Rat) / 1000000

/-- The spacing before stage `s`, in s (R183). -/
def CellContent.spacing (c : CellContent) (s : Nat) : Rat := c.stageSec s - c.stageSec (s - 1)

/-- The definition of the joint at place `j` of the joint order. -/
def CellContent.jointDef (c : CellContent) (j : Nat) : Option JointDef :=
  let k := (c.jointOrder.getD j (0, 0)).1
  c.jointDefs.find? fun d => 12 * d.arm + d.joint == k

/-- The limits of a variable of the whole-cell problem (R182): those of its joint and quantity. -/
def CellContent.varLimits (c : CellContent) (v : Nat) : Rat × Rat :=
  match c.jointDef (v / 3 % max 1 c.numJoints) with
  | some d => d.limits.getD (v % 3) (0, 0)
  | none => (0, 0)

/-- The weight of a variable: the stage weight, and on q and v of the last stage the terminal weight beside it (R182;
DEDUCED, log entry 22). -/
def CellContent.varWeight (c : CellContent) (v : Nat) : Rat :=
  match c.jointDef (v / 3 % max 1 c.numJoints) with
  | some d =>
    let last := decide (v / (3 * max 1 c.numJoints) + 1 = c.numStages ∧ v % 3 < 2)
    d.weights.getD (v % 3) 0 + (if last then d.terminal.getD (v % 3) 0 else 0)
  | none => 0

/-- The coefficient of a variable in a state row of the whole-cell problem (R183): the initial state in stage 0, the
transition in the others; none for a torque or clearance row, whose coefficients software posts. -/
def CellContent.stateCoeff (c : CellContent) (row v : Nat) : Option Rat :=
  let nj := max 1 c.numJoints
  let s := row / c.stageRows
  let o := row % c.stageRows
  let h := c.spacing s
  let back := decide (v / (3 * nj) + 1 = s)
  if 2 * nj ≤ o then none
  else if v / 3 % nj ≠ o % nj then some 0
  else if v / (3 * nj) = s then some (if v % 3 = o / nj then 1 else 0)
  else if !back then some 0
  else if o / nj = 0 then some (match v % 3 with
    | 0 => -1
    | 1 => -h
    | _ => -(h * h / 2))
  else some (match v % 3 with
    | 0 => 0
    | 1 => -1
    | _ => -h)

/-- The bounds of a row that Ranger posts: 0 for a transition, dmin and the maximum value for a clearance row (R183, R184);
none for the others. -/
def CellContent.rowConst (c : CellContent) (row : Nat) : Option (Rat × Rat) :=
  let nj := c.numJoints
  let s := row / max 1 c.stageRows
  let o := row % max 1 c.stageRows
  if o < 2 * nj then (if s = 0 then none else some (0, 0))
  else if o < 3 * nj then none
  else (c.slots[o - 3 * nj]?).map fun x => (x.dmin, 2 ^ 32)

/-- The constant entries of the whole-cell problem with their values, in the order of the entry index (R184). -/
def CellContent.constants (c : CellContent) (p : ProblemDef) : List (Nat × Rat) :=
  let mat := p.matrix.zipIdx.filterMap fun m =>
    match m.1 with
    | .h v => some (m.2, c.varWeight v)
    | .c r v => (c.stateCoeff r v).map fun x => (m.2, x)
  let rows := (List.range (c.numRows p)).filterMap fun r => (c.rowConst r).map fun x => (r, x)
  let vars := List.range (c.numVars p)
  mat ++ rows.map (fun r => (0x410000 + r.1, r.2.1)) ++ rows.map (fun r => (0x420000 + r.1, r.2.2))
    ++ vars.map (fun v => (0x430000 + v, (c.varLimits v).1)) ++ vars.map (fun v => (0x440000 + v, (c.varLimits v).2))

/-- The fraction bits and the byte offset in cell SRAM of number `i` of a list of blocks (R177). -/
def blockAt (l : List NumBlock) (i : Nat) : Option (Nat × Nat) :=
  (l.find? fun b => decide (b.first ≤ i ∧ i ≤ b.last)).map fun b => (b.frac, b.base + 4 * (i - b.first))

/-- The entry index lies in a range and within the problem's own counts (R192). -/
def CellContent.entryValid (c : CellContent) (p : ProblemDef) (e : Nat) : Bool :=
  let n := min (c.numVars p) 16384
  let m := min (c.numRows p) 32768
  decide (e < min p.matrix.length 0x400000 ∨ 0x400000 ≤ e ∧ e < 0x400000 + n ∨ 0x410000 ≤ e ∧ e < 0x410000 + m ∨
    0x420000 ≤ e ∧ e < 0x420000 + m ∨ 0x430000 ≤ e ∧ e < 0x430000 + n ∨ 0x440000 ≤ e ∧ e < 0x440000 + n)

/-- Fraction bits of an entry's format. -/
def entryFrac (p : ProblemDef) (e : Nat) : Nat := ((blockAt p.entries e).map Prod.fst).getD 0

/-- The byte offset of an entry in cell SRAM. -/
def entryOff (p : ProblemDef) (e : Nat) : Nat := ((blockAt p.entries e).map Prod.snd).getD 0

/-- The factor values of a supernode: the lower triangle of its diagonal block and its panel (R186). -/
def Supernode.values (x : Supernode) : Nat := x.cols.length * (x.cols.length + 1) / 2 + x.rows.length * x.cols.length

/-- The factor values of a tile's share (R186). -/
def ProblemDef.share (p : ProblemDef) (t : Nat) : Nat :=
  ((p.nodes.filter fun x => x.tile == t).map Supernode.values).sum

/-- The fraction bits of a data point of the whole-cell trajectory: those of its variable (R225, R306). -/
def CellContent.trajFrac (c : CellContent) (arm stage joint v : Nat) : Option Nat :=
  match c.problems.find? fun p => p.number == 0 with
  | some p => (p.point[c.varAt stage (c.jointIdx (12 * arm + joint)) v]?).map PointWord.frac
  | none => none

/-- The operation code of a schedule word (R187). -/
def sawOp (w : BitVec 128) : Nat := bitsOf w.toNat 0 8
/-- `BOUNDARY`. -/
def sawBoundary (w : BitVec 128) : Bool := bitOf w.toNat 8
/-- `SNODE`. -/
def sawNode (w : BitVec 128) : Nat := bitsOf w.toNat 16 16
/-- `W`. -/
def sawW (w : BitVec 128) : Nat := bitsOf w.toNat 32 16
/-- `R`. -/
def sawR (w : BitVec 128) : Nat := bitsOf w.toNat 48 16
/-- Operand `A`. -/
def sawA (w : BitVec 128) : Nat := bitsOf w.toNat 64 32
/-- Operand `B`, the element count n. -/
def sawB (w : BitVec 128) : Nat := bitsOf w.toNat 96 32

/-- `n ÷ d` rounded up. -/
def ceilDiv (n d : Nat) : Nat := (n + d - 1) / d

/-- The duration of an operation in SAW cycles in an instance of `tiles` tiles, without the wait for an arrival (R188). -/
def sawCycles (tiles : Nat) (v : BitVec 128) : Nat :=
  let w := sawW v
  let r := sawR v
  let n := sawB v
  match sawOp v with
  | 1 => ceilDiv n 16 + 8
  | 2 => ceilDiv (w * w * w) 384 + 16 * w
  | 3 => ceilDiv (r * w * w) 128 + 8
  | 4 => ceilDiv (r * r * w) 128 + 8
  | 5 => ceilDiv n 32 + 8
  | 6 => ceilDiv n 48 + 60
  | 7 => ceilDiv n 32 + 8
  | 8 => ceilDiv n 64 + 12
  | 9 => ceilDiv n 64 + 12
  | 10 => ceilDiv n 64 + 8
  | 11 => n + 18
  | 12 => n + 18
  | 13 => if tiles = 2 then 50 else if tiles = 4 then 80 else if tiles = 8 then 120 else 0
  | 14 => 40
  | 15 => 4
  | _ => 0

end Sys2Proof
end

