-- ==== Sys2Proof/Machine/Dq.lean ====
section
/-!
DEFINITION. The delta queues (R173, R191 to R199): their rings and the problem entries lie in cell SRAM.
-/
namespace Sys2Proof.Machine

/-- Instance `n` beside its registers. -/
def State.inst (s : State) (n : Nat) : SawInst := s.insts.get SawInst.reset n

/-- Changes an instance. -/
def State.onInst (s : State) (n : Nat) (f : SawInst → SawInst) : State :=
  { s with insts := s.insts.put SawInst.reset n (f (s.inst n)) }

/-- The problem that an instance is bound to (R200). -/
def State.problem (s : State) (n : Nat) : Option ProblemDef :=
  match s.cell with
  | some c =>
    if s.flag Reg.INST_CFG_NO_PROBLEM n then none else c.problems.find? fun p => p.number == s.get Reg.INST_CFG_PROBLEM n
  | none => none

/-- The content of the installed image; an empty one without an image. -/
def State.content (s : State) : CellContent := s.cell.getD default

/-- A word of cell SRAM at a byte offset. -/
def State.sramGet (s : State) (off : Nat) : Int := toS 32 (leNat (s.memGet (csramBase + off) 4))

/-- Writes a word of cell SRAM. -/
def State.sramPut (s : State) (off : Nat) (x : Int) : State := s.memPut (csramBase + off) (leBytes 4 (ofS 32 x))

/-- The address of record `k` of the ring of queue `n` (R173, R195). -/
def ringAddr (n k : Nat) : Nat := csramBase + 0x1800000 + n * 0x100000 + 8 * (k % 131072)

/-- `DQ_LEVEL` shows the ring. -/
def State.showDq (s : State) (n : Nat) : State :=
  (s.set Reg.DQ_LEVEL_LEVEL n (s.inst n).level).setFlag Reg.DQ_LEVEL_HOLD n (s.inst n).run.isSome

/-- An invalid record is discarded (R194). -/
def State.badRecord (s : State) (n v : Nat) : State :=
  let s := (s.count Reg.DQ_BAD_COUNT n 1).setFlag Reg.DQ_FLAGS_BAD_SEEN n true
  ((s.set Reg.DQ_LAST_BAD_ENTRY n (bitsOf v 0 24)).set Reg.DQ_LAST_BAD_TAG n (bitsOf v 24 8)).raise 125

/-- A record is posted (R194, R195, R197). -/
def State.postRecord (s : State) (n : Nat) (v : Word64) : State :=
  if (s.problem n).isNone then s.badRecord n v.toNat
  else if 131072 ≤ (s.inst n).level then
    ((s.count Reg.DQ_DROP_COUNT n 1).setFlag Reg.DQ_FLAGS_DELTA_LOST n true |>.raise 124).onInst n
      fun i => { i with lost := true }
  else ((s.memPut (ringAddr n ((s.inst n).head + (s.inst n).level)) (leBytes 8 v.toNat)).onInst n
    fun i => { i with level := i.level + 1 }).showDq n

/-- A converted value and whether it saturated (R193): a right shift rounds, a left shift saturates. -/
def convertRecord (v : Nat) (frac : Nat) : Int × Bool :=
  let x := toS 32 (v / 2 ^ 32)
  if bitOf v 31 then (x, false) else sat32 (reformat x (bitsOf v 24 5) frac)

/-- A saturation in the queue. -/
def State.dqSat (s : State) (n : Nat) (b : Bool) : State :=
  if b then (s.count Reg.DQ_SAT_COUNT n 1).setFlag Reg.DQ_FLAGS_SAT_SEEN n true else s

/-- A record takes effect on its entry, or is discarded (R193, R194). -/
def State.applyRecord (s : State) (n : Nat) (w : Word64) : State :=
  let v := w.toNat
  let e := bitsOf v 0 24
  match s.problem n with
  | none => s.badRecord n v
  | some p =>
    if !s.content.entryValid p e || bitOf v 30 then s.badRecord n v
    else
      let c := convertRecord v (entryFrac p e)
      let s := s.dqSat n c.2
      let old := s.sramGet (entryOff p e)
      let sum := sat32 (old + c.1)
      let s := if bitOf v 29 then s.dqSat n sum.2 else s
      let new := if bitOf v 29 then sum.1 else c.1
      (s.sramPut (entryOff p e) new).onInst n fun i => { i with applied := i.applied + 1 }

/-- The oldest record of a ring. -/
def State.ringFront (s : State) (n : Nat) : Word64 := BitVec.ofNat 64 (leNat (s.memGet (ringAddr n (s.inst n).head) 8))

/-- The oldest record goes out of its ring. -/
def State.ringDrop (s : State) (n : Nat) : State :=
  s.onInst n fun i => { i with head := (i.head + 1) % 131072, level := i.level - 1 }

/-- The oldest record of the ring leaves it and takes effect (R195, R196). -/
def State.recordLeaves (s : State) (n : Nat) : State :=
  if (s.inst n).level = 0 then s else ((s.ringDrop n).applyRecord n (s.ringFront n)).showDq n

/-- RECORD_APPLY: outside a run (R196), and not during the cut of a resynchronisation (R610). -/
def State.doRecordApply (s : State) (n : Nat) : State :=
  if (s.inst n).run.isSome || s.parked || s.twin.cut.isSome then s else s.recordLeaves n

/-- A write of `DQ_PUSH` or `DQ_BURST` (R195); SOLVER is without power in PARK. -/
def State.doDqPush (s : State) (n : Nat) (v : Word64) : State :=
  if s.parked then s.answer .busError else (s.postRecord n v).answer .done

/-- Every ring is emptied, its records not applied (R199). -/
def State.emptyRings (s : State) : State :=
  (List.range 8).foldl (fun s n => (s.onInst n fun i => { i with head := 0, level := 0 }).showDq n) s

/-- DQ_PUSH. -/
def execDqPush (_m : Master) (queue : Fin 8) (v : Word64) (s : State) : Host.Outcome State Fault Refusal :=
  s.run fun s => s.doDqPush queue.val v

/-- DQ_BURST: one aligned 8-byte write of a burst, which comes in address order (R195). -/
def execDqBurst (_m : Master) (queue : Fin 8) (v : Word64) (s : State) : Host.Outcome State Fault Refusal :=
  s.run fun s => s.doDqPush queue.val v

/-- RECORD_APPLY. -/
def execRecordApply (queue : Fin 8) (s : State) : Host.Outcome State Fault Refusal :=
  s.run fun s => s.doRecordApply queue.val

/-- A record that sets an entry to a raw value in the entry's own format (R191). -/
def nativeRecord (e : Nat) (v : Word32) : Word64 := BitVec.ofNat 64 (e % 2 ^ 24 + 2 ^ 31 + 2 ^ 32 * v.toNat)

/-- The whole-cell problem, where instance 0 is bound to it. -/
def State.wholeProblem (s : State) : Option ProblemDef := (s.problem 0).filter fun p => p.number == 0

/-- A value of the sampled state becomes the two bounds of its row, in their formats (R183, R184, R193). -/
def State.postBound (s : State) (p : ProblemDef) (row : Nat) (x : Rat) : State :=
  [0x410000 + row, 0x420000 + row].foldl (fun s e =>
    s.postRecord 0 (nativeRecord e (BitVec.ofInt 32 (rawOf x (entryFrac p e))))) s

/-- Ranger posts the constant entries of the whole-cell problem (R184). -/
def State.postConstants (s : State) : State :=
  match s.wholeProblem with
  | some p => (s.content.constants p).foldl (fun s e =>
      s.postRecord 0 (nativeRecord e.1 (BitVec.ofInt 32 (rawOf e.2 (entryFrac p e.1))))) s
  | none => s

end Sys2Proof.Machine
end

