-- ==== Sys2Proof/Machine/NodeCore.lean ====
section
/-!
DEFINITION. The nodes of the Geyser star as registers and runs (R532, R548, R552, R553, R566, R602).
-/
namespace Sys2Proof.Machine

/-- Changes the star. -/
def State.onStar (s : State) (f : StarState → StarState) : State := { s with star := f s.star }

/-- Changes the pair. -/
def State.onTwin (s : State) (f : TwinState → TwinState) : State := { s with twin := f s.twin }

/-- The node slots in use: 32 × engine + slot. -/
def State.slots (s : State) : List Nat := (List.range 256).filter fun i => s.flag Reg.NODE_CFG_USED i

/-- The slot of node `m`. -/
def State.slotOf (s : State) (m : Nat) : Option Nat := s.slots.find? fun i => s.get Reg.NODE_CFG_NODE_ID i == m

/-- The runs of a slot. -/
def State.node (s : State) (i : Nat) : NodeRun := s.star.nodes.get NodeRun.reset i

/-- Changes the runs of a slot. -/
def State.onNode (s : State) (i : Nat) (f : NodeRun → NodeRun) : State :=
  s.onStar fun t => { t with nodes := t.nodes.put NodeRun.reset i (f (s.node i)) }

/-- The Geyser cycle in ns. -/
def State.cycleNs (s : State) : Nat := 8 * clampN 6250 125000 (s.get Reg.STAR_CFG_CYCLE 0)

/-- The guard in ns. -/
def State.guardNs (s : State) : Nat := 8 * max 1 (s.get Reg.STAR_CFG_GUARD 0)

/-- `STATE` of a node: 0 ABSENT, 1 INTEGRATING, 2 INTEGRATED, 3 OUT_OF_SYNC. -/
def State.nodeState (s : State) (i : Nat) : Nat := s.get Reg.NODE_STATUS_STATE i

/-- A node of the schedule carries an enabled axis. -/
def State.nodeDrives (s : State) (m : Nat) : Bool :=
  match s.cell with
  | some c => c.netAxes.any fun e => e.2 == m && (s.axes.get AxisState.reset e.1).enabled
  | none => false

/-- The pair is synchronised (R601). -/
def State.pairSync (s : State) : Bool := s.flag Reg.TWIN_CFG_PAIR_EN 0 && s.get Reg.TWIN_STATE_SYNC 0 == 2

/-- The unit holds the token (R593). -/
def State.token (s : State) : Bool := s.flag Reg.TWIN_STATE_TOKEN 0

/-- The role of the unit: standalone without a configured pair, else ACTIVE with the token and STANDBY without it. -/
def State.showRole (s : State) : State :=
  s.set Reg.TWIN_STATE_ROLE 0 (if !s.flag Reg.TWIN_CFG_PAIR_EN 0 then 0 else if s.token then 1 else 2)

/-- `INTLK_OUT` changes. -/
def State.setToken (s : State) (b : Bool) : State := (s.setFlag Reg.TWIN_STATE_TOKEN 0 b).showRole

/-- The token is released (R596). -/
def State.dropToken (s : State) : State :=
  if s.token then ((s.onTwin fun t => { t with confirmed := false, takeAt := none }).setToken false).raise 225 else s

/-- The partner's star takes the frames of a node, as its last record shows (R602; DEDUCED). -/
def State.partnerTakes (s : State) (m : Nat) : Bool :=
  match s.slotOf m with
  | some i => (s.node i).other
  | none => false

/-- Node `m` has left INTEGRATED (R553, R602). -/
def State.nodeLeft (s : State) (m : Nat) : State :=
  if s.pairSync && s.partnerTakes m then
    if !s.token then s.setFlag Reg.TWIN_FLAGS_CHANNEL_DEGRADED 0 true
    else if !s.nodeDrives m then s
    else if s.slots.all fun i => !s.nodeDrives (s.get Reg.NODE_CFG_NODE_ID i) || (s.node i).other then
      let c := s.get Reg.CYCLE_NUM_NUMBER 0 + 1
      (s.onTwin fun t => { t with handover := some c }).out (.twin (.handover c))
    else s.latchCause 7
  else if s.nodeDrives m then s.latchCause 7 else s

/-- A node becomes ABSENT (R548): `EV141` and R553 where it was INTEGRATED. -/
def State.nodeAbsent (s : State) (i : Nat) : State :=
  let was := s.nodeState i
  let m := s.get Reg.NODE_CFG_NODE_ID i
  let leave := s.flag Reg.NODE_STATUS_IN_SET i
  let s := ((s.set Reg.NODE_STATUS_STATE i 0).setFlag Reg.NODE_STATUS_IN_SET i false).onNode i fun n =>
    { n with good := 0, miss := 0, quiet := 0, inSet := 0, rej := 0 }
  let s := (s.set Reg.NODE_DELAY_DELAY i (s.get Reg.NODE_DELAY_NOM_DELAY i)).setFlag Reg.NODE_DELAY_DELAY_VALID i false
  let s := s.raiseIf leave 139
  if was = 2 then (s.raise 141).nodeLeft m else s

/-- The nodes of a port that leaves UP. -/
def State.portNodesLost (s : State) (p : Nat) : State :=
  s.slots.foldl (fun s i => if s.get Reg.NODE_CFG_PORT i = p ∧ s.nodeState i ≠ 0 then s.nodeAbsent i else s) s

end Sys2Proof.Machine
end

