-- ==== Sys2Proof/Machine/Kernel.lean ====
section
/-!
DEFINITION. A period of the servo kernel (R281 to R312) and the homing sequences it runs (R426 to R430).
-/
namespace Sys2Proof.Machine

/-- `x` rounded to a multiple of 2^-sh, a half upwards (R290). -/
def roundQ (x : Rat) (sh : Nat) : Rat := ((x * (2 ^ sh : Nat) + 1 / 2).floor : Rat) / (2 ^ sh : Nat)

/-- Integrator state as 64 bits hold it, at the shift of its increments (R290). -/
def hold64 (x : Rat) : Rat :=
  (clampI (-(2 ^ 63)) (2 ^ 63 - 1) (x * (2 ^ Config.integratorShift : Nat)).floor : Rat) / (2 ^ Config.integratorShift : Nat)

/-- The gains and limits of a loop. -/
structure LoopGains where
  kp : Rat
  ki : Rat
  kd : Rat
  tf : Rat
  ilim : Rat
  lim : Rat
deriving DecidableEq, Repr, Inhabited

/-- What a loop period gives: output, loop, whether the integrator was held, whether the output was clamped. -/
structure LoopOut where
  u : Rat
  l : LoopState
  frozen : Bool
  sat : Bool
deriving DecidableEq, Repr, Inhabited

/-- One period `t` of a loop with reference `r`, measurement `y` and feed-forward `ff` (R285, R286, R290); the output is
rounded to `sh` fraction bits. `hold`: the integrator is not updated (R309). The first period after enabling takes `y` as the
last measurement too (R291). -/
def loopPeriod (g : LoopGains) (l : LoopState) (r y ff t : Rat) (sh : Nat) (hold : Bool) : LoopOut :=
  let e := r - y
  let p := g.kp * e
  let inc := if hold then 0 else roundQ (g.ki * t * e) Config.integratorShift
  let d := (g.tf * l.d + g.kd * (l.y.getD y - y)) / (g.tf + t)
  let i1 := clampQ (-g.ilim) g.ilim (l.i + inc)
  let u1 := p + i1 + d + ff
  let skip := (decide (g.lim < u1) && decide (0 < e)) || (decide (u1 < -g.lim) && decide (e < 0))
  let i2 := if skip then clampQ (-g.ilim) g.ilim l.i else i1
  let u2 := p + i2 + d + ff
  { u := roundQ (clampQ (-g.lim) g.lim u2) sh, l := { i := hold64 i2, d := d, y := some y }, frozen := skip,
    sat := decide (g.lim < u2 ∨ u2 < -g.lim) }

/-- ns as seconds. -/
def nsQ (n : Nat) : Rat := (n : Rat) / 1000000000

/-- The gains of the position loop. -/
def State.posGains (s : State) (x : Nat) : LoopGains :=
  { kp := s.gain x 0x10, ki := s.gain x 0x11, kd := s.gain x 0x12, tf := nsQ (s.param x 0x13), ilim := s.param x 0x14,
    lim := s.param x 0x60 }

/-- The gains of the velocity loop. -/
def State.velGains (s : State) (x : Nat) : LoopGains :=
  { kp := s.gain x 0x20, ki := s.gain x 0x21, kd := s.gain x 0x22, tf := nsQ (s.param x 0x23), ilim := s.pu x 0x24,
    lim := s.pu x 0x25 }

/-- The gains of the current loops. -/
def State.curGains (s : State) (x : Nat) : LoopGains :=
  { kp := s.gain x 0x30, ki := s.gain x 0x31, kd := s.gain x 0x32, tf := nsQ (s.param x 0x33), ilim := s.pu x 0x34,
    lim := s.pu x 0x35 }

/-- The tick period of an engine in ns (R252). -/
def State.tickNs (s : State) (k : Nat) : Nat :=
  match s.tickSource k with
  | 1 => s.pairLength (12 * (k - 48) + s.get Reg.JCE_TICK_PAIR k) / 16
  | 2 => 8 * s.get Reg.STAR_CFG_CYCLE 0 / clampN 1 32 (s.get Reg.JCE_TICK_DIV k)
  | _ => 0

/-- The latest result of the route that an ADC parameter names. -/
def State.adcParam (s : State) (x n : Nat) : Nat :=
  let v := s.param x n
  s.get Reg.ROUTE_LAST_WORD (16 * (v % 16) + bitsOf v 4 4)

/-- The quality codes of the three samples of a period: the two currents, the bus voltage. -/
def State.sampleQuals (s : State) (x : Nat) : List Nat := [0x93, 0x94, 0x95].map fun n => bitsOf (s.adcParam x n) 16 2

/-- A result with QUAL 3, or a phase current beyond `I_MAX` (R311). -/
def State.overCurrent (s : State) (x : Nat) : Bool :=
  let a := s.ax x
  let k := s.gain x 0x96
  let ia := k * (a.ia : Rat)
  let ib := k * (a.ib : Rat)
  let top := s.pu x 0x36
  (s.sampleQuals x).contains 3 || decide (top < ia.abs ∨ top < ib.abs ∨ top < (ia + ib).abs)

/-- The current samples of a period (R311): only results of QUAL 0 are used; QUAL 1 and 2 make the period a held one. -/
def State.takeSamples (s : State) (x : Nat) : State :=
  let q := s.sampleQuals x
  let wa := s.adcParam x 0x93
  let wb := s.adcParam x 0x94
  let wv := s.adcParam x 0x95
  let s := s.onAx x fun a =>
    { a with ia := if q.getD 0 0 = 0 then toS 16 wa else a.ia, ib := if q.getD 1 0 = 0 then toS 16 wb else a.ib,
             vbus := if q.getD 2 0 = 0 then bitsOf wv 0 16 else a.vbus,
             held := if q.contains 1 || q.contains 2 then a.held + 1 else 0 }
  let s := s.noteIf x (s.overCurrent x) 3
  s.noteIf x (decide (s.param x 0x97 ≤ (s.ax x).held)) 10

/-- The electrical angle in turns (R289). -/
def State.elecAngle (s : State) (x : Nat) : Rat :=
  let rev : Int := max 1 (s.param x 0x91)
  let m := (s.pos (axisFb x) - s.paramS x 0x92) % rev
  (s.param x 0x90 : Rat) * (m : Rat) / (rev : Rat)

/-- The duty of a phase voltage, 0 to 1, in fine units of the period (R289). -/
def dutyOf (v : Rat) (per : Nat) : Nat := (clampQ 0 1 ((1 + v) / 2) * per + 1 / 2).floor.toNat

/-- A pair's duty is written, its period left (R289). -/
def State.putDuty (s : State) (p : Nat) (v : Rat) : State :=
  let per := s.get Reg.PWM_SET_PER p
  (s.set Reg.PWM_SET_DUTY p (dutyOf v (s.pairPer p)) |>.set Reg.PWM_SET_PER p per).applySet p s.fineNow

/-- Phase currents in the d–q frame at an angle in turns (R289): i_c = −i_a − i_b. -/
def dqCurrents (th ia ib : Rat) : Rat × Rat :=
  let beta := (ia + 2 * ib) / rootQ 3
  let sc := sinCosTurn th
  (Config.dqScale * (ia * sc.2 + beta * sc.1), Config.dqScale * (beta * sc.2 - ia * sc.1))

/-- v_d and v_q back in phase voltages at an angle, scaled by the bus voltage sample (R289). -/
def phaseVoltages (th vd vq : Rat) (bus : Nat) : Rat × Rat × Rat :=
  let sc := sinCosTurn th
  let k := Config.busScale bus / Config.dqScale
  let alpha := k * (vd * sc.2 - vq * sc.1)
  let beta := k * (vd * sc.1 + vq * sc.2) * rootQ 3
  (alpha, (beta - alpha) / 2, (-beta - alpha) / 2)

/-- v_d and v_q, both scaled down together where their magnitude exceeds `lim` (R289). -/
def limitVoltage (vd vq lim : Rat) : Rat × Rat :=
  let m := vd * vd + vq * vq
  if lim * lim < m then (vd * lim / rootQ m, vq * lim / rootQ m) else (vd, vq)

/-- The current loops of a local servo axis and its duty values (R285, R287, R289). -/
def State.currentLoop (s : State) (x ns : Nat) : State :=
  let a := s.ax x
  if !a.enabled then s
  else
    let th := s.elecAngle x
    let k := s.gain x 0x96
    let dq := dqCurrents th (k * (a.ia : Rat)) (k * (a.ib : Rat))
    let g := s.curGains x
    let t := nsQ ns
    let q := loopPeriod g a.curQ (s.gain x 0x37 * a.torque) dq.2 0 t 28 false
    let d := loopPeriod g a.curD 0 dq.1 0 t 28 false
    let beyond := decide (g.lim * g.lim < d.u * d.u + q.u * q.u)
    let v := limitVoltage d.u q.u g.lim
    let speed := s.axisSpeed x
    let ahead := (s.param x 0x90 : Rat) * speed * t / (2 * (max 1 (s.param x 0x91) : Nat))
    let ph := phaseVoltages (th + ahead) v.1 v.2 a.vbus
    let s := s.onAx x fun a =>
      { a with curQ := q.l, curD := d.l, outSat := a.outSat || q.sat || d.sat || beyond,
               frozen := a.frozen || q.frozen || d.frozen }
    let b := 3 * (x - 192)
    ((s.putDuty b ph.1).putDuty (b + 1) ph.2.1).putDuty (b + 2) ph.2.2

/-- The speed that the velocity loop uses (R288); `last` is the position of its last period. -/
def State.loopSpeed (s : State) (x : Nat) (last t : Rat) : Rat :=
  if axisKind x = 1 then
    if s.flag Reg.FB_STATUS_SPEED_VALID (axisFb x) then s.axisSpeed x
    else if s.flag Reg.FB_STATUS_STILL (axisFb x) then 0
    else if t = 0 then 0 else (s.axisPos x - last) / t
  else s.axisSpeed x

/-- The velocity loop (R285 to R288). -/
def State.velocityLoop (s : State) (x ns : Nat) (hold : Bool) : State :=
  let a := s.ax x
  let t := nsQ ns
  let y := s.loopSpeed x a.lastPos t
  let p := s.axisPos x
  if !a.enabled then s.onAx x fun a => { a with lastPos := p }
  else
    let ff := s.gain x 0x41 * a.spA + s.pu x 0x42
    let o := loopPeriod (s.velGains x) a.vel a.velRef y ff t 28 hold
    s.onAx x fun a =>
      { a with vel := o.l, torque := o.u, outSat := a.outSat || o.sat, frozen := a.frozen || o.frozen, lastPos := p }

/-- The position loop and the following error (R285, R313). -/
def State.positionLoop (s : State) (x ns : Nat) (hold : Bool) : State :=
  let a := s.ax x
  let y := s.axisPos x
  let err := a.spP - y
  let o := loopPeriod (s.posGains x) a.pos a.spP y (s.gain x 0x40 * a.spV) (nsQ ns) 16 hold
  let inPos := decide (err.abs ≤ s.param x 0x73) && !s.axisBusy x
  let s := s.onAx x fun a =>
    { a with err := err, inPosAt := if inPos then some (a.inPosAt.getD s.ticks) else none }
  if (s.ax x).enabled then
    s.onAx x fun a => { a with pos := o.l, velRef := o.u, outSat := a.outSat || o.sat, frozen := a.frozen || o.frozen }
  else s

/-- The stage times of the trajectory in ns after stage 0 (R277, R304). -/
def State.stageNs (s : State) (x i : Nat) : Nat := 1000 * s.param x (0x180 + i)

/-- One data point of an arm's bank: value and fraction bits (R225). -/
def State.trajPoint (s : State) (arm bank stage joint v : Nat) : Nat :=
  (s.points.get 0 (0x10000 + arm * 0x1000 + (if bank = 0 then 0x100 else 0x800) + 0x40 * stage + 4 * joint + v)).toNat

/-- A data point as a number; none where its fraction field differs from section 0x0006 (R306). -/
def State.trajValue (s : State) (c : CellContent) (arm bank stage joint v : Nat) : Option Rat :=
  let w := s.trajPoint arm bank stage joint v
  let f := bitsOf w 32 5
  if CellContent.trajFrac c arm stage joint v = some f then some ((toS 32 w : Rat) / (2 ^ f : Nat)) else none

/-- The last stage at or before `tau` ns. -/
def State.stageAt (s : State) (x n tau : Nat) : Nat :=
  ((List.range n).filter fun i => decide (s.stageNs x i ≤ tau)).length - 1

/-- Position, velocity and acceleration in joint units at `tau` (R304, R305); none where a data point does not fit. -/
def State.trajAt (s : State) (c : CellContent) (x arm joint bank tau : Nat) : Option (Rat × Rat × Rat) :=
  let n := c.numStages
  let i := s.stageAt x n tau
  if n ≤ i + 1 then
    match s.trajValue c arm bank (n - 1) joint 0 with
    | some q => some (q, 0, 0)
    | none => none
  else
    match s.trajValue c arm bank i joint 0, s.trajValue c arm bank i joint 1,
        s.trajValue c arm bank (i + 1) joint 0, s.trajValue c arm bank (i + 1) joint 1 with
    | some q0, some v0, some q1, some v1 =>
      let h := nsQ (max 1 (s.stageNs x (i + 1) - s.stageNs x i))
      let u := nsQ (tau - s.stageNs x i) / h
      let q := (2 * u * u * u - 3 * u * u + 1) * q0 + (u * u * u - 2 * u * u + u) * h * v0
        + (-2 * u * u * u + 3 * u * u) * q1 + (u * u * u - u * u) * h * v1
      let v := ((6 * u * u - 6 * u) * q0 + (3 * u * u - 4 * u + 1) * h * v0 + (-6 * u * u + 6 * u) * q1
        + (3 * u * u - 2 * u) * h * v1) / h
      let w := ((12 * u - 6) * q0 + (6 * u - 4) * h * v0 + (-12 * u + 6) * q1 + (6 * u - 2) * h * v1) / (h * h)
      some (q, v, w)
    | _, _, _, _ => none

/-- The index of the present tick after the common instant (R282). -/
def State.tickIndex (s : State) (k : Nat) : Nat :=
  let c := 8 * s.get Reg.STAR_CFG_CYCLE 0
  let n := s.tickNs k
  let offset := match s.cell with
    | some i => 8 * i.ciOffset
    | none => 0
  if c = 0 ∨ n = 0 then 0 else (s.tb 0 + c - offset % c) % c / n

/-- The TB0 time of the present period of an engine: on a pair its nominal boundary value (R604), the start of the cycle of
the last common instant in cycle-number arithmetic plus the tick index times the tick length. -/
def State.periodTime (s : State) (k : Nat) : Nat :=
  match s.flag Reg.TWIN_CFG_PAIR_EN 0, s.star.common with
  | true, some n => n * (8 * s.get Reg.STAR_CFG_CYCLE 0) + s.tickIndex k * s.tickNs k
  | _, _ => s.tb 0

/-- The kernel reads the bank select at the first position period of each frame (R303). -/
def State.readBank (s : State) (x arm : Nat) : State :=
  let ms := s.periodTime (axisEngine x) / 1000000
  let w := (s.points.get 0 (0x10000 + arm * 0x1000)).toNat
  s.onAx x fun a =>
    match a.bank with
    | some b => if b.1 = ms then a else { a with bank := some (ms, w) }
    | none => { a with bank := some (ms, w) }

/-- The bank-select word that an axis follows. -/
def State.bankWord (s : State) (x : Nat) : Nat :=
  match (s.ax x).bank with
  | some b => b.2
  | none => 0

/-- The age of the followed bank in frames, and τ in ns (R304): time since its `FRAME`. -/
def State.bankAge (s : State) (x : Nat) : Nat × Nat :=
  let now := s.periodTime (axisEngine x)
  let age := (now / 1000000 + 2 ^ 32 - bitsOf (s.bankWord x) 32 32) % 2 ^ 32
  (age, age * 1000000 + now % 1000000)

/-- The followed bank of a joint fits the image (R306): the number of stages, and the fraction field of every data point of
section 0x0006. -/
def State.bankFits (s : State) (c : CellContent) (x arm joint : Nat) : Bool :=
  let bank := s.bankWord x % 2
  let head := (s.points.get 0 (0x10000 + arm * 0x1000 + 1 + bank)).toNat
  bitsOf head 40 5 == c.numStages && (List.range c.numStages).all fun i => (List.range 3).all fun v =>
    CellContent.trajFrac c arm i joint v == some (bitsOf (s.trajPoint arm bank i joint v) 32 5)

/-- The trajectory that an axis follows is stale (R305, R306). -/
def State.trajStale (s : State) (x : Nat) : Bool :=
  match s.cell with
  | none => false
  | some c =>
    match CellContent.jointOf c x with
    | none => false
    | some (arm, joint) => !s.bankFits c x arm joint || decide (1000 * s.param x 0x82 < (s.bankAge x).2)

/-- A step axis hands the interpolated set-points to its sequencer as the target of the period (R307, R410). -/
def State.trackStep (s : State) (x : Nat) (p v : Rat) : State :=
  let ch := x - 224
  let b := s.bus
  let s := (s.setS Reg.STP_TARGET_TARGET ch p.floor).setS Reg.STP_TVEL_TVEL ch v.floor
  { s.doStepCmd (axisMaster x) ch 4 with bus := b }

/-- The set-points take the trajectory (R303 to R307). -/
def State.followTrajectory (s : State) (x : Nat) : State :=
  match s.cell with
  | none => s
  | some c =>
    match CellContent.jointOf c x with
    | none => s
    | some (arm, joint) =>
      let s := s.readBank x arm
      let age := s.bankAge x
      let s := s.onAx x fun a => { a with bankHold := decide (1 < age.1) }
      let s := s.noteIf x (s.trajStale x) 9
      match if s.bankFits c x arm joint then s.trajAt c x arm joint (s.bankWord x % 2) age.2 else none with
      | none => s.noteIf x true 9
      | some (q, v, a) =>
        let k := s.gain x 0x80
        let s := s.onAx x fun y => { y with spP := k * q + s.paramS x 0x81, spV := k * v, spA := k * a }
        if axisKind x = 2 then s.trackStep x (s.ax x).spP (s.ax x).spV else s

/-- A trajectory axis takes its set-points from the trajectory: in RUN, from the first frame start on (R141, R307). -/
def State.trajectoryNow (s : State) (x : Nat) : Bool :=
  let a := s.ax x
  a.enabled && a.traj && a.following && s.mode.mode == .run && decide (a.reaction = 0)

/-- Limits that a commit has changed reach the sequencer of a step axis that moves (R296, R302). -/
def State.restageStep (s : State) (x : Nat) : State :=
  let q := s.axisProf x
  let d := s.axisDecel x
  let l := s.axisLimits x { q with kind := .idle }
  let same := match q.kind with
    | .stop n => n == 10 * max 1 d
    | _ => q.dec == 10 * max 1 d
  if q.busy && (s.step (x - 224)).cmd.isNone && !(same && q.vel == l.vel && q.acc == l.acc && q.decMax == l.decMax && q.jerk == l.jerk) then
    let b := s.bus
    { (s.stageStep x d).doStepCmd (axisMaster x) (x - 224) 0 with bus := b }
  else s

/-- The profile's update and the set-points it gives (R284, R292, R312). -/
def State.profileStep (s : State) (x ns : Nat) : State :=
  let a := s.ax x
  if !a.enabled then
    let p := s.axisPos x
    s.onAx x fun a => { a with spP := p, spV := 0, spA := 0 }
  else if s.trajectoryNow x then s.followTrajectory x
  else if axisKind x = 2 then
    let s := s.restageStep x
    let q := s.axisProf x
    s.onAx x fun a => { a with spP := q.p, spV := q.v, spA := q.a }
  else if a.prof.busy then
    let soft := some (s.softLimits x)
    let q := ((s.axisLimits x a.prof).plan soft (nsQ ns)).advance ns
    s.onAx x fun a => { a with prof := q, spP := q.p, spV := q.v, spA := q.a }
  else s.onAx x fun a => { a with spV := 0, spA := 0 }

/-- The search direction of a homing method (R426): true is negative. -/
def homingDown (method : Nat) : Bool := method == 2 || method == 4 || method == 6 || method == 7 || method == 9

/-- The bit of the axis input point that a method's switch has: HOME, NEG_LIMIT or POS_LIMIT. -/
def homingBit (method : Nat) : Nat := if method ≤ 4 then 2 else if method = 7 ∨ method = 9 then 1 else 0

/-- Methods that end at an index. -/
def homingIndex (method : Nat) : Bool :=
  method == 3 || method == 4 || method == 5 || method == 6 || method == 9 || method == 10

/-- The feedback channel whose index homes an axis (R426). -/
def indexChannel (x : Nat) : Nat := if axisKind x = 1 then axisFb x else 32 + (x - 224)

/-- Sets the homing sequence. -/
def State.setHoming (s : State) (x : Nat) (h : Homing) : State := s.onAx x fun a => { a with homing := some h }

/-- A signed homing speed. -/
def homingSpeed (down : Bool) (v : Nat) : Int := if down then -(v : Int) else v

/-- Starts a homing move at a speed. -/
def State.homeMove (s : State) (x : Nat) (down : Bool) (v : Nat) : State :=
  s.axisStart x (.velocity (homingSpeed down v)) 0 0 0 false

/-- Arms the index latch once (R332, R427). -/
def State.armIndex (s : State) (x : Nat) : State :=
  let ch := indexChannel x
  (s.set Reg.INDEX_CTRL_INDEX_MODE ch 1).setFlag Reg.INDEX_CTRL_ARMED ch true

/-- Homing starts (R426, R427). -/
def State.startHoming (s : State) (x method : Nat) (d : AxisIoDef) : State :=
  let down := homingDown method
  let h : Homing := { method := method, phase := 2, down := down, turned := false, from0 := (s.axisPos x).floor, ref := none }
  let s := s.onAx x fun a => { a with homed := false }
  if method = 5 ∨ method = 6 then
    ((s.armIndex x).setHoming x { h with phase := 5 }).homeMove x down d.vSlow
  else if bitOf (s.axisInputs x) (homingBit method) then
    (s.setHoming x { h with phase := 0 }).homeMove x (!down) d.vFast
  else (s.setHoming x h).homeMove x down d.vFast

/-- The reference in counts; between two counts the manual states no rounding. -/
def homeRef (ref : Rat) : Int := if ref.den = 1 then ref.num else Config.homeReference ref

/-- The end of homing at standstill: the counter is preset and HOMED is set (R428). -/
def State.presetHome (s : State) (x : Nat) (ref : Rat) (offset : Int) : State :=
  let new : Int := (s.axisPos x).floor + offset - homeRef ref
  let b := s.bus
  let s := if axisKind x = 2 then s.doStepPreset .ranger (x - 224) new
    else s.doPreset .ranger (axisFb x) new
  let p := s.axisPos x
  let s := s.onAx x fun a =>
    { a with homed := true, homing := none, prof := a.prof.rest p, spP := p, pos := { a.pos with y := some p }, lastPos := p }
  { s with bus := b }

/-- The direction in which the axis moves in a phase of homing: true is negative (R427). -/
def Homing.moves (h : Homing) : Bool :=
  if h.phase = 0 ∨ h.phase = 4 ∨ (h.phase = 5 ∧ h.method ≠ 5 ∧ h.method ≠ 6) then !h.down else h.down

/-- The first limit in the direction of motion, or the greatest distance, turns the search; a second one fails it
(R429). -/
def State.homingTurn (s : State) (x : Nat) (h : Homing) : State :=
  if h.turned then s.noteIf x true 13
  else (s.setHoming x { h with phase := 7, turned := true, down := h.moves }).axisStop x 0x63

/-- What ends a move of homing before its own end: the opposite limit in methods 7 to 10, which fails it, else the first
limit in the direction of motion (R429). -/
def State.homingBlocked (s : State) (x : Nat) (d : AxisIoDef) (h : Homing) : Option State :=
  let w := s.axisInputs x
  let moved := ((s.axisPos x).floor - h.from0).natAbs
  if 7 ≤ h.method then
    if if h.method = 7 ∨ h.method = 9 then bitOf w 0 else bitOf w 1 then some (s.noteIf x true 13) else none
  else if (if h.moves then bitOf w 1 else bitOf w 0) || decide (d.maxDist < moved) then some (s.homingTurn x h)
  else none

/-- One position period of homing (R427 to R429). -/
def State.homingStep (s : State) (x : Nat) (d : AxisIoDef) (h : Homing) : State :=
  let w := s.axisInputs x
  let sw := bitOf w (homingBit h.method)
  let still := !s.axisBusy x
  let here := (s.axisPos x).floor
  let go := fun (s : State) => (s.homingBlocked x d h).getD s
  let finish := fun (s : State) (ref : Rat) => (s.setHoming x { h with phase := 6, ref := some ref }).axisStop x 0x62
  match h.phase with
  | 0 => if sw then go s else (s.setHoming x { h with phase := 1 }).axisStop x 0x62
  | 1 => if still then (s.setHoming x { h with phase := 2, from0 := here }).homeMove x h.down d.vFast else s
  | 2 => if sw then (s.setHoming x { h with phase := 3 }).axisStop x 0x62 else go s
  | 3 => if still then (s.setHoming x { h with phase := 4, from0 := here }).homeMove x (!h.down) d.vSlow else s
  | 4 =>
    if sw then go s
    else if homingIndex h.method then (s.armIndex x).setHoming x { h with phase := 5 }
    else
      let now := s.periodTime (axisEngine x) % 2 ^ 32
      let edge := bitsOf w 32 32
      let dt := (now + 2 ^ 32 - edge) % 2 ^ 32
      finish s (s.axisPos x - homingSpeed (!h.down) d.vSlow * nsQ dt)
  | 5 =>
    let ch := indexChannel x
    if !s.flag Reg.INDEX_CTRL_ARMED ch then finish s (s.getS Reg.INDEX_POS_COUNT ch : Rat) else go s
  | 6 =>
    if still then
      match h.ref with
      | some r => s.presetHome x r d.offset
      | none => s
    else s
  | _ =>
    if still then
      let h' := { h with down := !h.down, from0 := here }
      if h.method = 5 ∨ h.method = 6 then (s.setHoming x { h' with phase := 5 }).homeMove x h'.down d.vFast
      else if sw then (s.setHoming x { h' with phase := 3 }).axisStop x 0x62
      else (s.setHoming x { h' with phase := 2 }).homeMove x h'.down d.vFast
    else s

/-- Homing, if it runs. -/
def State.homingPeriod (s : State) (x : Nat) : State :=
  match (s.ax x).homing, s.axisIo x with
  | some h, some d => s.homingStep x d h
  | _, _ => s

/-- The node of a network axis is integrated (R149); other axes have none. -/
def State.nodeReady (s : State) (x : Nat) : Bool :=
  axisKind x != 0 || match s.cell.bind fun c => c.netAxes.find? fun e => e.1 == x with
    | some e => match s.slotOf e.2 with
      | some i => s.nodeState i == 2
      | none => false
    | none => false

/-- The condition of a fault bit is still present (R316); a trajectory is followed, and so can be stale, in RUN only (DEDUCED,
log entry 63). -/
def State.faultPresent (s : State) (axis bit : Nat) : Bool :=
  match bit with
  | 1 => axisKind axis != 0 && s.flag Reg.FB_FLAGS_FAULT (axisFb axis)
  | 2 => (s.ax axis).missed
  | 3 => axisKind axis == 1 && s.overCurrent axis
  | 4 => (axisPairs axis).any fun p => s.flag Reg.PWM_TRIP_TRIP_LATCHED p
  | 5 => if axisKind axis = 2 then s.flag Reg.STP_STATUS_FLT (axis - 224) && !s.fltIgnored (axis - 224) else (s.ax axis).netFault
  | 6 => s.softBeyond axis
  | 7 => decide ((s.param axis 0x75 : Rat) < (s.axisSpeed axis).abs)
  | 8 => decide (s.param axis 0xA0 ≤ s.kernelOverruns.get 0 (axisEngine axis))
  | 9 => (s.ax axis).traj && s.mode.mode == .run && s.trajStale axis
  | 10 => axisKind axis == 1 && decide (s.param axis 0x97 ≤ (s.ax axis).held)
  | 11 => !s.jceRuns (axisEngine axis)
  | 12 => !s.nodeReady axis
  | 14 => bitsOf (s.axisInputs axis) 3 2 != 0
  | 15 => s.limitAhead axis
  | 16 => axisKind axis == 2 && !s.flag Reg.STP_USTEP_IDX_VALID (axis - 224)
  | _ => false

/-- The fault bits whose condition a period meets (R313, R414, R418, R424, R425): what it noted, and what it finds now. A
limit input during homing, or while the stop after a failed homing runs, is no `LIMIT_HIT`. -/
def State.metFaults (s : State) (x : Nat) : List Nat :=
  let a := s.ax x
  let homing := a.homing.isSome || bitOf a.noted 13 || (bitOf a.faults 13 && decide (a.reaction = 1))
  (List.range 17).filter fun b => bitOf a.noted b || match b with
    | 0 => decide ((s.param x 0x72 : Rat) < a.err.abs)
    | 15 => a.enabled && !homing && s.limitAhead x
    | 16 => axisKind x == 2 && s.flag Reg.STP_FLAGS_INDEX_LOST_SEEN (x - 224) && s.faultPresent x 16
    | _ => (b == 1 || b == 4 || b == 5 || b == 6 || b == 7 || b == 14) && s.faultPresent x b

/-- Step 8 of R284: the kernel reacts to the faults of the period, the lowest bit first. -/
def State.axisFaults (s : State) (x : Nat) : State :=
  let s := if axisKind x = 2 && s.flag Reg.STP_FLAGS_POS_UNSURE (x - 224) then
      s.onAx x fun a => { a with homed := false } else s
  (s.metFaults x).foldl (fun s b => s.latchFault x b) (s.onAx x fun a => { a with noted := 0 })

/-- An axis that stops for a reaction or a disable becomes disabled at standstill (R313, R318). -/
def State.stopEnds (s : State) (x : Nat) : State :=
  let a := s.ax x
  if a.enabled && (a.disabling || decide (a.reaction = 1 ∨ a.reaction = 2)) && !s.axisBusy x then s.axisDisable x else s

/-- The uplink value of a network axis (R282, R308, R309): its tag tells whether it arrived in this cycle. -/
def State.readUplink (s : State) (x : Nat) : State :=
  match s.cell.bind fun c => CellContent.nodeOf c x with
  | none => s
  | some (n, up, _) =>
    let b := 0x30000 + n.node * 0x100 + up
    let w0 := (s.points.get 0 b).toNat
    let w1 := (s.points.get 0 (b + 1)).toNat
    if bitsOf w1 48 16 = s.get Reg.CYCLE_NUM_NUMBER 0 % 65536 then
      s.onAx x fun a =>
        { a with netPos := (toS 64 w0 : Rat) / 65536, netVel := (toS 32 w1 : Rat), netFault := bitOf w1 34,
                 missed := false, misses := 0 }
    else
      let s := s.onAx x fun a => { a with missed := true, misses := a.misses + 1 }
      s.noteIf x (decide (s.param x 0xA1 ≤ (s.ax x).misses)) 2

/-- The kernel posts the initial-state bounds of a joint from its snapshot (R45, R183, R184). -/
def State.postInitial (s : State) (x : Nat) : State :=
  let k := axisEngine x
  let s := s.onAx x fun a => { a with postFor := none }
  match s.wholeProblem with
  | none => s
  | some p =>
    let c := s.content
    let j := (c.jointOrder.map Prod.snd).idxOf x
    if c.numJoints ≤ j then s
    else
      let m := s.axisSnap x
      let g := s.gain x 0x80
      if s.flag Reg.INST_CFG_CELL 0 && (s.eng k).kernel && s.get Reg.JCE_STATE_STATE k == jceRunning && g != 0 then
        (s.postBound p j ((m.1 - s.paramS x 0x81) / g)).postBound p (c.numJoints + j) (m.2 / g)
      else s

/-- The state of the cycle whose first frame instant has passed is there now: it is posted. -/
def State.postLate (s : State) (x : Nat) : State :=
  if (s.ax x).postFor = some (s.get Reg.CYCLE_NUM_NUMBER 0) then s.postInitial x else s

/-- The set-point and control word of a network axis (R308, R310, R538): word 0 before word 1. -/
def State.writeDownlink (s : State) (x : Nat) : State :=
  match s.cell.bind fun c => CellContent.nodeOf c x with
  | none => s
  | some (n, _, dn) =>
    let a := s.ax x
    let vel := decide (s.param x 2 = 1)
    let on := a.enabled && !Mode.sto s.mode.mode && a.faults == 0
    let b := 0x30000 + n.node * 0x100 + 0x80 + dn
    let v := if !on then 0 else if vel then q16 a.velRef else q28 a.torque
    let ctl := b2n on + 4 * b2n vel + 2 ^ 32 * (s.get Reg.CYCLE_NUM_NUMBER 0 % 65536)
    (s.putPoint b v).putPoint (b + 1) ctl

/-- What is due for an axis at a tick: its velocity loop with its period, its profile and position loop with theirs. -/
structure AxisWork where
  axis : Nat
  vel : Bool
  velNs : Nat
  pos : Bool
  posNs : Nat
deriving DecidableEq, Repr, Inhabited

/-- ns since a tick of the model's clock. -/
def State.sinceNs (s : State) (t : Nat) : Nat := max 1 (8 * (s.ticks - t))

/-- The work of an axis at a tick of its engine (R281 to R283): what its divisors or `NET_PHASE` ask for, and what overruns
put off, which takes the time that has passed (R312). -/
def State.axisWork (s : State) (k x : Nat) : AxisWork :=
  let a := s.ax x
  let n := s.tickNs k
  let vd := max 1 (s.param x 0x50)
  let pd := max 1 (s.param x 0x51)
  let work := fun (vel : Bool) (velNs : Nat) (pos : Bool) (posNs : Nat) => ({
    axis := x, vel := vel || a.owedVel, velNs := if a.owedVel then s.sinceNs a.velTime else velNs,
    pos := pos || a.owedPos, posNs := if a.owedPos || a.wasLate then s.sinceNs a.lastTime else posNs } : AxisWork)
  match axisKind x with
  | 0 =>
    let c := 8 * s.get Reg.STAR_CFG_CYCLE 0
    let due := decide (s.tickIndex k = s.param x 3)
    work (due && decide (s.param x 2 ≠ 1)) c due c
  | 1 =>
    let vel := decide (vd ≤ a.velN + 1)
    work vel (n * vd) (vel && decide (pd ≤ a.posN + 1)) (n * vd * pd)
  | _ => work false n (decide (pd ≤ a.posN + 1)) (n * pd)

/-- A tick counts for the divisors of an axis; the marks of the last period end where a new one begins. -/
def State.countTick (s : State) (w : AxisWork) : State :=
  let x := w.axis
  let vd := max 1 (s.param x 0x50)
  let pd := max 1 (s.param x 0x51)
  s.onAx x fun a =>
    let velDue := axisKind x == 2 || decide (vd ≤ a.velN + 1)
    let posDue := velDue && decide (pd ≤ a.posN + 1)
    { a with velN := if velDue then 0 else a.velN + 1,
             posN := if posDue then 0 else if velDue then a.posN + 1 else a.posN,
             frozen := a.frozen && axisKind x == 0 && !w.pos, outSat := a.outSat && axisKind x == 0 && !w.pos }

/-- Step 2 of R284, with the uplink value of a network axis whose work is due (R308). -/
def State.stepSamples (s : State) (w : AxisWork) : State :=
  match axisKind w.axis with
  | 0 =>
    if w.pos then
      let s := s.readUplink w.axis
      if (s.ax w.axis).missed then s else s.postLate w.axis
    else s
  | 1 => s.takeSamples w.axis
  | _ => s

/-- Steps 3 and 4: the current loops and their PWM writes. -/
def State.stepCurrent (s : State) (k : Nat) (w : AxisWork) : State :=
  if axisKind w.axis = 1 then s.currentLoop w.axis (s.tickNs k) else s

/-- The integrators of a network axis are not updated while its uplink value is missing (R309). -/
def State.axisHeld (s : State) (x : Nat) : Bool := axisKind x == 0 && (s.ax x).missed

/-- Step 5: the velocity loop, where it is due. A missing uplink value repeats the last set-point (R309). -/
def State.stepVelocity (s : State) (w : AxisWork) : State :=
  let x := w.axis
  if w.vel then
    let last := (s.ax x).torque
    let held := s.axisHeld x
    let s := s.velocityLoop x w.velNs held
    s.onAx x fun a => { a with velTime := s.ticks, torque := if held then last else a.torque }
  else s

/-- Step 6: homing, the profile or the trajectory, the position loop, where they are due. -/
def State.stepPosition (s : State) (w : AxisWork) : State :=
  let x := w.axis
  if w.pos then
    let last := (s.ax x).velRef
    let held := s.axisHeld x
    let s := if axisKind x = 0 then s else s.homingPeriod x
    let s := (s.profileStep x w.posNs).positionLoop x w.posNs held
    s.onAx x fun a => { a with lastTime := s.ticks, wasLate := a.owedPos, velRef := if held then last else a.velRef }
  else s

/-- Step 7: the points, and the set-point of a network axis. -/
def State.stepPoints (s : State) (w : AxisWork) : State :=
  let s := if w.pos then s.axisPoints w.axis else if w.vel then s.setPoints w.axis else s
  if axisKind w.axis = 0 ∧ w.pos = true then s.writeDownlink w.axis else s

/-- Step 8: faults and the ends of stops; the status and fault words follow on change (R20). -/
def State.stepFaults (s : State) (w : AxisWork) : State :=
  if axisKind w.axis = 0 ∧ w.pos = false then s
  else
    let s := s.onAx w.axis fun a => { a with owedVel := false, owedPos := false }
    ((s.axisFaults w.axis).stopEnds w.axis).axisWords w.axis

/-- The axes of an engine that the image binds. -/
def State.kernelAxes (s : State) (k : Nat) : List Nat :=
  ((List.range 4).map fun i => 4 * k + i).filter fun x => s.bound x

/-- A period that starts with a tick already pending (R312): the current loops and the PWM writes alone; the other work is
put off; after `OVERRUN_LIMIT` of them the four axes latch `LOOP_OVERRUN`, at the least limit of the bound axes (DESIGN
CHOICE, log entry 63). -/
def State.latePeriod (s : State) (k : Nat) (work : List AxisWork) : State :=
  let n := s.kernelOverruns.get 0 k + 1
  let s := { s with kernelOverruns := s.kernelOverruns.put 0 k n }
  let s := work.foldl (fun s w => s.onAx w.axis fun a => { a with owedVel := w.vel, owedPos := w.pos }) s
  let s := (work.filter fun w => axisKind w.axis == 1).foldl (fun s w => s.axisFaults w.axis) s
  let latched := (s.kernelAxes k).any fun x => decide (s.param x 0xA0 ≤ n)
  (List.range 4).foldl (fun s i => (s.faultIf (4 * k + i) latched 8).axisWords (4 * k + i)) s

/-- A period of the servo kernel on engine `k`, in the order of R284. `late`: it starts with a tick already pending. -/
def State.kernelPeriod (s : State) (k : Nat) (late : Bool) : State :=
  let work := (s.kernelAxes k).map fun x => s.axisWork k x
  let s := work.foldl State.countTick s
  let due := if late then work.filter fun w => axisKind w.axis == 1 else work
  let s := due.foldl State.stepSamples s
  let s := due.foldl (fun s w => s.stepCurrent k w) s
  if late then s.latePeriod k work
  else
    let s := work.foldl State.stepPoints (work.foldl State.stepPosition (work.foldl State.stepVelocity s))
    let s := { s with kernelOverruns := s.kernelOverruns.put 0 k 0 }
    work.foldl State.stepFaults s

end Sys2Proof.Machine
end

