-- ==== Sys2Proof/Machine/JceCtl.lean ====
section
/-!
DEFINITION. Control of a joint control engine from outside its program: stop, trap, debug halt, program load, staged
parameters, indirect access to its memories (R255, R263 to R272).
-/
namespace Sys2Proof.Machine

/-- What an instruction word that no program loaded holds (R249). -/
def emptyInstr : Word32 := 0x200000FF#32

/-- The engine stops in state `st` with its outputs safe (R264). -/
def State.jceHaltIn (s : State) (k st : Nat) : State :=
  ((s.set Reg.JCE_STATE_STATE k st).onEng k fun e => { e with outSafe := true, startAtTick := false }).engineOutputs k true

/-- Cause 6 follows when any axis of the engine is enabled (R264, R155). -/
def State.engineCause (s : State) (k : Nat) : State :=
  if (List.range 4).any fun i => (s.ax (4 * k + i)).enabled then
    ({ s with mode := { s.mode with engines := s.mode.engines ++ [k] } }).latchCause 6
  else s

/-- A trap (R263, R264). -/
def State.jceTrapIn (s : State) (k cause : Nat) : State :=
  (((s.jceHaltIn k jceTrapped).set Reg.JCE_STATE_TRAP_CAUSE k cause).raise 64).engineCause k

/-- A debug halt (R265, R728, R729): one of a trapped engine is logged and changes nothing else. -/
def State.jceDebugHalt (s : State) (k : Nat) : State :=
  let pc := s.get Reg.JCE_STATE_PC k
  if s.get Reg.JCE_STATE_STATE k = jceTrapped then s.debugLog 3 (engineSource k) pc
  else
    let s := (s.jceHaltIn k jceHalted).onEng k fun e => { e with debugHeld := true, debugReleased := false }
    ((s.debugLog 3 (engineSource k) pc).raise 67).engineCause k

/-- Debug resumes a halted engine: its outputs stay safe, its axes faulted (R265). -/
def State.jceDebugResume (s : State) (k : Nat) : State :=
  if (s.eng k).debugHeld then
    let s := s.onEng k fun e => { e with debugHeld := false, debugReleased := true }
    (s.set Reg.JCE_STATE_STATE k jceRunning).debugLog 4 (engineSource k) (s.get Reg.JCE_STATE_PC k)
  else s

/-- The program slot that is assigned to an engine (R270). -/
def State.assignedSlot (s : State) (k : Nat) : Nat := s.flash.assigned.get 0 k

/-- Steps 1 to 5 and 7 of R271: the engine is stopped, entries already posted stay to complete (R264), its memories and
registers are filled, and it starts at its next tick. -/
def State.jceReload (s : State) (k : Nat) : State :=
  match (s.flash.programs.get none (s.assignedSlot k)).filter fun _ => !s.boot.badPrograms.contains (s.assignedSlot k) with
  | none => s
  | some p =>
    let s := s.jceHaltIn k jceStopped
    let fresh : JceState :=
      { JceState.reset with imem := Tab.empty.putAll emptyInstr 0 p.instrs, dmem := Tab.empty.putAll 0 0 p.data,
                            posted := (s.eng k).posted, loaded := true, kernel := p.kernel, entry := p.entry, outSafe := true }
    let s := (((s.healed (jmemKey k false 0) 0x14000).onEng k fun _ => fresh).set Reg.JCE_STATE_PC k 0).loadParams k
    let s := (s.set Reg.PROG_SLOT_SLOT k (s.assignedSlot k)).setFlag Reg.PROG_SLOT_ASSIGNED k true
    let s := (s.set Reg.PROG_SLOT_SEC_VERSION k p.secVersion).set Reg.PROG_VERSION_VERSION k p.version
    s.jceArm k

/-- Staged parameter writes commit in order (R255). -/
def State.commitStage (s : State) (k : Nat) : State :=
  ((s.eng k).stage.foldl (fun s w => s.healed (jmemKey k false w.1) 4) s).onEng k fun e => { e with dmem := e.stage.foldl (fun t w => t.put 0 w.1 w.2) e.dmem, stage := [] }

/-- JCE_START: a STOPPED engine that holds a program (R268); writers other than Ranger and debug get a bus error (R267). -/
def jceWriterOk (m : Master) : Bool := m == .ranger || m == .debug

/-- `START` is written 1. -/
def State.jceStartBit (s : State) (k : Nat) : State :=
  if s.get Reg.JCE_STATE_STATE k = jceStopped ∧ (s.eng k).loaded = true then s.jceArm k else s

/-- JCE_START. -/
def State.doJceStart (s : State) (m : Master) (k : Nat) : State :=
  if jceWriterOk m then (s.jceStartBit k).answer .done else s.answer .busError

/-- JCE_STOP (R268). -/
def State.doJceStop (s : State) (m : Master) (k : Nat) : State :=
  if jceWriterOk m then (s.jceHaltIn k jceStopped).answer .done else s.answer .busError

/-- `ADDR` advances after an `IND_DATA` access with `INC` set, and wraps at the end of the memory (R268). -/
def State.indAdvance (s : State) (k : Nat) : State :=
  if s.flag Reg.IND_ADDR_INC k then
    let size := if s.flag Reg.IND_ADDR_SPACE k then 4096 else 16384
    s.set Reg.IND_ADDR_ADDR k ((s.get Reg.IND_ADDR_ADDR k + 1) % size)
  else s

/-- The memory address of an indirect access, within the selected memory. -/
def State.indAddr (s : State) (k : Nat) : Nat :=
  s.get Reg.IND_ADDR_ADDR k % (if s.flag Reg.IND_ADDR_SPACE k then 4096 else 16384)

/-- An indirect write takes effect, is staged, or is refused (R255, R268). -/
def State.indWrite (s : State) (k : Nat) (v : Word32) : State :=
  let a := s.indAddr k
  let imem := s.flag Reg.IND_ADDR_SPACE k
  let refused := s.setFlag Reg.JCE_FLAGS_IND_REFUSED k true
  let s :=
    if s.jceRuns k then
      if !imem && decide (0x3000 ≤ a ∧ (s.eng k).stage.length < 64) then
        s.onEng k fun e => { e with stage := e.stage ++ [(a, v)] }
      else refused
    else
      let s := s.healed (jmemKey k imem a) 4
      if imem then s.onEng k fun e => { e with imem := e.imem.put emptyInstr a v }
      else s.onEng k fun e => { e with dmem := e.dmem.put 0 a v }
  s.indAdvance k

/-- IND_DATA_WRITE; a debug write is entered in log 2 (R727). -/
def State.doIndWrite (s : State) (m : Master) (k : Nat) (v : Word32) : State :=
  if jceWriterOk m then
    let s := if m = .debug then s.debugLog 5 (engineSource k) (s.get Reg.JCE_STATE_PC k) else s
    ((s.set Reg.IND_DATA_DATA k v.toNat).indWrite k v).answer .done
  else s.answer .busError

/-- The word that `IND_DATA` reads (R268). -/
def State.indWord (s : State) (k : Nat) : Word32 :=
  if s.flag Reg.IND_ADDR_SPACE k then (s.eng k).imem.get emptyInstr (s.indAddr k) else (s.eng k).dmem.get 0 (s.indAddr k)

/-- PWM_CLOCK_LOSS: beside the pairs, Ranger sets the engine-stopped bit of every local servo axis (R368). -/
def State.doClockLoss (s : State) (t : Nat) : State :=
  if s.pwmClock then
    (List.range 32).foldl (fun s i => (s.latchFault (192 + i) 11).axisWords (192 + i)) (s.pwmClockLost t)
  else s

/-- PWM_CLOCK_LOSS. -/
def execPwmClockLoss (t : Nat) (s : State) : Host.Outcome State Fault Refusal := s.run fun s => s.doClockLoss t

/-- ENGINE_STOPPED: Ranger sets the engine-stopped bit of the four axes of a trapped or halted engine (R264). -/
def State.doEngineStopped (s : State) (k : Nat) : State :=
  let st := s.get Reg.JCE_STATE_STATE k
  if st = jceTrapped ∨ st = jceHalted then
    (List.range 4).foldl (fun s i => ((s.latchFault (4 * k + i) 11).axisWords (4 * k + i))) s
  else s

end Sys2Proof.Machine
end

