-- ==== Sys2Proof/Machine/Saw.lean ====
section
/-!
DEFINITION. The runs of the Sawmill (R203 to R231): start, warm start, norms, checkpoints, the end with its result,
publication and the bank select (R47, R48, R223 to R225); instances and schedules (R176, R200 to R202).
-/
namespace Sys2Proof.Machine

/-- Tile `t` beside its registers. -/
def State.tile (s : State) (t : Nat) : SawTile := s.tiles.get SawTile.reset t

/-- Changes a tile. -/
def State.onTile (s : State) (t : Nat) (f : SawTile → SawTile) : State :=
  { s with tiles := s.tiles.put SawTile.reset t (f (s.tile t)) }

/-- The tiles of an instance, in tile order. -/
def State.instTiles (s : State) (n : Nat) : List Nat :=
  (List.range 8).filter fun t => bitOf (s.get Reg.INST_CFG_TILES n) t

/-- The instance that a tile belongs to. -/
def State.tileInst (s : State) (t : Nat) : Option Nat :=
  (List.range 8).find? fun n => bitOf (s.get Reg.INST_CFG_TILES n) t

/-- Instance 0 runs the whole-cell problem with its enable on. -/
def State.cellRuns (s : State) (n : Nat) : Bool := n == 0 && s.flag Reg.INST_CFG_CELL 0

/-- Changes the run of an instance. -/
def State.onRun (s : State) (n : Nat) (f : SawRun → SawRun) : State :=
  s.onInst n fun i => { i with run := i.run.map f }

/-- The defaults of the run parameters (R209). -/
def runDefault (p : Nat) : Nat :=
  match p with
  | 1 => 12 | 2 => 0x1000 | 3 => 0x1000 | 4 => 0x400 | 5 => 0x100000 | 6 => 24000 | 7 => 24 | 8 => 20 | 9 => 20
  | 10 => 20 | 11 => 0x7F5C28F6 | 12 => 900 | 13 => 0x100
  | _ => 0

/-- A run parameter: written by command, else from section 0x0007, else the default (R209). -/
def State.runParam (s : State) (n p : Nat) : Nat :=
  let image := match s.cell with
    | some c => ((c.runParams.find? fun q => q.inst == n && q.number == p).map ParamSetting.value).getD (runDefault p)
    | none => runDefault p
  let w := (s.inst n).params.get 0 p
  if w = 0 then image else w - 1

/-- A run parameter as the run in progress took it at its start (R209). -/
def State.inForce (s : State) (n p : Nat) : Nat :=
  match (s.inst n).run with
  | some r => r.par.getD p 0
  | none => s.runParam n p

/-- The range of a run parameter and the relations it keeps (R209, R210, R215). -/
def State.runParamOk (s : State) (n p v : Nat) : Bool :=
  match p with
  | 1 => decide (1 ≤ v ∧ v ≤ 64)
  | 2 => decide (1 ≤ v)
  | 3 => decide (1 ≤ v)
  | 4 => decide (1 ≤ v)
  | 5 => decide (0x10000 ≤ v)
  | 6 =>
    let least := match s.problem n with
      | some q => q.gapMax + q.wrapWork
      | none => 0
    decide (least ≤ v ∧ v ≤ 1000000)
  | 7 => decide (v ≤ 62) && decide (s.runParam n 8 ≤ v)
  | 8 => decide (v ≤ s.runParam n 7)
  | 9 => decide (v ≤ 62)
  | 10 => decide (v ≤ 62)
  | 11 => decide (0x40000000 ≤ v ∧ v ≤ 0x7FFFFFFF)
  | 12 => decide (10 ≤ v ∧ v ≤ 1000000)
  | 13 => decide (1 ≤ v ∧ v ≤ 0x100000)
  | _ => false

/-- The mode and the power state allow runs (R138, R141). -/
def State.runsAllowed (s : State) (n : Nat) : Bool :=
  !s.parked && (if s.cellRuns n then s.inMode [.idle, .jog, .run, .halting] else !s.inMode [.init, .service])

/-- A start is refused (R205). -/
def State.startBlocked (s : State) (n : Nat) : Bool :=
  (s.inst n).run.isSome || (s.problem n).isNone || !s.runsAllowed n
    || (s.instTiles n).any (fun t => !s.flag Reg.TILE_STATUS_SCHED_VALID t)

/-- The merit of residual norms: the largest ratio to its tolerance in unsigned Q16.16, rounded up so that 1.0 means that
the tolerance is met (R213). -/
def State.meritOf (s : State) (n p d m : Nat) : Nat :=
  let ratio := fun (x tol : Nat) => min 0xFFFFFFFF ((x * 65536 + (max 1 tol - 1)) / max 1 tol)
  max (ratio p (s.inForce n 2)) (max (ratio d (s.inForce n 3)) (ratio m (s.inForce n 4)))

/-- The raw words at byte offsets of cell SRAM, with their fraction bits. -/
def State.sawWord32 (s : State) (off frac : Nat) : FixNum := ⟨s.sramGet off, frac⟩

/-- The value of a number in a list of blocks; 0 where no block has it. -/
def State.blockValue (s : State) (l : List NumBlock) (i : Nat) : Rat :=
  match blockAt l i with
  | some (f, o) => FixNum.value (s.sawWord32 o f)
  | none => 0

/-- The value of an entry of a problem (R192). -/
def State.entryValue (s : State) (p : ProblemDef) (e : Nat) : Rat := s.blockValue p.entries e

/-- The variables x of an iterate: its first words (R181, R223). -/
def State.primalValue (p : ProblemDef) (x : List Word32) (v : Nat) : Rat :=
  match p.point[v]?, x[v]? with
  | some d, some w => FixNum.value ⟨w.toInt, d.frac⟩
  | _, _ => 0

/-- C x in row `r`. -/
def State.rowValue (s : State) (p : ProblemDef) (x : List Word32) (r : Nat) : Rat :=
  (p.matrix.zipIdx.map fun m =>
    match m.1 with
    | .c i v => if i = r then s.entryValue p m.2 * State.primalValue p x v else 0
    | .h _ => 0).sum

/-- How far a value lies outside its bounds. -/
def violation (l u v : Rat) : Rat := max 0 (max (l - v) (v - u))

/-- The greatest of a list of magnitudes. -/
def greatest (l : List Rat) : Rat := l.foldl max 0

/-- The primal residual: the ∞-norm of row and bound violations (R213). -/
def State.primalNorm (s : State) (p : ProblemDef) (x : List Word32) : Rat :=
  let c := s.content
  greatest ((List.range (c.numRows p)).map (fun r =>
      violation (s.entryValue p (0x410000 + r)) (s.entryValue p (0x420000 + r)) (s.rowValue p x r))
    ++ (List.range (c.numVars p)).map fun v =>
      violation (s.entryValue p (0x430000 + v)) (s.entryValue p (0x440000 + v)) (State.primalValue p x v))

/-- H x + g + Cᵀ y + z at variable `v` (R213). -/
def State.dualValue (s : State) (p : ProblemDef) (x : List Word32) (v : Nat) : Rat :=
  (p.matrix.zipIdx.map fun m =>
    match m.1 with
    | .h i => if i = v then s.entryValue p m.2 * State.primalValue p x v else 0
    | .c r i => if i = v then s.entryValue p m.2 * s.blockValue p.y r else 0).sum
    + s.entryValue p (0x400000 + v) + s.blockValue p.z v

/-- The dual residual: the ∞-norm of H x + g + Cᵀ y + z (R213). -/
def State.dualNorm (s : State) (p : ProblemDef) (x : List Word32) : Rat :=
  greatest ((List.range (s.content.numVars p)).map fun v => (s.dualValue p x v).abs)

/-- An operand of tile `t` (R188). -/
def State.sawOperand (s : State) (t : Nat) : SawOperand → FixNum
  | .one => FixNum.one
  | .word o f => s.sawWord32 o f
  | .scalar k f => ⟨((s.tile t).scalars.get 0 (k % 8)).toInt, f⟩

/-- μ: the mean complementarity product over inequality rows and bounds (R213). -/
def State.muNorm (s : State) (p : ProblemDef) (t : Nat) : Rat :=
  (p.pairs.map fun q => FixNum.value (s.sawOperand t q.1) * FixNum.value (s.sawOperand t q.2)).sum / max 1 p.pairs.length

/-- A norm in unsigned Q12.20: nearest with ties to even (DESIGN CHOICE, log entry 22: R213 names no rounding), saturated. -/
def normWord (x : Rat) : Nat := min 0xFFFFFFFF (roundEven (x * 1048576).num (x * 1048576).den).toNat

/-- Iterate `k` of a run: its words in cell SRAM with its norms and merit (R213). -/
def State.iterate (s : State) (n k : Nat) : SawIterate :=
  match s.problem n with
  | none => ⟨k, 0, 0, 0, 0, []⟩
  | some q =>
    let x := q.point.map fun d => BitVec.ofInt 32 (s.sramGet d.off)
    let p := normWord (s.primalNorm q x)
    let d := normWord (s.dualNorm q x)
    let m := normWord (s.muNorm q ((s.instTiles n).headD 0))
    ⟨k, p, d, m, s.meritOf n p d m, x⟩

/-- Records held in the ring are applied before the first operation (R196). -/
def State.drainRing (s : State) (n : Nat) : State := Sys2Proof.iterate (fun s => s.recordLeaves n) (s.inst n).level s

/-- The word of a published point with lane `lane` in stage `i`, as a value. -/
def laneValue (q : ProblemDef) (x : List Word32) (i lane : Nat) : Option Rat :=
  ((q.point.zip x).find? fun e => e.1.stage == i && e.1.lane == lane).map fun e => FixNum.value ⟨e.2.toInt, e.1.frac⟩

/-- The published trajectory at the time of a word's stage plus 1 ms: linear between stages, the last stage held (R212).
Where a stage has no such word, the word keeps its own value (DESIGN CHOICE, log entry 22). -/
def CellContent.shifted (c : CellContent) (q : ProblemDef) (x : List Word32) (d : PointWord) (own : Rat) : Rat :=
  let t := c.stageSec d.stage + 1 / 1000
  let i := ((List.range c.numStages).filter fun i => decide (c.stageSec i ≤ t)).length - 1
  match laneValue q x i d.lane with
  | none => own
  | some a =>
    if c.numStages ≤ i + 1 then a
    else match laneValue q x (i + 1) d.lane with
      | none => own
      | some b => a + (b - a) * (t - c.stageSec i) / c.spacing (i + 1)

/-- The warm-start point: the last published point, for the whole cell shifted by 1 ms; slacks and duals at least
`WARM_FLOOR` (R212). -/
def State.warmPoint (s : State) (n : Nat) (q : ProblemDef) : List Word32 :=
  let x := (s.inst n).lastPoint
  (q.point.zip x).map fun e =>
    let own := FixNum.value ⟨e.2.toInt, e.1.frac⟩
    let v := if q.number = 0 then CellContent.shifted s.content q x e.1 own else own
    let v := if e.1.floor then max v ((s.runParam n 13 : Rat) / 1048576) else v
    BitVec.ofInt 32 (rawOf v e.1.frac)

/-- The start point of a run: the cold point of section 0x0007, or the warm-start point (R211, R212). -/
def State.startPoint (s : State) (n : Nat) (q : ProblemDef) : List Word32 :=
  if (s.inst n).coldNext then q.cold else s.warmPoint n q

/-- The words of an iterate go to their places in cell SRAM. -/
def State.putIterate (s : State) (q : ProblemDef) (x : List Word32) : State :=
  (q.point.zip x).foldl (fun s e => s.sramPut e.1.off e.2.toInt) s

/-- The prologue of a run forms its start point (R211, R212). -/
def State.prologue (s : State) (n : Nat) : State :=
  match s.problem n with
  | some q => s.putIterate q (s.startPoint n q)
  | none => s

/-- A run starts (R203, R204, R209, R211, R212). -/
def State.startRun (s : State) (n start deadline : Nat) : State :=
  let s := s.drainRing n
  let s := (s.set Reg.DQ_APPLIED_COUNT n (min (s.inst n).applied 0xFFFFFFFF)).prologue n
  let it := s.iterate n 0
  let i := s.inst n
  let r : SawRun :=
    { start := start, deadline := deadline, tick := s.ticks, whole := s.cellRuns n, cold := i.coldNext, iters := 0, origin := it,
      latest := it, prefixes := [], abort := false, overflows := 0, pivots := 0, firstPivot := none, lost := i.lost,
      wrap := none, wrapEnd := 0, sent := none, partner := none, par := (List.range 14).map (s.runParam n) }
  let s := s.onInst n fun i => { i with run := some r, applied := 0, lost := false, coldNext := false }
  let s := (s.instTiles n).foldl (fun s t =>
    (s.setFlag Reg.TILE_STATUS_BUSY t true).onTile t fun x =>
      { x with next := 0, ready := 5040 * s.ticks, ends := 0, wait := .nothing, halted := false, buffer := [] }) s
  (s.setFlag Reg.RUN_STATUS_BUSY n true).showDq n

/-- The status points of an instance; offset 0 last (R224). -/
def State.statusPoints (s : State) (n : Nat) : State :=
  let b := 0x20100 + 4 * n
  let s := s.putPoint (b + 1) (s.get Reg.RES_PRIMAL_VALUE n + 2 ^ 32 * s.get Reg.RES_DUAL_VALUE n)
  let s := s.putPoint (b + 2) (s.get Reg.MERIT_VALUE n + 2 ^ 32 * s.get Reg.RES_GAP_VALUE n)
  let s := s.putPoint (b + 3) (s.get Reg.PIVOT_REG_COUNT n + 2 ^ 32 * s.get Reg.PIVOT_FIRST_COLUMN n)
  s.putPoint b (s.get Reg.RUN_FRAME_FRAME n + 2 ^ 32 * s.get Reg.RUN_STATUS_OUTCOME n
    + 2 ^ 36 * s.get Reg.RUN_STATUS_QUALITY n + 2 ^ 38 * b2n (s.inst n).buf + 2 ^ 48 * s.get Reg.RUN_ITER_ITERATIONS n)

/-- The mode-cause streak of whole-cell frames without an iterate (R208). -/
def State.streak (s : State) (outcome : Nat) : State :=
  if outcome = 4 then
    let s := s.count Reg.NNI_STREAK_COUNT 0 1
    if 3 ≤ s.get Reg.NNI_STREAK_COUNT 0 ∧ s.mode.mode = .run then s.latchCause 8 else s
  else s.set Reg.NNI_STREAK_COUNT 0 0

/-- The quality of a published point (R222). -/
def State.qualityOf (s : State) (n outcome merit : Nat) (overflow lost : Bool) : Nat :=
  let q := if outcome = 4 then 0 else if merit ≤ 65536 then 3 else if merit ≤ s.inForce n 5 then 2 else 1
  q - b2n overflow - b2n lost

/-- The bank that the bank select of an arm names. -/
def State.bankSel (s : State) (arm : Nat) : Nat := (s.points.get 0 (0x10000 + arm * 0x1000)).toNat % 2

/-- The trajectory of one arm goes to the bank of its block that is not selected: the header and every stage, joint and
quantity with its fraction bits (R225). -/
def State.writeArm (s : State) (c : CellContent) (q : ProblemDef) (x : List Word32) (a : ArmDef) (head : Nat) : State :=
  let bank := 1 - s.bankSel a.arm
  let b := 0x10000 + a.arm * 0x1000
  let s := s.putPoint (b + 1 + bank) head
  (List.range c.numStages).foldl (fun s i => (List.range a.joints.length).foldl (fun s j => (List.range 3).foldl (fun s k =>
    let v := c.varAt i (c.jointIdx (12 * a.arm + j)) k
    s.putPoint (b + (if bank = 0 then 0x100 else 0x800) + 0x40 * i + 4 * j + k)
      ((x.getD v 0).toNat + 2 ^ 32 * (((q.point[v]?).map PointWord.frac).getD 0 % 32))) s) s) s

/-- The trajectory of every arm goes to the bank of its block that is not selected (R47, R225). -/
def State.writeBanks (s : State) (c : CellContent) (q : ProblemDef) (x : List Word32) (frame outcome quality : Nat) : State :=
  let banks := c.arms.map fun a => (a.arm, 1 - s.bankSel a.arm)
  let head := frame + 2 ^ 32 * outcome + 2 ^ 36 * quality + 2 ^ 40 * (c.numStages % 32)
  let s := c.arms.foldl (fun s a => s.writeArm c q x a head) s
  { s with published := some (banks, frame) }

/-- Byte offset in cell SRAM of result buffer `b` of instance `n`, in the area of its lowest tile (R223). -/
def State.resultOff (s : State) (n : Nat) (b : Bool) : Nat :=
  (s.instTiles n).headD 0 * 0x300000 + (if b then 0x2F0000 else 0x2E0000)

/-- Publication: x goes to the result buffer that is not selected, `BUF` flips; of a whole-cell run the banks too (R223,
R225). -/
def State.publish (s : State) (n : Nat) (whole : Bool) (it : SawIterate) (outcome quality : Nat) : State :=
  match s.problem n with
  | none => s
  | some q =>
    let b := !(s.inst n).buf
    let x := it.point.take (s.content.numVars q)
    let s := s.memPut (csramBase + s.resultOff n b) (x.flatMap fun w => leBytes 4 w.toNat)
    let s := s.onInst n fun i => { i with buf := b, lastPoint := it.point }
    if whole then s.writeBanks s.content q x (s.get Reg.RUN_FRAME_FRAME n) outcome quality else s

/-- The result registers at the end of a run, all at once. -/
def State.runRegs (s : State) (n outcome quality : Nat) (it : SawIterate) (iters : Nat) (r : SawRun) : State :=
  let s := ((s.set Reg.RUN_STATUS_OUTCOME n outcome).set Reg.RUN_STATUS_QUALITY n quality).setFlag
    Reg.RUN_STATUS_OVERFLOW n (r.overflows != 0)
  let s := (s.setFlag Reg.RUN_STATUS_DELTA_LOST n r.lost).setFlag Reg.RUN_STATUS_PIVOT_SEEN n (r.pivots != 0)
  let s := s.setFlag Reg.RUN_STATUS_COLD n r.cold
  let s := s.set Reg.RUN_STATUS_RESULT_CODE n (if outcome = 5 then 0x0504 else 0)
  let s := ((s.set Reg.RUN_ITER_ITERATIONS n iters).set Reg.RUN_ITER_LOCAL_ITER n r.iters).set Reg.RUN_ITER_BEST_ITER n it.iter
  let s := s.set Reg.RUN_FRAME_FRAME n (r.start / 1000000)
  let s := ((s.set Reg.RES_PRIMAL_VALUE n it.primal).set Reg.RES_DUAL_VALUE n it.dual).set Reg.RES_GAP_VALUE n it.mu
  let s := (s.set Reg.MERIT_VALUE n it.merit).set Reg.PIVOT_REG_COUNT n (min r.pivots 0xFFFFFFFF)
  let s := s.set Reg.PIVOT_FIRST_COLUMN n ((r.firstPivot.map Prod.snd).getD 0xFFFFFF)
  let s := s.set Reg.OVF_COUNT_COUNT n (min r.overflows 0xFFFFFFFF)
  s.set Reg.RUN_TIME_NS n (8 * (s.ticks - r.tick))

/-- The event of an outcome beside `RUN_END` (R189, R217, R218). -/
def outcomeEvent (outcome : Nat) : Option Nat :=
  match outcome with
  | 3 => some 120
  | 4 => some 121
  | 5 => some 122
  | 7 => some 126
  | _ => none

/-- A run ends with an outcome and, where it publishes, the iterate `it` drawn from `iters` iterations (R207, R222 to
R225). -/
def State.endRun (s : State) (n outcome : Nat) (it : SawIterate) (iters : Nat) (trimmed alone : Bool) : State :=
  match (s.inst n).run with
  | none => s
  | some r =>
    let publishes := decide (1 ≤ outcome ∧ outcome ≤ 4)
    let quality := if publishes then s.qualityOf n outcome it.merit (r.overflows != 0) r.lost else 0
    let late := publishes && decide (r.deadline < s.tb 0)
    let s := s.runRegs n outcome quality it iters r
    let s := (s.setFlag Reg.RUN_STATUS_PAIR_TRIMMED n trimmed).setFlag Reg.RUN_STATUS_PAIR_ALONE n alone
    let s := s.setFlag Reg.RUN_STATUS_WRAP_LATE n late
    let s := s.onInst n fun i =>
      { i with run := none, coldNext := i.coldNext || quality == 0 }
    let s := if publishes then s.publish n r.whole it outcome quality else s
    let s := (s.instTiles n).foldl (fun s t =>
      (s.setFlag Reg.TILE_STATUS_BUSY t false).onTile t fun x => { x with store := Tab.empty, wait := .nothing, buffer := [] }) s
    let s := ((s.setFlag Reg.RUN_STATUS_BUSY n false).statusPoints n).showDq n
    let s := (if r.whole then s.streak outcome else s).raise (112 + n)
    let s := match outcomeEvent outcome with
      | some e => s.raise e
      | none => s
    s.raiseIf late 127

/-- `START_REFUSED` (R205). -/
def State.startRefused (s : State) (n : Nat) : State := s.setFlag Reg.RUN_STATUS_START_REFUSED n true

/-- `SOLVE_START` of the installed image in ns after the frame start (R46); its default without an image. -/
def State.solveStartNs (s : State) : Nat :=
  match s.cell with
  | some c => 1000 * c.solveStart
  | none => 60000

/-- The frame whose whole-cell start comes next: the present one until its start instant has passed or its run has started,
then the next one (R46, R203). -/
def State.wholeFrame (s : State) : Nat :=
  let f := s.tb 0 / 1000000
  if f * 1000000 + s.solveStartNs + 8 ≤ s.tb 0 ∨ (s.inst 0).lastFrame = some f then f + 1 else f

/-- A refused whole-cell start ends the frame with outcome SKIPPED (R205). -/
def State.skipFrame (s : State) (f : Nat) : State :=
  let s := ((s.startRefused 0).set Reg.RUN_STATUS_OUTCOME 0 8).set Reg.RUN_STATUS_QUALITY 0 0
  let s := (s.set Reg.RUN_FRAME_FRAME 0 f).set Reg.RUN_STATUS_RESULT_CODE 0 0
  ((s.set Reg.RUN_ITER_ITERATIONS 0 0).streak 8).statusPoints 0

/-- WHOLE_CELL_RUN_START (R46, R203, R205): its deadline is 900 µs after the frame start. -/
def State.doWholeStart (s : State) : State :=
  if s.cellRuns 0 then
    let f := s.wholeFrame
    let s := (s.waitTb 0 (f * 1000000 + s.solveStartNs)).onInst 0 fun i => { i with lastFrame := some f }
    if s.startBlocked 0 then s.skipFrame f else s.startRun 0 (f * 1000000) (f * 1000000 + 900000)
  else s

/-- A small run starts now. -/
def State.startSmall (s : State) (n : Nat) : State :=
  let t := s.tb 0
  s.startRun n t (t + 1000 * s.runParam n 12)

/-- RUN_START: a `START` write (R203 to R205). -/
def State.doRunStart (s : State) (n : Nat) : State :=
  if s.cellRuns n || s.startBlocked n then s.startRefused n else s.startSmall n

/-- The first tick at which TB0 reaches `t`, for a `t` already past the next tick (R204). -/
def State.waitNext (s : State) (t : Nat) : State := if t ≤ s.tb 0 then s.advance 1 else s.waitTb 0 t

/-- TIMED_START (R204). -/
def State.doTimedStart (s : State) (n : Nat) : State :=
  if s.flag Reg.RUN_CTRL_TIMED n && !s.cellRuns n then
    let s := (s.waitNext (s.get Reg.START_AT_TIME n)).setFlag Reg.RUN_CTRL_TIMED n false
    if s.startBlocked n then s.startRefused n else s.startSmall n
  else s

/-- RUN_ABORT (R203, R206): the run ends at its next checkpoint. -/
def State.doRunAbort (s : State) (n : Nat) : State := if s.cellRuns n then s else s.onRun n fun r => { r with abort := true }

/-- COLD_NEXT (R211). -/
def State.doColdNext (s : State) (n : Nat) : State := s.onInst n fun i => { i with coldNext := true }

/-- Every run that the mode or an `ABORT` forbids ends at its next checkpoint (R206). -/
def State.abortRuns (s : State) : State :=
  (List.range 8).foldl (fun s n => if s.runsAllowed n then s else s.onRun n fun r => { r with abort := true }) s

/-- `SAG_STATUS.RATE`, the eighths of its full rate at which the SAW clock runs; at least 1. -/
def State.sawRate (s : State) : Nat := max 1 (s.get Reg.SAG_STATUS_RATE 0)

/-- The time that `k` SAW cycles take at the present rate, in 1/5,040 of a TIME tick: 5/6 ns a cycle at full rate (R172). -/
def State.sawTime (s : State) (k : Nat) : Nat := k * 4200 / s.sawRate

/-- Wrap-up begins: tiles stop, a WAIT or BARRIER is released; it takes `WRAP_WORK` cycles (R215). -/
def State.wrapUp (s : State) (n outcome : Nat) : State :=
  let work := ((s.problem n).map ProblemDef.wrapWork).getD 0
  let s := s.onRun n fun r =>
    if r.wrap.isSome then r else { r with wrap := some outcome, wrapEnd := 5040 * s.ticks + s.sawTime work }
  (s.instTiles n).foldl (fun s t => s.onTile t fun x => { x with wait := .nothing }) s

/-- The deadline test (R215): the SAW period is 5/6 ns at full rate, longer below it. -/
def State.deadlineStop (s : State) (n : Nat) (r : SawRun) : Bool :=
  decide (6 * s.sawRate * r.deadline ≤ 6 * s.sawRate * s.tb 0 + 40 * s.inForce n 6)

/-- The outcome of a run that stops by its deadline (R217, R218). -/
def SawRun.stopOutcome (r : SawRun) : Nat :=
  if r.whole then (if r.iters = 0 then 4 else 3) else 5

/-- A checkpoint after a `BOUNDARY` (R206, R214, R215). -/
def State.checkpoint (s : State) (n : Nat) : State :=
  match (s.inst n).run with
  | none => s
  | some r =>
    if r.abort then s.wrapUp n 6
    else if s.deadlineStop n r then s.wrapUp n (r.stopOutcome)
    else s

/-- `k` saturations in the run of instance `n` (R221). -/
def State.saturate (s : State) (n k : Nat) : State :=
  match (s.inst n).run with
  | none => s
  | some r =>
    if k = 0 then s
    else (s.raiseIf (r.overflows == 0) 123).onRun n fun r => { r with overflows := r.overflows + k }

/-- The schedule word that tile `t` executes next, while it runs and waits for nothing. -/
def State.sawWord (s : State) (t : Nat) : Option (Nat × BitVec 128) :=
  let x := s.tile t
  match s.tileInst t with
  | none => none
  | some n =>
    match (s.inst n).run with
    | none => none
    | some r =>
      if r.wrap.isSome || x.halted || x.wait != .nothing then none
      else
        match x.sched[x.next]? with
        | some w => some (n, w)
        | none => none

/-- The tile goes on to the next word, through a checkpoint where the word has `BOUNDARY`. -/
def State.sawNext (s : State) (t n : Nat) (w : BitVec 128) : State :=
  let s := s.onTile t fun x => { x with next := x.next + 1, wait := .nothing }
  if sawBoundary w then s.checkpoint n else s

/-- Values written to the tile store: 524,288 words (R171). -/
def State.storeAll (s : State) (t : Nat) (l : List (Nat × Word32)) : State :=
  s.onTile t fun x => { x with store := (l.filter fun e => decide (e.1 < 524288)).foldl (fun st e => st.put 0 e.1 e.2) x.store }

/-- The better of two iterates: the lower merit, on equal merit the later (R214). -/
def betterIterate (a b : SawIterate) : SawIterate := if b.merit ≤ a.merit then b else a

/-- The best of the iterates 1 to `m`, kept for the last four (R227). -/
def SawRun.prefixBest (r : SawRun) (m : Nat) : SawIterate :=
  if m = 0 then r.origin else (r.prefixes[r.iters - m]?).getD r.latest

/-- The tests of an END checkpoint (R214). -/
def State.endTests (s : State) (n : Nat) : State :=
  match (s.inst n).run with
  | none => s
  | some r =>
    if r.abort then s.wrapUp n 6
    else if r.latest.merit ≤ 65536 then s.wrapUp n 1
    else if r.iters = s.inForce n 1 then s.wrapUp n 2
    else if s.deadlineStop n r then s.wrapUp n (r.stopOutcome)
    else s

/-- The unit publishes its own result (R214, R217, R218). -/
def State.publishOwn (s : State) (n outcome : Nat) (r : SawRun) (alone : Bool) : State :=
  match outcome with
  | 1 => s.endRun n 1 r.latest r.iters false alone
  | 2 => s.endRun n 2 (r.prefixBest r.iters) r.iters false alone
  | 3 => s.endRun n 3 (r.prefixBest r.iters) r.iters false alone
  | 4 => s.endRun n 4 r.origin 0 false alone
  | o => s.endRun n o r.origin 0 false alone

/-- Both units' counts are known (R227 to R229). -/
def State.publishPair (s : State) (n outcome : Nat) (r : SawRun) (iters other : Nat) : State :=
  let m := min r.iters iters
  if r.whole = false ∧ (outcome = 5 ∨ other = 5) then s.endRun n 5 r.origin 0 false false
  else if 3 < max r.iters iters - m then s.publishOwn n outcome r true
  else if r.whole then
    if outcome = 3 ∨ outcome = 4 ∨ other = 3 ∨ other = 4 then
      let trimmed := decide (m < r.iters)
      if m = 0 then s.endRun n 4 r.origin 0 trimmed false else s.endRun n 3 (r.prefixBest m) m trimmed false
    else s.publishOwn n outcome r false
  else s.publishOwn n outcome r false

/-- The clock stands at the end of a run's wrap-up. -/
def State.waitWrap (s : State) (r : SawRun) : State := s.waitTill ((r.wrapEnd + 5039) / 5040)

/-- The clock reaches the end of the wrap-up, and the exchange goes to the partner with count and outcome (R227). -/
def State.sendSolve (s : State) (n outcome : Nat) (r : SawRun) : State :=
  s.out (.twin (.solve (s.get Reg.CYCLE_NUM_NUMBER 0) n r.iters outcome))

/-- WRAP_UP_END (R215, R223, R227): a pair first exchanges its counts; a run that publishes nothing then ends at once. -/
def State.doWrapEnd (s : State) (n : Nat) : State :=
  match (s.inst n).run with
  | none => s
  | some r =>
    match r.wrap with
    | none => s
    | some o =>
      if r.sent.isSome then s
      else
        let s := s.waitWrap r
        if s.pairSync then
          let s := s.sendSolve n o r
          if 5 < o then s.publishOwn n o r false
          else match r.partner with
            | some p => s.publishPair n o r p.1 p.2
            | none => s.onRun n fun r => { r with sent := some s.ticks }
        else s.publishOwn n o r false

/-- PAIR_EXCHANGE (R227, R228). -/
def State.doPairExchange (s : State) (n iters outcome : Nat) : State :=
  match (s.inst n).run with
  | none => s
  | some r =>
    match r.wrap with
    | some o =>
      if r.sent.isSome then s.publishPair n o r iters outcome
      else s.onRun n fun r => { r with partner := some (iters, outcome) }
    | none => s.onRun n fun r => { r with partner := some (iters, outcome) }

/-- PAIR_EXCHANGE_TIMEOUT: 20 µs after the wrap-up (R229). -/
def State.doPairTimeout (s : State) (n : Nat) : State :=
  match (s.inst n).run with
  | none => s
  | some r =>
    match r.wrap, r.sent with
    | some o, some t => (s.waitTill (t + 2500)).publishOwn n o r true
    | _, _ => s

/-- SCHEDULE_LOAD_DONE (R176): the schedules and pattern lists of an instance are resident. -/
def State.doScheduleLoaded (s : State) (n : Nat) : State :=
  if (s.inst n).loading then
    let s := s.onInst n fun i => { i with loading := false }
    match s.problem n with
    | none => s
    | some p =>
      ((s.instTiles n).zipIdx).foldl (fun s e =>
        ((s.setFlag Reg.TILE_STATUS_SCHED_VALID e.1 true).set Reg.TILE_STATUS_SCHED_KIB e.1 (p.kib.getD e.2 0)).onTile e.1
          fun x => { x with sched := p.words.getD e.2 [], lists := p.lists.getD e.2 [], next := 0 }) s
  else s

/-- Runs end at once and leave no status (R206). -/
def State.dropRuns (s : State) : State :=
  let s := (List.range 8).foldl (fun s n =>
    (s.onInst n fun i => { i with run := none, coldNext := true }).setFlag Reg.RUN_STATUS_BUSY n false) s
  (List.range 8).foldl (fun s t =>
    (s.setFlag Reg.TILE_STATUS_BUSY t false).onTile t fun x => { x with store := Tab.empty, wait := .nothing, buffer := [] }) s

/-- Ranger begins to load the schedules of every instance (R176); a run in progress ends at once (log entry 51). -/
def State.loadSchedules (s : State) : State :=
  let s := s.dropRuns
  let s := (List.range 8).foldl (fun s t =>
    ((s.setFlag Reg.TILE_STATUS_SCHED_VALID t false).set Reg.TILE_STATUS_SCHED_KIB t 0).onTile t fun x => { x with sched := [], lists := [] }) s
  (List.range 8).foldl (fun s n =>
    s.onInst n fun i => { i with loading := (s.problem n).isSome, coldNext := true }) s

/-- Number of tiles in a mask. -/
def maskSize (m : Nat) : Nat := ((List.range 8).filter fun t => bitOf m t).length

/-- Instance `n` takes a tile mask and is bound to problem `n` (R200). -/
def State.bindInst (s : State) (n mask : Nat) : State :=
  let size := maskSize mask
  let ok := match s.cell with
    | some c => c.problems.any fun p => p.number == n && p.tiles == size
    | none => false
  let s := ((s.set Reg.INST_CFG_TILES n mask).set Reg.INST_CFG_SIZE n size).set Reg.INST_CFG_PROBLEM n (if size = 0 then 0 else n)
  let s := (s.setFlag Reg.INST_CFG_NO_PROBLEM n (!(ok && size != 0))).setFlag Reg.INST_CFG_CELL n false
  (List.range 8).foldl (fun s t =>
    if bitOf mask t then (s.set Reg.TILE_STATUS_INSTANCE t n).setFlag Reg.TILE_STATUS_UNASSIGNED t false else s) s

/-- A new configuration of instances (R199, R200, R211). -/
def State.setInstances (s : State) (masks : List Nat) : State :=
  let s := (List.range 8).foldl (fun s t =>
    (s.set Reg.TILE_STATUS_INSTANCE t 0).setFlag Reg.TILE_STATUS_UNASSIGNED t true) s
  let s := (List.range 8).foldl (fun s n => s.bindInst n (masks.getD n 0)) s
  s.emptyRings.loadSchedules

/-- The bank select of every arm changes to the last published result (R47, R48). -/
def State.selectBanks (s : State) : State :=
  match s.published with
  | some (banks, frame) =>
    let s := banks.foldl (fun s a => s.putPoint (0x10000 + a.1 * 0x1000) (a.2 + 2 ^ 32 * frame)) s
    { s with published := none }
  | none => s

/-- WHOLE_CELL_RUN_START. -/
def execWholeCellRunStart (s : State) : Host.Outcome State Fault Refusal := s.run State.doWholeStart

/-- RUN_START. -/
def execRunStart (inst : Fin 8) (s : State) : Host.Outcome State Fault Refusal := s.run fun s => s.doRunStart inst.val

/-- TIMED_START. -/
def execTimedStart (inst : Fin 8) (s : State) : Host.Outcome State Fault Refusal :=
  s.run fun s => s.doTimedStart inst.val

/-- RUN_ABORT. -/
def execRunAbort (inst : Fin 8) (s : State) : Host.Outcome State Fault Refusal := s.run fun s => s.doRunAbort inst.val

/-- COLD_NEXT. -/
def execColdNext (inst : Fin 8) (s : State) : Host.Outcome State Fault Refusal := s.run fun s => s.doColdNext inst.val

/-- WRAP_UP_END. -/
def execWrapUpEnd (inst : Fin 8) (s : State) : Host.Outcome State Fault Refusal := s.run fun s => s.doWrapEnd inst.val

/-- PAIR_EXCHANGE. -/
def execPairExchange (inst : Fin 8) (iters : Word16) (outcome : Fin 16) (s : State) :
    Host.Outcome State Fault Refusal :=
  s.run fun s => s.doPairExchange inst.val iters.toNat outcome.val

/-- PAIR_EXCHANGE_TIMEOUT. -/
def execPairExchangeTimeout (inst : Fin 8) (s : State) : Host.Outcome State Fault Refusal :=
  s.run fun s => s.doPairTimeout inst.val

/-- SCHEDULE_LOAD_DONE. -/
def execScheduleLoadDone (inst : Fin 8) (s : State) : Host.Outcome State Fault Refusal :=
  s.run fun s => s.doScheduleLoaded inst.val

end Sys2Proof.Machine
end

