-- ==== Sys2Proof/Machine/MemCore.lean ====
section
/-!
DEFINITION. Memory integrity (chapter 20): code words, poisoned reads and the reactions to them, scrubbing, remapping, error
records. The code of R614 is not given bit by bit, so an access carries the errors that the array shows (log entry 28).
-/
namespace Sys2Proof.Machine

/-- Changes the part of chapter 20. -/
def State.onMem (s : State) (f : MemState → MemState) : State := { s with memory := f s.memory }

/-- One more in a total of 32 bits, which saturates (R9, R634). -/
def bump (n : Nat) : Nat := min (n + 1) 0xFFFFFFFF

/-- The byte key of a place: the data-space address where it has one. -/
def MemPlace.key : MemPlace → Nat
  | .dram a => a
  | .csram off => csramBase + off
  | .group g off =>
    if g < 64 then csramBase + g * 0x100000 + off
    else if g < 80 then 0xE800000000 + (g - 64) * 0x100000 + off
    else groupKey g off
  | .l1 c off => groupKey (0x1000 + c) off
  | .safety off => groupKey 0x2000 off

/-- The source code of a byte key (R633). -/
def memSource (k : Nat) : Nat :=
  if 2 ^ 48 ≤ k then
    let g := k / 2 ^ 48 - 1
    if 0x1000 ≤ g then 0x0300 + (g - 0x1000) else g
  else if 0xE800000000 ≤ k then 64 + (k - 0xE800000000) / 0x100000
  else if csramBase ≤ k then (k - csramBase) / 0x100000
  else 0x0100 + bitsOf k 8 3

/-- The address of a byte key in a record (R633). -/
def memAddress (k : Nat) : Nat :=
  if 2 ^ 48 ≤ k then k % 2 ^ 48
  else if csramBase ≤ k then k % 0x100000 else k

/-- The element of the error counters of a byte key: DRAMC[0] to [7], CSRAM, LLC. -/
def memUnit (k : Nat) : Option Nat :=
  let src := memSource k
  if 0x100 ≤ src ∧ src < 0x108 then some (src - 0x100)
  else if src < 64 then some 8
  else if 160 ≤ src ∧ src < 168 then some 9 else none

/-- The byte lies in a sapwood region (R618). -/
def State.sapwood (s : State) (k : Nat) : Bool :=
  (List.range 64).any fun e => s.flag Reg.REGION_CFG_VALID e && s.flag Reg.REGION_CFG_CLASS e &&
    decide (s.get Reg.REGION_BASE_BASE e ≤ k ∧ k < s.get Reg.REGION_BASE_BASE e + s.get Reg.REGION_SIZE_SIZE e)

/-- The damage of byte `k` reads as poison, or as an error that heartwood corrects (R614). -/
def State.poisonedAt (s : State) (k : Nat) : Bool :=
  match s.memErr.get 0 k with
  | 0 => false
  | 1 => s.sapwood k
  | 2 => !s.sapwood k
  | _ => true

/-- A one-bit error of heartwood. -/
def State.correctedAt (s : State) (k : Nat) : Bool := s.memErr.get 0 k == 1 && !s.sapwood k

/-- A point reads as poisoned. -/
def State.pointPoisoned (s : State) (p : Nat) : Bool := (List.range 8).any fun i => s.poisonedAt (pointAddr p + i)

/-- The FIFO as its registers show it (R632). -/
def State.showFifo (s : State) : State :=
  let s := s.set Reg.ERR_LEVEL_LEVEL 0 s.memory.fifo.length
  (List.range 4).foldl (fun s i => s.set Reg.ERR_REC_WORD i ((s.memory.fifo.headD []).getD i 0)) s

/-- An error record (R632, R633). -/
def State.errRecord (s : State) (code source addr syn init extra : Nat) : State :=
  if 64 ≤ s.memory.fifo.length then (s.count Reg.ERR_LEVEL_ERR_LOST 0 1).raise 23
  else
    let r := [code + 2 ^ 16 * source, s.tb 5, addr, syn % 256 + 2 ^ 8 * init + 2 ^ 16 * extra]
    (s.onMem fun m => { m with fifo := m.fifo ++ [r] }).showFifo

/-- The oldest record is removed (R632). -/
def State.errPop (s : State) : State := (s.onMem fun m => { m with fifo := m.fifo.drop 1 }).showFifo

/-- A block is queued for priority scrubbing (R625). -/
def State.queueScrub (s : State) (b : Nat) : State :=
  if s.memory.prio.contains b then s
  else if 64 ≤ s.memory.prio.length then s.count Reg.PRIO_STATUS_PRIO_DROP 0 1
  else
    let s := s.onMem fun m => { m with prio := m.prio ++ [b] }
    s.set Reg.PRIO_STATUS_LEVEL 0 s.memory.prio.length

/-- Initiator codes of a record (R633). -/
def MemReader.code : MemReader → Nat
  | .scrubber => 0
  | .ranger => 1
  | .core c => 2 + c.val
  | .pcie => 18
  | .sawmill _ => 19
  | .deltaQueue _ => 19
  | .jceOwn _ _ => 20
  | .jcePoint _ => 20
  | .star => 21
  | .bridge _ => 22
  | .caldera => 23
  | .yarder => 24

/-- Counts an error of byte `k` at its memory. -/
def State.countAt (s : State) (f : Field) (k : Nat) : State :=
  match memUnit k with
  | some u => (s.count f u 1).set Reg.LAST_ADDR_ADDR u (memAddress k)
  | none => s

/-- A corrected byte of a read (R614, R625, R632). -/
def State.readCorrected (s : State) (r : MemReader) (syn k : Nat) : State :=
  let s := (s.countAt Reg.CE_COUNT_COUNT k).onMem fun m => { m with corrected := bump m.corrected }
  let same := match s.memory.lastRead with
    | some (b, t) => b == k / 64 && decide (s.ticks < t + msTicks 1)
    | none => false
  let s := if same then s
    else
      let lost := decide (64 ≤ s.memory.fifo.length)
      (s.errRecord 1 (memSource k) (memAddress k) syn (MemReader.code r) 0).onMem fun m =>
        { m with lastRead := if lost then m.lastRead else some (k / 64, s.ticks) }
  let s := s.raise 16
  if r = .scrubber then s else s.queueScrub (k / 64)

/-- A poisoned read raises fault cause 10 in entries 60 to 62, JCE memories, tile stores and schedule memories (R622). -/
def State.poisonCause (s : State) (k : Nat) : State :=
  let ins := (List.range 3).any fun i => decide (s.get Reg.REGION_BASE_BASE (60 + i) ≤ k ∧
    k < s.get Reg.REGION_BASE_BASE (60 + i) + s.get Reg.REGION_SIZE_SIZE (60 + i))
  let src := memSource k
  if ins || decide (2 ^ 48 ≤ k ∧ 80 ≤ src ∧ src < 160) then (s.latchCause 10).raise 26 else s

/-- The reaction of a master to a poisoned read of `n` bytes (R622). -/
def State.poisonReact (s : State) (r : MemReader) (n : Nat) : State :=
  match r with
  | .ranger => s.answer .busError
  | .core _ => s.answer .busError
  | .pcie => s.answer (.data (2 ^ (8 * n) - 1))
  | .sawmill i =>
    if (s.inst i.val).run.isSome then
      (s.onRun i.val fun x => { x with abort := true }).onInst i.val fun x => { x with coldNext := true } else s
  | .jceOwn k code => if s.jceRuns k.val then s.jceTrapIn k.val (if code then 5 else 4) else s
  | .jcePoint k => if s.jceRuns k.val then s.jceTrapIn k.val 4 else s
  | .deltaQueue q => (s.ringDrop q.val).onInst q.val fun x => { x with lost := true }
  | .bridge ring => s.count Reg.TXR_BAD_COUNT ring.val 1
  | _ => s

/-- A poisoned read of `n` bytes with its first bad byte at `k` (R615, R622). -/
def State.readPoisoned (s : State) (r : MemReader) (syn k n : Nat) : State :=
  let s := (s.countAt Reg.UE_COUNT_COUNT k).onMem fun m => { m with poisoned := bump m.poisoned }
  let s := (s.errRecord 2 (memSource k) (memAddress k) syn (MemReader.code r) 0).raise 17
  (s.poisonCause k).poisonReact r n

/-- The damage that the array shows is taken up; two wrong bits of a byte are data of their own where sapwood does not see
them (R614). -/
def State.inject (s : State) (k : Nat) (e : MemErr) : State :=
  let a := k + e.off
  let s := { s with memErr := s.memErr.put 0 a (min 3 e.kind) }
  if e.kind = 2 ∧ a < 2 ^ 48 then { s with mem := s.mem.put 0 a (s.mem.get 0 a ^^^ e.flip) } else s

/-- A memory access in PARK (R636). -/
def State.parkAccess (s : State) (k : Nat) : State :=
  ((s.count Reg.PARK_ACCESS_COUNT (bitsOf k 8 3) 1).raise 27).answer .busError

/-- The syndrome that an access shows at byte `k`. -/
def errSyn (errs : List MemErr) (off : Nat) : Nat := ((errs.find? fun e => e.off == off).map MemErr.syn).getD 0

/-- Byte `o` of the point image (R28, R29). -/
def State.pointByte (s : State) (o : Nat) : Byte := BitVec.ofNat 8 ((s.points.get 0 (o / 8)).toNat / 2 ^ (8 * (o % 8)))

/-- The byte of DRAM, cell SRAM, its point image or a core-local SRAM at address `a` (R27, R28). -/
def State.dataByte (s : State) (a : Nat) : Byte :=
  if csramBase + 0x3800000 ≤ a ∧ a < csramBase + 0x4000000 then s.pointByte (a - csramBase - 0x3800000) else s.mem.get 0 a

/-- A read of `n` bytes (R614 to R617); `clean`: from a clean cache line, where an uncorrectable error is a miss. -/
def State.codeRead (s : State) (r : MemReader) (p : MemPlace) (n : Nat) (clean : Bool) (errs : List MemErr) : State :=
  let k := MemPlace.key p
  if k < 2 ^ 33 ∧ s.parked = true then s.parkAccess k
  else
    let s := errs.foldl (fun s e => if e.off < n ∧ e.kind ≠ 0 then s.inject k e else s) s
    let bad := (List.range n).filter fun i => s.poisonedAt (k + i)
    let fixed := (List.range n).filter fun i => s.correctedAt (k + i)
    let s := s.answer (if k < 2 ^ 48 then .data (leNat ((List.range n).map fun i => s.dataByte (k + i))) else .done)
    let s := fixed.foldl (fun s i => s.readCorrected r (errSyn errs i) (k + i)) s
    match bad with
    | [] => s
    | i :: _ =>
      if clean then
        let s := bad.foldl (fun (s : State) j => { s with memErr := s.memErr.put 0 (k + j) 0 }) s
        (s.countAt Reg.CE_COUNT_COUNT (k + i)).onMem fun m => { m with corrected := bump m.corrected }
      else s.readPoisoned r (errSyn errs i) (k + i) n

/-- The count of a block in Ranger's tracker (R628). -/
def State.blockCount (s : State) (b : Nat) : Nat := ((s.memory.tracker.find? fun e => e.1 == b).map Prod.snd).getD 0

/-- The lowest count of a tracker. -/
def leastCount : List (Nat × Nat) → Nat
  | [] => 0
  | [e] => e.2
  | e :: r => min e.2 (leastCount r)

/-- Removes the oldest entry with count `c`. -/
def dropCount (c : Nat) : List (Nat × Nat) → List (Nat × Nat)
  | [] => []
  | e :: r => if e.2 = c then r else e :: dropCount c r

/-- A correction of a block is counted (R628). -/
def State.track (s : State) (b : Nat) : State :=
  s.onMem fun m =>
    if m.tracker.any fun e => e.1 == b then
      { m with tracker := m.tracker.map fun e => if e.1 = b then (b, e.2 + 1) else e }
    else
      let l := if 4096 ≤ m.tracker.length then dropCount (leastCount m.tracker) m.tracker else m.tracker
      { m with tracker := l ++ [(b, 1)] }

/-- A byte of a scrubbed block (R624). -/
def State.scrubByte (s : State) (init syn k : Nat) : State :=
  if s.correctedAt k then
    let s := ({ s with memErr := s.memErr.put 0 k 0 }.count Reg.SCRUB_CE_COUNT 0 1).track (k / 64)
    let s := s.onMem fun m => { m with corrected := bump m.corrected }
    (s.errRecord 3 (memSource k) (memAddress k) syn init (s.blockCount (k / 64))).raise 18
  else if s.poisonedAt k then
    ((s.count Reg.SCRUB_UE_COUNT 0 1).errRecord 4 (memSource k) (memAddress k) syn init 0).raise 19
  else s

/-- A block is scrubbed (R624). -/
def State.scrub (s : State) (init b : Nat) (errs : List MemErr) : State :=
  let s := errs.foldl (fun s e => if e.off < 64 ∧ e.kind ≠ 0 then s.inject (64 * b) e else s) s
  (List.range 64).foldl (fun s i => s.scrubByte init (errSyn errs i) (64 * b + i)) s

/-- The walk's memories in ascending order: first byte, byte after the last (R623). -/
def State.walkRanges (s : State) : List (Nat × Nat) :=
  (if s.parked then [] else [(0, 2 ^ 33)]) ++
    [(csramBase, csramBase + 0x4000000), (0xE800000000, 0xE800000000 + 0x1000000)]

/-- The end of the sapwood region that covers `k`. -/
def State.sapEnd (s : State) (k : Nat) : Option Nat :=
  ((List.range 64).find? fun e => s.flag Reg.REGION_CFG_VALID e && s.flag Reg.REGION_CFG_CLASS e &&
    decide (s.get Reg.REGION_BASE_BASE e ≤ k ∧ k < s.get Reg.REGION_BASE_BASE e + s.get Reg.REGION_SIZE_SIZE e)).map
      fun e => s.get Reg.REGION_BASE_BASE e + s.get Reg.REGION_SIZE_SIZE e

/-- The first heartwood block at or after `k` (R621, R623). -/
def State.heartFrom (s : State) (k : Nat) : Nat → Option Nat
  | 0 => none
  | n + 1 =>
    match s.walkRanges.find? fun r => decide (k < r.2) with
    | none => none
    | some r =>
      let k := max k r.1
      match s.sapEnd k with
      | some e => s.heartFrom e n
      | none => some k

/-- The main scrubber scrubs the next block of its walk at its rate (R623). -/
def State.scrubWalk (s : State) (errs : List MemErr) : State :=
  let rate := min 1048576 (s.get Reg.SCRUB_RATE_KIB_S 0)
  if rate = 0 then s
  else
    match s.heartFrom (s.get Reg.SCRUB_POS_ADDR 0) 200 with
    | none => s
    | some k =>
      let s := s.waitTill (s.memory.walked + 62500000 / rate / 8)
      let s := (s.onMem fun m => { m with walked := s.ticks }).scrub 0 (k / 64) errs
      match s.heartFrom (k + 64) 200 with
      | some n => s.set Reg.SCRUB_POS_ADDR 0 n
      | none =>
        let s := (s.count Reg.SCRUB_PASSES_COUNT 0 1).raise 22
        s.set Reg.SCRUB_POS_ADDR 0 ((s.heartFrom 0 200).getD 0)

/-- The oldest queued block is scrubbed (R625). -/
def State.scrubQueued (s : State) (errs : List MemErr) : State :=
  match s.memory.prio with
  | [] => s
  | b :: r =>
    let s := (s.onMem fun m => { m with prio := r }).set Reg.PRIO_STATUS_LEVEL 0 r.length
    s.scrub 0 b errs

/-- The remap words of the memory of block `b`: DRAM or SRAM, first element, number of words. -/
def remapBank (b : Nat) : Bool × Nat × Nat :=
  let src := memSource (64 * b)
  if 0x100 ≤ src then (true, 32 * (src - 0x100), 32) else (false, 8 * src, 8)

/-- `VALID` of a remap word. -/
def State.remapValid (s : State) (dram : Bool) (e : Nat) : Bool :=
  if dram then s.flag Reg.REMAP_DRAM_VALID e else s.flag Reg.REMAP_SRAM_VALID e

/-- The block that a remap word names. -/
def State.remapBlock (s : State) (dram : Bool) (e : Nat) : Nat :=
  if dram then s.get Reg.REMAP_DRAM_BLOCK e else s.get Reg.REMAP_SRAM_ROW e

/-- The block number that a remap word of the memory of `b` holds for it. -/
def remapName (b : Nat) : Nat := if (remapBank b).1 then b else memAddress (64 * b) / 64

/-- The word that remaps a block already, or is being made. -/
def State.remapOf (s : State) (b : Nat) : Option Nat :=
  let k := remapBank b
  ((List.range k.2.2).map (· + k.2.1)).find? fun e =>
    (s.remapValid k.1 e || s.memory.copying.contains (k.1, e)) && s.remapBlock k.1 e == remapName b

/-- The first free word for a block. -/
def State.remapFree (s : State) (b : Nat) : Option Nat :=
  let k := remapBank b
  ((List.range k.2.2).map (· + k.2.1)).find? fun e => !s.remapValid k.1 e && !s.memory.copying.contains (k.1, e)

/-- A copy into a spare starts (R629). -/
def State.remapStart (s : State) (dram : Bool) (e v : Nat) : State :=
  if s.remapValid dram e || s.memory.copying.contains (dram, e) then s
  else
    let s := if dram then s.set Reg.REMAP_DRAM_BLOCK e v else s.set Reg.REMAP_SRAM_ROW e v
    s.onMem fun m => { m with copying := m.copying ++ [(dram, e)] }

/-- A write of a remap word: `VALID` 1 starts the copy, `VALID` 0 sets the block of a word that is not valid (R629, R638). -/
def State.remapWrite (s : State) (dram : Bool) (e v : Nat) (valid : Bool) : State :=
  if valid then s.remapStart dram e v
  else if s.remapValid dram e || s.memory.copying.contains (dram, e) then s
  else if dram then s.set Reg.REMAP_DRAM_BLOCK e v else s.set Reg.REMAP_SRAM_ROW e v

/-- The byte key of the block that a remap word names. -/
def State.remapKey (s : State) (dram : Bool) (e : Nat) : Nat :=
  if dram then 64 * s.remapBlock true e else MemPlace.key (.group (e / 8) (64 * s.remapBlock false e))

/-- The number of a remap word within its bank. -/
def remapWordNumber (dram : Bool) (e : Nat) : Nat := if dram then e % 32 else e % 8

/-- A copy into a spare ends: one-bit errors stay behind, poison comes along, the word is valid (R629, R632). -/
def State.remapEnd (s : State) (dram : Bool) (e : Nat) : State :=
  let k := s.remapKey dram e
  let s := (List.range 64).foldl (fun (s : State) i =>
    if s.correctedAt (k + i) then { s with memErr := s.memErr.put 0 (k + i) 0 } else s) s
  let s := if dram then s.setFlag Reg.REMAP_DRAM_VALID e true else s.setFlag Reg.REMAP_SRAM_VALID e true
  let s := s.onMem fun m => { m with copying := m.copying.filter (· != (dram, e)), unsaved := m.unsaved ++ [(dram, e)] }
  (s.errRecord 5 (memSource k) (memAddress k) 0 1 (remapWordNumber dram e)).raise 20

/-- A MEM_REMAP_ADD of mailbox `n` waits for its word to be in flash (R137). -/
def State.remapWait (s : State) (n : Nat) (dram : Bool) (e : Nat) : State :=
  s.onMem fun m => { m with adding := m.adding ++ [(n, dram, e)] }

/-- A remap word goes to flash. -/
def State.remapSave (s : State) (dram : Bool) (e : Nat) : State :=
  let v := s.remapBlock dram e
  let s := if dram then { s with flash := { s.flash with remapDram := s.flash.remapDram.put none e (some v) } }
    else { s with flash := { s.flash with remapSram := s.flash.remapSram.put none e (some v) } }
  s.onMem fun m => { m with unsaved := m.unsaved.filter (· != (dram, e)) }

/-- Ranger adds a remap word for a heartwood block whose count reached 3 (R628, R631). Which word number the record of a full
table names is free: there is no word (log entry 28). -/
def State.remapAuto (s : State) (b : Nat) : State :=
  if s.blockCount b < 3 ∨ s.sapwood (64 * b) = true ∨ (s.remapOf b).isSome = true then s
  else
    match s.remapFree b with
    | some e => s.remapStart (remapBank b).1 e (remapName b)
    | none => (s.tookFree.errRecord 6 (memSource (64 * b)) (memAddress (64 * b)) 0 1 (s.free % 65536)).raise 21

/-- Ranger drains a record into log 3 (R633). -/
def State.errDrain (s : State) : State :=
  match s.memory.fifo with
  | [] => s
  | r :: _ =>
    (s.log 3 (r.getD 0 0 % 65536) (r.getD 0 0 / 65536) (leBytes 8 (r.getD 2 0) ++ leBytes 8 (r.getD 3 0))).errPop

/-- The working copies of remap words and region entries are loaded from flash, with the entries that Ranger installs
(R619, R631). -/
def State.loadMemTables (s : State) : State :=
  let s := s.flash.remapDram.entries.foldl (fun (s : State) e =>
    match e.2 with
    | some v => (s.set Reg.REMAP_DRAM_BLOCK e.1 v).setFlag Reg.REMAP_DRAM_VALID e.1 true
    | none => s) s
  let s := s.flash.remapSram.entries.foldl (fun (s : State) e =>
    match e.2 with
    | some v => (s.set Reg.REMAP_SRAM_ROW e.1 v).setFlag Reg.REMAP_SRAM_VALID e.1 true
    | none => s) s
  let put := fun (s : State) (e base size : Nat) (sap : Bool) =>
    (((s.set Reg.REGION_BASE_BASE e base).set Reg.REGION_SIZE_SIZE e size).setFlag Reg.REGION_CFG_VALID e true).setFlag
      Reg.REGION_CFG_CLASS e sap
  let s := s.flash.regions.entries.foldl (fun (s : State) e =>
    match e.2 with
    | some (b, n, c) => put s e.1 b n c
    | none => s) s
  let land := s.flash.landingMiB * 2 ^ 20
  put (put (put (put s 60 csramBase 0x1800000 false) 61 (csramBase + 0x1800000) 0x800000 false) 62
    (csramBase + 0x3800000) 0x800000 false) 63 (2 ^ 33 - land) land false

/-- A flash page shows bit errors (R635): corrected and rewritten, or uncorrectable, and the object in it fails its own
check. Objects whose place within their area the manual does not give keep their content (log entry 28). -/
def State.flashPage (s : State) (off syn : Nat) (ok : Bool) : State :=
  if ok then (s.errRecord 8 0x200 off syn 1 0).raise 24
  else
    let s := (s.errRecord 9 0x200 off syn 1 0).raise 25
    if 0x14C0000 ≤ off ∧ off < 0x74C0000 then
      let k := (off - 0x14C0000) / 0x3000000
      let c := s.flash.slots.get CellSlot.empty k
      let x := { c with state := .invalid }
      if c.state = .valid then { s with flash := { s.flash with slots := s.flash.slots.put CellSlot.empty k x } } else s
    else if 0x74C0000 ≤ off ∧ off < 0x7540000 then
      if decide (0x7500000 ≤ off) == s.flash.safeCopy then { s with flash := { s.flash with safeSet := none } } else s
    else if 0xC40000 ≤ off ∧ off < 0xCC0000 then
      { s with flash := { s.flash with programs := s.flash.programs.put none ((off - 0xC40000) / 0x20000) none } }
    else if 0xCC0000 ≤ off ∧ off < 0x14C0000 then
      let k := (off - 0xCC0000) / 0x400000
      let x := { s.flash.coreSlots.get FwSlot.empty k with state := 1 }
      { s with flash := { s.flash with coreSlots := s.flash.coreSlots.put FwSlot.empty k x } }
    else if 0x40000 ≤ off ∧ off < 0xC40000 then
      let k := (off - 0x40000) / 0x600000
      let x := { s.flash.fwSlots.get FwSlot.empty k with state := 1 }
      { s with flash := { s.flash with fwSlots := s.flash.fwSlots.put FwSlot.empty k x } }
    else s

end Sys2Proof.Machine
end

