-- ==== Sys2Proof/Machine/Points.lean ====
section
/-!
DEFINITION. Points: which writer a point has (R19, R20, R24, R767) and what a refused write leaves behind (R36).
-/
namespace Sys2Proof.Machine

/-- A number of its own for each master: the key of its shadows and held halves. -/
def Master.num : Master → Nat
  | .jce k => k.val
  | .pcie => 64
  | .core c => 65 + c.val
  | .ranger => 81
  | .caldera => 82
  | .sawmill => 83
  | .geyser => 84
  | .debug => 85

/-- The code of a master in `PT_LAST_DENIED` (R36). -/
def Master.denyCode : Master → Nat
  | .jce _ => 0
  | .pcie => 1
  | .core _ => 2
  | .ranger => 3
  | _ => 4

/-- The axis whose downlink record holds word `w` of node `m` (R538, R767). -/
def CellContent.downAxis (c : CellContent) (m w : Nat) : Option Nat :=
  match c.nodes.find? fun n => n.node == m with
  | some n => (n.down.find? fun r => r.word == w || r.word + 1 == w).map AxisRecord.axis
  | none => none

/-- The writer that the installed point map assigns to point `p`. -/
def CellContent.mapWriter (c : CellContent) (p : Nat) : Writer :=
  match c.pointMap.find? fun r => decide (r.first ≤ p ∧ p ≤ r.last) with
  | some r => r.writer
  | none => .nobody

/-- The engine of an axis as a writer. -/
def jceWriter (axis : Nat) : Writer := if h : axis / 4 < 64 then .jce ⟨axis / 4, h⟩ else .nobody

/-- The installed content, while its point map is installed (R24, R36). -/
def State.mapped (s : State) : Option CellContent := if s.flag Reg.PTIMG_STATUS_MAP_VALID 0 then s.cell else none

/-- The writer of a point in a part that the map allocates. -/
def State.mapWriter (s : State) (p : Nat) : Writer :=
  match s.mapped with
  | some c => CellContent.mapWriter c p
  | none => .nobody

/-- The point at an offset of an arm block is reserved (R225): beside the bank select, the two headers and the two banks, in
which every fourth quantity is reserved. -/
def armReserved (o : Nat) : Bool :=
  if o < 3 then false
  else if (0x100 ≤ o ∧ o < 0x700) ∨ (0x800 ≤ o ∧ o < 0xE00) then o % 4 == 3
  else true

/-- The writer of point `p` (R19, R20, R24, R225, R766, R767). -/
def State.pointWriter (s : State) (p : Nat) : Writer :=
  if p < 0x10000 then
    if p % 256 < 0x10 then jceWriter (p / 256) else s.mapWriter p
  else if p < 0x20000 then (if armReserved (p % 0x1000) then .nobody else .sawmill)
  else if p < 0x21000 then .ranger
  else if p < 0x22000 then .caldera
  else if p < 0x30000 then .nobody
  else if p < 0x40000 then
    if p % 256 < 0x80 then .geyser
    else
      match s.mapped with
      | some c =>
        match CellContent.downAxis c ((p - 0x30000) / 256) (p % 256 - 0x80) with
        | some axis => jceWriter axis
        | none => CellContent.mapWriter c p
      | none => .nobody
  else if p < 0x100000 then s.mapWriter p
  else .nobody

/-- A refused point write is counted and recorded (R36, R766). -/
def State.pointDenied (s : State) (m : Master) (p : Nat) : State :=
  ((s.count Reg.PT_DENIED_TOTAL_COUNT 0 1).set Reg.PT_LAST_DENIED_POINT 0 p).set Reg.PT_LAST_DENIED_MASTER 0 (Master.denyCode m)

/-- The point lies in the safety block (R19, R26). -/
def safetyPoint (p : Nat) : Bool := decide (0x21000 ≤ p ∧ p < 0x22000)

/-- A write through the point window by a master that receives a bus response (R26, R766). -/
def State.writePoint (s : State) (m : Master) (p v : Nat) : State :=
  if (safetyPoint p && m != .caldera) || s.pointWriter p == .nobody then (s.pointDenied m p).answer .busError
  else (s.putPoint p v).answer .done

/-- The value of point `p`. -/
def State.point (s : State) (p : Nat) : Nat := (s.points.get 0 p).toNat

end Sys2Proof.Machine
end

