-- ==== Sys2Proof/Machine/CalStop.lean ====
section
/-!
DEFINITION. Caldera's samples and cycle boundaries: safe positions and speeds (R462 to R464), SS1 and STO (R466 to R472),
speed levels (R473 to R475), the whole of a sample (R435, R457) and of a boundary (R436).
-/
namespace Sys2Proof.Machine

/-- The node connection of a network axis. -/
def State.axisConn (s : State) (a : Nat) : Nat := s.safe 0x0505 a

/-- The connection is accepted (R478). -/
def State.connOk (s : State) (c : Nat) : Bool := s.get Reg.CONN_STATE_STATE c == 2

/-- The drive record of a network axis. -/
def State.driveRecord (s : State) (a : Nat) : Option CalDrive := (s.conn (s.axisConn a)).drives[s.safe 0x0506 a]?

/-- Samples in `SPD_WIN` of an axis. -/
def State.speedWindow (s : State) (a : Nat) : Nat := max 2 (s.safe 0x050A a / 250)

/-- The position of an axis of the set (R462); none while its drive has sent none. -/
def State.readSafePos (s : State) (a : Nat) : Option Rat :=
  match s.safe 0x0501 a with
  | 1 => some (s.getS Reg.SNAP_POS_COUNT (a - 192) : Rat)
  | 2 => some (s.stepPos (a - 224) : Rat)
  | 3 => some (s.getS Reg.SNAP_POS_COUNT (a - 192) : Rat)
  | 4 => (s.driveRecord a).map fun d => (d.pos : Rat)
  | _ => none

/-- The oldest entry of a history that is not older than a window, or the one at the window. -/
def windowStart (n w : Nat) : List (Nat × Rat) → Option (Nat × Rat)
  | [] => none
  | [h] => some h
  | h :: r => if h.1 + w ≤ n then some h else windowStart n w r

/-- The speed of an axis from its history (R463), in counts/s; that of a network axis stands in its frame. -/
def State.windowSpeed (s : State) (a n : Nat) (hist : List (Nat × Rat)) : Rat :=
  if s.safe 0x0501 a = 4 then (match s.driveRecord a with
    | some d => (d.speed : Rat)
    | none => 0)
  else
    match hist, windowStart n (s.speedWindow a) hist with
    | h :: _, some o => if o.1 < n then 4000 * (h.2 - o.2) / (n - o.1 : Nat) else 0
    | _, _ => 0

/-- An axis has a full `SPD_WIN` of history (R463). -/
def State.fullWindow (s : State) (a : Nat) : Bool :=
  if s.safe 0x0501 a = 4 then s.connOk (s.axisConn a)
  else match (s.calAx a).from0 with
    | some t => decide (t + s.speedWindow a ≤ s.cal.n)
    | none => false

/-- The `JV_LIM` of an axis under the level of its arm (R475). -/
def State.jointLimit (s : State) (a : Nat) : Nat :=
  let g := s.calArmOf a
  let lv := if g < 16 then s.level g else if s.mode.mode == .jog then 2 else 0
  s.safe (0x0507 + lv) a

/-- An axis at a sample: position, speed, standstill (R462, R463, R158). -/
def State.axisMeasure (s : State) (a : Nat) : State :=
  match s.readSafePos a with
  | none => s
  | some p =>
    let n := s.cal.n
    let hist := ((n, p) :: (s.calAx a).hist).take 33
    let v := s.windowSpeed a n hist
    let s := s.onCalAx a fun x => { x with hist := hist, from0 := some (x.from0.getD n), speed := v }
    let calm := decide (v.abs ≤ (s.safe 0x0511 a : Nat)) && s.fullWindow a
    s.onCalAx a fun x => { x with still := if calm then some (x.still.getD n) else none }

/-- A limit that an axis exceeds demands SS1 with cause 0x04 and `EV205` (R475): when it is first exceeded, and again
while no stop is in force or decided. -/
def State.axisSpeedCheck (s : State) (a : Nat) : State :=
  let fast := decide ((s.jointLimit a : Rat) < s.safeSpeed a)
  let demand := fast && (!(s.calAx a).fast || !s.stopping)
  let s := s.onCalAx a fun x => { x with fast := fast }
  if demand then (s.raise 205).wantSs1 4 else s

/-- The SS1 envelope of an axis at `dt` samples after t_s (R466). -/
def State.envelope (s : State) (a dt : Nat) : Rat :=
  let top := (s.calAx a).v0 + (s.safe 0x050F a : Nat)
  let d := 4 * s.safe 0x050E a
  if dt ≤ d then top
  else
    let e := top - (s.safe 0x0510 a : Nat) * ((dt - d : Nat) : Rat) / 4000
    if e < (s.safe 0x0511 a : Nat) then (s.safe 0x0511 a : Nat) else e

/-- An axis of a running SS1 at a sample: standstill (R467). -/
def State.confirmStill (s : State) (a : Nat) : State :=
  let n := s.cal.n
  let calm := decide (s.safeSpeed a ≤ (s.safe 0x0511 a : Nat)) && s.fullWindow a
  let s := s.onCalAx a fun x => { x with confirm := if calm then some (x.confirm.getD n) else none }
  match (s.calAx a).confirm with
  | some t =>
    if 4 * s.safe 0x0512 a ≤ n - t then
      s.onCalAx a fun x => if x.stoAt.isSome then x else { x with stoAt := some n, calm := true }
    else s
  | none => s

/-- The axes that an SS1 in progress still monitors. -/
def State.ss1Axes (s : State) : List Nat :=
  s.enabledAxes.filter fun a => s.safe 0x0501 a != 0 && !(s.calAx a).sto

/-- The SS1 at a sample: envelope, standstill, `SS1_TMAX` (R466, R467). -/
def State.ss1Sample (s : State) : State :=
  match s.cal.ss1At, s.cal.stoAt with
  | some t, none =>
    let dt := s.cal.n - t
    let l := s.ss1Axes
    let broken := l.any fun a => (s.calAx a).stoAt.isNone && decide (s.envelope a dt < s.safeSpeed a)
    let s := l.foldl State.confirmStill s
    let late := decide (4 * s.safe 0x0806 0 ≤ dt)
    let moving := l.any fun a => (s.calAx a).stoAt.isNone
    let s := if late then s.enabledAxes.foldl (fun s a => if s.safe 0x0501 a = 0 && !(s.calAx a).sto then
        s.onCalAx a fun x => { x with stoAt := some (x.stoAt.getD s.cal.n) } else s) s else s
    let s := if late && !l.isEmpty then s.wantSto 10 else s
    if broken || (late && moving) then (s.raise 203).wantSto 8 else s
  | _, _ => s

/-- HALTING by command or by a class B cause starts an SS1 at the first sample after it (R466, cause 0x09). -/
def State.haltSample (s : State) : State :=
  if s.cal.haltTold then
    let s := s.onCal fun k => { k with haltTold := false }
    if s.mode.mode == .halting && !s.stopping then s.armSs1 9 else s
  else s

/-- The level that the conditions of a sample give arm `g` (R473). -/
def State.wantedLevel (s : State) (g : Nat) : Nat :=
  let jog := if s.mode.mode == .jog then 2 else 0
  (List.range 16).foldl (fun v n =>
    let f := s.safe 0x0106 n
    if s.flag Reg.SIP_STATUS_DEMAND n && bitOf (s.safe 0x0107 n) g && (f == 4 || f == 5) then max v (f - 3) else v)
    (max jog (s.calArm g).sep)

/-- The levels at a sample: what was decided, and since when the conditions of higher levels hold (R474). -/
def State.levelSample (s : State) (g : Nat) : State :=
  let n := s.cal.n
  let w := s.wantedLevel g
  let lv := s.level g
  s.onArm g fun a =>
    { a with down := if lv < w then (n, w) :: a.down else a.down,
             upFull := if w = 0 then some (a.upFull.getD n) else none,
             upReduced := if w ≤ 1 then some (a.upReduced.getD n) else none }

/-- The highest monitored-point speed of an arm. -/
def State.armSpeed (s : State) (g : Nat) : Rat := (s.calArm g).speeds.foldl (fun m v => if m < v then v else m) 0

/-- The level of an arm at a boundary (R474). -/
def State.levelBoundary (s : State) (g : Nat) : State :=
  let n := s.cal.n
  let lv := s.level g
  let hold := 4 * s.safe 0x0804 0
  let a := s.calArm g
  let down := (a.down.filter fun d => decide (d.1 < n)).foldl (fun m d => max m d.2) 0
  let held := fun (t : Option Nat) => match t with
    | some t => decide (hold ≤ n - t)
    | none => false
  let up := if held a.upFull then 0 else if held a.upReduced then 1 else 2
  let new := if lv < down then down else if up < lv then up else lv
  let s := s.onArm g fun a => { a with down := a.down.filter fun d => decide (n ≤ d.1) }
  if new = lv then s
  else
    let v := s.armSpeed g
    let s := s.onArm g fun a => { a with ramp := if lv < new then some (n, v) else none }
    (s.set Reg.LEVELS_LEVEL 0 (putBits (s.get Reg.LEVELS_LEVEL 0) (2 * g) 2 new)).raise 204

/-- The cross-check of an axis at a boundary (R464); a poisoned point counts as a mismatch (R622). -/
def State.crossCheck (s : State) (a : Nat) : State :=
  let n := s.cal.n
  if !(s.ax a).enabled then s.onCalAx a fun x => { x with cross := none, crossed := false }
  else
    let q := fun p => (toS 64 (s.point p) : Rat) / 65536
    let x := s.calAx a
    let bad := decide ((s.safe 0x050B a : Rat) < (s.safePos a - q (256 * a)).abs)
      || decide ((s.safe 0x050C a : Rat) < (x.speed - q (256 * a + 1)).abs)
      || s.pointPoisoned (256 * a) || s.pointPoisoned (256 * a + 1)
    if !bad then s.onCalAx a fun x => { x with cross := none, crossed := false }
    else
      let t := x.cross.getD n
      let s := s.onCalAx a fun x => { x with cross := some t }
      if !x.crossed && decide (4 * s.safe 0x050D a ≤ n - t) then
        ((s.onCalAx a fun x => { x with crossed := true }).count Reg.XCHK_FAIL_COUNT 0 1).raise 206 |>.wantSs1 5
      else s

/-- A stop cause of R470 is present. -/
def State.stopCausePresent (s : State) : Bool :=
  s.pairStops || (match s.cal.set with
    | some c => c.drives.any fun c => !s.connOk c
    | none => true)
    || s.monitored.any (fun a => (s.calAx a).crossed || (s.calAx a).fast)
    || (List.range 16).any fun g => (s.calArm g).fast

/-- Every enabled axis has STO. -/
def State.allSto (s : State) : Bool := s.enabledAxes.all fun a => (s.calAx a).sto

/-- STO of R468 at a boundary: for a demand, or for stop cause 0x0B when `quiet`. -/
def State.stoBoundary (s : State) (quiet : Bool) : State :=
  let demand := match s.cal.stoAt with
    | some t => decide (t < s.cal.n)
    | none => false
  if demand || quiet then
    let s := (List.range 256).foldl (fun s a => s.applySto a) s
    let s := if demand then s else (s.set Reg.STOP_STATE_STOP_CAUSE 0 0x0B).raise 202
    (s.set Reg.STOP_STATE_STOP 0 2).onCal fun k => { k with stoAt := none, ss1At := none }
  else s

/-- STO of single axes at a boundary: standstill, or the end of the SS1 for one that is not monitored (R467). -/
def State.axisStoBoundary (s : State) (a : Nat) : State :=
  match (s.calAx a).stoAt with
  | some t =>
    if t < s.cal.n ∧ !(s.calAx a).sto then
      let calm := (s.calAx a).calm
      let s := (s.applySto a).onCalAx a fun x => { x with calm := false }
      s.raiseIf calm 210
    else s
  | none => s

/-- The stop state at a boundary (R467, R470). -/
def State.stopBoundary (s : State) : State :=
  let n := s.cal.n
  let s := match s.cal.ss1At with
    | some t => if t < n ∧ s.get Reg.STOP_STATE_STOP 0 = 0 then s.set Reg.STOP_STATE_STOP 0 1 else s
    | none => s
  let s := s.enabledAxes.foldl State.axisStoBoundary s
  let s := if s.get Reg.STOP_STATE_STOP 0 = 1 && s.allSto then
      (s.set Reg.STOP_STATE_STOP 0 2).onCal fun k => { k with ss1At := none } else s
  if s.get Reg.STOP_STATE_STOP 0 != 0 && s.cal.ss1At.isNone && s.cal.stoAt.isNone && s.allSto
      && !s.flag Reg.STOP_STATE_RESTART_PEND 0 && !s.inMode [.jog, .run, .halting] && !s.stopCausePresent then
    s.set Reg.STOP_STATE_STOP 0 0
  else s

/-- The permission of an axis (R472, R463). -/
def State.permits (s : State) (ok : Bool) (a : Nat) : Bool :=
  ok && if a < 192 then s.safe 0x0501 a == 4 && s.connOk (s.axisConn a)
    else s.safe 0x0501 a == 0 || s.fullWindow a

/-- `PERMIT` of all axes at a boundary (R472). -/
def State.permitBoundary (s : State) : State :=
  let ok := s.cal.set.isSome && s.get Reg.STOP_STATE_STOP 0 == 0 && !s.flag Reg.STOP_STATE_RESTART_PEND 0 && !s.pairStops
  (List.range 4).foldl (fun s w =>
    s.set Reg.PERMIT w ((List.range 64).foldl (fun v i => if s.permits ok (64 * w + i) then v + 2 ^ i else v) 0)) s

/-- Caldera's clock at a boundary (R437): `TB0_OFS`; TB6 is steered while TB0 is synchronised, by a rate within ±400 ppm
that the manual does not give. -/
def State.steer (s : State) : State :=
  let s := s.set Reg.TB0_OFS_NS 0 (ofS 64 ((s.tb 0 : Int) - (s.tb 6 : Int)))
  if s.get Reg.TB_STATE_STATE 0 = 2 then
    let r : Int := (s.free % 800001 : Nat) - 400000
    ((s.tookFree.setS Reg.TB_RATE_PPB 6 r).set Reg.TB_RATE_PPB_FRAC 6 0).setTbState 6 2
  else s.setTbState 6 3

/-- A new set is applied (R494). -/
def State.setApply (s : State) : State :=
  match s.cal.waiting with
  | none => s
  | some c =>
    let s := s.onCal fun k => { k with set := some c, waiting := none }
    let s := (List.range 256).foldl (fun s a => s.onCalAx a fun x => { CalAxis.reset with sto := x.sto }) s
    let s := (List.range 16).foldl (fun s g => s.onArm g fun _ => CalArm.reset) s
    let s := (List.range 272).foldl (fun s c' =>
      (s.onConn c' fun _ => CalConn.reset).set Reg.CONN_STATE_STATE c' (b2n (c.inUse 9 c'))) s
    (s.set Reg.SEP_STATUS_EN 0 (b2n (!c.sensors.isEmpty))).calConfigure

/-- The outputs at a boundary: commands, EDM, switching, tests (R451 to R456). -/
def State.outputsBoundary (s : State) : State :=
  let n := s.cal.n
  let s := (List.range 16).foldl (fun s k =>
    let on := if s.flag Reg.SO_STATUS_CMD k && s.safe 0x0302 k == 1 then s.get Reg.STOP_STATE_STOP 0 == 0 && s.soFunction k
      else s.soFunction k
    s.setFlag Reg.SO_STATUS_CMD k on) s
  let s := (List.range 16).foldl (fun s k => s.edmGate n k) s
  let s := (List.range 16).foldl (fun s k => s.soBoundary n k) s
  if s.ioFault then s else s.onCal fun k => { k with faultAt := none }

/-- This is the first boundary after the sample that latched an output fault (R156, R452). -/
def State.freshFault (s : State) : Bool :=
  match s.cal.faultAt with
  | some t => decide (t < s.cal.n ∧ s.cal.n ≤ t + 2)
  | none => false

/-- The safety cycle boundary of the present sample (R436). -/
def State.calBoundary (s : State) : State :=
  let n := s.cal.n
  if s.cal.halted then s
  else if s.get Reg.CAL_STATE_STATE 0 = 1 then
    let s := (s.set Reg.CYCLE_COUNT 0 (s.get Reg.CYCLE_COUNT 0 + 1)).steer
    let quiet := s.cal.told || s.cal.waiting.isSome || s.freshFault
    let s := s.setApply
    let s := s.onCal fun k => { k with told := false }
    let s := (s.stoBoundary quiet).stopBoundary
    let s := (List.range 16).foldl State.levelBoundary s
    let s := s.permitBoundary.outputsBoundary
    let s := (List.range 8).foldl (fun s t => s.tpsBoundary n t) s
    let s := (s.monitored.foldl State.crossCheck s).calDecide
    s.seals.ioPoints
  else if s.get Reg.CAL_STATE_STATE 0 = 2 then s.seals.ioPoints
  else s

/-- The sample of the present instant (R435, R457). -/
def State.calSample (s : State) : State :=
  let n := s.cal.n
  if !s.calRuns then s
  else
    let s := (List.range 32).foldl (fun s c => s.chanSample n c) s
    let s := (List.range 16).foldl (fun s k => s.pairSample n k) s
    let s := (List.range 8).foldl (fun s t => s.tpsSample n t) s
    let s := (List.range 16).foldl (fun s k => s.soSample n k) s
    let s := (List.range 16).foldl (fun s k => s.edmSample n k) s
    let s := s.monitored.foldl (fun s a => (s.axisMeasure a).axisSpeedCheck a) s
    let s := s.ss1Sample.calDecide.haltSample
    let s := (List.range 16).foldl State.levelSample s
    s.soCommands

end Sys2Proof.Machine
end

