-- ==== Sys2Proof/Machine/CalSep.lean ====
section
/-!
DEFINITION. Safety frames and connections (R476 to R480), and the separation cycle (R475, R481 to R483, R486).
-/
namespace Sys2Proof.Machine

/-- Caldera's view of TB0 in ns (R437). -/
def State.calTb0 (s : State) : Int := (s.tb 6 : Int) + s.getS Reg.TB0_OFS_NS 0

/-- The watchdog time of a connection in ns. -/
def State.connWdt (s : State) (c : Nat) : Nat := 100000 * s.safe 0x0902 c

/-- A connection times out (R479). -/
def State.connTimeout (s : State) (c : Nat) : State :=
  if s.get Reg.CONN_STATE_STATE c = 0 ∨ s.get Reg.CONN_STATE_STATE c = 3 then s
  else
    let s := ((s.set Reg.CONN_STATE_STATE c 3).count Reg.CONN_STATE_TIMEOUTS c 1).raise 207
    let s := s.onConn c fun k => { k with tracks := [], used := [], crcAt := [] }
    if c < 256 then (s.wantSto 7).calDecide else s

/-- The connection of a frame's `CONN`: nodes, then sensors. -/
def connIndex (v : Nat) : Option Nat :=
  if 0x100 ≤ v ∧ v < 0x200 then some (v - 0x100) else if 0x200 ≤ v ∧ v < 0x210 then some (v - 0x200 + 256) else none

/-- A drive record of a frame (R477). -/
def calDriveAt (b : List Byte) (i : Nat) : CalDrive :=
  { pos := sAt b (16 * i) 8, speed := sAt b (16 * i + 8) 4, status := uAt b (16 * i + 12) 1 }

/-- A track of a frame (R477). -/
def calTrackAt (b : List Byte) (i : Nat) : CalTrack :=
  let o := 4 + 20 * i
  { x := sAt b o 4, y := sAt b (o + 4) 4, vx := sAt b (o + 8) 2, vy := sAt b (o + 10) 2, radius := uAt b (o + 12) 2,
    height := uAt b (o + 14) 2, id := uAt b (o + 16) 1, valid := bitOf (uAt b (o + 17) 1) 0 }

/-- `LEN` matches the records or the track count of the connection (R478). -/
def State.frameLenOk (s : State) (c : Nat) (f : List Byte) : Bool :=
  let len := uAt f 3 1
  let n := s.safe 0x0903 c
  if c < 256 then len == 4 * n else len == 1 + 5 * uAt f 17 1 && decide (uAt f 17 1 ≤ n)

/-- A frame fails a check (R478, R479). -/
def State.frameRejected (s : State) : State := s.raise 208

/-- A frame with a wrong CRC: counted; the eighth within 1 s times the connection out (R479). -/
def State.frameCrc (s : State) (c : Nat) : State :=
  let t := s.tb 6
  let l := t :: ((s.conn c).crcAt.filter fun u => decide (t < u + 1000000000))
  let s := ((s.onConn c fun k => { k with crcAt := l }).count Reg.CONN_STATE_CRC_ERR c 1).frameRejected
  if 8 ≤ l.length then s.connTimeout c else s

/-- A frame is accepted (R478). -/
def State.frameAccept (s : State) (c : Nat) (f : List Byte) : State :=
  let d := f.drop 16
  let s := s.onConn c fun k =>
    { k with seq := uAt f 4 4, time := uAt f 8 4, acceptedAt := s.tb 6,
             drives := if c < 256 then (List.range (s.safe 0x0903 c)).map (calDriveAt d) else [],
             ok := decide (c < 256) || bitOf (uAt d 0 1) 0,
             tracks := if c < 256 then [] else (List.range (uAt d 1 1)).map (calTrackAt d) }
  s.set Reg.CONN_STATE_STATE c 2

/-- The sequence and time checks of a frame (R478); the first frame after a start or a timeout has no predecessor. -/
def State.frameSeq (s : State) (c : Nat) (f : List Byte) (eth : Bool) : State :=
  let k := s.conn c
  let old := s.connOk c
  let step := (uAt f 4 4 + 2 ^ 32 - k.seq) % 2 ^ 32
  let age := (s.calTb0 / 1000 - (uAt f 8 4 : Int)) % (2 ^ 32 : Nat)
  let inTime := if eth then !old || decide (0 < (uAt f 8 4 + 2 ^ 32 - k.time) % 2 ^ 32
      ∧ (uAt f 8 4 + 2 ^ 32 - k.time) % 2 ^ 32 < 2 ^ 31) else decide (age ≤ (100 * s.safe 0x0902 c : Nat))
  if old ∧ (step = 0 ∨ 2 ^ 31 ≤ step) then s.onConn c fun k => { k with repeats := k.repeats + 1 }
  else if !inTime || (old && decide (4 < step)) then s.frameRejected
  else
    let s := if old && decide (2 ≤ step) then s.count Reg.CONN_STATE_SEQ_GAP c 1 else s
    s.frameAccept c f

/-- A received safety frame (R476 to R479). -/
def State.safetyFrame (s : State) (f : List Byte) (eth : Bool) : State :=
  if !s.calRuns then s
  else
    match connIndex (uAt f 0 2) with
    | none => s.frameRejected
    | some c =>
      if s.get Reg.CONN_STATE_STATE c = 0 then s.frameRejected
      else
        let n := 4 * uAt f 3 1
        if f.length < 20 + n ∨ crcSafe (leBytes 4 (s.safe 0x0901 c) ++ f.take (16 + n)) ≠ uAt f (16 + n) 4 then
          s.frameCrc c
        else if uAt f 2 1 ≠ (if c < 256 then 1 else 3) ∨ s.frameLenOk c f = false ∨ uAt f 12 2 ≠ s.safe 0x0902 c then
          s.frameRejected
        else s.frameSeq c f eth

/-- The axis with a record of a node's drive frame. -/
def State.recordAxis (s : State) (c r : Nat) : Option Nat :=
  s.monitored.find? fun a => s.safe 0x0501 a == 4 && s.safe 0x0505 a == c && s.safe 0x0506 a == r

/-- The data byte of an axis in a downlink frame (R477, R471). -/
def State.downByte (s : State) (c r : Nat) : Byte :=
  let run := match s.recordAxis c r with
    | some a => !(s.calAx a).sto
    | none => false
  BitVec.ofNat 8 (b2n run + 2 * b2n (s.get Reg.STOP_STATE_STOP 0 == 1 || s.cal.ss1At.isSome))

/-- The downlink safety frame of a node connection, and the state after it is sent (R476, R477, R480). -/
def State.calDownlink (s : State) (c : Nat) : List Byte × State :=
  let n := s.safe 0x0903 c
  let len := (n + 3) / 4
  let seq := (s.cal.dnSeq.get 0 c + 1) % 2 ^ 32
  let data := ((List.range n).map (s.downByte c) ++ zeros 4).take (4 * len)
  let f := leBytes 2 (0x100 + c) ++ leBytes 1 2 ++ leBytes 1 len ++ leBytes 4 seq
    ++ leInt 4 (s.calTb0 / 1000) ++ leBytes 2 (s.safe 0x0902 c) ++ zeros 2 ++ data
  (f ++ leBytes 4 (crcSafe (leBytes 4 (s.safe 0x0901 c) ++ f)),
   s.onCal fun k => { k with dnSeq := k.dnSeq.put 0 c seq })

/-- The limit of the monitored points of arm `g` at the present sample (R474); a ramp that has reached its level ends. -/
def State.pointLimit (s : State) (g : Nat) : Rat × Bool :=
  let vr : Rat := (s.safe (0x0801 + s.level g) 0 : Nat)
  match (s.calArm g).ramp with
  | some (t, v) =>
    let l := v - (s.safe 0x060A g : Nat) * ((s.cal.n - t : Nat) : Rat) / 4000
    if vr < l then (l, true) else (vr, false)
  | none => (vr, false)

/-- The monitored points of an arm at a separation cycle: speeds and their limit (R465, R475). -/
def State.armCycle (s : State) (g : Nat) : State :=
  let pts := s.armPoints g
  let old := (s.calArm g).points
  let speeds := (pts.zip old).map fun e =>
    let d := V3.sub e.1 { x := e.2.1, y := e.2.2.1, z := e.2.2.2 }
    rootQ (V3.dot d d)
  let s := s.onArm g fun a => { a with points := pts.map fun p => (p.x, p.y, p.z), speeds := speeds }
  let l := s.pointLimit g
  let fast := speeds.any fun v => decide (l.1 + (s.safe 0x0609 g : Nat) < v)
  let demand := fast && (!(s.calArm g).fast || !s.stopping)
  let s := s.onArm g fun a => { a with fast := fast, ramp := if l.2 then a.ramp else none }
  if demand then (s.raise 205).wantSs1 4 else s

/-- The tracks of the sensors with their slots, of the frames accepted before the cycle began (R481). -/
def State.sepTracks (s : State) : List (Nat × CalTrack) :=
  match s.cal.set with
  | none => []
  | some c => c.sensors.flatMap fun k => (((s.conn k).used.zipIdx).filter fun t => t.1.valid).map fun t =>
      (c.nat 0x0904 k + t.2, t.1)

/-- The first slots of the sensors that count as a person at distance 0 (R479). -/
def State.sepBlind (s : State) : List Nat :=
  match s.cal.set with
  | none => []
  | some c => (c.sensors.filter fun k => s.get Reg.CONN_STATE_STATE k == 3 || (s.connOk k && !(s.conn k).ok)).map fun k =>
      c.nat 0x0904 k

/-- What a person is to an arm: track slot, distance in mm, approach speed. -/
structure Nearness where
  slot : Nat
  d : Rat
  vh : Rat
deriving DecidableEq, Repr, Inhabited

/-- Every person against the capsules of an arm. -/
def State.nearness (s : State) (g : Nat) : List Nearness :=
  let caps := s.capsules g
  if caps.isEmpty then []
  else
    s.sepBlind.map (fun k => { slot := k, d := 0, vh := 0 }) ++ s.sepTracks.filterMap fun t =>
      (s.nearest t.2 caps).map fun w => { slot := t.1, d := w.2, vh := approach t.2 w.1 }

/-- The smallest of a list of fractions. -/
def leastQ : List Rat → Option Rat
  | [] => none
  | a :: r => match leastQ r with
    | some b => some (if a < b then a else b)
    | none => some a

/-- The separation level of an arm (R483). -/
def State.sepLevel (s : State) (g : Nat) (l : List Nearness) : Nat :=
  let ok := fun lv => l.all fun p =>
    decide (s.protective g (s.safe (0x0801 + lv) 0 : Nat) p.vh + (s.safe 0x080C 0 : Nat) ≤ p.d)
  if ok 0 then 0 else if ok 1 then 1 else 2

/-- Distances, level and stop of an arm at a separation cycle (R481 to R483, R486). -/
def State.armSeparation (s : State) (g : Nat) : State :=
  let l := s.nearness g
  let vr := s.armSpeed g
  let sp := l.map fun p => s.protective g vr p.vh
  let stop := (l.zip sp).any fun e => decide (e.1.d < e.2)
  let s := s.onArm g fun a => { a with sep := s.sepLevel g l }
  let f := fun (o : Option Rat) (s : State) => match o with
    | some q => (q.floor.toNat % 2 ^ 32, s)
    | none => (s.free % 2 ^ 32, s.tookFree)
  let d := f (leastQ (l.map Nearness.d)) s
  let p := f (leastQ sp) d.2
  let s := p.2.putPoint (0x21010 + g) (d.1 + p.1 * 2 ^ 32)
  if stop then ((s.count Reg.SEP_STOPS_COUNT 0 1).raise 209).wantSs1 6 else s

/-- The smallest distance in the cell with its arm and track slot. -/
def leastCell : List (Nat × Nearness) → Option (Nat × Nearness)
  | [] => none
  | a :: r => match leastCell r with
    | some b => if b.2.d < a.2.d then some b else some a
    | none => some a

/-- `SEP_MIN` and `SEP_STATUS` (R487). -/
def State.sepRegs (s : State) : State :=
  let s := s.set Reg.SEP_STATUS_TRACKS 0 s.sepTracks.length
  match leastCell ((List.range 16).flatMap fun g => (s.nearness g).map fun p => (g, p)) with
  | some e => ((s.set Reg.SEP_MIN_DIST 0 e.2.d.floor.toNat).set Reg.SEP_MIN_ARM 0 e.1).set Reg.SEP_MIN_TRACK 0 e.2.slot
  | none => s

/-- The point of a track slot (R486). -/
def trackPoint (t : Option CalTrack) : Nat :=
  match t with
  | some t => ofS 16 (t.x / 10) + ofS 16 (t.y / 10) * 2 ^ 16 + t.id * 2 ^ 32 + 2 ^ 40
  | none => 0

/-- The stop and separation points of R486. -/
def State.stopPoints (s : State) : State :=
  let ramps := (List.range 16).foldl (fun v g => v + b2n (s.calArm g).ramp.isSome * 2 ^ g) 0
  let s := s.putPoint 0x21003 (s.get Reg.LEVELS_LEVEL 0 + ramps * 2 ^ 32 + s.get Reg.STOP_STATE_STOP 0 * 2 ^ 48
    + s.get Reg.STOP_STATE_RESTART_PEND 0 * 2 ^ 50)
  let s := (List.range 4).foldl (fun s i => s.putPoint (0x21004 + i) (s.get Reg.PERMIT i)) s
  let l := s.sepTracks
  (List.range 32).foldl (fun s k => s.putPoint (0x21020 + k) (trackPoint ((l.find? fun t => t.1 == k).map Prod.snd))) s

/-- The separation cycle of the present boundary (R481). -/
def State.separation (s : State) : State :=
  if !s.calRuns then s
  else
    let s := (List.range 16).foldl State.armCycle s
    let s := (List.range 16).foldl State.armSeparation s
    s.calDecide.sepRegs.stopPoints

/-- The boundary of the present sample is made; a separation cycle begins there at every second one, with the frames
accepted by then (R481). -/
def State.doBoundary (s : State) : State :=
  let s := s.calBoundary.onCal fun k => { k with bound := k.n }
  if s.cal.n % 4 = 0 then (List.range 16).foldl (fun s i => s.onConn (256 + i) fun k => { k with used := k.tracks }) s else s

/-- The boundary of the present sample is still to be made. -/
def State.boundaryDue (s : State) : Bool := s.cal.n % 2 == 0 && s.cal.bound != s.cal.n

/-- The separation cycle of the present sample is still to be made. -/
def State.separationDue (s : State) : Bool := s.cal.n % 4 == 0 && s.cal.sepAt != s.cal.n

/-- The separation cycle of the present boundary is made. -/
def State.doSeparation (s : State) : State := s.separation.onCal fun k => { k with sepAt := k.n }

/-- What is due at the present sample is made. -/
def State.calCatchUp (s : State) : State :=
  let s := if s.boundaryDue then s.doBoundary else s
  if s.separationDue then s.doSeparation else s

/-- The watchdog trips (R441). -/
def State.watchdogTrip (s : State) : State :=
  if s.get Reg.CAL_STATE_STATE 0 = 2 then s else (s.raise 199).diagnostic 4

/-- The next sample instant (R435): the clock stands there. Nothing happens in STARTUP. A core that debug holds does not
serve its watchdog, which trips when the window closes, 550 µs after the last boundary (R441). -/
def State.nextSample (s : State) : State :=
  if s.get Reg.CAL_STATE_STATE 0 = 0 then s
  else if s.cal.halted then
    if s.get Reg.CAL_STATE_STATE 0 = 1 then (s.waitTb 6 (s.cal.start + 250000 * s.cal.bound + 550000)).watchdogTrip else s
  else
    let s := s.calCatchUp
    let s := s.onCal fun k => { k with n := k.n + 1 }
    (s.waitTb 6 (s.cal.start + 250000 * s.cal.n)).calSample

/-- Samples up to number `n`. -/
def State.sampleTo (s : State) (n : Nat) : State := Sys2Proof.iterate State.nextSample (n - s.cal.n) s

/-- The next boundary. -/
def State.nextBoundary (s : State) : State :=
  if s.boundaryDue then s.doBoundary
  else
    let s := s.nextSample
    let s := if s.cal.n % 2 = 0 then s else s.nextSample
    if s.boundaryDue then s.doBoundary else s

/-- The boundary at sample `n` or the first one after it. -/
def State.boundaryAt (s : State) (n : Nat) : State :=
  let s := s.sampleTo (n + n % 2)
  if s.boundaryDue then s.doBoundary else s

end Sys2Proof.Machine
end

