-- ==== Sys2Proof/Machine/Caldera.lean ====
section
/-!
DEFINITION. The commands of Caldera (chapters 13 to 15). Its instants are counted in samples; a command whose instant has
not come makes the samples and boundaries up to it, with the levels at the balls unchanged (log entry 5).
-/
namespace Sys2Proof.Machine

/-- A restart of Caldera into STARTUP with STO held (R439); the levels at its input balls stay. A safety core that a debugger
holds halts at its first instruction (R729). -/
def State.calRestart (s : State) : State :=
  let k := s.cal
  let held := s.hartHeld 17
  let k := { CalState.reset with si := k.si, sorb := k.sorb, edm := k.edm, sealPins := k.sealPins, halted := held }
  let s := { s with cal := k }
  let s := (Reg.all.filter fun f => f.dom == 7).foldl (fun s f => { s with regs := s.regs.put Tab.empty f.id Tab.empty }) s
  (if held then s.debugLog 3 0x11 0 else s).stoAll

/-- The boot path copies Caldera's program into the safety SRAM (R432). -/
def State.calLoad (s : State) : State :=
  match s.boot.ranger with
  | some k =>
    let d := if s.boot.qspi then (Config.qspiFirmware k).2.2 else (s.flash.fwSlots.get FwSlot.empty k).digest
    s.onCal fun c => { c with sram := Tab.empty.putAll 0 0 ((Config.calderaProgram d).take 0x40000) }
  | none => s

/-- The end of STARTUP (R439; under the boot ROM Caldera does not start, R713): the set is loaded and its CRC checked, the
I/O configured; OPERATIONAL with STO held. -/
def State.calStart (s : State) (diag : Nat) : State :=
  if s.get Reg.CAL_STATE_STATE 0 ≠ 0 ∨ s.cal.halted = true ∨ s.boot.ranger = none then s
  else
  let s := s.calLoad
  if diag ≠ 0 then s.diagnostic diag
  else
    let set := match s.flash.safeSet with
      | some c => if c.computeCrc = c.crc then some c else none
      | none => none
    let s := s.onCal fun k => { k with set := set, start := s.tb 6, n := 0, bound := 0, sepAt := 0 }
    let s := s.calConfigure
    let s := match set with
      | some c => ((List.range 272).foldl (fun (s : State) i => s.set Reg.CONN_STATE_STATE i (b2n (c.inUse 9 i))) s).set
          Reg.SEP_STATUS_EN 0 (b2n (!c.sensors.isEmpty))
      | none => s
    let s := s.set Reg.SEAL_STATUS_SEAL_MODE 0 (b2n s.flash.sealMode)
    ((s.set Reg.CAL_STATE_STATE 0 1).stoAll).raise 200

/-- Debug halts the safety core (R441, R727). -/
def State.calDebugHalt (s : State) : State :=
  if s.hartHeld 17 then s else ((s.holdHart 17 true).debugLog 3 0x11 0).onCal fun k => { k with halted := true }

/-- Debug resumes the safety core: no output is driven by it (R728). -/
def State.calDebugResume (s : State) (pc : Nat) : State :=
  if s.hartHeld 17 then ((s.holdHart 17 false).debugLog 4 0x11 pc).onCal fun k => { k with halted := false } else s

/-- The levels at the safe input balls. -/
def State.siLevels (s : State) (v : Word32) : State := s.onCal fun k => { k with si := v }

/-- A test-pulse output's sample at `off` samples after `t0`, with the levels `si` there (R449). -/
def State.testSample (s : State) (t : Nat) (off : Nat → Nat) (si : Word32) : State :=
  match (s.calTps t).t0 with
  | none => s
  | some t0 =>
    let n := off t0
    if n ≤ s.cal.n then s else ((s.sampleTo (n - 1)).siLevels si).nextSample

/-- The boundary at which an output's next test is due (R453, R454). -/
def State.outputTest (s : State) (k : Nat) : State :=
  if s.flag Reg.SO_STATUS_OUT k && s.flag Reg.SO_CFG_TEST_EN k && !s.flag Reg.SO_STATUS_TESTING k then
    s.boundaryAt (max s.cal.n (s.calOut k).nextTest)
  else s

/-- CALDERA_START: STARTUP ends (R439); `diag` is the code of a failed start-up diagnostic, 0 for none. -/
def execCalderaStart (diag : Fin 10) (s : State) : Host.Outcome State Fault Refusal := s.run fun s => s.calStart diag.val

/-- DIAGNOSTIC_FAULT: diagnostic `code` + 1 fails (R440); 0x09, the debug halt, acts through the watchdog. -/
def execDiagnosticFault (code : Fin 9) (s : State) : Host.Outcome State Fault Refusal :=
  s.run fun s => if code.val = 8 then s.calDebugHalt.watchdogTrip else s.diagnostic (code.val + 1)

/-- WATCHDOG_TRIP (R441). -/
def execWatchdogTrip (s : State) : Host.Outcome State Fault Refusal := s.run State.watchdogTrip

/-- CALDERA_DEBUG_HALT (R441). -/
def execCalderaDebugHalt (s : State) : Host.Outcome State Fault Refusal := s.run State.calDebugHalt

/-- SAFETY_SAMPLE: the next sample instant, with the levels at the balls (R435, R444). -/
def execSafetySample (si : Word32) (sorb edm : BitVec 16) (s : State) : Host.Outcome State Fault Refusal :=
  s.run fun s => (s.onCal fun k => { k with si := si, sorb := sorb, edm := edm }).nextSample

/-- SAFETY_CYCLE_BOUNDARY: the next boundary, with the levels of the seal balls (R436, R499). -/
def execSafetyCycleBoundary (seals : BitVec 4) (s : State) : Host.Outcome State Fault Refusal :=
  s.run fun s => (s.onCal fun k => { k with sealPins := seals }).nextBoundary

/-- SEPARATION_CYCLE: the next separation cycle (R481). -/
def execSeparationCycle (s : State) : Host.Outcome State Fault Refusal :=
  s.run fun s =>
    let s := if s.separationDue then s else s.boundaryAt (s.cal.n / 4 * 4 + 4)
    let s := if s.boundaryDue then s.doBoundary else s
    if s.separationDue then s.doSeparation else s

/-- DISCREPANCY_LATCH: the channels of a pair have disagreed for `T_DISC` (R445). -/
def execDiscrepancyLatch (pair : Fin 16) (s : State) : Host.Outcome State Fault Refusal :=
  s.run fun s =>
    let p := s.calPair pair.val
    if s.flag Reg.SIP_STATUS_DISC_RUNNING pair.val && !p.latched then
      s.sampleTo (p.tDisc + 4 * s.get Reg.SIP_CFG_T_DISC pair.val)
    else s

/-- TEST_PULSE_START: the boundary at which the pulse of a TPS output is due (R447). -/
def execTestPulseStart (tps : Fin 8) (s : State) : Host.Outcome State Fault Refusal :=
  s.run fun s =>
    match (s.calTps tps.val).due, (s.calTps tps.val).t0 with
    | some d, none => if s.flag Reg.TPS_CFG_EN tps.val then
        (if d ≤ s.cal.n then s.nextBoundary else s.boundaryAt d) else s
    | _, _ => s

/-- TEST_PULSE_CHECK: the check of an input test, with the levels at its sample (R449). -/
def execTestPulseCheck (tps : Fin 8) (si : Word32) (s : State) : Host.Outcome State Fault Refusal :=
  s.run fun s => s.testSample tps.val (fun t0 => t0 + s.get Reg.TPS_CFG_TP_WIDTH tps.val - 1) si

/-- TEST_WINDOW_END: the first sample after a window (R448). -/
def execTestWindowEnd (tps : Fin 8) (si : Word32) (s : State) : Host.Outcome State Fault Refusal :=
  s.run fun s => s.testSample tps.val (fun t0 => s.windowEnd tps.val t0) si

/-- OUTPUT_TEST_PULSE: the test of a safe output begins (R453). -/
def execOutputTestPulse (so : Fin 16) (s : State) : Host.Outcome State Fault Refusal := s.run fun s => s.outputTest so.val

/-- OUTPUT_RETEST: a discarded test runs again `OTP_RESTART` after the switch-on (R454). -/
def execOutputRetest (so : Fin 16) (s : State) : Host.Outcome State Fault Refusal :=
  s.run fun s => if s.flag Reg.SO_STATUS_RETEST so.val then s.outputTest so.val else s

/-- OUTPUT_TEST_END: the end of an output test, with the readback levels there (R453, R454). -/
def execOutputTestEnd (so : Fin 16) (sorb : BitVec 16) (s : State) : Host.Outcome State Fault Refusal :=
  s.run fun s =>
    let n := (s.calOut so.val).testAt + s.get Reg.SO_CFG_OTP_WIDTH so.val
    if s.flag Reg.SO_STATUS_TESTING so.val && decide (s.cal.n < n) then
      ((s.sampleTo (n - 1)).onCal fun k => { k with sorb := sorb }).nextSample
    else s

/-- STANDSTILL_CONFIRM: an axis of a running SS1 has stayed at standstill for `STILL_CONF`, and the next boundary applies
STO (R467). -/
def execStandstillConfirm (axis : Fin 256) (s : State) : Host.Outcome State Fault Refusal :=
  s.run fun s =>
    match s.cal.ss1At, (s.calAx axis.val).confirm with
    | some _, some t => (s.sampleTo (t + 4 * s.safe 0x0512 axis.val)).nextBoundary
    | _, _ => s

/-- SS1_TMAX_EXPIRY (R467). -/
def execSs1TmaxExpiry (s : State) : Host.Outcome State Fault Refusal :=
  s.run fun s =>
    match s.cal.ss1At with
    | some t => (s.sampleTo (t + 4 * s.safe 0x0806 0)).nextBoundary
    | none => s

/-- XCHK_FAIL: a cross-check difference has held for `XCHK_T` (R464). -/
def execXchkFail (axis : Fin 256) (s : State) : Host.Outcome State Fault Refusal :=
  s.run fun s =>
    let x := s.calAx axis.val
    match x.cross, x.crossed with
    | some t, false => s.boundaryAt (max (s.cal.n + 1) (t + 4 * s.safe 0x050D axis.val))
    | _, _ => s

/-- LEVEL_RAISE: the conditions of a higher level of an arm have held for `LEVEL_HOLD` (R474). -/
def execLevelRaise (arm : Fin 16) (s : State) : Host.Outcome State Fault Refusal :=
  s.run fun s =>
    let a := s.calArm arm.val
    let hold := 4 * s.safe 0x0804 0
    match s.level arm.val, a.upFull, a.upReduced with
    | 2, _, some t => s.boundaryAt (max (s.cal.n + 1) (t + hold))
    | 1, some t, _ => s.boundaryAt (max (s.cal.n + 1) (t + hold))
    | _, _, _ => s

/-- SAFETY_FRAME: a safety frame from a Geyser slot, or from a SAFETY-ETHERNET port (R478). -/
def execSafetyFrame (frame : List Byte) (eth : Bool) (s : State) : Host.Outcome State Fault Refusal :=
  s.run fun s => s.calCatchUp.safetyFrame frame eth

/-- CONNECTION_TIMEOUT: a connection has accepted no frame within `WDT` (R479). -/
def execConnectionTimeout (conn : Fin 272) (s : State) : Host.Outcome State Fault Refusal :=
  s.run fun s =>
    if s.calRuns && s.connOk conn.val then
      let t := (s.conn conn.val).acceptedAt + s.connWdt conn.val
      let s := s.sampleTo ((t - s.cal.start) / 250000)
      (s.waitTb 6 t).connTimeout conn.val
    else s

/-- SEAL_ACCEPT: a seal ball takes a level and keeps it for 20 ms (R499). -/
def execSealAccept (ball : Fin 4) (level : Bool) (s : State) : Host.Outcome State Fault Refusal :=
  s.run fun s =>
    let v := putBits s.cal.sealPins.toNat ball.val 1 (b2n level)
    let s := (s.onCal fun k => { k with sealPins := BitVec.ofNat 4 v }).nextBoundary
    match (s.sealIn ball.val).since with
    | some t => s.boundaryAt ((t + 20000000 - s.cal.start + 249999) / 250000)
    | none => s

/-- SET_APPLY: a new committed set is applied at the next boundary (R494). -/
def execSetApply (s : State) : Host.Outcome State Fault Refusal :=
  s.run fun s => if s.cal.waiting.isSome then s.nextBoundary else s

end Sys2Proof.Machine
end

