-- ==== Sys2Proof/Machine/JceWord.lean ====
section
/-!
DEFINITION. The instruction words of the joint control engines: which words are instructions (R246 to R249), the fetched
word of an engine, its registers, flags, addressing and program flow (R237, R243 to R245, R248, R250, R251).
-/
namespace Sys2Proof.Machine

/-- The operation code of a word (R246). -/
def jceOp (w : Nat) : Nat := bitsOf w 26 6

/-- Register field d, s, c or g at the top of the operands. -/
def jceD (w : Nat) : Nat := bitsOf w 22 4
/-- Register field a of formats R and I. -/
def jceA (w : Nat) : Nat := bitsOf w 18 4
/-- Register field b of format R. -/
def jceB (w : Nat) : Nat := bitsOf w 14 4
/-- The signed 14-bit constant. -/
def jceK (w : Nat) : Int := toS 14 w
/-- The shift of formats R and of the write-back instructions. -/
def jceSh (w : Nat) : Nat := bitsOf w 14 6

/-- An even register. -/
def evenReg (d : Nat) : Bool := d % 2 == 0

/-- Operation codes of format R without a shift, with two operands. -/
def opPlain (op : Nat) : Bool :=
  op == 0x10 || op == 0x11 || op == 0x13 || op == 0x14 || op == 0x15 || op == 0x19 || op == 0x1A || op == 0x21

/-- The word is an instruction: its operation code is in the table, its zero fields are zero, its even registers even, its
condition and its shift legal (R249). -/
def jceLegal (w : Nat) : Bool :=
  let op := jceOp w
  let z := fun lo n => bitsOf w lo n == 0
  let d := jceD w
  if op = 0x00 ∨ op = 0x04 ∨ op = 0x09 then z 0 26
  else if op = 0x01 then decide (d < 14) && z 12 10
  else if op = 0x02 ∨ op = 0x03 then z 12 10
  else if op = 0x05 ∨ op = 0x06 ∨ op = 0x07 ∨ op = 0x08 then true
  else if opPlain op then z 0 14
  else if op = 0x12 then z 14 4
  else if op = 0x16 ∨ op = 0x17 ∨ op = 0x18 then z 5 9
  else if op = 0x1B ∨ op = 0x1C then z 14 4 && z 0 14
  else if op = 0x1D then z 22 4 && z 0 14
  else if op = 0x1E then z 22 4 && z 14 4
  else if op = 0x1F ∨ op = 0x20 then z 16 6
  else if op = 0x28 ∨ op = 0x29 then z 14 3
  else if op = 0x2A then z 0 10
  else if op = 0x2B ∨ op = 0x2C then evenReg d && z 14 3
  else if op = 0x2D then z 15 1
  else if op = 0x2E then z 0 17
  else if op = 0x30 ∨ op = 0x31 then evenReg d && z 21 1
  else if op = 0x32 then evenReg d && z 19 3 && z 0 16
  else if op = 0x33 ∨ op = 0x34 then (evenReg d || z 21 1) && z 14 7
  else if op = 0x38 then z 0 14
  else if op = 0x39 ∨ op = 0x3A then z 16 4 && z 0 14
  else if op = 0x3B then z 0 7
  else if op = 0x3C then z 4 22
  else if op = 0x3D then z 0 12
  else if op = 0x3E then z 20 4 && z 0 12
  else if op = 0x3F then evenReg (bitsOf w 20 4) && decide (jceSh w ≤ 8) && z 0 14
  else false

/-- The program counter. -/
def State.jpc (s : State) (k : Nat) : Nat := s.get Reg.JCE_STATE_PC k

/-- The instruction word at the program counter. -/
def State.jword (s : State) (k : Nat) : Nat := ((s.eng k).imem.get emptyInstr (s.jpc k)).toNat

/-- The engine is about to issue an instruction: RUNNING, not waiting for an event or a point. The words of the servo
kernel are not given, so an engine that runs it issues none (log entry 23). -/
def State.jissues (s : State) (k : Nat) : Bool :=
  s.jceRuns k && !(s.eng k).kernel && (s.eng k).waiting.isNone && (s.eng k).reading.isNone

/-- The fetched word is an instruction with operation code `op`. -/
def State.jfetched (s : State) (k op : Nat) : Bool := s.jissues k && jceOp (s.jword k) == op && jceLegal (s.jword k)

/-- The engine reads a word of its own memory and goes on with `f`: a one-bit error is corrected and reported, an
uncorrectable one is reported and traps the engine with cause `DMEM` or `IMEM` (R233, R622, R632). The syndrome of the record
is a free value, for the engine's read does not show the check bits. -/
def State.jread (s : State) (k : Nat) (imem : Bool) (a : Nat) (f : State → State) : State :=
  let key := jmemKey k imem a
  let r : MemReader := .jceOwn (Fin.ofNat 64 k) imem
  match (List.range 4).find? fun i => s.poisonedAt (key + i) with
  | some i => s.tookFree.readPoisoned r (s.free % 32) (key + i) 4
  | none => f (((List.range 4).filter fun i => s.correctedAt (key + i)).foldl (fun s i =>
      s.tookFree.readCorrected r (s.free % 32) (key + i)) s)

/-- Runs `f` on the fetched word when it is an instruction with operation code `op`; otherwise nothing happens. -/
def State.jrun (s : State) (k op : Nat) (f : Nat → State → State) : State :=
  if s.jfetched k op then s.jread k true (s.jpc k) (f (s.jword k)) else s

/-- Data register D`d`. -/
def State.jd (s : State) (k d : Nat) : Word32 := (s.eng k).d.get 0 d

/-- Writes D`d`. -/
def State.jput (s : State) (k d : Nat) (v : Word32) : State := s.onEng k fun e => { e with d := e.d.put 0 d v }

/-- Sets the program counter. -/
def State.jgo (s : State) (k t : Nat) : State := s.set Reg.JCE_STATE_PC k (t % 4096)

/-- The next program counter after the instruction at `pc`, and the loop stack: the body of the innermost loop that ends
here is repeated, or its loop is popped (R250). -/
def loopNext (pc : Nat) : List HwLoop → Nat × List HwLoop
  | [] => ((pc + 1) % 4096, [])
  | l :: r =>
    if l.last = pc then
      if 1 < l.left then (l.first, { l with left := l.left - 1 } :: r) else loopNext pc r
    else ((pc + 1) % 4096, l :: r)

/-- The instruction is done and the engine goes on. -/
def State.jnext (s : State) (k : Nat) : State :=
  let r := loopNext (s.jpc k) (s.eng k).loops
  (s.onEng k fun e => { e with loops := r.2 }).jgo k r.1

/-- The innermost loop is popped when a jump leaves its body (R250). -/
def leaveLoop (t : Nat) : List HwLoop → List HwLoop
  | [] => []
  | l :: r => if l.first ≤ t ∧ t ≤ l.last then l :: r else r

/-- A taken branch or jump to `t`. -/
def State.jjump (s : State) (k t : Nat) : State :=
  (s.onEng k fun e => { e with loops := leaveLoop t e.loops }).jgo k t

/-- Flags Z and N of a result. -/
def State.jzn (s : State) (k : Nat) (v : Word32) : State :=
  s.onEng k fun e => { e with z := v == 0, n := v.msb }

/-- Writes a result with flags Z and N. -/
def State.jputZn (s : State) (k d : Nat) (v : Word32) : State := (s.jput k d v).jzn k v

/-- Flags C and V. -/
def State.jcv (s : State) (k : Nat) (c v : Bool) : State := s.onEng k fun e => { e with c := c, v := v }

/-- The flags of `a + b` (R237). -/
def State.jaddFlags (s : State) (k : Nat) (a b : Word32) : State :=
  (s.jzn k (a + b)).jcv k (decide (2 ^ 32 ≤ a.toNat + b.toNat)) (decide (a.toInt + b.toInt ≠ (a + b).toInt))

/-- The flags of `a − b`: C is 1 when there is no borrow (R237). -/
def State.jsubFlags (s : State) (k : Nat) (a b : Word32) : State :=
  (s.jzn k (a - b)).jcv k (decide (b.toNat ≤ a.toNat)) (decide (a.toInt - b.toInt ≠ (a - b).toInt))

/-- Flag V. -/
def State.jv (s : State) (k : Nat) (v : Bool) : State := s.onEng k fun e => { e with v := v }

/-- A saturation occurred (sticky). -/
def State.jsat (s : State) (k : Nat) (b : Bool) : State := s.onEng k fun e => { e with sat := e.sat || b }

/-- Branch conditions (R248). -/
def jceCond (e : JceState) (c : Nat) : Bool :=
  match c with
  | 0 => true
  | 1 => e.z
  | 2 => !e.z
  | 3 => e.n != e.v
  | 4 => e.n == e.v
  | 5 => !e.z && e.n == e.v
  | 6 => e.z || e.n != e.v
  | 7 => !e.c
  | 8 => e.c
  | 9 => e.v
  | 10 => !e.v
  | 11 => e.sat
  | 12 => e.evTick
  | 13 => e.evPeriph
  | _ => false

/-- Data memory has 16,384 words. -/
def jmemSize : Nat := 16384

/-- The data word at an address. -/
def State.jload (s : State) (k a : Nat) : Word32 := (s.eng k).dmem.get 0 (a % jmemSize)

/-- The engine reads a data word and goes on with it. -/
def State.jget (s : State) (k a : Nat) (f : Word32 → State → State) : State :=
  s.jread k false (a % jmemSize) (f (s.jload k a))

/-- Writes a data word; a store into the parameter area has no effect (R234). -/
def State.jstore (s : State) (k a : Nat) (v : Word32) : State :=
  if a % jmemSize < 0x3000 then (s.healed (jmemKey k false (a % jmemSize)) 4).onEng k fun e => { e with dmem := e.dmem.put 0 (a % jmemSize) v } else s

/-- Post-modification of an address register (R245). -/
def postModify (a base len : Nat) (m : Int) : Nat :=
  if len = 0 then (((a : Int) + m) % jmemSize).toNat
  else (((base : Int) + ((a : Int) - base + m) % len) % jmemSize).toNat

/-- A`n`. -/
def State.ja (s : State) (k n : Nat) : Nat := (s.eng k).a.get 0 n

/-- Post-modifies A`n` when `on`. -/
def State.jpost (s : State) (k n : Nat) (on : Bool) : State :=
  if on then
    s.onEng k fun e =>
      let v := postModify (e.a.get 0 n) (e.base.get 0 n) (e.len.get 0 n) (e.modn.get 0 n)
      { e with a := e.a.put 0 n v }
  else s

/-- The address of a format M operand (R244). -/
def State.jea (s : State) (k w : Nat) : Nat :=
  match bitsOf w 17 2 with
  | 2 => (((s.ja k (bitsOf w 19 3) : Nat) + jceK w) % jmemSize).toNat
  | 3 => bitsOf w 0 14
  | _ => s.ja k (bitsOf w 19 3)

/-- The modification after a format M access. -/
def State.jeaPost (s : State) (k w : Nat) : State := s.jpost k (bitsOf w 19 3) (bitsOf w 17 2 == 1)

/-- Accumulator ACC`i`. -/
def State.jacc (s : State) (k i : Nat) : Int := ((s.eng k).acc.get 0 i).toInt

/-- Writes an accumulator. -/
def State.jputAcc (s : State) (k i : Nat) (x : Int) : State :=
  s.onEng k fun e => { e with acc := e.acc.put 0 i (BitVec.ofInt 72 x) }

/-- One product is added to or subtracted from an accumulator, or starts it (R240). -/
def State.jmac (s : State) (k i : Nat) (a b : Word32) (neg clr : Bool) : State :=
  let base := if clr then 0 else s.jacc k i
  let p := a.toInt * b.toInt
  let x := if neg then base - p else base + p
  (s.jputAcc k i (satS 72 x)).jsat k (decide (satS 72 x ≠ x))

/-- Write-back of an accumulator to a data register (R241). -/
def State.jwriteBack (s : State) (k d i sh : Nat) (sat clr : Bool) : State :=
  let x := s.jacc k i / (2 ^ sh : Nat)
  let fits := decide (satS 32 x = x)
  let s := if sat then (s.jput k d (BitVec.ofInt 32 (satS 32 x))).jsat k (!fits)
           else (s.jput k d (BitVec.ofInt 32 x)).jv k (!fits)
  if clr then s.jputAcc k i 0 else s

/-- IND_DATA_READ: the word, as the answer and in `DATA`; every master may read (R267). A poisoned word traps the engine
(R233) and completes with a bus error (R622). -/
def State.doIndRead (s : State) (k : Nat) : State :=
  let v := (s.indWord k).toNat
  let imem := s.flag Reg.IND_ADDR_SPACE k
  (s.answer .busError).jread k imem (s.indAddr k) fun s =>
    ((s.set Reg.IND_DATA_DATA k v).indAdvance k).answer (.data v)

end Sys2Proof.Machine
end

