-- ==== Sys2Proof/Machine/RegWord.lean ====
section
/-!
DEFINITION. Register words: which fields a register holds (R31), what the fields that show other state read as, and reads
and writes under the access codes of R6 to R11.
-/
namespace Sys2Proof.Machine

/-- A register of the management space: domain, unit, instance, offset (R31). Domain 8 stands for the doorbell block of
BAR 0. -/
structure RegAddr where
  dom : Nat
  unit : Nat
  inst : Nat
  off : Nat
deriving DecidableEq, Repr, Inhabited

/-- The element of field `f` whose register begins at the address, if there is one. -/
def fieldAt (f : Field) (a : RegAddr) : Option Nat :=
  if f.dom = a.dom ∧ f.unit = a.unit ∧ a.inst < f.units ∧ f.base ≤ a.off then
    if f.stride = 0 then (if a.off = f.base then some a.inst else none)
    else
      let e := (a.off - f.base) / f.stride
      if (a.off - f.base) % f.stride = 0 ∧ e < f.count then some (a.inst * f.count + e) else none
  else none

/-- The fields of the register at an address, with their elements. -/
def regFields (a : RegAddr) : List (Field × Nat) := Reg.all.filterMap fun f => (fieldAt f a).map fun i => (f, i)

/-- Mailboxes in a state, as a mask. -/
def State.mbMask (s : State) (st : Nat) : Nat :=
  (List.range 32).foldl (fun m i => if s.get Reg.MB_STATE_STATE i = st then m + 2 ^ i else m) 0

/-- Items in progress on core `c`. -/
def State.coreItems (s : State) (c : Nat) : List Item := s.yard.progress.get [] c

/-- Positions of a flow's window in use (R673). -/
def State.windowUsed (s : State) (flow : Nat) : Nat :=
  if (s.flowCfg flow).ordered then min 256 (s.yard.flowNext.get 0 flow - s.yard.oldest flow (s.yard.flowNext.get 0 flow))
  else 0

/-- The fields of the Yarder that show its queues (R662 to R681). -/
def State.yardView (s : State) (f : Field) (i : Nat) : Option Nat :=
  let flow := s.get Reg.FLOW_SEL_FLOW i
  let c := s.flowCfg flow
  if f.id = Reg.YD_STATUS_STORE_USED.id then some s.yard.used
  else if f.id = Reg.YD_STATUS_HOLDING.id then some (b2n s.holding)
  else if f.id = Reg.YD_STATUS_LANDING_USED.id then some s.yard.landing.length
  else if f.id = Reg.QUEUE_STAT_DEPTH.id then some (s.yard.store.filter fun it => it.prio == i).length
  else if f.id = Reg.QUEUE_STAT_LANDED.id then some (s.yard.landing.filter fun it => it.prio == i).length
  else if f.id = Reg.CORE_STAT_CUR_PRIO.id then some (match s.coreItems i with
    | it :: _ => it.prio
    | [] => 0)
  else if f.id = Reg.CORE_STAT_BUSY.id then some (b2n (!(s.coreItems i).isEmpty))
  else if f.id = Reg.CORE_STAT_NEST.id then some (s.coreItems i).length
  else if f.id = Reg.FLOW_CFG_EN.id then some (b2n c.en)
  else if f.id = Reg.FLOW_CFG_ORDERED.id then some (b2n c.ordered)
  else if f.id = Reg.FLOW_CFG_CORE_MASK.id then some c.coreMask.toNat
  else if f.id = Reg.FLOW_CFG_NEXT_FLOW.id then some c.nextFlow
  else if f.id = Reg.FLOW_CFG_NEXT_EN.id then some (b2n c.nextEn)
  else if f.id = Reg.FLOW_STATE_QUEUED.id then
    let n := ((s.yard.store ++ s.yard.landing).filter fun it => it.flow == flow).length
    some (if n < 65536 then n else Config.queuedBeyond n)
  else if f.id = Reg.FLOW_STATE_WINDOW.id then some (s.windowUsed flow)
  else if f.id = Reg.FLOW_STATE_STALLED.id then
    some (b2n (s.yard.store.any fun it => it.flow == flow && !s.inWindow it))
  else none

/-- The counter of a PWM pair in fine units since its period start (R352): up, or up and down in centre-aligned mode. -/
def State.pairCounter (s : State) (p : Nat) : Nat × Bool :=
  let q := s.pair p
  let t := s.fineNow - q.start
  let per := s.pairPer p
  if q.mode && decide (per < t) then (2 * per - t, true) else (t, false)

/-- The fields of MOTION and of the mailboxes that show other state. -/
def State.motionView (s : State) (f : Field) (i : Nat) : Option Nat :=
  if f.id = Reg.SPEED_VALUE.id then some (ofS 48 (s.fbSpeed i))
  else if f.id = Reg.PWM_STATUS_COUNT.id then some ((s.pairCounter i).1 / 32)
  else if f.id = Reg.PWM_STATUS_DOWN.id then some (b2n (s.pairCounter i).2)
  else if f.id = Reg.STAGE_LEVEL_LEVEL.id then some (s.eng i).stage.length
  else if f.id = Reg.MB_BUSY_BUSY.id then some (s.mbMask 1 + s.mbMask 2)
  else if f.id = Reg.MB_DONE_DONE.id then some (s.mbMask 3)
  else none

/-- The fields that show OTP (R718, R721). -/
def State.otpView (s : State) (f : Field) : Option Nat :=
  if f.id = Reg.OTP_STATUS_ENROLLED.id then
    some ((List.range 4).foldl (fun v k => if (s.flash.otpHash.get none (k + 1)).isSome then v + 2 ^ k else v) 0)
  else if f.id = Reg.OTP_STATUS_REVOKED.id then some s.flash.otpRevoked.toNat
  else if f.id = Reg.OTP_STATUS_ROLLBACK.id then some s.flash.rollback
  else none

/-- The lane diagnostics of a port, measured wherever it is not DISABLED (R529; log entry 83). -/
def State.portView (s : State) (f : Field) (i : Nat) : Option Nat :=
  if f.id = Reg.LANE_DIAG_EYE_WIDTH.id ∨ f.id = Reg.LANE_DIAG_EYE_HEIGHT.id ∨ f.id = Reg.LANE_DIAG_CDR_LOCK.id then
    if s.get Reg.PORT_STATUS_LINK_STATE i = 0 then none
    else some (bitsOf (Config.laneDiag s.ticks i).toNat f.lo f.width)
  else none

/-- What field `f`, element `i`, reads as. -/
def State.observe (s : State) (f : Field) (i : Nat) : Nat :=
  match f.acc with
  | .wo => 0
  | _ =>
    if f.dom = 3 ∧ f.unit = 2 then (s.yardView f i).getD (s.get f i)
    else if f.dom = 4 ∧ f.unit = 3 then (s.adcStatus (i / f.count)).get f i
    else if f.dom = 0 ∧ f.unit = 6 then (s.otpView f).getD (s.get f i)
    else if f.dom = 6 then (s.portView f i).getD (s.get f i)
    else (s.motionView f i).getD (s.get f i)

/-- The registers that hold a signed 48-bit number and repeat its sign in bits 48 to 62 (R346). -/
def signFields : List Nat :=
  [Reg.POS_COUNT.id, Reg.SPEED_VALUE.id, Reg.INDEX_POS_COUNT.id, Reg.SNAP_POS_COUNT.id, Reg.SNAP_SPEED_VALUE.id,
   Reg.SNAP_DSPEED_VALUE.id, Reg.STP_POS_COUNT.id]

/-- The bits that a field contributes to its register. -/
def State.fieldBits (s : State) (f : Field) (i : Nat) : Nat :=
  let v := s.observe f i % 2 ^ f.width
  let v := if signFields.contains f.id && bitOf v 47 then v + (2 ^ 15 - 1) * 2 ^ 48 else v
  v * 2 ^ f.lo

/-- The value that a register shows. -/
def State.regValue (s : State) (a : RegAddr) : Nat :=
  (regFields a).foldl (fun v h => v + s.fieldBits h.1 h.2) 0

/-- A read clears the RC fields of the register (R6, R8). -/
def State.readClears (s : State) (a : RegAddr) : State :=
  (regFields a).foldl (fun s h => if h.1.acc = .rc then s.set h.1 h.2 0 else s) s

/-- The fields whose out-of-range values clamp, with their ranges (tables of R349, R420, R531). -/
def clampRanges : List (Nat × Nat × Nat) :=
  [(Reg.FB_TIMING_STILL_T.id, 100, 1000000), (Reg.FB_TIMING_ERR_WIN.id, 100, 1000000), (Reg.SSI_CFG_BITS.id, 8, 48),
   (Reg.SSI_CFG_SSI_DIV.id, 7, 625), (Reg.STP_USTEP_USTEP_CYCLE.id, 4, 4096), (Reg.PORT_CFG_MTU.id, 1518, 2048),
   (Reg.LINK_TIMING_LINK_DOWN_T.id, 0, 10000)]

/-- The value that a field takes when `x` is written to it. -/
def fieldClamp (f : Field) (x : Nat) : Nat :=
  match clampRanges.find? fun r => r.1 == f.id with
  | some r => clampN r.2.1 r.2.2 x
  | none => x

/-- A read of the high half alone clears the RC fields that it returns (R6, R22). -/
def State.readClearsHigh (s : State) (a : RegAddr) : State :=
  (regFields a).foldl (fun s h => if h.1.acc = .rc ∧ 32 ≤ h.1.lo then s.set h.1 h.2 0 else s) s

/-- The bits of a field that a write reaches: the entry table of R382 names no bit of `REG_ENTRY` and `INJ_ENTRY` above
bit 21, and those read as 0 (R10). -/
def fieldMask (f : Field) : Nat := if f.id = Reg.REG_ENTRY_ENTRY.id ∨ f.id = Reg.INJ_ENTRY_ENTRY.id then 22 else f.width

/-- A write of `x` to one field under its access code (R6). Write-only fields act in the rules of their registers. -/
def State.writeField (s : State) (f : Field) (i x : Nat) : State :=
  match f.acc with
  | .rw => s.set f i (fieldClamp f x)
  | .w1c => s.set f i (s.get f i - (BitVec.ofNat 64 (s.get f i) &&& BitVec.ofNat 64 x).toNat)
  | .sl => if s.host.safe.isSome then s.set f i x else s
  | _ => s

/-- A write of `v` to the register under the access codes of its fields; `p` picks the fields that the master writes. -/
def State.writeFields (s : State) (a : RegAddr) (v : Nat) (p : Field → Bool) : State :=
  (regFields a).foldl (fun s h => if p h.1 then s.writeField h.1 h.2 (bitsOf v h.1.lo (fieldMask h.1)) else s) s

/-- The same for every field. -/
def State.writeReg (s : State) (a : RegAddr) (v : Nat) : State := s.writeFields a v fun _ => true

/-- The register is 64 bits wide (R21, R765). -/
def wideReg (a : RegAddr) : Bool := (regFields a).any fun h => h.1.wide

end Sys2Proof.Machine
end

