-- ==== Sys2Proof/Machine/MotionRegs.lean ====
section
/-!
DEFINITION. Writes of the peripheral registers of MOTION: feedback channels (R347), PWM pairs (R376), converters (R400),
step channels (R420), trip inputs and sync outputs (R376), with the effects that their chapters give them.
-/
namespace Sys2Proof.Machine

/-- A write to a register of feedback channel `ch` (R321, R327, R330 to R332, R347). -/
def State.fbWrite (s : State) (m : Master) (ch off v : Nat) : State :=
  let a : RegAddr := ⟨4, 1, ch, off⟩
  if !fbWriter m ch then s.answer .busError
  else if off = 0x00 then ((s.writeReg a v).fbRestart ch).answer .done
  else if off = 0x10 then s.doLimits m ch (toS 48 v) (s.getS Reg.CNT_HI_LIMIT ch)
  else if off = 0x18 then s.doLimits m ch (s.getS Reg.CNT_LO_LIMIT ch) (toS 48 v)
  else if off = 0x20 then s.doPreset m ch (toS 48 v)
  else if off = 0x38 then
    let s := s.writeFields a v fun f => f.id != Reg.FB_FLAGS_FAULT.id
    if bitOf v 0 then s.doFbFaultClear m ch else s.answer .done
  else if off = 0x80 then
    let s := s.writeReg a v
    if bitOf v 3 then s.doArmIndex m ch else s.answer .done
  else (s.writeReg a v).answer .done

/-- The fields of a pair that its engine writes beside `PWM_SET` and the W1C flags (R376). -/
def engineField (f : Field) : Bool := f.id == Reg.PWM_CTRL_FORCE.id || f.acc == .w1c

/-- A write to a register of pair `p` that takes effect at `t` (R359 to R374, R376). -/
def State.pwmWrite (s : State) (m : Master) (p off v t : Nat) : State :=
  let a : RegAddr := ⟨4, 2, p, off⟩
  if !pairWriter m p then s.answer .busError
  else if off = 0x10 then s.doSetWrite m p v t
  else if off = 0x18 then
    let s := s.doForce m p (bitOf v 0) t
    if m = .ranger then s.setStoMode p t (bitOf v 1) else s
  else if off = 0x28 then
    let s := if m = .ranger then s.set Reg.PWM_TRIP_TRIP_MASK p (bitsOf v 0 16) else s
    if bitOf v 33 then s.doTripClear m p else s.answer .done
  else if off = 0x30 then
    let s := s.writeFields a v fun f => f.id != Reg.PWM_FLAGS_CLK_LOST.id
    if bitOf v 1 then s.doClkLostClear m p else s.answer .done
  else (s.writeFields a v fun f => m == .ranger || engineField f).answer .done

/-- A write to a register of converter `c` (R393, R397, R398, R400, R401). `CAL_EN` follows SERVICE alone (R397; log entry
80). -/
def State.adcWrite (s : State) (m : Master) (c off v : Nat) : State :=
  let a : RegAddr := ⟨4, 3, c, off⟩
  if m = .ranger then
    if off = 0x00 then
      ((s.writeFields a v fun f => f.id != Reg.ADC_CFG_EN.id).adcEnable c (bitOf v 0)).answer .done
    else if off = 0x40 then
      let step := bitsOf v 1 2
      if step = 1 ∨ step = 2 then s.doCalStep m c (bitsOf v 3 3) (bitOf v 6) (bitsOf v 7 2) (step == 2)
      else (s.writeFields a v fun f => f.id != Reg.CAL_CTRL_CAL_EN.id).answer .done
    else if 0x600 ≤ off ∧ off < 0x680 then s.doRdIdx m c ((off - 0x600) / 8) (bitsOf v 16 16)
    else (s.writeReg a v).answer .done
  else if s.adcOwnedBy m c then
    if 0x600 ≤ off ∧ off < 0x680 then s.doRdIdx m c ((off - 0x600) / 8) (bitsOf v 16 16)
    else (s.writeFields a v fun f => f.acc == .w1c).answer .done
  else s.answer .busError

/-- A write to a register of step channel `ch` (R408, R413, R415, R416, R420, R421). -/
def State.stpWrite (s : State) (m : Master) (ch off v : Nat) : State :=
  let a : RegAddr := ⟨4, 4, ch, off⟩
  if !stepWriter m ch then s.answer .busError
  else if off = 0x10 then (s.writeFields a v fun f => f.id != Reg.STP_USTEP_USTEP_IDX.id).doAlign m ch (bitsOf v 16 13)
  else if off = 0x18 then s.doStepPreset m ch (toS 48 v)
  else if off = 0x48 then s.doStepCmd m ch (if bitsOf v 0 3 ≤ 5 then bitsOf v 0 3 else 0)
  else if off = 0x50 then (s.doStepEnable m ch (bitOf v 0)).doDrvPark m ch (bitOf v 1)
  else (s.writeReg a v).answer .done

/-- A write to a peripheral register of MOTION, units 1 to 7; `t` is the instant at which it reaches a PWM pair. -/
def State.motionWrite (s : State) (m : Master) (a : RegAddr) (v t : Nat) : State :=
  match a.unit with
  | 1 => s.fbWrite m a.inst a.off v
  | 2 => s.pwmWrite m a.inst a.off v t
  | 3 => s.adcWrite m a.inst a.off v
  | 4 => s.stpWrite m a.inst a.off v
  | 5 => if m = .ranger then ((s.writeReg a v).judgeTrip a.inst t).answer .done else s.answer .busError
  | 7 => s.answer .done
  | _ => if m = .ranger then (s.writeReg a v).answer .done else s.answer .busError

end Sys2Proof.Machine
end

