-- ==== Sys2Proof/Machine/Jce.lean ====
section
/-!
DEFINITION. The joint control engines: ticks, the instruction set, the cluster ports, traps and control (chapter 7). A row
of the instruction set names the engine; the operands are the fields of the word at its program counter.
-/
namespace Sys2Proof.Machine

/-- LOOP_TICK: a boundary of the cycle division has come (R252, R254). Period starts of PWM pairs tick by themselves. -/
def State.doLoopTick (s : State) (k : Nat) : State := if s.tickSource k = 2 then s.jceTick k else s

/-- The pending events of the mask that `WAITEV` waits for: tick, peripheral (R253). -/
def State.waitEvents (s : State) (k : Nat) : Bool × Bool :=
  match (s.eng k).waiting with
  | some m => (bitOf m 0 && (s.eng k).tickPending, bitOf m 1 && (s.eng k).periphPending)
  | none => (false, false)

/-- The engine's `WAITEV` returns (R253, R255). -/
def State.waitReturns (s : State) (k : Nat) : State :=
  let ev := s.waitEvents k
  if ev.1 || ev.2 then
    let s := s.onEng k fun e =>
      { e with waiting := none, evTick := ev.1, evPeriph := ev.2, period := e.period || ev.1, tickPending := e.tickPending && !ev.1,
               periphPending := e.periphPending && !ev.2, sat := e.sat && !ev.1 }
    (if ev.1 then s.commitStage k else s).jnext k
  else s

/-- The `WAITEV` that ends a tick's period comes `cycles` after the tick (R268). -/
def State.busyCycles (s : State) (k cycles : Nat) : State :=
  (s.set Reg.BUSY_LAST_CYCLES k cycles).set Reg.BUSY_MAX_CYCLES k (max (s.get Reg.BUSY_MAX_CYCLES k) (cycles % 2 ^ 32))

/-- The servo kernel executes the `WAITEV` of its period; how many cycles it took is a free value (log entry 23). -/
def State.kernelBusy (s : State) (k : Nat) : State := s.tookFree.busyCycles k s.free

/-- WAITEV_RETURN. The servo kernel waits for its tick and runs one period; `late` says that the tick had come before the
kernel reached its `WAITEV` (R284, R312). -/
def State.doWaitReturn (s : State) (k : Nat) (late : Bool) : State :=
  if s.jceRuns k then
    if (s.eng k).kernel then
      if (s.eng k).tickPending then
        (((s.onEng k fun e => { e with tickPending := false, periphPending := false }).commitStage k).kernelPeriod k late).kernelBusy k
      else s
    else s.waitReturns k
  else s

/-- `NOP`. -/
def State.doNop (s : State) (k : Nat) : State := s.jrun k 0x00 fun _ s => s.jnext k

/-- `BR` (R248): the displacement counts from the next instruction. -/
def State.doBr (s : State) (k : Nat) : State :=
  s.jrun k 0x01 fun w s =>
    if jceCond (s.eng k) (jceD w) then s.jjump k (((s.jpc k + 1 : Nat) + toS 12 w) % 4096).toNat else s.jnext k

/-- `JMP`. -/
def State.doJmp (s : State) (k : Nat) : State := s.jrun k 0x02 fun w s => s.jjump k (bitsOf w 0 12)

/-- `CALL` (R251): a ninth nested one traps. -/
def State.doCall (s : State) (k : Nat) : State :=
  s.jrun k 0x03 fun w s =>
    if 8 ≤ (s.eng k).rets.length then s.jceTrapIn k 2
    else (s.onEng k fun e => { e with rets := ((s.jpc k + 1) % 4096) :: e.rets }).jgo k (bitsOf w 0 12)

/-- `RET` (R251). -/
def State.doRet (s : State) (k : Nat) : State :=
  s.jrun k 0x04 fun _ s =>
    match (s.eng k).rets with
    | [] => s.jceTrapIn k 2
    | t :: r => (s.onEng k fun e => { e with rets := r }).jgo k t

/-- The repeat count of a `LOOP`. -/
def State.loopCount (s : State) (k w : Nat) : Nat :=
  if bitOf w 25 then (s.jd k (bitsOf w 21 4)).toNat % 65536 else bitsOf w 12 9

/-- `LOOP` (R250): a third nested one traps; a count of 0 skips the body. -/
def State.doLoop (s : State) (k : Nat) : State :=
  s.jrun k 0x05 fun w s =>
    let n := s.loopCount k w
    let last := bitsOf w 0 12
    if 2 ≤ (s.eng k).loops.length then s.jceTrapIn k 3
    else if n = 0 then s.jgo k (last + 1)
    else
      let l : HwLoop := { first := (s.jpc k + 1) % 4096, last := last, left := n }
      (s.onEng k fun e => { e with loops := l :: e.loops }).jgo k (s.jpc k + 1)

/-- `WAITEV` (R253): the engine waits. One that waits for a tick ends the period of the last tick, `cycles` after it
(`BUSY_LAST`, R268). -/
def State.doWaitev (s : State) (k cycles : Nat) : State :=
  s.jrun k 0x06 fun w s =>
    let tick := bitOf w 0
    let ends := tick && (s.eng k).period
    let s := s.onEng k fun e => { e with waiting := some (bitsOf w 0 2), period := e.period && !tick }
    if ends then s.busyCycles k cycles else s

/-- `SIGEV` (R247, R660): the event, and the item of the engine's notification. -/
def State.doSigev (s : State) (k : Nat) : State :=
  s.jrun k 0x07 fun w s =>
    let n := bitsOf w 0 8
    let s := (s.set Reg.SIG_LAST_N k n).raise 66
    let s := if s.flag Reg.JCE_NOTIFY_EN k then
        s.postHw (producerJce k) (s.get Reg.JCE_NOTIFY_PRIO k) (s.get Reg.JCE_NOTIFY_FLOW k) 6 1 (BitVec.ofNat 64 k)
          (BitVec.ofNat 64 n)
      else s
    s.jnext k

/-- `TRAP` (R247, R263). -/
def State.doTrap (s : State) (k : Nat) : State :=
  s.jrun k 0x08 fun w s => (s.set Reg.JCE_STATE_TRAP_CODE k (bitsOf w 0 8)).jceTrapIn k 7

/-- `EBREAK` (R247): a debug halt while a debugger is attached, otherwise trap `BREAK`. -/
def State.doEbreak (s : State) (k : Nat) : State :=
  s.jrun k 0x09 fun _ s => if s.dbg.jcePort then s.jceDebugHalt k else s.jceTrapIn k 8

/-- `ADD`. -/
def State.doAdd (s : State) (k : Nat) : State :=
  s.jrun k 0x10 fun w s =>
    let a := s.jd k (jceA w)
    let b := s.jd k (jceB w)
    ((s.jput k (jceD w) (a + b)).jaddFlags k a b).jnext k

/-- `SUB`. -/
def State.doSub (s : State) (k : Nat) : State :=
  s.jrun k 0x11 fun w s =>
    let a := s.jd k (jceA w)
    let b := s.jd k (jceB w)
    ((s.jput k (jceD w) (a - b)).jsubFlags k a b).jnext k

/-- `ADDI`. -/
def State.doAddi (s : State) (k : Nat) : State :=
  s.jrun k 0x12 fun w s =>
    let a := s.jd k (jceA w)
    let b := BitVec.ofInt 32 (jceK w)
    ((s.jput k (jceD w) (a + b)).jaddFlags k a b).jnext k

/-- A bitwise instruction: Z, N, and V becomes 0. -/
def State.jlogic (s : State) (k op : Nat) (f : Word32 → Word32 → Word32) : State :=
  s.jrun k op fun w s => ((s.jputZn k (jceD w) (f (s.jd k (jceA w)) (s.jd k (jceB w)))).jv k false).jnext k

/-- `AND`. -/
def State.doAnd (s : State) (k : Nat) : State := s.jlogic k 0x13 fun a b => a &&& b
/-- `OR`. -/
def State.doOr (s : State) (k : Nat) : State := s.jlogic k 0x14 fun a b => a ||| b
/-- `XOR`. -/
def State.doXor (s : State) (k : Nat) : State := s.jlogic k 0x15 fun a b => a ^^^ b

/-- A shift by the count in the word. -/
def State.jshift (s : State) (k op : Nat) (f : Word32 → Nat → Word32) : State :=
  s.jrun k op fun w s => (s.jputZn k (jceD w) (f (s.jd k (jceA w)) (bitsOf w 0 5))).jnext k

/-- `SHL`. -/
def State.doShl (s : State) (k : Nat) : State := s.jshift k 0x16 fun a n => a <<< n
/-- `SHRA`. -/
def State.doShra (s : State) (k : Nat) : State := s.jshift k 0x17 fun a n => a.sshiftRight n
/-- `SHRL`. -/
def State.doShrl (s : State) (k : Nat) : State := s.jshift k 0x18 fun a n => a >>> n

/-- The signed minimum. -/
def minS (a b : Word32) : Word32 := if a.sle b then a else b
/-- The signed maximum. -/
def maxS (a b : Word32) : Word32 := if a.sle b then b else a

/-- `MIN`. -/
def State.doMin (s : State) (k : Nat) : State :=
  s.jrun k 0x19 fun w s => (s.jputZn k (jceD w) (minS (s.jd k (jceA w)) (s.jd k (jceB w)))).jnext k
/-- `MAX`. -/
def State.doMax (s : State) (k : Nat) : State :=
  s.jrun k 0x1A fun w s => (s.jputZn k (jceD w) (maxS (s.jd k (jceA w)) (s.jd k (jceB w)))).jnext k

/-- A result that saturates at 0x8000_0000 (`ABS`, `NEG`). -/
def State.jneg (s : State) (k w : Nat) (v : Word32) : State :=
  let a := s.jd k (jceA w)
  if a = 0x80000000#32 then ((s.jputZn k (jceD w) 0x7FFFFFFF#32).jsat k true).jnext k
  else (s.jputZn k (jceD w) v).jnext k

/-- `ABS`. -/
def State.doAbs (s : State) (k : Nat) : State :=
  s.jrun k 0x1B fun w s => s.jneg k w (if (s.jd k (jceA w)).msb then -s.jd k (jceA w) else s.jd k (jceA w))
/-- `NEG`. -/
def State.doNeg (s : State) (k : Nat) : State := s.jrun k 0x1C fun w s => s.jneg k w (-s.jd k (jceA w))

/-- `CMP`. -/
def State.doCmp (s : State) (k : Nat) : State :=
  s.jrun k 0x1D fun w s => (s.jsubFlags k (s.jd k (jceA w)) (s.jd k (jceB w))).jnext k
/-- `CMPI`. -/
def State.doCmpi (s : State) (k : Nat) : State :=
  s.jrun k 0x1E fun w s => (s.jsubFlags k (s.jd k (jceA w)) (BitVec.ofInt 32 (jceK w))).jnext k

/-- `MOVIS`. -/
def State.doMovis (s : State) (k : Nat) : State :=
  s.jrun k 0x1F fun w s => (s.jput k (jceD w) (BitVec.ofInt 32 (toS 16 w))).jnext k
/-- `MOVIH`. -/
def State.doMovih (s : State) (k : Nat) : State :=
  s.jrun k 0x20 fun w s =>
    (s.jput k (jceD w) (BitVec.ofNat 32 (putBits (s.jd k (jceD w)).toNat 16 16 (bitsOf w 0 16)))).jnext k

/-- `CLAMP`: V is 1 when the value changed. -/
def State.doClamp (s : State) (k : Nat) : State :=
  s.jrun k 0x21 fun w s =>
    let d := s.jd k (jceD w)
    let v := minS (maxS d (s.jd k (jceA w))) (s.jd k (jceB w))
    ((s.jputZn k (jceD w) v).jv k (v != d)).jnext k

/-- `LD`. -/
def State.doLd (s : State) (k : Nat) : State :=
  s.jrun k 0x28 fun w s => s.jget k (s.jea k w) fun v s => ((s.jput k (jceD w) v).jeaPost k w).jnext k
/-- `ST`. -/
def State.doSt (s : State) (k : Nat) : State :=
  s.jrun k 0x29 fun w s => ((s.jstore k (s.jea k w) (s.jd k (jceD w))).jeaPost k w).jnext k

/-- `LD2`: access X with its modification, then access Y (R235, R244). -/
def State.doLd2 (s : State) (k : Nat) : State :=
  s.jrun k 0x2A fun w s =>
    let x := bitsOf w 15 3
    let y := bitsOf w 12 3
    s.jget k (s.ja k x) fun v s =>
      let s := (s.jput k (jceD w) v).jpost k x (bitOf w 11)
      s.jget k (s.ja k y) fun v s => ((s.jput k (jceA w) v).jpost k y (bitOf w 10)).jnext k

/-- `LDD`. -/
def State.doLdd (s : State) (k : Nat) : State :=
  s.jrun k 0x2B fun w s =>
    let a := s.jea k w
    s.jget k a fun v s => s.jget k (a + 1) fun u s =>
      (((s.jput k (jceD w) v).jput k (jceD w + 1) u).jeaPost k w).jnext k
/-- `STD`. -/
def State.doStd (s : State) (k : Nat) : State :=
  s.jrun k 0x2C fun w s =>
    let a := s.jea k w
    (((s.jstore k a (s.jd k (jceD w))).jstore k (a + 1) (s.jd k (jceD w + 1))).jeaPost k w).jnext k

/-- The value that `SETAR` offers: the constant (signed for MOD), or a data register. -/
def State.setarValue (s : State) (k w : Nat) : Int :=
  if bitOf w 20 then (s.jd k (bitsOf w 16 4)).toInt
  else if bitsOf w 24 2 = 3 then toS 15 w else (bitsOf w 0 15 : Nat)

/-- The range of a field of an address register (R243). -/
def arRange (f : Nat) : Int × Int :=
  match f with
  | 2 => (0, 16384)
  | 3 => (-16383, 16383)
  | _ => (0, 16383)

/-- Writes field `f` of address register `n`. -/
def State.putAr (s : State) (k f n : Nat) (x : Int) : State :=
  s.onEng k fun e =>
    match f with
    | 0 => { e with a := e.a.put 0 n x.toNat }
    | 1 => { e with base := e.base.put 0 n x.toNat }
    | 2 => { e with len := e.len.put 0 n x.toNat }
    | _ => { e with modn := e.modn.put 0 n x }

/-- `SETAR` (R243): the nearest limit is stored, with V, for a value out of range. -/
def State.doSetar (s : State) (k : Nat) : State :=
  s.jrun k 0x2D fun w s =>
    let x := s.setarValue k w
    let r := arRange (bitsOf w 24 2)
    let y := clampI r.1 r.2 x
    let s := s.putAr k (bitsOf w 24 2) (bitsOf w 21 3) y
    (if y = x then s else s.jv k true).jnext k

/-- Field `f` of address register `n`. -/
def State.arField (s : State) (k f n : Nat) : Int :=
  let e := s.eng k
  match f with
  | 0 => (e.a.get 0 n : Nat)
  | 1 => (e.base.get 0 n : Nat)
  | 2 => (e.len.get 0 n : Nat)
  | _ => e.modn.get 0 n

/-- `GETAR`. -/
def State.doGetar (s : State) (k : Nat) : State :=
  s.jrun k 0x2E fun w s =>
    (s.jput k (jceD w) (BitVec.ofInt 32 (s.arField k (bitsOf w 20 2) (bitsOf w 17 3)))).jnext k

/-- The point of `PTRD` and `PTWR`. -/
def State.jpoint (s : State) (k w : Nat) : Nat :=
  if bitOf w 20 then (s.jd k (bitsOf w 0 4)).toNat % 2 ^ 20 else bitsOf w 0 20

/-- A register pair. -/
def State.jpair (s : State) (k d : Nat) : Word64 :=
  BitVec.ofNat 64 ((s.jd k d).toNat + (s.jd k (d + 1)).toNat * 2 ^ 32)

/-- `PTRD` (R257, R258): the read goes to the cluster port behind the engine's posted entries. -/
def State.doPtrd (s : State) (k : Nat) : State :=
  s.jrun k 0x30 fun w s => s.onEng k fun e => { e with reading := some { d := jceD w, point := s.jpoint k w, value := none } }

/-- PTRD_COMPLETE: the granted value reaches its register pair. -/
def State.doPtrdComplete (s : State) (k : Nat) : State :=
  if s.jceRuns k then
    match (s.eng k).reading with
    | some r =>
      match r.value with
      | some v =>
        let s := (s.jput k r.d (BitVec.ofNat 32 v.toNat)).jput k (r.d + 1) (BitVec.ofNat 32 (v.toNat / 2 ^ 32))
        (s.onEng k fun e => { e with reading := none }).jnext k
      | none => s
    | none => s
  else s

/-- The engine may write the point (R260). -/
def State.jownsPoint (s : State) (k p : Nat) : Bool :=
  match s.pointWriter p with
  | .jce j => j.val == k
  | _ => false

/-- A point write of engine `k` is refused (R36, R260). -/
def State.ptRefused (s : State) (k p : Nat) : State :=
  let s := (s.count Reg.PT_DENIED_COUNT_COUNT k 1).set Reg.PT_LAST_POINT k p
  (s.setFlag Reg.JCE_FLAGS_PT_DENIED k true).pointDenied (.jce (Fin.ofNat 64 k)) p

/-- `PTWR` (R259, R260): posted, or refused; it stalls while the posted buffer is full. -/
def State.doPtwr (s : State) (k : Nat) : State :=
  s.jrun k 0x31 fun w s =>
    let p := s.jpoint k w
    if s.jownsPoint k p then
      if (s.eng k).posted.length < 8 then
        (s.onEng k fun e => { e with posted := e.posted ++ [.point p (s.jpair k (jceD w))] }).jnext k
      else s
    else (s.ptRefused k p).jnext k

/-- `DQPUSH` (R259, R261). -/
def State.doDqpush (s : State) (k : Nat) : State :=
  s.jrun k 0x32 fun w s =>
    if (s.eng k).posted.length < 8 then
      (s.onEng k fun e => { e with posted := e.posted ++ [.delta (bitsOf w 16 3) (s.jpair k (jceD w))] }).jnext k
    else s

/-- The engine has work for its cluster port (R256). -/
def State.portWork (s : State) (k : Nat) : Bool :=
  !(s.eng k).posted.isEmpty || (match (s.eng k).reading with
    | some r => r.value.isNone
    | none => false)

/-- One transaction of engine `k`, in program order (R256, R257). -/
def State.portGrant (s : State) (k : Nat) : State :=
  match (s.eng k).posted with
  | .point p v :: r => (s.onEng k fun e => { e with posted := r }).putPoint p v.toNat
  | .delta q v :: r => (s.onEng k fun e => { e with posted := r }).doDqPush q v
  | [] => s.onEng k fun e =>
      { e with reading := e.reading.map fun r => { r with value := some (BitVec.ofNat 64 (s.point r.point)) } }

/-- CLUSTER_PORT_TRANSACTION: round-robin from the engine after the one last granted (R256). -/
def State.doPortTransaction (s : State) (c : Nat) : State :=
  let last := s.clusterLast.get 7 c
  match ((List.range 8).map fun i => (last + 1 + i) % 8).find? fun i => s.portWork (8 * c + i) with
  | some i => { (s.portGrant (8 * c + i)) with clusterLast := s.clusterLast.put 7 c i }
  | none => s

/-- The unit and instance that a peripheral selector names; none where the engine does not own it (R262). -/
def State.jperiph (s : State) (k per : Nat) : Option (Nat × Nat) :=
  let l := bitsOf per 8 4
  match bitsOf per 12 2 with
  | 0 => if hasPairs k && decide (l < 12) then some (2, 12 * (k - 48) + l) else none
  | 1 => if 48 ≤ k && decide (l < 4) then some (1, 4 * (k - 48) + l) else none
  | 2 => if 56 ≤ k && decide (l < 4) then some (4, 4 * (k - 56) + l) else none
  | _ => if s.owner 4 l = some k then some (3, l) else none

/-- The register that a selector names. -/
def periphAddr (u : Nat × Nat) (per : Nat) : RegAddr := ⟨4, u.1, u.2, 8 * bitsOf per 0 8⟩

/-- The 32-bit register above one, in the upper half of its 8-byte offset (R765). -/
def upperReg (a : RegAddr) : RegAddr := { a with off := a.off + 4 }

/-- `PRD` (R262); a read clears RC fields. With w it reads a 64-bit register, or both 32-bit registers of the offset. -/
def State.doPrd (s : State) (k : Nat) : State :=
  s.jrun k 0x33 fun w s =>
    match s.jperiph k (bitsOf w 0 14) with
    | none => s.jceTrapIn k 6
    | some u =>
      let a := periphAddr u (bitsOf w 0 14)
      if bitOf w 21 then
        let v := if wideReg a then s.regValue a else s.regValue a % 2 ^ 32 + s.regValue (upperReg a) % 2 ^ 32 * 2 ^ 32
        let s := if wideReg a then s.readClears a else (s.readClears a).readClears (upperReg a)
        ((s.jput k (jceD w) (BitVec.ofNat 32 v)).jput k (jceD w + 1) (BitVec.ofNat 32 (v / 2 ^ 32))).jnext k
      else ((s.readClears a).jput k (jceD w) (BitVec.ofNat 32 (s.regValue a))).jnext k

/-- `PWR` (R262), reaching the peripheral at `t`. A 32-bit write to the low half of a 64-bit register is held and never
commits, since no selector names its high half (R23). -/
def State.doPwr (s : State) (k t : Nat) : State :=
  s.jrun k 0x34 fun w s =>
    match s.jperiph k (bitsOf w 0 14) with
    | none => s.jceTrapIn k 6
    | some u =>
      let a := periphAddr u (bitsOf w 0 14)
      let v := if bitOf w 21 then (s.jpair k (jceD w)).toNat else (s.jd k (jceD w)).toNat
      let m : Master := .jce (Fin.ofNat 64 k)
      let s' :=
        if wideReg a then
          if bitOf w 21 then s.motionWrite m a v t
          else { s with writeHeld := s.writeHeld.put none (128 + Master.num m) (some (0, v)) }
        else
          let s := s.motionWrite m a (v % 2 ^ 32) t
          if bitOf w 21 && !(regFields (upperReg a)).isEmpty then s.motionWrite m (upperReg a) (v / 2 ^ 32) t else s
      { s' with bus := s.bus }.jnext k

/-- `MAC1`. -/
def State.doMac1 (s : State) (k : Nat) : State :=
  s.jrun k 0x38 fun w s =>
    (s.jmac k (bitsOf w 24 2) (s.jd k (bitsOf w 20 4)) (s.jd k (bitsOf w 16 4)) (bitOf w 15) (bitOf w 14)).jnext k

/-- The four products of QUAD mode (R238). -/
def State.jquad (s : State) (k g : Nat) (x : Word32) (neg clr : Bool) : State :=
  (List.range 4).foldl (fun s i => s.jmac k i x (s.jd k (4 * g + i)) neg clr) s

/-- `MACQ`. -/
def State.doMacq (s : State) (k : Nat) : State :=
  s.jrun k 0x39 fun w s =>
    let n := bitsOf w 21 3
    s.jget k (s.ja k n) fun v s =>
      ((s.jquad k (bitsOf w 24 2) v (bitOf w 15) (bitOf w 14)).jpost k n (bitOf w 20)).jnext k
/-- `MACQR`. -/
def State.doMacqr (s : State) (k : Nat) : State :=
  s.jrun k 0x3A fun w s =>
    (s.jquad k (bitsOf w 24 2) (s.jd k (bitsOf w 20 4)) (bitOf w 15) (bitOf w 14)).jnext k

/-- `MACD` (R239): access X with its modification, then access Y. -/
def State.doMacd (s : State) (k : Nat) : State :=
  s.jrun k 0x3B fun w s =>
    let e := bitsOf w 25 1
    let neg := bitOf w 8
    let clr := bitOf w 7
    let x := bitsOf w 14 3
    let y := bitsOf w 11 3
    s.jget k (s.ja k x) fun v s =>
      let s := (s.jmac k (2 * e) v (s.jd k (bitsOf w 21 4)) neg clr).jpost k x (bitOf w 10)
      s.jget k (s.ja k y) fun v s => ((s.jmac k (2 * e + 1) v (s.jd k (bitsOf w 17 4)) neg clr).jpost k y (bitOf w 9)).jnext k

/-- `CLRA`. -/
def State.doClra (s : State) (k : Nat) : State :=
  s.jrun k 0x3C fun w s => ((List.range 4).foldl (fun s i => if bitOf w i then s.jputAcc k i 0 else s) s).jnext k

/-- `WBACC`. -/
def State.doWbacc (s : State) (k : Nat) : State :=
  s.jrun k 0x3D fun w s => (s.jwriteBack k (jceD w) (bitsOf w 20 2) (jceSh w) (bitOf w 13) (bitOf w 12)).jnext k

/-- `WBQ`: V shows whether any of the four lost bits. -/
def State.doWbq (s : State) (k : Nat) : State :=
  s.jrun k 0x3E fun w s =>
    let sh := jceSh w
    let lost := (List.range 4).any fun i => satS 32 (s.jacc k i / (2 ^ sh : Nat)) != s.jacc k i / (2 ^ sh : Nat)
    let t := (List.range 4).foldl (fun s i => s.jwriteBack k (4 * bitsOf w 24 2 + i) i sh (bitOf w 13) (bitOf w 12)) s
    (if bitOf w 13 then t else t.jv k lost).jnext k

/-- `LDACC`. -/
def State.doLdacc (s : State) (k : Nat) : State :=
  s.jrun k 0x3F fun w s =>
    (s.jputAcc k (bitsOf w 24 2) ((s.jpair k (bitsOf w 20 4)).toInt * (2 ^ jceSh w : Nat))).jnext k

/-- ILLEGAL_INSTRUCTION (R249). -/
def State.doIllegal (s : State) (k : Nat) : State :=
  if s.jissues k && !jceLegal (s.jword k) then s.jread k true (s.jpc k) fun s => s.jceTrapIn k 1 else s

/-- JCE_DEBUG_HALT (R265, R728). -/
def State.doJceDebugHalt (s : State) (k : Nat) : State := s.jceDebugHalt k

/-- LOOP_TICK. -/
def execLoopTick (k : Fin 64) (s : State) : Host.Outcome State Fault Refusal := s.run fun s => s.doLoopTick k.val

/-- WAITEV_RETURN. -/
def execWaitevReturn (k : Fin 64) (late : Bool) (s : State) : Host.Outcome State Fault Refusal :=
  s.run fun s => s.doWaitReturn k.val late

/-- `WAITEV`. -/
def execJceWaitev (k : Fin 64) (cycles : Word32) (s : State) : Host.Outcome State Fault Refusal :=
  s.run fun s => s.doWaitev k.val cycles.toNat

/-- `PWR`. -/
def execJcePwr (k : Fin 64) (t : Nat) (s : State) : Host.Outcome State Fault Refusal := s.run fun s => s.doPwr k.val t

/-- `NOP`. -/
def execJceNop (k : Fin 64) (s : State) : Host.Outcome State Fault Refusal := s.run fun s => s.doNop k.val

/-- `BR`. -/
def execJceBr (k : Fin 64) (s : State) : Host.Outcome State Fault Refusal := s.run fun s => s.doBr k.val

/-- `JMP`. -/
def execJceJmp (k : Fin 64) (s : State) : Host.Outcome State Fault Refusal := s.run fun s => s.doJmp k.val

/-- `CALL`. -/
def execJceCall (k : Fin 64) (s : State) : Host.Outcome State Fault Refusal := s.run fun s => s.doCall k.val

/-- `RET`. -/
def execJceRet (k : Fin 64) (s : State) : Host.Outcome State Fault Refusal := s.run fun s => s.doRet k.val

/-- `LOOP`. -/
def execJceLoop (k : Fin 64) (s : State) : Host.Outcome State Fault Refusal := s.run fun s => s.doLoop k.val

/-- `SIGEV`. -/
def execJceSigev (k : Fin 64) (s : State) : Host.Outcome State Fault Refusal := s.run fun s => s.doSigev k.val

/-- `TRAP`. -/
def execJceTrap (k : Fin 64) (s : State) : Host.Outcome State Fault Refusal := s.run fun s => s.doTrap k.val

/-- `EBREAK`. -/
def execJceEbreak (k : Fin 64) (s : State) : Host.Outcome State Fault Refusal := s.run fun s => s.doEbreak k.val

/-- `ADD`. -/
def execJceAdd (k : Fin 64) (s : State) : Host.Outcome State Fault Refusal := s.run fun s => s.doAdd k.val

/-- `SUB`. -/
def execJceSub (k : Fin 64) (s : State) : Host.Outcome State Fault Refusal := s.run fun s => s.doSub k.val

/-- `ADDI`. -/
def execJceAddi (k : Fin 64) (s : State) : Host.Outcome State Fault Refusal := s.run fun s => s.doAddi k.val

/-- `AND`. -/
def execJceAnd (k : Fin 64) (s : State) : Host.Outcome State Fault Refusal := s.run fun s => s.doAnd k.val

/-- `OR`. -/
def execJceOr (k : Fin 64) (s : State) : Host.Outcome State Fault Refusal := s.run fun s => s.doOr k.val

/-- `XOR`. -/
def execJceXor (k : Fin 64) (s : State) : Host.Outcome State Fault Refusal := s.run fun s => s.doXor k.val

/-- `SHL`. -/
def execJceShl (k : Fin 64) (s : State) : Host.Outcome State Fault Refusal := s.run fun s => s.doShl k.val

/-- `SHRA`. -/
def execJceShra (k : Fin 64) (s : State) : Host.Outcome State Fault Refusal := s.run fun s => s.doShra k.val

/-- `SHRL`. -/
def execJceShrl (k : Fin 64) (s : State) : Host.Outcome State Fault Refusal := s.run fun s => s.doShrl k.val

/-- `MIN`. -/
def execJceMin (k : Fin 64) (s : State) : Host.Outcome State Fault Refusal := s.run fun s => s.doMin k.val

/-- `MAX`. -/
def execJceMax (k : Fin 64) (s : State) : Host.Outcome State Fault Refusal := s.run fun s => s.doMax k.val

/-- `ABS`. -/
def execJceAbs (k : Fin 64) (s : State) : Host.Outcome State Fault Refusal := s.run fun s => s.doAbs k.val

/-- `NEG`. -/
def execJceNeg (k : Fin 64) (s : State) : Host.Outcome State Fault Refusal := s.run fun s => s.doNeg k.val

/-- `CMP`. -/
def execJceCmp (k : Fin 64) (s : State) : Host.Outcome State Fault Refusal := s.run fun s => s.doCmp k.val

/-- `CMPI`. -/
def execJceCmpi (k : Fin 64) (s : State) : Host.Outcome State Fault Refusal := s.run fun s => s.doCmpi k.val

/-- `MOVIS`. -/
def execJceMovis (k : Fin 64) (s : State) : Host.Outcome State Fault Refusal := s.run fun s => s.doMovis k.val

/-- `MOVIH`. -/
def execJceMovih (k : Fin 64) (s : State) : Host.Outcome State Fault Refusal := s.run fun s => s.doMovih k.val

/-- `CLAMP`. -/
def execJceClamp (k : Fin 64) (s : State) : Host.Outcome State Fault Refusal := s.run fun s => s.doClamp k.val

/-- `LD`. -/
def execJceLd (k : Fin 64) (s : State) : Host.Outcome State Fault Refusal := s.run fun s => s.doLd k.val

/-- `ST`. -/
def execJceSt (k : Fin 64) (s : State) : Host.Outcome State Fault Refusal := s.run fun s => s.doSt k.val

/-- `LD2`. -/
def execJceLd2 (k : Fin 64) (s : State) : Host.Outcome State Fault Refusal := s.run fun s => s.doLd2 k.val

/-- `LDD`. -/
def execJceLdd (k : Fin 64) (s : State) : Host.Outcome State Fault Refusal := s.run fun s => s.doLdd k.val

/-- `STD`. -/
def execJceStd (k : Fin 64) (s : State) : Host.Outcome State Fault Refusal := s.run fun s => s.doStd k.val

/-- `SETAR`. -/
def execJceSetar (k : Fin 64) (s : State) : Host.Outcome State Fault Refusal := s.run fun s => s.doSetar k.val

/-- `GETAR`. -/
def execJceGetar (k : Fin 64) (s : State) : Host.Outcome State Fault Refusal := s.run fun s => s.doGetar k.val

/-- `PTRD`. -/
def execJcePtrd (k : Fin 64) (s : State) : Host.Outcome State Fault Refusal := s.run fun s => s.doPtrd k.val

/-- `PTRD_COMPLETE`. -/
def execJcePtrdComplete (k : Fin 64) (s : State) : Host.Outcome State Fault Refusal := s.run fun s => s.doPtrdComplete k.val

/-- `PTWR`. -/
def execJcePtwr (k : Fin 64) (s : State) : Host.Outcome State Fault Refusal := s.run fun s => s.doPtwr k.val

/-- `DQPUSH`. -/
def execJceDqpush (k : Fin 64) (s : State) : Host.Outcome State Fault Refusal := s.run fun s => s.doDqpush k.val

/-- `PRD`. -/
def execJcePrd (k : Fin 64) (s : State) : Host.Outcome State Fault Refusal := s.run fun s => s.doPrd k.val

/-- `MAC1`. -/
def execJceMac1 (k : Fin 64) (s : State) : Host.Outcome State Fault Refusal := s.run fun s => s.doMac1 k.val

/-- `MACQ`. -/
def execJceMacq (k : Fin 64) (s : State) : Host.Outcome State Fault Refusal := s.run fun s => s.doMacq k.val

/-- `MACQR`. -/
def execJceMacqr (k : Fin 64) (s : State) : Host.Outcome State Fault Refusal := s.run fun s => s.doMacqr k.val

/-- `MACD`. -/
def execJceMacd (k : Fin 64) (s : State) : Host.Outcome State Fault Refusal := s.run fun s => s.doMacd k.val

/-- `CLRA`. -/
def execJceClra (k : Fin 64) (s : State) : Host.Outcome State Fault Refusal := s.run fun s => s.doClra k.val

/-- `WBACC`. -/
def execJceWbacc (k : Fin 64) (s : State) : Host.Outcome State Fault Refusal := s.run fun s => s.doWbacc k.val

/-- `WBQ`. -/
def execJceWbq (k : Fin 64) (s : State) : Host.Outcome State Fault Refusal := s.run fun s => s.doWbq k.val

/-- `LDACC`. -/
def execJceLdacc (k : Fin 64) (s : State) : Host.Outcome State Fault Refusal := s.run fun s => s.doLdacc k.val

/-- CLUSTER_PORT_TRANSACTION. -/
def execClusterPortTransaction (c : Fin 8) (s : State) : Host.Outcome State Fault Refusal :=
  s.run fun s => s.doPortTransaction c.val

/-- ILLEGAL_INSTRUCTION. -/
def execIllegalInstruction (k : Fin 64) (s : State) : Host.Outcome State Fault Refusal :=
  s.run fun s => s.doIllegal k.val

/-- ENGINE_STOPPED. -/
def execEngineStopped (k : Fin 64) (s : State) : Host.Outcome State Fault Refusal :=
  s.run fun s => s.doEngineStopped k.val

/-- JCE_START. -/
def execJceStart (m : Master) (k : Fin 64) (s : State) : Host.Outcome State Fault Refusal :=
  s.run fun s => s.doJceStart m k.val

/-- JCE_STOP. -/
def execJceStop (m : Master) (k : Fin 64) (s : State) : Host.Outcome State Fault Refusal :=
  s.run fun s => s.doJceStop m k.val

/-- IND_DATA_WRITE. -/
def execIndDataWrite (m : Master) (k : Fin 64) (v : Word32) (s : State) : Host.Outcome State Fault Refusal :=
  s.run fun s => s.doIndWrite m k.val v

/-- IND_DATA_READ. -/
def execIndDataRead (k : Fin 64) (s : State) : Host.Outcome State Fault Refusal :=
  s.run fun s => s.doIndRead k.val

/-- JCE_DEBUG_HALT. -/
def execJceDebugHalt (k : Fin 64) (s : State) : Host.Outcome State Fault Refusal :=
  s.run fun s => s.doJceDebugHalt k.val

end Sys2Proof.Machine
end

