-- ==== Sys2Proof/Machine/CmdTable.lean ====
section
/-!
DEFINITION. The command tables of R101 to R136: code, modes, needed access, the mark A, the mark L, request length.
-/
namespace Sys2Proof.Machine

/-- A row of the command tables. `needs`: 0 none, 1 a session (S), 2 the safety session (SS) (R95). `len`: the length of the
request payload, none where its layout is of varying length. -/
structure CmdRow where
  code : Nat
  modes : List Mode
  needs : Nat
  twin : Bool
  long : Bool
  len : Option Nat
deriving DecidableEq, Repr, Inhabited

/-- The modes "all" of R94. -/
def allModes : List Mode := [.config, .idle, .jog, .run, .halting, .fault, .service]

/-- The SYS commands. -/
def cmdsSys : List CmdRow :=
  [⟨0x0101, (.init :: allModes), 0, false, false, some 0⟩,
   ⟨0x0102, allModes, 0, false, false, some 2⟩,
   ⟨0x0103, allModes, 1, false, false, some 0⟩,
   ⟨0x0104, allModes, 0, false, false, some 0⟩,
   ⟨0x0105, [.config, .idle, .fault, .service], 1, false, false, some 2⟩,
   ⟨0x0106, allModes, 1, false, false, some 2⟩,
   ⟨0x0107, [.config, .idle, .fault], 1, false, false, some 3⟩,
   ⟨0x0108, allModes, 1, false, false, some 4⟩]

/-- The MODE commands. -/
def cmdsMode : List CmdRow :=
  [⟨0x0201, (.init :: allModes), 0, false, false, some 0⟩,
   ⟨0x0202, [.config, .idle, .jog, .run, .fault, .service], 1, true, false, some 1⟩,
   ⟨0x0203, [.jog, .run, .halting], 1, true, false, some 0⟩,
   ⟨0x0204, [.fault], 1, true, false, some 0⟩]

/-- The CELL commands. -/
def cmdsCell : List CmdRow :=
  [⟨0x0301, allModes, 1, false, true, none⟩,
   ⟨0x0302, allModes, 0, false, false, some 0⟩,
   ⟨0x0303, [.config, .idle], 1, true, false, some 1⟩,
   ⟨0x0304, allModes, 1, false, false, some 1⟩,
   ⟨0x0305, allModes, 1, false, false, some 9⟩,
   ⟨0x0306, allModes, 1, false, false, some 1⟩,
   ⟨0x0307, allModes, 0, false, false, some 6⟩]

/-- The AXIS commands. -/
def cmdsAxis : List CmdRow :=
  [⟨0x0401, allModes, 0, false, false, some 1⟩,
   ⟨0x0402, allModes, 0, false, false, some 3⟩,
   ⟨0x0403, [.config, .idle, .jog, .run], 1, true, false, some 11⟩,
   ⟨0x0404, [.jog, .run], 1, true, false, some 2⟩,
   ⟨0x0405, [.jog, .run], 1, true, false, some 22⟩,
   ⟨0x0406, [.jog], 1, true, false, some 5⟩,
   ⟨0x0407, [.jog, .run, .halting], 1, true, false, some 1⟩,
   ⟨0x0408, [.jog], 1, true, false, some 2⟩,
   ⟨0x0409, allModes, 1, true, false, some 1⟩,
   ⟨0x040A, [.idle], 1, true, false, some 2⟩]

/-- The SOLV commands. -/
def cmdsSolv : List CmdRow :=
  [⟨0x0501, allModes, 0, false, false, some 1⟩,
   ⟨0x0502, [.config, .idle], 1, true, false, none⟩,
   ⟨0x0503, [.idle], 1, true, false, some 1⟩,
   ⟨0x0504, allModes, 0, false, false, some 3⟩,
   ⟨0x0505, [.config, .idle], 1, true, false, some 7⟩]

/-- The NET commands. -/
def cmdsNet : List CmdRow :=
  [⟨0x0601, allModes, 0, false, false, some 1⟩,
   ⟨0x0602, allModes, 1, true, false, some 8⟩,
   ⟨0x0603, allModes, 0, false, false, some 0⟩,
   ⟨0x0604, [.config, .idle, .service], 1, true, false, some 0⟩,
   ⟨0x0605, [.config, .idle, .fault, .service], 1, true, false, some 0⟩,
   ⟨0x0606, allModes, 0, false, false, some 2⟩,
   ⟨0x0607, allModes, 1, true, false, none⟩,
   ⟨0x0608, allModes, 1, false, false, some 16⟩,
   ⟨0x0609, [.config, .idle, .service], 1, false, false, some 33⟩]

/-- The TIME commands. -/
def cmdsTime : List CmdRow :=
  [⟨0x0701, allModes, 0, false, false, some 1⟩,
   ⟨0x0702, allModes, 1, false, false, some 12⟩,
   ⟨0x0703, allModes, 1, true, false, some 1⟩,
   ⟨0x0704, allModes, 1, false, false, some 12⟩,
   ⟨0x0705, allModes, 1, true, false, some 5⟩]

/-- The SAFE commands. -/
def cmdsSafe : List CmdRow :=
  [⟨0x0801, allModes, 1, false, false, none⟩,
   ⟨0x0802, allModes, 2, false, false, none⟩,
   ⟨0x0803, [.config, .idle, .service], 2, false, false, none⟩,
   ⟨0x0804, allModes, 0, false, false, some 0⟩,
   ⟨0x0805, allModes, 0, false, false, some 0⟩,
   ⟨0x0806, [.config, .idle, .service], 2, false, false, none⟩,
   ⟨0x0807, [.config, .idle], 2, true, false, none⟩,
   ⟨0x0808, [.config, .idle], 2, false, false, none⟩,
   ⟨0x0809, [.config, .idle], 2, true, false, none⟩,
   ⟨0x080A, [.idle, .jog, .run, .halting, .fault], 2, true, false, none⟩,
   ⟨0x080B, allModes, 0, false, false, some 6⟩,
   ⟨0x080C, [.idle], 2, true, false, none⟩,
   ⟨0x080D, [.config, .idle, .fault, .service], 2, false, true, none⟩,
   ⟨0x080E, [.config, .fault, .service], 2, true, false, none⟩]

/-- The LOG commands. -/
def cmdsLog : List CmdRow :=
  [⟨0x0901, allModes, 0, false, false, some 1⟩,
   ⟨0x0902, allModes, 0, false, false, some 10⟩,
   ⟨0x0903, [.config, .idle, .fault, .service], 1, false, false, some 1⟩]

/-- The FW commands. -/
def cmdsFw : List CmdRow :=
  [⟨0x0A01, (.init :: allModes), 0, false, false, some 0⟩,
   ⟨0x0A02, [.init, .config, .idle, .service], 1, false, true, none⟩,
   ⟨0x0A03, [.init, .config, .idle, .service], 1, true, false, some 16⟩,
   ⟨0x0A04, [.service], 1, false, false, some 1⟩]

/-- The DIAG commands. -/
def cmdsDiag : List CmdRow :=
  [⟨0x0B01, [.config, .idle, .fault, .service], 1, false, true, some 4⟩,
   ⟨0x0B02, allModes, 0, false, false, some 10⟩,
   ⟨0x0B03, [.config, .idle, .fault, .service], 1, true, false, some 16⟩,
   ⟨0x0B04, allModes, 0, false, false, some 32⟩,
   ⟨0x0B05, [.config, .idle, .service], 1, false, true, some 4⟩]

/-- The TWIN commands. -/
def cmdsTwin : List CmdRow :=
  [⟨0x0C01, allModes, 0, false, false, some 0⟩,
   ⟨0x0C02, [.config, .idle], 1, false, false, some 1⟩,
   ⟨0x0C03, allModes, 1, false, true, some 0⟩,
   ⟨0x0C04, [.idle, .jog, .run], 1, true, false, some 0⟩]

/-- The MEM commands. -/
def cmdsMem : List CmdRow :=
  [⟨0x0D01, allModes, 0, false, false, some 0⟩,
   ⟨0x0D02, [.config, .service], 1, true, false, some 20⟩,
   ⟨0x0D03, allModes, 1, false, false, some 4⟩,
   ⟨0x0D04, allModes, 0, false, false, some 2⟩,
   ⟨0x0D05, [.config, .idle, .fault, .service], 1, false, false, some 16⟩,
   ⟨0x0D06, [.config, .idle, .service], 1, false, false, some 4⟩]

/-- Every command. -/
def cmdTable : List CmdRow :=
  cmdsSys ++ cmdsMode ++ cmdsCell ++ cmdsAxis ++ cmdsSolv ++ cmdsNet ++ cmdsTime ++ cmdsSafe ++ cmdsLog
    ++ cmdsFw ++ cmdsDiag ++ cmdsTwin ++ cmdsMem

/-- The row of a command code. -/
def cmdRow (code : Nat) : Option CmdRow := cmdTable.find? fun r => r.code == code

end Sys2Proof.Machine
end

