-- ==== Sys2Proof/Machine/Ports.lean ====
section
/-!
DEFINITION. The SerDes ports: physical modes (R508, R513, R514), personalities and their negotiation (R515 to R527).
-/
namespace Sys2Proof.Machine

/-- Port `p`. -/
def State.port (s : State) (p : Nat) : PortState := s.ports.get PortState.reset p

/-- Changes a port. -/
def State.onPort (s : State) (p : Nat) (f : PortState → PortState) : State :=
  { s with ports := s.ports.put PortState.reset p (f (s.port p)) }

/-- `LINK_STATE` 0 DISABLED. -/
def linkDisabled : Nat := 0
/-- `LINK_STATE` 1 DETECT. -/
def linkDetect : Nat := 1
/-- `LINK_STATE` 2 NEGOTIATE. -/
def linkNegotiate : Nat := 2
/-- `LINK_STATE` 3 UP. -/
def linkUp : Nat := 3
/-- `LINK_STATE` 4 NO_COMMON. -/
def linkNoCommon : Nat := 4
/-- `LINK_STATE` 5 LOOPBACK. -/
def linkLoopback : Nat := 5
/-- `LINK_STATE` 6 REF_FAULT. -/
def linkRefFault : Nat := 6

/-- The link state of a port. -/
def State.link (s : State) (p : Nat) : Nat := s.get Reg.PORT_STATUS_LINK_STATE p

/-- Enters a link state; the nodes of a port that leaves UP become ABSENT. -/
def State.setLink (s : State) (p st : Nat) : State :=
  let s := if s.link p = linkUp ∧ st ≠ linkUp then s.portNodesLost p else s
  (s.set Reg.PORT_STATUS_LINK_STATE p st).onPort p fun q => { q with since := s.ticks }

/-- The reference of a port is lost (R507). -/
def State.refDown (s : State) (p : Nat) : Bool := s.refLost.getLsbD (p / 32)

/-- Modes of Clause 73 that a port advertises: bits 1, 3, 5 and 7 of its mask (R513). -/
def State.advert (s : State) (p : Nat) : List Nat :=
  [7, 5, 3, 1].filter fun b => bitOf (s.get Reg.PORT_CFG_MODE_MASK p) b && !bitOf (s.port p).struck b

/-- The other enabled modes, fastest first (R513). -/
def State.parallel (s : State) (p : Nat) : List Nat :=
  [6, 4, 2, 0].filter fun b => bitOf (s.get Reg.PORT_CFG_MODE_MASK p) b

/-- The next mode of a list is tried; after the last one the pass begins again with Clause 73 where it is enabled. -/
def State.tryModes (s : State) (p : Nat) (l : List Nat) : State :=
  let s := s.onPort p fun q => { q with since := s.ticks }
  match l with
  | b :: r => (s.onPort p fun q => { q with c73 := false, tries := r }).set Reg.PORT_STATUS_MODE p (2 ^ b)
  | [] =>
    let s := s.onPort p fun q => { q with struck := 0, again := false }
    if (s.advert p).isEmpty then
      match s.parallel p with
      | b :: r => (s.onPort p fun q => { q with c73 := false, tries := r }).set Reg.PORT_STATUS_MODE p (2 ^ b)
      | [] => s
    else (s.onPort p fun q => { q with c73 := true, tries := [] }).set Reg.PORT_STATUS_MODE p 0

/-- A port starts at DETECT, at REF_FAULT without its reference, or at DISABLED (R507, R513, R527). -/
def State.portRestart (s : State) (p : Nat) : State :=
  let s := ((s.set Reg.PORT_STATUS_PERSONALITY p 0).setFlag Reg.PORT_STATUS_SILENT_PARTNER p false).set
    Reg.PORT_STATUS_MODE p 0
  let s := s.setFlag Reg.PORT_STATUS_FEC_ON p false
  if !s.flag Reg.PORT_CFG_EN p then s.setLink p linkDisabled
  else if s.refDown p then s.setLink p linkRefFault
  else
    let s := (s.setFlag Reg.PORT_STATUS_REF_OK p true).setLink p linkDetect
    s.tryModes p []

/-- A port enters NEGOTIATE with a new `SESSION` (R518, R524). -/
def State.negotiate (s : State) (p : Nat) : State :=
  let s := if (s.port p).before then s.count Reg.LINK_DOWN_NEG_RESTART p 1 else s
  let v := 1 + s.free % (2 ^ 32 - 1)
  let s := ((s.tookFree.set Reg.PORT_STATUS_PERSONALITY p 0).setFlag Reg.PORT_STATUS_SILENT_PARTNER p false).setLink p
    linkNegotiate
  s.onPort p fun q => { q with session := v, peer := 0, choice := 0, sent := false, got := false, heard := false,
                               before := true, last := s.ticks }

/-- The message of a port (R518, R519). -/
def State.negMessage (s : State) (p type chosen : Nat) : List Byte :=
  let q := s.port p
  let b := leBytes 2 0x4E47 ++ leBytes 1 1 ++ leBytes 1 type ++ leBytes 4 q.session ++ leBytes 4 q.peer
    ++ leBytes 1 (s.get Reg.PORT_CFG_PERS_MASK p) ++ leBytes 1 chosen ++ leBytes 2 (s.get Reg.PORT_STATUS_MODE p)
    ++ leBytes 1 0 ++ zeros 1 ++ leBytes 2 0xFFFF ++ leBytes 16 Config.serial.toNat ++ zeros 24
  b ++ leBytes 4 (crc32c b)

/-- The address of a port, most significant byte first. -/
def portMac (p : Nat) : List Byte := (leBytes 6 (Config.macBase.toNat + p)).reverse

/-- The destination of negotiation messages. -/
def negotiationMac : List Byte := [0x03, 0x4F, 0x44, 0x16, 0x90, 0x00]

/-- A port sends a negotiation message (R518). -/
def State.sendNeg (s : State) (p type chosen : Nat) : State :=
  let f := negotiationMac ++ portMac p ++ [0x88, 0xB5] ++ s.negMessage p type chosen
  ((s.out (.frame p f)).set Reg.FRAMES_OUT_COUNT p (s.get Reg.FRAMES_OUT_COUNT p + 1)).onPort p fun q =>
    { q with last := s.ticks }

/-- A port enters NO_COMMON (R523). -/
def State.noCommon (s : State) (p : Nat) : State :=
  if s.link p = linkNoCommon then s
  else ((s.setFlag Reg.PORT_FLAGS_NO_COMMON_SEEN p true).raise 130).setLink p linkNoCommon

/-- A port enters UP (R525). -/
def State.portUp (s : State) (p pers : Nat) : State :=
  (((s.set Reg.PORT_STATUS_PERSONALITY p pers).setLink p linkUp).onPort p fun q => { q with restarts := 0 }).raise 128

/-- The choice of R520 for a partner's mask and role: a personality code, 0 for none. -/
def State.choose (s : State) (p mask role : Nat) : Nat :=
  let own := s.get Reg.PORT_CFG_PERS_MASK p
  if bitOf own 2 && bitOf mask 2 && role == 1 then 4
  else if bitOf own 1 && bitOf mask 1 then 2
  else if bitOf own 0 && bitOf mask 0 then 1 else 0

/-- UP is entered once an ACCEPT was sent and a fitting one received (R521). -/
def State.acceptCheck (s : State) (p : Nat) : State :=
  let q := s.port p
  if s.link p = linkNegotiate ∧ q.sent = true ∧ q.got = true ∧ q.choice ≠ 0 then s.portUp p q.choice else s

/-- A valid OFFER in NEGOTIATE (R520, R521). -/
def State.takeOffer (s : State) (p : Nat) (m : List Byte) : State :=
  let c := s.choose p (uAt m 12 1) (uAt m 16 1)
  let s := s.onPort p fun q => { q with peer := uAt m 4 4, choice := c }
  if c = 0 then (s.sendNeg p 3 0).noCommon p else s

/-- A valid ACCEPT in NEGOTIATE (R521). -/
def State.takeAccept (s : State) (p : Nat) (m : List Byte) : State :=
  let s := s.onPort p fun q => { q with peer := uAt m 4 4 }
  let q := s.port p
  if q.choice = 0 then s
  else if uAt m 13 1 ≠ q.choice then
    let s := s.onPort p fun q => { q with restarts := q.restarts + 1 }
    if 3 < q.restarts + 1 then (s.onPort p fun q => { q with restarts := 0 }).noCommon p else s.negotiate p
  else if uAt m 8 4 = q.session then (s.onPort p fun q => { q with got := true }).acceptCheck p
  else s

/-- What a port holds of its partner. -/
def State.notePartner (s : State) (p mac : Nat) (m : List Byte) : State :=
  let s := (s.set Reg.PARTNER_MAC p mac).set Reg.PARTNER_PERS_MASK p (uAt m 12 1)
  let s := (s.set Reg.PARTNER_ROLE p (uAt m 16 1)).set Reg.PARTNER_NODE_NODE_ID p (uAt m 18 2)
  s.onPort p fun q => { q with mask := uAt m 12 1, heard := true }

/-- The message is valid for the port (R519). -/
def State.negValid (s : State) (p : Nat) (m : List Byte) : Bool :=
  m.length == 64 && uAt m 0 2 == 0x4E47 && uAt m 2 1 == 1 && decide (1 ≤ uAt m 3 1 ∧ uAt m 3 1 ≤ 3)
    && uAt m 60 4 == crc32c (m.take 60) && uAt m 14 2 == s.get Reg.PORT_STATUS_MODE p

/-- A negotiation message arrives (R519 to R524). -/
def State.negReceive (s : State) (p mac : Nat) (m : List Byte) : State :=
  let st := s.link p
  if (st ≠ linkNegotiate ∧ st ≠ linkUp ∧ st ≠ linkNoCommon) ∨ s.negValid p m = false then s
  else
    let type := uAt m 3 1
    let fresh := uAt m 12 1 != (s.port p).mask
    let s := (s.notePartner p mac m).set Reg.FRAMES_IN_COUNT p (s.get Reg.FRAMES_IN_COUNT p + 1)
    if st = linkUp then
      if type = 1 then
        let s := (s.setFlag Reg.PORT_FLAGS_RENEG_SEEN p true).raise 131
        ((s.negotiate p).notePartner p mac m).takeOffer p m
      else s
    else if st = linkNoCommon then
      if type ≠ 2 ∧ fresh = true ∧ s.choose p (uAt m 12 1) (uAt m 16 1) ≠ 0 then
        ((s.negotiate p).notePartner p mac m).takeOffer p m
      else s
    else if type = 1 then s.takeOffer p m
    else if type = 2 then s.takeAccept p m
    else s.onPort p fun q => { q with peer := uAt m 4 4 }

/-- The negotiation timer: every 1 ms in NEGOTIATE, every 100 ms in NO_COMMON (R520, R521, R523). -/
def State.offerTimer (s : State) (p : Nat) : State :=
  let q := s.port p
  if s.link p = linkNegotiate then
    let s := s.waitTill (q.last + msTicks 1)
    if q.choice = 0 then s.sendNeg p 1 0
    else ((s.sendNeg p 2 q.choice).onPort p fun q => { q with sent := true }).acceptCheck p
  else if s.link p = linkNoCommon then (s.waitTill (q.last + msTicks 100)).sendNeg p 1 0
  else s

/-- No valid message within 50 ms of NEGOTIATE (R522). -/
def State.silentPartner (s : State) (p : Nat) : State :=
  let q := s.port p
  if s.link p = linkNegotiate ∧ q.heard = false then
    let s := s.waitTill (q.since + msTicks 50)
    if bitOf (s.get Reg.PORT_CFG_PERS_MASK p) 0 then (s.setFlag Reg.PORT_STATUS_SILENT_PARTNER p true).portUp p 1
    else s.noCommon p
  else s

/-- PCS link status has held for `PHY_SETTLE` (R513). In Clause 73 the mode is the fastest that both advertise; FEC runs
when both request it (R511). -/
def State.phySettled (s : State) (p partner : Nat) (fec : Bool) : State :=
  if s.link p ≠ linkDetect then s
  else if (s.port p).c73 then
    match (s.advert p).filter fun b => bitOf partner b with
    | b :: _ => ((s.set Reg.PORT_STATUS_MODE p (2 ^ b)).setFlag Reg.PORT_STATUS_FEC_ON p
        (fec && s.flag Reg.PORT_CFG_FEC74 p && (b == 5 || b == 7))).negotiate p
    | [] => s
  else if s.get Reg.PORT_STATUS_MODE p = 0 then s else s.negotiate p

/-- Clause 73 does not complete (R513). -/
def State.clause73Timeout (s : State) (p : Nat) : State :=
  if s.link p = linkDetect ∧ (s.port p).c73 = true then
    (s.waitTill ((s.port p).since + msTicks 500)).tryModes p (s.parallel p)
  else s

/-- A mode gets no settled link status (R513): the next one is tried. In Clause 73 the mode that both advertise is struck
and Clause 73 restarted once. -/
def State.modeTryTimeout (s : State) (p partner : Nat) : State :=
  if s.link p ≠ linkDetect then s
  else if (s.port p).c73 then
    match (s.advert p).filter fun b => bitOf partner b with
    | b :: _ =>
      let again := (s.port p).again
      let s := s.onPort p fun q => { q with struck := q.struck + 2 ^ b, again := true, since := s.ticks }
      if again || (s.advert p).isEmpty then s.tryModes p (s.parallel p) else s
    | [] => s
  else (s.waitTill ((s.port p).since + msTicks 50)).tryModes p (s.port p).tries

/-- PCS link status has been false for `us` microseconds, which damaged `errs` blocks and `frames` frames: the port drops
from `LINK_DOWN_T` on; the damage of any loss is counted (R514). -/
def State.linkLost (s : State) (p us errs frames : Nat) : State :=
  if s.link p = linkNegotiate ∨ s.link p = linkUp ∨ s.link p = linkNoCommon then
    let s := (s.count Reg.PCS_ERR_COUNT p errs).count Reg.FCS_ERR_COUNT p frames
    if s.get Reg.LINK_TIMING_LINK_DOWN_T p ≤ us then
      (((s.count Reg.LINK_DOWN_COUNT p 1).setFlag Reg.PORT_FLAGS_LINK_LOST p true).raise 129).portRestart p
    else s
  else s

/-- The ports of a reference. -/
def refPorts (r : Nat) : List Nat := (List.range 32).map fun i => 32 * r + i

/-- A reference is lost: every port on it enters REF_FAULT (R507). -/
def State.refLoss (s : State) (r : Nat) : State :=
  let s := { s with refLost := s.refLost ||| (1#2 <<< r) }
  let s := (refPorts r).foldl (fun (s : State) p =>
    let s := (s.setFlag Reg.PORT_FLAGS_REF_LOST p true).setFlag Reg.PORT_STATUS_REF_OK p false
    (s.set Reg.PORT_STATUS_PERSONALITY p 0).setLink p linkRefFault) s
  s.raise 132

/-- A reference is back (R507). -/
def State.refBack (s : State) (r : Nat) : State :=
  let s := { s with refLost := s.refLost &&& ~~~(1#2 <<< r) }
  (refPorts r).foldl (fun (s : State) p =>
    let s := s.setFlag Reg.PORT_STATUS_REF_OK p true
    if s.link p = linkRefFault then s.portRestart p else s) s

/-- REF_LOSS (R507). -/
def execRefLoss (r : Fin 2) (s : State) : Host.Outcome State Fault Refusal := s.run fun s => s.refLoss r.val

/-- REF_RESTORE (R507). -/
def execRefRestore (r : Fin 2) (s : State) : Host.Outcome State Fault Refusal := s.run fun s => s.refBack r.val

/-- CLAUSE73_TIMEOUT (R513). -/
def execClause73Timeout (p : Fin 64) (s : State) : Host.Outcome State Fault Refusal :=
  s.run fun s => s.clause73Timeout p.val

/-- MODE_TRY_TIMEOUT; in Clause 73 with the modes that the partner advertised (R513). -/
def execModeTryTimeout (p : Fin 64) (partner : BitVec 8) (s : State) : Host.Outcome State Fault Refusal :=
  s.run fun s => s.modeTryTimeout p.val partner.toNat

/-- PHY_SETTLED; in Clause 73 with the modes that the partner advertised and its FEC request (R511, R513). -/
def execPhySettled (p : Fin 64) (partner : BitVec 8) (fec : Bool) (s : State) : Host.Outcome State Fault Refusal :=
  s.run fun s => s.phySettled p.val partner.toNat fec

/-- LINK_DOWN (R514). -/
def execLinkDown (loss : LinkLoss) (s : State) : Host.Outcome State Fault Refusal :=
  s.run fun s => s.linkLost loss.p.val loss.us.val loss.errs.toNat loss.frames.toNat

/-- NEGOTIATION_MESSAGE with its source address (R519 to R524). -/
def execNegotiationMessage (p : Fin 64) (mac : BitVec 48) (payload : List Byte) (s : State) :
    Host.Outcome State Fault Refusal := s.run fun s => s.negReceive p.val mac.toNat payload

/-- OFFER_TIMER (R520). -/
def execOfferTimer (p : Fin 64) (s : State) : Host.Outcome State Fault Refusal := s.run fun s => s.offerTimer p.val

/-- SILENT_PARTNER (R522). -/
def execSilentPartner (p : Fin 64) (s : State) : Host.Outcome State Fault Refusal :=
  s.run fun s => s.silentPartner p.val

end Sys2Proof.Machine
end

