-- ==== Sys2Proof/Machine/Time.lean ====
section
/-!
DEFINITION. Time bases, PTP instances, the bridge with its gates and transmit rings, capture and trigger (chapter 18).
-/
namespace Sys2Proof.Machine

/-- Changes the part of chapter 18. -/
def State.onTime (s : State) (f : TimeState → TimeState) : State := { s with time := f s.time }

/-- The PTP instance of base `n`. -/
def State.ptpOf (s : State) (n : Nat) : Option PtpInst := s.time.ptp.get none n

/-- Replaces the PTP instance of base `n`. -/
def State.setPtp (s : State) (n : Nat) (i : Option PtpInst) : State :=
  s.onTime fun t => { t with ptp := t.ptp.put none n i }

/-- The base takes corrections (R567): TB1 to TB4 and TB7. -/
def steps (n : Nat) : Bool := decide (1 ≤ n ∧ n ≤ 4) || n == 7

/-- The state of base `n` under R570, for the bases that step; a pending step is HOLDOVER (R572), TB7's too, and so is an
instance that has no master, or has none yet (DEDUCED, log entry 85). -/
def State.tbStateOf (s : State) (n : Nat) : Nat :=
  if s.flag Reg.TB_STATE_STEP_PENDING n then 3
  else
    match s.ptpOf n with
    | none => 0
    | some i => if i.gm.isNone then 3 else if 16 ≤ i.good then 2 else 1

/-- The state of a base that steps follows R570. -/
def State.tbFollow (s : State) (n : Nat) : State := if steps n then s.setTbState n (s.tbStateOf n) else s

/-- The gates of a port. -/
def State.gate (s : State) (p : Nat) : GateState := s.time.gates.get GateState.reset p

/-- Changes the gates of a port. -/
def State.onGate (s : State) (p : Nat) (f : GateState → GateState) : State :=
  s.onTime fun t => { t with gates := t.gates.put GateState.reset p (f (s.gate p)) }

/-- The cycle of a gate control list in ns. -/
def GateList.cycle (l : GateList) : Nat := l.entries.foldl (fun n e => n + e.2) 0

/-- The first cycle boundary of a list, counted from its base time, at or after `t`. -/
def GateList.boundary (l : GateList) (t : Nat) : Nat :=
  if t ≤ l.base ∨ GateList.cycle l = 0 then l.base
  else l.base + (t - l.base + GateList.cycle l - 1) / GateList.cycle l * GateList.cycle l

/-- After a step of TB0 the running list restarts (R584). -/
def State.gateRestart (s : State) (p : Nat) : State :=
  match (s.gate p).run with
  | some l => s.onGate p fun g => { g with next := 0, nextAt := GateList.boundary l (s.tb 0) }
  | none => s

/-- Trigger edges up to `t` on the base of GPIO `g` are done. -/
def State.trigFrom (s : State) (g : Nat) (t : Option Nat) : State :=
  s.onTime fun x => { x with trig := x.trig.put none g t }

/-- The next edge of a trigger output strictly after the time up to which its edges are done (R588, R589). -/
def State.trigNext (s : State) (g : Nat) : Option Nat :=
  let start := s.get Reg.TRIG_START_NS g
  let per := s.get Reg.TRIG_PERIOD_NS g
  match s.time.trig.get none g with
  | none => some start
  | some t =>
    if t < start then some start else if per = 0 then none else some (start + ((t - start) / per + 1) * per)

/-- A step of base `b` from `was` meets the trigger output of a GPIO (R589): edges that a forward step passes over count. -/
def State.trigStep (s : State) (b : Nat) (g : Nat) : State :=
  if s.get Reg.TIME_CFG_FUNC g = 2 ∧ s.get Reg.TIME_CFG_BASE g = b then
    let now := s.tb b
    let start := s.get Reg.TRIG_START_NS g
    let per := s.get Reg.TRIG_PERIOD_NS g
    let skipped := match s.trigNext g with
      | some e => if e ≤ now then (if per = 0 then 1 else (now - max e start) / per + 1) else 0
      | none => 0
    let s := s.trigFrom g (some now)
    if skipped = 0 then s else (s.count Reg.TRIG_SKIP_COUNT g skipped).raise 186
  else s

/-- Base `n` steps by `d` ns: what its functions do of it (R575, R584, R589, R675). -/
def State.stepTb (s : State) (n : Nat) (d : Int) : State :=
  let was := s.tb n
  let s := s.set Reg.TB_TIME_NS n (max 0 ((was : Int) + d)).toNat
  let s := (List.range 64).foldl (fun s g => s.trigStep n g) s
  if n = 0 then
    ((List.range 64).foldl State.gateRestart s).withYard fun y => { y with stepFrom := some (was / 1000) }
  else s

/-- A correction of base `n` (R572): a step at the next TIME tick, or held pending. -/
def State.tbCorrect (s : State) (n : Nat) (d : Int) : State :=
  if !steps n then s
  else if d.natAbs ≤ s.get Reg.JUMP_LIMIT_NS n then
    ((((s.setFlag Reg.TB_STATE_STEP_PENDING n false).onTime fun t => { t with accept := t.accept.put false n false }).advance
      1).stepTb n d).tbFollow n
  else
    let s := s.raiseIf (!s.flag Reg.TB_STATE_STEP_PENDING n) 176
    let s := (s.count Reg.TB_COUNT_STEPS_REFUSED n 1).setS Reg.PENDING_STEP_NS n d
    (s.setFlag Reg.TB_STATE_STEP_PENDING n true).tbFollow n

/-- A pending step is accepted (R573). -/
def State.acceptStep (s : State) (n : Nat) : State := s.onTime fun t => { t with accept := t.accept.put false n true }

/-- The accepted step of base `n` is applied at the next TIME tick (R573). -/
def State.applyStep (s : State) (n : Nat) : State :=
  if s.time.accept.get false n && s.flag Reg.TB_STATE_STEP_PENDING n then
    let s := (s.advance 1).stepTb n (s.getS Reg.PENDING_STEP_NS n)
    let s := (s.onTime fun t => { t with accept := t.accept.put false n false }).setFlag Reg.TB_STATE_STEP_PENDING n false
    ((s.count Reg.TB_COUNT_STEPS_APPLIED n 1).raise 177).tbFollow n
  else s

/-- A rate of base `n` in 2^-16 ppb, clamped (R568). -/
def rateLimit (n : Nat) : Int := if n = 0 then 200000 else if n = 6 then 400000 else 500000

/-- Writes the rate correction of base `n`. -/
def State.setRate16 (s : State) (n : Nat) (r : Int) : State :=
  let r := clampI (-(rateLimit n * 65536)) (rateLimit n * 65536) r
  (s.setS Reg.TB_RATE_PPB n (r / 65536)).set Reg.TB_RATE_PPB_FRAC n (r % 65536).toNat

/-- This base and another are latched at one tick (R569). -/
def State.tbSnap (s : State) (n other : Nat) : State :=
  (s.set Reg.SNAP_SELF_NS n (s.tb n)).set Reg.SNAP_OTHER_NS n (s.tb other)

/-- The own clock identity: the device's base address widened to 64 bits (PRESUMED; log entry 26). -/
def ownIdentity : Nat := Config.macBase.toNat / 2 ^ 24 * 2 ^ 40 + 0xFFFE * 2 ^ 24 + Config.macBase.toNat % 2 ^ 24

/-- The order of clocks by their announced attributes: the smaller is better (PRESUMED: IEEE 1588 data set comparison). -/
def clockRank (p1 cls acc var p2 id : Nat) : Nat :=
  (((((p1 * 256 + cls) * 256 + acc) * 65536 + var) * 256 + p2) * 2 ^ 64) + id

/-- The rank of the device itself (R579). -/
def ownRank : Nat := clockRank 248 248 0xFE 0xFFFF 248 ownIdentity

/-- The rank of the grandmaster that an Announce names. -/
def PtpMsg.rank (m : PtpMsg) : Nat := clockRank m.prio1 m.clockClass m.accuracy m.variance m.prio2 m.gm

/-- The peer delay mechanism (R577). -/
def PtpInst.peer (i : PtpInst) : Bool := i.profile == 0 || i.profile == 3

/-- The instance's profile uses a message type (R577, R578). -/
def PtpInst.uses (i : PtpInst) (kind : Nat) : Bool :=
  if kind = 1 ∨ kind = 9 then !PtpInst.peer i
  else if kind = 2 ∨ kind = 3 ∨ kind = 10 then PtpInst.peer i
  else kind == 0 || kind == 8 || kind == 11 || kind == 12

/-- The base whose instance holds a domain on a port. -/
def State.ptpHolder (s : State) (port domain : Nat) : Option (Nat × PtpInst) :=
  [1, 2, 3, 4].findSome? fun n =>
    match s.ptpOf n with
    | some i => if i.domain = domain ∧ bitOf i.ports.toNat port = true then some (n, i) else none
    | none => none

/-- The best master clock decision after an Announce (R579, R580). A change of grandmaster raises `EV179`. -/
def State.ptpAnnounce (s : State) (n : Nat) (i : PtpInst) (port : Nat) (m : PtpMsg) : State :=
  let same := i.gm == some m.gm
  if PtpMsg.rank m < ownRank && (same || (i.gm.isNone || PtpMsg.rank m < i.rank)) then
    if same then s.setPtp n (some { i with heard := s.ticks, slave := port, rank := PtpMsg.rank m })
    else
      let i := { i with gm := some m.gm, rank := PtpMsg.rank m, slave := port, heard := s.ticks, good := 0,
                        offs := [], settling := true }
      ((s.setPtp n (some i)).raise 179).tbFollow n
  else if same then
    ((s.setPtp n (some { i with gm := none, good := 0, offs := [], settling := false })).raise 179).tbFollow n
  else s

/-- All measurements agree with each other to within `lim` (R573). -/
def agree (l : List Int) (lim : Nat) : Bool := l.all fun a => l.all fun b => decide ((a - b).natAbs ≤ lim)

/-- A measurement of the instance (R570, R573). -/
def State.ptpMeasure (s : State) (n : Nat) (i : PtpInst) (sync : Bool) (d : Int) : State :=
  let offs := (d :: i.offs).take 16
  let good := if !sync then i.good else if d.natAbs < 100 then i.good + 1 else 0
  let settled := i.settling && decide (offs.length = 16) && agree offs (s.get Reg.JUMP_LIMIT_NS n)
  let s := s.setPtp n (some { i with offs := offs, good := good, settling := i.settling && !settled })
  let s := if settled && s.flag Reg.TB_STATE_STEP_PENDING n then (s.setS Reg.PENDING_STEP_NS n d).acceptStep n else s
  s.tbFollow n

/-- An instance answers a delay request on a master port, and a peer delay request on any port (R578). -/
def State.ptpAnswer (s : State) (n port kind : Nat) (i : PtpInst) : State :=
  if kind = 1 then (if i.gm.isSome ∧ i.slave = port then s else s.out (.ptp n port 9))
  else if kind = 2 then (s.out (.ptp n port 3)).out (.ptp n port 10)
  else s

/-- A PTP message of a held domain (R578 to R580). Other messages are bridged, not consumed. -/
def State.ptpMessage (s : State) (port : Nat) (m : PtpMsg) : State :=
  match s.ptpHolder port m.domain with
  | none => s
  | some (n, i) =>
    if !PtpInst.uses i m.kind then s.count Reg.PTP_DISCARD_COUNT 0 1
    else if m.kind = 11 then s.ptpAnnounce n i port m
    else
      let s := s.ptpAnswer n port m.kind i
      match m.offset with
      | some d => if i.gm.isSome ∧ i.slave = port then s.ptpMeasure n i (m.kind == 0 || m.kind == 8) d else s
      | none => s

/-- The interval of a message kind in ms (R579): 0 Sync, 1 Announce, 2 delay or peer delay request. -/
def ptpInterval (profile kind : Nat) : Nat :=
  match kind with
  | 0 => if profile = 0 then 125 else 1000
  | 1 => if profile = 0 then 1000 else 2000
  | _ => 1000

/-- A master-port interval expires (R579). -/
def State.ptpTimer (s : State) (n port kind : Nat) : State :=
  match s.ptpOf n with
  | none => s
  | some i =>
    if bitOf i.ports.toNat port = false ∨ (kind < 2 ∧ i.gm.isSome = true ∧ i.slave = port) then s
    else
      let s := s.waitTill (i.sent.get 0 (4 * port + kind) + msTicks (ptpInterval i.profile kind))
      let s := s.setPtp n (some { i with sent := i.sent.put 0 (4 * port + kind) s.ticks })
      match kind with
      | 0 => (s.out (.ptp n port 0)).out (.ptp n port 8)
      | 1 => s.out (.ptp n port 11)
      | _ => s.out (.ptp n port (if PtpInst.peer i then 2 else 1))

/-- The announce receipt timeout of the slave port (R579, R580): the device is then grandmaster itself. -/
def State.ptpTimeout (s : State) (n : Nat) : State :=
  match s.ptpOf n with
  | none => s
  | some i =>
    if i.gm.isNone then s
    else
      let s := s.waitTill (i.heard + msTicks (3 * ptpInterval i.profile 1))
      let i := { i with gm := none, good := 0, offs := [], settling := false }
      (((s.setPtp n (some i)).raise 180).raise 179).tbFollow n

/-- The mode bit of a port. -/
def State.modeBit (s : State) (p : Nat) : Nat := Nat.log2 (s.get Reg.PORT_STATUS_MODE p)

/-- The tenths of a ns that a byte takes in a mode (R533). -/
def byteTenths (b : Nat) : Nat := if b < 2 then 80 else if b < 4 then 32 else if b < 6 then 16 else 8

/-- The wire time of a frame of `n` bytes without FCS, in tenths of a ns (R533). -/
def State.wireOf (s : State) (p n : Nat) : Nat := (max 64 (n + 4) + 20) * byteTenths (s.modeBit p)

/-- The latencies of a port from the MAC to the ball in tenths of a ns: transmit, receive (R576). -/
def State.latency (s : State) (p : Nat) : Nat × Nat :=
  let b := s.modeBit p
  if b < 2 then (1520, 2480) else if b < 4 then (648, 1056)
  else if b < 6 then (if s.flag Reg.PORT_STATUS_FEC_ON p then (742, 4928) else (486, 832))
  else if s.flag Reg.PORT_STATUS_FEC_ON p then (458, 2592) else (330, 544)

/-- TB5 with its fraction, in ns. -/
def State.tb5 (s : State) : Rat := (s.tb 5 : Rat) + (s.get Reg.TB_FRAC_FRAC 5 : Rat) / 65536

/-- Big-endian number of `n` bytes at offset `o`. -/
def beAt (f : List Byte) (o n : Nat) : Nat := leNat ((f.drop o).take n).reverse

/-- Replaces the bytes at offset `o`. -/
def putAt (f : List Byte) (o : Nat) (x : List Byte) : List Byte := f.take o ++ x ++ f.drop (o + x.length)

/-- Offset of the EtherType behind a VLAN tag. -/
def etherAt (f : List Byte) : Nat := if beAt f 12 2 = 0x8100 then 16 else 12

/-- The offset of a PTP message in a frame, and of the IPv4 header before it over UDP. -/
def ptpIn (f : List Byte) : Option (Nat × Option Nat) :=
  let e := etherAt f
  if beAt f e 2 = 0x88F7 then some (e + 2, none)
  else if beAt f e 2 = 0x0800 then
    let ip := e + 2
    let udp := ip + 4 * (beAt f ip 1 % 16)
    if beAt f (ip + 9) 1 = 17 ∧ (beAt f (udp + 2) 2 = 319 ∨ beAt f (udp + 2) 2 = 320) then some (udp + 8, some ip) else none
  else none

/-- The bridged messages that take a residence time (R581): Sync, Delay_Req, Pdelay_Req, Pdelay_Resp. -/
def ptpEvent (f : List Byte) : Bool :=
  match ptpIn f with
  | some (o, _) => decide (beAt f o 1 % 16 < 4)
  | none => false

/-- Sum of the 16-bit words of a list of bytes. -/
def sum16 : List Byte → Nat
  | a :: b :: r => a.toNat * 256 + b.toNat + sum16 r
  | [a] => a.toNat * 256
  | [] => 0

/-- The Internet checksum of a sum of words. -/
def netSum (n : Nat) : Nat :=
  let f := fun n => n % 65536 + n / 65536
  65535 - f (f (f n))

/-- The UDP checksum of a frame is computed anew (R582); `ip` is the offset of its IPv4 header. -/
def udpSum (f : List Byte) (ip : Nat) : List Byte :=
  let udp := ip + 4 * (beAt f ip 1 % 16)
  let len := beAt f (udp + 4) 2
  let f := putAt f (udp + 6) [0, 0]
  let c := netSum (sum16 ((f.drop (ip + 12)).take 8) + 17 + len + sum16 ((f.drop udp).take len))
  putAt f (udp + 6) (leBytes 2 (if c = 0 then 65535 else c)).reverse

/-- A bridged event message leaves with its residence added (R581). -/
def addResidence (f : List Byte) (ns : Rat) : List Byte :=
  match ptpIn f with
  | none => f
  | some (o, ip) =>
    let c := beAt f (o + 8) 8 + ofS 64 ((2 * ns * 65536 + 1) / 2).floor
    let f := putAt f (o + 8) (leBytes 8 (c % 2 ^ 64)).reverse
    match ip with
    | some i => udpSum f i
    | none => f

/-- The frames of a queue. -/
def State.queue (s : State) (p q : Nat) : List TxFrame := s.time.queues.get [] (8 * p + q)

/-- Replaces a queue. -/
def State.setQueue (s : State) (p q : Nat) (l : List TxFrame) : State :=
  s.onTime fun t => { t with queues := t.queues.put [] (8 * p + q) l }

/-- The longest run of entries that open queue `q` in a list, in ns; none where it is never closed (R585). -/
def GateList.longest (l : GateList) (q : Nat) : Option Nat :=
  if l.entries.all fun e => bitOf e.1 q then none
  else some ((l.entries ++ l.entries).foldl (fun (a : Nat × Nat) e =>
    if bitOf e.1 q then (a.1 + e.2, max a.2 (a.1 + e.2)) else (0, a.2)) (0, 0)).2

/-- The segments of the gate schedule from `t` on: mask and end, two cycles of them. -/
def GateState.segments (g : GateState) (l : GateList) (mask t : Nat) : List (Nat × Nat) :=
  let c := max 1 (GateList.cycle l)
  let start := if t < g.nextAt then g.nextAt else g.nextAt + (t - g.nextAt) / c * c
  let rot := l.entries.drop g.next ++ l.entries.take g.next
  let r := (rot ++ rot).foldl (fun (a : List (Nat × Nat) × Nat) e => (a.1 ++ [(e.1, a.2 + e.2)], a.2 + e.2)) ([], start)
  if t < g.nextAt then (mask, g.nextAt) :: r.1 else r.1

/-- The first instant at or after `t` at which queue `q` is open for longer than `wire` tenths of a ns (R585). -/
def openFrom (q wire : Nat) : List (Nat × Nat) → Nat → Option Nat → Option Nat
  | [], _, _ => none
  | (m, e) :: r, t, c =>
    if bitOf m q then
      let x := c.getD t
      if 10 * x + wire < 10 * e then some x else openFrom q wire r (max t e) (some x)
    else openFrom q wire r (max t e) none

/-- The instant of TB0 at which a frame of queue `q` may start, from `t` on. -/
def State.gateStart (s : State) (p q wire t : Nat) : Option Nat :=
  match (s.gate p).run with
  | none => some t
  | some l =>
    if (GateList.longest l q).isNone && bitOf (s.get Reg.GATE_STATUS_GATES p) q then some t
    else openFrom q wire (GateState.segments (s.gate p) l (s.get Reg.GATE_STATUS_GATES p) t) t none

/-- A ring's descriptor is finished: the frame has left or was discarded (R587). -/
def State.ringDone (s : State) (r : Option Nat) : State :=
  match r with
  | none => s
  | some r =>
    let size := clampN 16 4096 (s.get Reg.TXR_CTRL_TXR_SIZE r)
    (s.set Reg.TXR_IDX_TXR_HEAD r ((s.get Reg.TXR_IDX_TXR_HEAD r + 1) % size)).onTime fun t =>
      { t with ringBusy := t.ringBusy.put false r false }

/-- A frame at the head of its queue is late (R586). -/
def State.lateFrame (s : State) (f : TxFrame) : Bool :=
  match f.launch with
  | some (b, t) => decide (t + min 1000000 (s.get Reg.BR_CFG_LATE_MAX 0) < s.tb b)
  | none => false

/-- Late frames at the head of a queue are discarded (R586). -/
def State.dropLate (s : State) (p q : Nat) : List TxFrame → State
  | [] => s.setQueue p q []
  | f :: r =>
    if s.lateFrame f then (((s.count Reg.LATE_DROP_COUNT p 1).raise 182).ringDone f.ring).dropLate p q r
    else s.setQueue p q (f :: r)

/-- A frame is queued, or discarded where it can never fit its gate (R585). -/
def State.enqueue (s : State) (p q : Nat) (f : TxFrame) : State :=
  let never := match (s.gate p).run with
    | some l => match GateList.longest l q with
      | some n => decide (10 * n < s.wireOf p f.bytes.length)
      | none => false
    | none => false
  if never then ((s.count Reg.GATE_TOO_LONG_COUNT p 1).raise 183).ringDone f.ring
  else if (s.queue p q).isEmpty then s.dropLate p q [f]
  else s.setQueue p q (s.queue p q ++ [f])

/-- The port carries bridged traffic: 1 ETHERNET, 2 SAFETY-ETHERNET, 0 none (R516). -/
def State.bridgeDomain (s : State) (p : Nat) : Nat :=
  let c := s.get Reg.PORT_STATUS_PERSONALITY p
  if s.link p = linkUp ∧ (c = 1 ∨ c = 2) then c else 0

/-- A ring takes its next descriptor (R587); a poisoned descriptor or frame is skipped (R622). -/
def State.ringTake (s : State) (r : Nat) : State :=
  let head := s.get Reg.TXR_IDX_TXR_HEAD r
  let d := s.memGet (s.get Reg.TXR_BASE_ADDR r / 8 * 8 + 24 * head) 24
  let len := uAt d 8 2
  let p := uAt d 10 1
  let ctrl := uAt d 11 1
  let at0 := s.get Reg.TXR_BASE_ADDR r / 8 * 8 + 24 * head
  let bad := fun a n => (List.range n).any fun i => s.poisonedAt (a + i)
  if 64 ≤ p ∨ s.bridgeDomain p = 0 ∨ len < 60 ∨ clampN 1518 2048 (s.get Reg.PORT_CFG_MTU p) - 4 < len ∨ bad at0 24 = true
      ∨ bad (uAt d 0 8) len = true then
    (s.count Reg.TXR_BAD_COUNT r 1).ringDone (some r)
  else
    (s.onTime fun t => { t with ringBusy := t.ringBusy.put false r true }).enqueue p (ctrl % 8)
      { bytes := s.memGet (uAt d 0 8) len, ring := some r, stamp := none,
        launch := if bitOf ctrl 6 then some (bitsOf ctrl 3 3, uAt d 16 8) else none }

/-- A ring goes on until a frame of it waits in a queue or it is empty. -/
def State.ringGo (s : State) (r : Nat) : Nat → State
  | 0 => s
  | n + 1 =>
    if s.time.ringBusy.get false r || s.get Reg.TXR_IDX_TXR_HEAD r == s.get Reg.TXR_IDX_TXR_TAIL r then s
    else (s.ringTake r).ringGo r n

/-- Every ring goes on. -/
def State.ringsGo (s : State) : State := (List.range 8).foldl (fun s r => s.ringGo r 4096) s

/-- Software advances a ring's tail (R587, R590). -/
def State.tailWrite (s : State) (m : Master) (r tail : Nat) : State :=
  match m with
  | .core _ | .ranger =>
    let size := clampN 16 4096 (s.get Reg.TXR_CTRL_TXR_SIZE r)
    ((s.set Reg.TXR_IDX_TXR_TAIL r (tail % size)).ringGo r 4096).answer .done
  | _ => s.answer .busError

/-- Where a bridged frame goes: its learned port, or every other port of the domain (R583). -/
def State.bridgeOut (s : State) (p : Nat) (f : List Byte) : List Nat :=
  let dom := s.bridgeDomain p
  let all := (List.range 64).filter fun q => q != p && s.bridgeDomain q == dom
  let live := fun e : MacEntry => e.mac == f.take 6 && decide (s.ticks < e.seen + msTicks 300000)
  if bitOf (uAt f 0 1) 0 then all
  else match s.time.macs.find? live with
    | some e => all.filter fun q => q == e.port
    | none => all

/-- The source address is learned (R583). -/
def State.learn (s : State) (p : Nat) (mac : List Byte) : State :=
  s.onTime fun t =>
    let l := t.macs.filter fun e => e.mac != mac && decide (s.ticks < e.seen + msTicks 300000)
    { t with macs := if l.length < 16384 then { mac := mac, port := p, seen := s.ticks } :: l else l }

/-- A frame received on a bridge port (R509, R512, R516, R518, R580 to R583). On SAFETY-ETHERNET, a safety frame goes to
Caldera (R515, R476) and is not bridged (DEDUCED, log entry 85). -/
def State.bridgeFrame (s : State) (p : Nat) (fcs : Bool) (f : List Byte) : State :=
  if s.bridgeDomain p = 0 then s
  else if !fcs then s.count Reg.FCS_ERR_COUNT p 1
  else if clampN 1518 2048 (s.get Reg.PORT_CFG_MTU p) < f.length + 4 then s.count Reg.OVERSIZE_COUNT p 1
  else if beAt f 12 2 = 0x8808 then s.count Reg.PAUSE_DISCARD_COUNT p 1
  else
    let s := (s.set Reg.FRAMES_IN_COUNT p (s.get Reg.FRAMES_IN_COUNT p + 1)).learn p ((f.drop 6).take 6)
    let held := match ptpIn f with
      | some (o, _) => (s.ptpHolder p (beAt f (o + 4) 1)).isSome
      | none => false
    if held || f.take 6 == negotiationMac then s
    else if s.bridgeDomain p = 2 ∧ beAt f (etherAt f) 2 = 0x88B6 then
      s.calCatchUp.safetyFrame (f.drop (etherAt f + 2)) true
    else
      let stamp := if ptpEvent f then some (s.tb5 - ((s.latency p).2 : Rat) / 10) else none
      let q := if beAt f 12 2 = 0x8100 then beAt f 14 2 / 2 ^ 13 else 0
      (s.bridgeOut p f).foldl (fun (s : State) o =>
        s.enqueue o q { bytes := f, launch := none, ring := none, stamp := stamp }) s

/-- The instant of TB0 at which the head of a queue may start (R585, R586). -/
def State.headStart (s : State) (p q : Nat) : Option Nat :=
  match s.queue p q with
  | [] => none
  | f :: _ =>
    let now := max (s.tb 0) (s.time.busyTill.get 0 p)
    let t := match f.launch with
      | some (b, l) => max now ((s.moveTb 0 8 (s.ticksTill b l)).tb 0)
      | none => now
    s.gateStart p q (s.wireOf p f.bytes.length) t

/-- The queue that starts first, queue 7 before the others at one instant (R583). -/
def State.nextQueue (s : State) (p : Nat) : Option (Nat × Nat) :=
  (List.range 8).foldl (fun (a : Option (Nat × Nat)) q =>
    match s.headStart p q, a with
    | some t, some (q0, t0) => if t ≤ t0 then some (q, t) else some (q0, t0)
    | some t, none => some (q, t)
    | none, a => a) none

/-- The next frame of a port starts (R581, R585, R586). -/
def State.launch (s : State) (p : Nat) : State :=
  match s.nextQueue p with
  | none => s
  | some (q, t) =>
    match s.queue p q with
    | [] => s
    | f :: r =>
      let s := s.waitTb 0 t
      let bytes := match f.stamp with
        | some i => addResidence f.bytes (s.tb5 + ((s.latency p).1 : Rat) / 10 - i)
        | none => f.bytes
      let s := if f.stamp.isSome then s.count Reg.TC_FRAMES_COUNT p 1 else s
      let s := (s.out (.frame p bytes)).set Reg.FRAMES_OUT_COUNT p (s.get Reg.FRAMES_OUT_COUNT p + 1)
      let s := s.onTime fun x => { x with busyTill := x.busyTill.put 0 p (s.tb 0 + (s.wireOf p bytes.length + 9) / 10) }
      ((s.ringDone f.ring).dropLate p q r).ringsGo

/-- An entry of a list begins on a port. -/
def State.gateEnter (s : State) (p i mask len n : Nat) : State :=
  ((s.set Reg.GATE_STATUS_GATES p mask).set Reg.GATE_STATUS_ENTRY p i).onGate p fun g =>
    { g with next := (i + 1) % max 1 n, nextAt := g.nextAt + len }

/-- A new list takes effect at `t` (R584). -/
def State.gateSwitch (s : State) (p : Nat) (l : GateList) (t : Nat) : State :=
  let s := (s.onGate p fun _ => { run := some l, next := 0, nextAt := t, waiting := none }).setFlag
    Reg.GATE_STATUS_LIST_PENDING p false
  let s := match l.entries with
    | (m, d) :: _ => s.gateEnter p 0 m d l.entries.length
    | [] => s
  s.raise 181

/-- The instant at which the waiting list of a port takes effect (R584): the first cycle boundary of the running list at
or after its base time; without a running list, its own first boundary. -/
def State.switchAt (s : State) (p : Nat) (l : GateList) : Nat :=
  let g := s.gate p
  match g.run with
  | none => GateList.boundary l (s.tb 0)
  | some r =>
    let c := max 1 (GateList.cycle r)
    let left := (r.entries.drop g.next).foldl (fun n e => n + e.2) 0
    let b := if g.next = 0 then g.nextAt else g.nextAt + left
    let t := max l.base (s.tb 0)
    if t ≤ b then b else b + (t - b + c - 1) / c * c

/-- A gate control list's present entry ends (R584). -/
def State.gateEnd (s : State) (p : Nat) : State :=
  let g := s.gate p
  match g.run with
  | none => s
  | some l =>
    let s := s.waitTb 0 g.nextAt
    match g.waiting with
    | some w =>
      if g.next = 0 ∧ w.base ≤ g.nextAt then s.gateSwitch p w g.nextAt
      else match l.entries.drop g.next with
        | (m, d) :: _ => s.gateEnter p g.next m d l.entries.length
        | [] => s
    | none =>
      match l.entries.drop g.next with
      | (m, d) :: _ => s.gateEnter p g.next m d l.entries.length
      | [] => s

/-- The waiting list of a port takes effect (R584). -/
def State.gateChange (s : State) (p : Nat) : State :=
  match (s.gate p).waiting with
  | none => s
  | some l =>
    let t := s.switchAt p l
    (s.waitTb 0 t).gateSwitch p l t

/-- The GPIO captures and triggers: it is no axis input, and its owner core neither stopped nor halted (R588, R655). -/
def State.gpioTimed (s : State) (g : Nat) : Bool :=
  let own := match s.cell with
    | some c => (c.gpios.find? fun d => d.gpio == g).map GpioDef.core
    | none => none
  (match s.owner 8 g with
    | some o => o == 64
    | none => true) &&
  match own with
  | some c => s.get Reg.AC_STATE_STATE c == 1 || s.get Reg.AC_STATE_STATE c == 3
  | none => true

/-- An edge at a capture input (R588). -/
def State.captureEdge (s : State) (g : Nat) (rising : Bool) : State :=
  let e := s.get Reg.TIME_CFG_EDGE g
  let sel := if e = 1 then !rising else if e = 2 then true else rising
  if s.get Reg.TIME_CFG_FUNC g = 1 ∧ sel = true ∧ s.gpioTimed g = true then
    let unread := s.time.capUnread.getLsbD g
    let s := (s.set Reg.CAP_TIME_NS g (s.tb (s.get Reg.TIME_CFG_BASE g))).count Reg.CAP_STATUS_CAP_COUNT g 1
    let s := (s.onTime fun t => { t with capUnread := t.capUnread ||| (1#64 <<< g) }).raise 184
    if unread then (s.setFlag Reg.CAP_STATUS_CAP_OVERRUN g true).raise 185 else s
  else s

/-- `CAP_TIME` has been read. -/
def State.captureRead (s : State) (g : Nat) : State :=
  s.onTime fun t => { t with capUnread := t.capUnread &&& ~~~(1#64 <<< g) }

/-- The next pulse of a trigger output (R588, R589). -/
def State.triggerPulse (s : State) (g : Nat) : State :=
  if s.get Reg.TIME_CFG_FUNC g = 2 ∧ s.gpioTimed g = true then
    match s.trigNext g with
    | none => s
    | some t =>
      let s := (s.waitTb (s.get Reg.TIME_CFG_BASE g) t).trigFrom g (some t)
      s.out (.pulse g (s.get Reg.TRIG_PERIOD_TRIG_WIDTH g) (!s.flag Reg.TIME_CFG_POL g))
  else s

/-- The time registers of a GPIO were written: trigger edges from now on (R588). -/
def State.triggerSetup (s : State) (g : Nat) : State :=
  let now := s.tb (s.get Reg.TIME_CFG_BASE g)
  s.trigFrom g (if now = 0 then none else some (now - 1))

/-- TB_CORRECTION (R572). -/
def execTbCorrection (base : Fin 8) (d : Int) (s : State) : Host.Outcome State Fault Refusal :=
  s.run fun s => s.tbCorrect base.val d

/-- STEP_APPLY (R573). -/
def execStepApply (base : Fin 8) (s : State) : Host.Outcome State Fault Refusal := s.run fun s => s.applyStep base.val

/-- TB_SNAP (R569, R590). -/
def execTbSnap (m : Master) (base other : Fin 8) (s : State) : Host.Outcome State Fault Refusal :=
  s.run fun s => if m = .ranger then (s.tbSnap base.val other.val).answer .done else s.answer .busError

/-- PTP_MESSAGE: a message on a port (R578 to R580). -/
def execPtpMessage (port : Fin 64) (msg : PtpMsg) (s : State) : Host.Outcome State Fault Refusal :=
  s.run fun s => s.ptpMessage port.val msg

/-- PTP_MESSAGE_TIMER: 0 Sync, 1 Announce, 2 delay or peer delay request (R579). -/
def execPtpMessageTimer (base : Fin 4) (port : Fin 64) (kind : Fin 3) (s : State) : Host.Outcome State Fault Refusal :=
  s.run fun s => s.ptpTimer (base.val + 1) port.val kind.val

/-- ANNOUNCE_TIMEOUT (R580). -/
def execAnnounceTimeout (base : Fin 4) (s : State) : Host.Outcome State Fault Refusal :=
  s.run fun s => s.ptpTimeout (base.val + 1)

/-- BRIDGE_FRAME (R583). -/
def execBridgeFrame (port : Fin 64) (fcs : Bool) (frame : List Byte) (s : State) : Host.Outcome State Fault Refusal :=
  s.run fun s => s.bridgeFrame port.val fcs frame

/-- FRAME_LAUNCH (R586). -/
def execFrameLaunch (port : Fin 64) (s : State) : Host.Outcome State Fault Refusal := s.run fun s => s.launch port.val

/-- GATE_INTERVAL_END (R584). -/
def execGateIntervalEnd (port : Fin 64) (s : State) : Host.Outcome State Fault Refusal :=
  s.run fun s => s.gateEnd port.val

/-- GCL_SWITCH (R584). -/
def execGclSwitch (port : Fin 64) (s : State) : Host.Outcome State Fault Refusal := s.run fun s => s.gateChange port.val

/-- TXR_TAIL_WRITE (R587). -/
def execTxrTailWrite (m : Master) (ring : Fin 8) (tail : BitVec 12) (s : State) : Host.Outcome State Fault Refusal :=
  s.run fun s => s.tailWrite m ring.val tail.toNat

/-- CAPTURE_EDGE (R588). -/
def execCaptureEdge (gpio : Fin 64) (rising : Bool) (s : State) : Host.Outcome State Fault Refusal :=
  s.run fun s => s.captureEdge gpio.val rising

/-- TRIGGER_PULSE (R588, R589). -/
def execTriggerPulse (gpio : Fin 64) (s : State) : Host.Outcome State Fault Refusal :=
  s.run fun s => s.triggerPulse gpio.val

end Sys2Proof.Machine
end

