-- ==== Sys2Proof/Machine/Cores.lean ====
section
/-!
DEFINITION. Application cores, the event controller and the halts of harts (R644 to R658, R763).
-/
namespace Sys2Proof.Machine

/-- Core `c`. -/
def State.core (s : State) (c : Nat) : CoreState := s.cores.get CoreState.reset c

/-- Changes a core. -/
def State.onCore (s : State) (c : Nat) (f : CoreState → CoreState) : State :=
  { s with cores := s.cores.put CoreState.reset c (f (s.core c)) }

/-- Ranger is halted: no command is handled (R657). -/
def State.rangerHalted (s : State) : Bool := s.hartHeld 16

/-- The GPIO outputs of core `c` take their safe levels (R655). -/
def State.gpiosSafe (s : State) (c : Nat) : State :=
  match s.cell with
  | none => s
  | some k => (k.gpios.filter fun g => g.core == c).foldl (fun s g =>
      ({ s with time := { s.time with gpioSafe := s.time.gpioSafe ||| (1#64 <<< g.gpio) } }).out (.gpioSafe g.gpio g.safe)) s

/-- A core halts by debug (R655, R656, R658): its watchdog stops. -/
def State.coreHalts (s : State) (c pc : Nat) : State :=
  let s := (s.set Reg.AC_STATE_STATE c 2).onCore c fun k => { k with wdtRan := some (s.ticks - k.wdtAt) }
  (((s.gpiosSafe c).debugLog 3 c pc).raise 32)

/-- CORE_DEBUG_HALT: a stopped core halts at its first instruction. -/
def State.doCoreHalt (s : State) (c pc : Nat) : State :=
  if s.get Reg.AC_STATE_STATE c = 2 then s
  else if s.get Reg.AC_STATE_STATE c = 0 then s.holdHart c true
  else (s.holdHart c true).coreHalts c pc

/-- A halted core resumes; its outputs keep their safe levels (R655). -/
def State.coreResumes (s : State) (c pc : Nat) : State :=
  let s := s.holdHart c false
  if s.get Reg.AC_STATE_STATE c = 2 then
    ((s.set Reg.AC_STATE_STATE c 1).onCore c fun k =>
      { k with wdtAt := s.ticks - k.wdtRan.getD 0, wdtRan := none }).debugLog 4 c pc
  else s

/-- Ranger stops a core (R655, R671). -/
def State.coreStop (s : State) (c : Nat) : State :=
  if s.get Reg.AC_STATE_STATE c = 0 then s
  else
    let s := ((s.set Reg.AC_STATE_STATE c 0).gpiosSafe c).requeueCore c
    (s.onCore c fun _ => CoreState.reset).raise 35

/-- Ranger starts a core at an address in machine mode, `a0` its number and `a1` the base of its local SRAM (R27, R645); a
core that is held halts at its first instruction (R729). -/
def State.coreStart (s : State) (c entry : Nat) : State :=
  let s := s.set Reg.AC_STATE_STATE c 1
  let s := s.onCore c fun _ =>
    { CoreState.reset with entry := BitVec.ofNat 64 entry, a0 := BitVec.ofNat 64 c,
                           a1 := BitVec.ofNat 64 (0xE800000000 + 0x100000 * c), wdtAt := s.ticks }
  let s := s.raise 34
  if s.hartHeld c then s.coreHalts c entry else s

/-- The writer of a core's own registers: the core itself, or Ranger (R659). -/
def coreWriter (m : Master) (c : Nat) : Bool :=
  match m with
  | .ranger => true
  | .core k => k.val == c
  | _ => false

/-- WDT_KICK: the watchdog restarts (R658). -/
def State.doKick (s : State) (m : Master) (c : Nat) (kick : Bool) : State :=
  if coreWriter m c then
    (if kick then s.onCore c fun k => { k with wdtAt := s.ticks, wdtRan := k.wdtRan.map fun _ => 0 } else s).answer .done
  else s.answer .busError

/-- CORE_WATCHDOG_EXPIRY (R658). -/
def State.doCoreWatchdog (s : State) (c : Nat) : State :=
  let us := s.get Reg.AC_WDT_WDT_US c
  if us = 0 ∨ s.get Reg.AC_STATE_STATE c = 2 then s
  else
    let s := s.waitTill ((s.core c).wdtAt + usTicks us)
    ((s.raise 33).setFlag Reg.AC_WDT_WDT_FIRED c true).onCore c fun k => { k with wdtAt := s.ticks }

/-- AC_PEND_CLEAR: bits written 1 fall (R647). -/
def State.doPendClear (s : State) (m : Master) (c w : Nat) (v : Word64) : State :=
  if coreWriter m c then (s.set Reg.AC_PEND_PEND (4 * c + w)
      (s.get Reg.AC_PEND_PEND (4 * c + w) - (BitVec.ofNat 64 (s.get Reg.AC_PEND_PEND (4 * c + w)) &&& v).toNat)).answer .done else s.answer .busError

/-- An event that is listed as reserved (R762). -/
def eventReserved (n : Nat) : Bool :=
  decide ((11 ≤ n ∧ n ≤ 15) ∨ (28 ≤ n ∧ n ≤ 31) ∨ (36 ≤ n ∧ n ≤ 39) ∨ (58 ≤ n ∧ n ≤ 63) ∨ (85 ≤ n ∧ n ≤ 111) ∨
    (142 ≤ n ∧ n ≤ 175) ∨ (187 ≤ n ∧ n ≤ 191) ∨ (212 ≤ n ∧ n ≤ 223) ∨ (234 ≤ n ∧ n ≤ 239))

/-- EV_RAISE: accepted from the application cores and from Ranger (R654). -/
def State.doEvRaise (s : State) (m : Master) (n : Nat) : State :=
  match m with
  | .core _ => (s.raise (240 + n)).answer .done
  | .ranger => (s.raise (240 + n)).answer .done
  | _ => s.answer .busError

/-- MACHINE_TIMER: `mtime` reaches the `mtimecmp` that the core has set (R644, R646). -/
def State.doMachineTimer (s : State) (c : Nat) (cmp : Word64) : State :=
  let s := (s.onCore c fun k => { k with mtimecmp := cmp }).waitTb 5 (8 * cmp.toNat)
  s.onCore c fun k => { k with mtip := decide (cmp.toNat ≤ s.tb 5 / 8) }

/-- Ranger halts; Ranger itself enters that in the log, when it runs again (R657). -/
def State.doRangerHalt (s : State) (pc : Nat) : State :=
  if s.rangerHalted then s
  else { s.holdHart 16 true with boot := { s.boot with rangerPc := pc, rangerUnlogged := true } }

/-- A halt of Ranger that is not in log 2 yet is entered. -/
def State.logRangerHalt (s : State) : State :=
  if s.boot.rangerUnlogged then
    { s.debugLog 3 0x10 s.boot.rangerPc with boot := { s.boot with rangerUnlogged := false } }
  else s

/-- Ranger resumes. -/
def State.rangerResumes (s : State) (pc : Nat) : State :=
  if s.rangerHalted then (((s.holdHart 16 false).logRangerHalt).debugLog 4 0x10 pc) else s

/-- EVENT_RAISE: an event is raised at the targets of its route (R648); reserved events never are, software events only by
`EV_RAISE` (R762, R763). -/
def execEventRaise (n : Fin 256) (s : State) : Host.Outcome State Fault Refusal :=
  s.run fun s => if eventReserved n.val || decide (240 ≤ n.val) then s else s.raise n.val

/-- EV_RAISE. -/
def execEvRaise (m : Master) (n : Fin 16) (s : State) : Host.Outcome State Fault Refusal :=
  s.run fun s => s.doEvRaise m n.val

/-- AC_PEND_CLEAR. -/
def execAcPendClear (m : Master) (core : Fin 16) (w : Fin 4) (v : Word64) (s : State) :
    Host.Outcome State Fault Refusal := s.run fun s => s.doPendClear m core.val w.val v

/-- CORE_WATCHDOG_EXPIRY. -/
def execCoreWatchdogExpiry (core : Fin 16) (s : State) : Host.Outcome State Fault Refusal :=
  s.run fun s => s.doCoreWatchdog core.val

/-- WDT_KICK. -/
def execWdtKick (m : Master) (core : Fin 16) (kick : Bool) (s : State) : Host.Outcome State Fault Refusal :=
  s.run fun s => s.doKick m core.val kick

/-- CORE_DEBUG_HALT, with the program counter of the core. -/
def execCoreDebugHalt (core : Fin 16) (pc : Word64) (s : State) : Host.Outcome State Fault Refusal :=
  s.run fun s => s.doCoreHalt core.val pc.toNat

/-- RANGER_DEBUG_HALT, with its program counter. -/
def execRangerDebugHalt (pc : Word64) (s : State) : Host.Outcome State Fault Refusal :=
  s.run fun s => s.doRangerHalt pc.toNat

/-- MACHINE_TIMER. -/
def execMachineTimer (core : Fin 16) (cmp : Word64) (s : State) : Host.Outcome State Fault Refusal :=
  s.run fun s => s.doMachineTimer core.val cmp

end Sys2Proof.Machine
end

