-- ==== Sys2Proof/Machine/Mbox.lean ====
section
/-!
DEFINITION. Mailboxes: message format (R68 to R71), doorbells and states (R66, R72 to R77), the start of a command with the
checks of R78, sessions (R81 to R84), and the end of a command.
-/
namespace Sys2Proof.Machine

open Status

/-- Mailbox `n`. -/
def State.mb (s : State) (n : Nat) : Mailbox := s.host.mailboxes.get Mailbox.idle n

/-- Changes the host interface. -/
def State.onHost (s : State) (f : HostState → HostState) : State := { s with host := f s.host }

/-- Changes mailbox `n`. -/
def State.onMb (s : State) (n : Nat) (f : Mailbox → Mailbox) : State :=
  s.onHost fun h => { h with mailboxes := h.mailboxes.put Mailbox.idle n (f (h.mailboxes.get Mailbox.idle n)) }

/-- The state of mailbox `n`: 0 IDLE, 1 PENDING, 2 BUSY, 3 DONE. -/
def State.mbState (s : State) (n : Nat) : Nat := s.get Reg.MB_STATE_STATE n

/-- An unsigned field of the message in mailbox `n`. -/
def State.mbAt (s : State) (n o w : Nat) : Nat := leNat ((s.mb n).bytes.getAll 0 o w)

/-- `COMMAND` of the message. -/
def State.mbCode (s : State) (n : Nat) : Nat := s.mbAt n 4 2

/-- `SESSION` of the message. -/
def State.mbSession (s : State) (n : Nat) : Nat := s.mbAt n 12 4

/-- The payload of the message. -/
def State.mbPayload (s : State) (n : Nat) : List Byte := (s.mb n).bytes.getAll 0 32 (min 4064 (s.mbAt n 8 4))

/-- A message with its `CRC` (R69): the header before it, the payload. -/
def sealMessage (head payload : List Byte) : List Byte := head ++ leBytes 4 (crc32c (head ++ zeros 4 ++ payload)) ++ payload

/-- The code of a link in `OWNER`. -/
def Link.code : Link → Nat
  | .pcie => 0
  | .spi => 1
  | .mgmtnet => 2
  | .cores => 3

/-- A link rings mailbox `n`, as its owner or on the idle mailbox 0 (R65, R66). -/
def State.mayRing (s : State) (k : Link) (n : Nat) : Bool :=
  (n == 0 && s.mbState n == 0) || s.get Reg.MB_STATE_OWNER n == Link.code k

/-- A doorbell is ignored (R72, table of state transitions). -/
def State.ringIgnored (s : State) : State := (s.count Reg.DB_IGNORED_COUNT 0 1).raise 49

/-- Mailbox 0 was rung, while it was IDLE, in this clock by a link that comes after `k` in the order PCIe, SPI, MGMTNET, application
cores (R66). -/
def State.outranks (s : State) (k : Link) (n : Nat) : Bool :=
  n == 0 && s.mbState 0 == 1 && (s.mb 0).rung == some s.ticks && decide (Link.code k < s.get Reg.MB_STATE_OWNER 0)

/-- Mailbox 0 is `k`'s, and the doorbell rung before it in this clock is the ignored one (R66; log entry 76). -/
def State.outrank (s : State) (k : Link) : State :=
  let s := (s.set Reg.MB_STATE_OWNER 0 (Link.code k)).onMb 0 fun m =>
    { m with link := k, datagram := none, bytes := m.before.getD m.bytes, before := none }
  s.ringIgnored

/-- The mailbox becomes PENDING (R66, R73). -/
def State.doorbellGo (s : State) (k : Link) (n : Nat) : State :=
  let idle := s.mbState n == 0
  let s := s.set Reg.MB_STATE_STATE n 1
  let s := if n = 0 then s.set Reg.MB_STATE_OWNER 0 (Link.code k) else s
  let s := s.onMb n fun m =>
    { m with link := k, result := none, begun := false, datagram := none, rung := if idle then some s.ticks else none, before := none }
  s.onHost fun h => { h with doorbells := h.doorbells ++ [n] }

/-- A doorbell without ABORT (R66, R72, R73). -/
def State.ring (s : State) (k : Link) (n : Nat) : State :=
  if s.outranks k n then s.outrank k
  else if s.mayRing k n && (s.mbState n == 0 || s.mbState n == 3) then s.doorbellGo k n else s.ringIgnored

/-- A command answers. -/
def State.setResult (s : State) (n : Nat) (r : MbResult) : State :=
  if n < 32 ∧ s.mbState n = 2 ∧ (s.mb n).result = none then s.onMb n fun m => { m with result := some r } else s

/-- A command fails with a code and no payload. -/
def State.setError (s : State) (n e : Nat) : State := s.setResult n ⟨e, []⟩

/-- A command ends OK without payload. -/
def State.setDone (s : State) (n : Nat) : State := s.setResult n ⟨OK, []⟩

/-- The mailbox that waits for something, if there is one, is answered. -/
def State.setErrorOf (s : State) (n : Option Nat) (e : Nat) : State :=
  match n with
  | some n => s.setError n e
  | none => s

/-- The bytes of a slot that receives an image and the mark of its state go when its transfer ends unfinished (R107). -/
def State.dropLoad (s : State) (n : Nat) : State :=
  match (s.mb n).transfer with
  | none => s
  | some t =>
    let s := s.onMb n fun m => { m with transfer := none }
    let slot := uAt t.data 0 1
    if t.command = 0x0301 ∧ (s.flash.slots.get CellSlot.empty slot).state = .loading then
      { s with flash := { s.flash with slots := s.flash.slots.put CellSlot.empty slot CellSlot.empty } }
    else s

/-- The stop code of a command that an abort ends while it is BUSY (R98). -/
def stopCode (code : Nat) : Option Nat :=
  if code = 0x0301 then some E_CELL_STOPPED
  else if code = 0x0A02 then some E_FW_STOPPED
  else if code = 0x0B01 then some E_DIAG_STOPPED
  else if code = 0x0C03 then some E_TWIN_STOPPED
  else none

/-- What a stop does beside the answer (R107, R130, R135). -/
def State.stopEffect (s : State) (n code : Nat) : State :=
  if code = 0x0C03 then
    if s.twin.resyncMb = some n then
      ({ s with twin := { s.twin with resyncMb := none, cut := none, compare := false } }.set Reg.TWIN_STATE_SYNC 0 0).set
        Reg.RESYNC_PROGRESS_PHASE 0 0
    else s
  else s.dropLoad n

/-- The response of mailbox `n` and its state DONE: `EV048`, the vector, the item for the cores, the datagram (R64, R68, R72,
R80, R667). -/
def State.respond (s : State) (n status : Nat) (payload : List Byte) : State :=
  let now := payload.take 4064
  let rest := payload.drop 4064
  let silent := bitOf (s.mbAt n 3 1) 2
  let flags := 1 + 2 * b2n (!rest.isEmpty) + 4 * b2n silent
  let head := leBytes 2 0x4F44 ++ leBytes 1 1 ++ leBytes 1 flags ++ (s.mb n).bytes.getAll 0 4 4 ++ leBytes 4 now.length
    ++ (s.mb n).bytes.getAll 0 12 4 ++ leBytes 2 status ++ zeros 2 ++ (s.mb n).bytes.getAll 0 20 4 ++ zeros 4
  let open' : Option Transfer :=
    if rest.isEmpty then (s.mb n).transfer
    else some { command := s.mbCode n, tag := s.mbAt n 6 2, data := [], next := s.mbAt n 20 4 + now.length,
                reply := some rest, last := s.ticks }
  let s := s.onMb n fun m =>
    { m with bytes := m.bytes.putAll 0 0 (sealMessage head now), result := none, begun := false, transfer := open' }
  let s := ((s.set Reg.MB_STATE_STATE n 3).set Reg.MB_STATE_LAST_STATUS n status).raise 48
  let s := if silent then s else s.msix (s.get Reg.MB_STATE_VECTOR n)
  if s.flag Reg.MB_NOTIFY_EN n && s.get Reg.MB_STATE_OWNER n == 3 then
    let r := s.postSpill (s.get Reg.MB_NOTIFY_PRIO n) (s.get Reg.MB_NOTIFY_FLOW n) 2 1 (BitVec.ofNat 64 n)
      (BitVec.ofNat 64 (status % 65536 + 65536 * s.mbAt n 6 2))
    if r.2 % 65536 = E_FULL then r.1.count Reg.YD_COUNT1_MB_LOST 0 1 else r.1
  else s

/-- An abort (R98, table of state transitions). DESIGN CHOICE (log entry 68): one of a link that does not hold the mailbox is an
ignored doorbell. -/
def State.abort (s : State) (k : Link) (n : Nat) : State :=
  if !s.mayRing k n then s.ringIgnored
  else if s.mbState n = 1 then
    (s.onHost fun h => { h with doorbells := h.doorbells.filter (· != n) }).respond n E_ABORTED []
  else if s.mbState n = 2 ∧ (s.mb n).result = none then
    match stopCode (s.mbCode n) with
    | some e => (s.setError n e).stopEffect n (s.mbCode n)
    | none => s
  else s

/-- Bits of `MB_DONE` written 1 return their mailboxes to IDLE. -/
def State.clearDone (s : State) (mask : Nat) : State :=
  (List.range 32).foldl (fun s n => if bitOf mask n && s.mbState n == 3 then s.set Reg.MB_STATE_STATE n 0 else s) s

/-- A write of `DB_RING`. -/
def State.dbRing (s : State) (k : Link) (v : Nat) : State :=
  if bitOf v 8 then s.abort k (bitsOf v 0 5) else s.ring k (bitsOf v 0 5)

/-- A link writes bytes of mailbox `n` from offset `o` on; they are frozen while it is PENDING or BUSY (R72). -/
def State.mbWrite (s : State) (n o : Nat) (bs : List Byte) : State :=
  if s.mbState n = 1 ∨ s.mbState n = 2 then s else s.onMb n fun m => { m with bytes := m.bytes.putAll 0 o bs }

/-- The command is allowed in the mailbox (R79, R99, R121). -/
def mailboxAllows (r : CmdRow) (n : Nat) (k : Link) : Bool :=
  let g := r.code / 256
  if r.code = 0x0609 ∧ k = .mgmtnet then false
  else if n = 0 then [1, 2, 9, 10, 11].contains g
  else if n < 4 then g == 8 || r.needs == 0
  else g != 8 && r.code != 0x0A02 && r.code != 0x0A03

/-- `SESSION` is an open session of the link. -/
def State.plainSession (s : State) (id : Nat) (k : Link) : Bool := s.host.sessions.any fun x => x.id == id && x.link == k

/-- `SESSION` is the safety session, in a mailbox and on a link where it is valid (R84). -/
def State.safeSession (s : State) (id n : Nat) (k : Link) : Bool :=
  match s.host.safe with
  | some x => x.id == id && x.link == k && decide (1 ≤ n ∧ n < 4)
  | none => false

/-- Checks 8 and 9 of R78 (R81, R84, R95, R100). -/
def State.sessionCheck (s : State) (r : CmdRow) (n : Nat) : Nat :=
  let id := s.mbSession n
  let k := (s.mb n).link
  let needs := if s.mode.mode = .init then 0 else r.needs
  let valid := s.plainSession id k || s.safeSession id n k
  if (id ≠ 0 ∧ !valid) ∨ (needs ≠ 0 ∧ !valid) then E_SESSION
  else if needs = 2 ∧ !s.safeSession id n k then E_SAFE_SESSION
  else OK

/-- The idle time of the session that the command carries starts again (R82, R84). -/
def State.touchSession (s : State) (n : Nat) : State :=
  let id := s.mbSession n
  let k := (s.mb n).link
  let s := s.onHost fun h =>
    { h with sessions := h.sessions.map fun x => if x.id == id && x.link == k then { x with last := s.ticks } else x }
  if s.safeSession id n k then
    s.onHost fun h => { h with safe := h.safe.map fun x => { x with last := s.ticks } }
  else s

/-- Checks 1 to 6 of R78, and the mode during INIT, when only mailbox 0 is served (R67, R100: any other command is `E_MODE`). -/
def State.earlyChecks (s : State) (n : Nat) : Nat × Option CmdRow :=
  let head := (s.mb n).bytes.getAll 0 0 28
  if s.mbAt n 0 2 ≠ 0x4F44 then (E_MAGIC, none)
  else if s.mbAt n 2 1 ≠ 1 then (E_VERSION, none)
  else if 4064 < s.mbAt n 8 4 then (E_LENGTH, none)
  else if crc32c (head ++ zeros 4 ++ s.mbPayload n) ≠ s.mbAt n 28 4 then (E_CRC, none)
  else match cmdRow (s.mbCode n) with
    | none => (E_COMMAND, none)
    | some r =>
      if s.mode.mode = .init ∧ !r.modes.contains .init then (E_MODE, none)
      else if !mailboxAllows r n (s.mb n).link then (E_MAILBOX, none)
      else (OK, some r)

/-- Check 7: the segment continues the open transfer, or opens none out of order (R71). -/
def State.segmentOk (s : State) (n : Nat) : Bool :=
  match (s.mb n).transfer with
  | none => s.mbAt n 20 4 == 0
  | some t => t.command == s.mbCode n && t.tag == s.mbAt n 6 2 && t.next == s.mbAt n 20 4

/-- A jog in RUN on an axis that follows the cell trajectory, which has an answer of its own (R116). -/
def State.jogInRun (s : State) (r : CmdRow) (n : Nat) : Bool :=
  r.code == 0x0406 && s.mode.mode == .run && (s.axes.get AxisState.reset (uAt (s.mbPayload n) 0 1)).traj

/-- Checks 10 and 11: mode and redundancy role (R95, R168). -/
def State.roleCheck (s : State) (r : CmdRow) (n : Nat) : Nat :=
  if !r.modes.contains s.mode.mode && !s.jogInRun r n then E_MODE
  else if r.twin && s.flag Reg.TWIN_CFG_PAIR_EN 0 && s.get Reg.TWIN_STATE_ROLE 0 == 2 then E_ROLE
  else OK

/-- The firmware target or slot that a first segment names is refused (R100, R129, R130, R270, R710, R722). -/
def State.fwTarget (s : State) (target slot : Nat) : Bool :=
  if target = 0 then decide (slot < 2) && s.inMode [.init, .service] && !s.boot.qspi && s.boot.ranger != some slot
  else if s.mode.mode = .init then false
  else if target = 1 then decide (slot ≤ 3)
  else target == 2 && decide (slot < 2)

/-- The checks that the first segment of a load makes (R106, R107, R113, R129). -/
def State.firstSegment (s : State) (code : Nat) (p : List Byte) : Nat :=
  if code = 0x0301 then
    if p.length < 8 then E_LENGTH
    else if 1 < uAt p 0 1 then E_PARAM
    else if uAt p 4 4 < 4096 ∨ 50331648 < uAt p 4 4 then E_CELL_SIZE
    else if s.flash.activeSlot = some (uAt p 0 1) then E_CELL_ACTIVE
    else if (s.flash.slots.get CellSlot.empty (uAt p 0 1)).state = .loading then E_BUSY
    else OK
  else if code = 0x0A02 then
    if p.length < 8 then E_LENGTH else if s.fwTarget (uAt p 0 1) (uAt p 1 1) then OK else E_FW_TARGET
  else OK

/-- The slot that a load begins to fill: a cell image slot shows LOADING (R107), a firmware, program or core slot EMPTY (R722). -/
def State.markLoading (s : State) (code : Nat) (p : List Byte) : State :=
  let f := s.flash
  if code = 0x0301 then
    { s with flash := { f with slots := f.slots.put CellSlot.empty (uAt p 0 1) { CellSlot.empty with state := .loading } } }
  else if code = 0x0A02 ∧ uAt p 0 1 = 0 then
    { s with flash := { f with fwSlots := f.fwSlots.put FwSlot.empty (uAt p 1 1) FwSlot.empty } }
  else if code = 0x0A02 ∧ uAt p 0 1 = 1 then { s with flash := { f with programs := f.programs.put none (uAt p 1 1) none } }
  else if code = 0x0A02 then { s with flash := { f with coreSlots := f.coreSlots.put FwSlot.empty (uAt p 1 1) FwSlot.empty } }
  else s

/-- A segment joins its transfer (R70, R71). The command of the last one follows; every other one is answered OK. -/
def State.takeSegment (s : State) (n : Nat) : State :=
  let p := s.mbPayload n
  let more := bitOf (s.mbAt n 3 1) 1
  let code := s.mbCode n
  match (s.mb n).transfer with
  | some t =>
    match t.reply with
    | some rest => (s.onMb n fun m => { m with transfer := none }).setResult n ⟨OK, rest⟩
    | none =>
      let s := s.onMb n fun m =>
        { m with transfer := some { t with data := t.data ++ p, next := t.next + p.length, last := s.ticks } }
      if more then s.setDone n else s
  | none =>
    let e := s.firstSegment code p
    if e ≠ OK then s.setError n e
    else
      let s := s.markLoading code p
      let loads := code == 0x0301 || code == 0x0A02
      if more || loads then
        let s := s.onMb n fun m =>
          { m with transfer := some { command := code, tag := s.mbAt n 6 2, data := p, next := p.length, reply := none,
                                      last := s.ticks } }
        if more then s.setDone n else s
      else s

/-- The entry code of the change log for a SAFE command that changes state, of R505; none for the others. -/
def changeCode (code : Nat) : Option Nat :=
  match code with
  | 0x0801 => some 0x0002
  | 0x0802 => some 0x0003
  | 0x0803 => some 0x0004
  | 0x0807 => some 0x0010
  | 0x0808 => some 0x0011
  | 0x0809 => some 0x0012
  | 0x080A => some 0x0014
  | 0x080C => some 0x0015
  | 0x080D => some 0x0016
  | 0x080E => some 0x0017
  | _ => none

/-- A request fails a check of R78: a SAFE command that changes state is entered in the change log (R85, R126; DEDUCED for the
checks after the one for its mailbox: log entry 75). -/
def State.refuseStart (s : State) (n e : Nat) : State :=
  let s := match changeCode (s.mbCode n) with
    | some c => s.change c e (Link.code (s.mb n).link) n 0 []
    | none => s
  s.setError n e

/-- A check before the one that finds the command fails: the request is of no known command. -/
def headerError (e : Nat) : Bool := e == E_MAGIC || e == E_VERSION || e == E_LENGTH || e == E_CRC || e == E_COMMAND

/-- The checks of R78 on the request in mailbox `n`, the session's idle time, and the segment. -/
def State.startChecks (s : State) (n : Nat) : State :=
  match s.earlyChecks n with
  | (e, none) => if headerError e then s.setError n e else s.refuseStart n e
  | (_, some r) =>
    if !s.segmentOk n then (s.dropLoad n).refuseStart n E_SEQUENCE
    else
      let e := s.sessionCheck r n
      if e = E_SESSION then s.refuseStart n e
      else
        let s := s.touchSession n
        let e := if e = OK then s.roleCheck r n else e
        if e ≠ OK then s.refuseStart n e else s.takeSegment n

/-- A command that is not long and has not ended is running (R74). -/
def State.rangerBusy (s : State) : Bool :=
  (List.range 32).any fun n => s.mbState n == 2 && !(((cmdRow (s.mbCode n)).map CmdRow.long).getD false)

/-- The first doorbell that is served: in INIT only mailbox 0 (R67, R74). -/
def State.nextDoorbell (s : State) : Option Nat :=
  s.host.doorbells.find? fun n => s.mode.mode != .init || n == 0

/-- COMMAND_START (R74, R78); none while Ranger is halted (R657) or the cut of a resynchronisation holds starts (R610). -/
def State.startCommand (s : State) : State :=
  if s.rangerHalted || s.rangerBusy || s.twin.cut.isSome then s
  else match s.nextDoorbell with
    | none => s
    | some n =>
      let s := s.onHost fun h => { h with doorbells := h.doorbells.filter (· != n) }
      let s := (s.set Reg.MB_STATE_STATE n 2).onMb n fun m => { m with started := s.ticks, begun := false, result := none }
      s.startChecks n

/-- What a command sees and does: state after it and its answer; none where it is DONE only later. -/
abbrev CmdOut := State × Option MbResult

/-- The command ends OK with a payload. -/
def CmdOut.ok (s : State) (p : List Byte) : CmdOut := (s, some ⟨OK, p⟩)

/-- The command ends with a code and has no effect. -/
def CmdOut.fail (s : State) (e : Nat) : CmdOut := (s, some ⟨e, []⟩)

/-- The command is DONE later. -/
def CmdOut.later (s : State) : CmdOut := (s, none)

/-- The whole request payload of a command: that of the mailbox, or that of the transfer it ends (R70). -/
def State.cmdPayload (s : State) (n : Nat) : List Byte :=
  match (s.mb n).transfer with
  | some t => t.data
  | none => s.mbPayload n

/-- An AXIS command takes effect in a mode that does not take it any more (R138); the jog of R116 has an answer of its own. -/
def State.lateMotion (s : State) (code : Nat) (p : List Byte) : Bool :=
  match cmdRow code with
  | some r => code / 256 == 4 && !r.modes.contains s.mode.mode
      && !(code == 0x0406 && s.mode.mode == .run && (s.axes.get AxisState.reset (uAt p 0 1)).traj)
  | none => false

/-- A command's own checks that all share: length (R93), PARK (R103), and for motion the mode in which it takes effect (R138;
`E_MODE` is a DESIGN CHOICE, log entry 77). -/
def State.commonCheck (s : State) (code : Nat) (p : List Byte) : Nat :=
  let len := match cmdRow code with
    | some r => r.len
    | none => none
  let wrong := match len with
    | some k => p.length != k
    | none => false
  if wrong then E_LENGTH
  else if s.parked && (code / 256 == 4 || code / 256 == 5) && code != 0x0401 && code != 0x0501 then E_SYS_PARKED
  else if s.lateMotion code p then E_MODE
  else OK

/-- The command passes over the twin link: one marked A on the ACTIVE unit of a pair whose link is up (R96). -/
def State.passes (s : State) (code : Nat) : Bool :=
  ((cmdRow code).map CmdRow.twin).getD false && s.flag Reg.TWIN_CFG_PAIR_EN 0 && s.token && s.flag Reg.TWIN_STATE_LINK_UP 0

/-- What the message of a command carries: its payload, for a commit with its length before it and the staged set, which each unit
commits, after it (R494; log entry 42). -/
def State.passPayload (s : State) (code : Nat) (p : List Byte) : List Byte :=
  if code = 0x0807 then
    leBytes 4 p.length ++ p ++ match s.host.staged with
      | some c => leBytes 1 (b2n s.host.stagedSeal) ++ c.bytes
      | none => []
  else p

/-- A command marked A goes to the partner, for a cycle start of the next four (R96; which one is free). -/
def State.passCommandOver (s : State) (n code : Nat) (p : List Byte) : State :=
  let p := s.passPayload code p
  let c := s.get Reg.CYCLE_NUM_NUMBER 0 + 1 + s.free % 4
  let m := TwinMsg.command c code n p
  let s := (s.tookFree.out (.twin m)).onTwin fun t => { t with waiting := t.waiting ++ [m] }
  s.onMb n fun m => { m with begun := true }

/-- A command of mailbox `n` takes effect with payload `p`. -/
def State.applyCommand (s : State) (n code : Nat) (p : List Byte) (f : State → Nat → List Byte → CmdOut) : State :=
  let e := s.commonCheck code p
  if e ≠ OK then s.setError n e
  else
    match f s n p with
    | (s, some r) => s.setResult n r
    | (s, none) => s

/-- A command runs: its mailbox is BUSY with it, and it has not begun. -/
def State.command (s : State) (n code : Nat) (f : State → Nat → List Byte → CmdOut) : State :=
  if s.mbState n = 2 ∧ s.mbCode n = code ∧ (s.mb n).result = none ∧ (s.mb n).begun = false ∧ s.rangerHalted = false then
    let p := s.cmdPayload n
    if s.passes code then s.passCommandOver n code p
    else (s.onMb n fun m => { m with begun := true }).applyCommand n code p f
  else s

/-- The tag of a management datagram (R60). -/
def State.mgmtTag (s : State) (key : Nat) (bs : List Byte) : List Byte :=
  match s.flash.mgmtKeys.get none key with
  | some k => kmac256 (leBytes 32 k.toNat) bs mgmtString
  | none => []

/-- A response datagram (R64). -/
def State.answerDatagram (s : State) (key counter n : Nat) (message : List Byte) : State :=
  let b := leBytes 2 0x4F45 ++ leBytes 1 key ++ leBytes 1 n ++ leBytes 8 counter ++ zeros 4 ++ message
  s.out (.datagram (b ++ s.mgmtTag key b))

/-- COMMAND_COMPLETE: the response is written (R72, R74). -/
def State.completeCommand (s : State) (n : Nat) : State :=
  match s.mbState n, (s.mb n).result with
  | 2, some r =>
    let s := if (s.mb n).begun then s.onMb n fun m => { m with transfer := none } else s
    let d := (s.mb n).datagram
    let s := s.respond n r.status r.payload
    match d with
    | some (key, counter) =>
      (s.onMb n fun m => { m with datagram := none }).answerDatagram key counter n
        ((s.mb n).bytes.getAll 0 0 (32 + s.mbAt n 8 4))
    | none => s
  | _, _ => s

end Sys2Proof.Machine
end

