-- ==== Sys2Proof/Machine/RegAccess.lean ====
section
/-!
DEFINITION. Accesses by address: the management space (R31 to R35, R765, R768), BAR 0, halves of 64-bit registers and
points (R22, R23, R346), the data space (R27 to R30), and the point window of BAR 2 (R86 to R91).
-/
namespace Sys2Proof.Machine

/-- Instances of a unit (R32); 0 for a unit that is absent. -/
def unitCount (dom unit : Nat) : Nat :=
  let rows : List (List Nat) :=
    [[1, 1, 1, 1, 1, 64, 1], [1, 1, 32, 1], [8, 1, 1, 1, 1, 1, 1], [16, 1, 1], [64, 64, 96, 16, 32, 16, 8, 1], [8, 8, 8],
     [64, 8, 1, 1, 8], [1, 1, 16, 16, 8, 16, 1, 1, 1]]
  (rows.getD dom []).getD unit 0

/-- The register that a management address names (R31, R33). -/
def mgmtAddr (a : Nat) : Option RegAddr :=
  if a < 0xF000000000 ∨ 0xF080000000 ≤ a then none
  else
    let r : RegAddr := { dom := bitsOf a 28 3, unit := bitsOf a 22 6, inst := bitsOf a 14 8, off := bitsOf a 0 14 }
    if r.inst < unitCount r.dom r.unit then some r else none

/-- Where the fields of a register stand: the star registers of every engine (R566), the status blocks of the last-level
cache and of cell SRAM, the doorbell block of every mailbox instance (R768). -/
def RegAddr.home (a : RegAddr) : RegAddr :=
  if a.dom = 6 ∧ a.unit = 1 ∧ a.off < 0x100 then { a with inst := 0 }
  else if a.dom = 2 ∧ a.unit = 2 then { a with unit := 0, inst := 8 }
  else if a.dom = 2 ∧ a.unit = 1 then { a with unit := 0, inst := 9 }
  else if a.dom = 1 ∧ a.unit = 2 ∧ 0x100 ≤ a.off ∧ a.off < 0x200 then ⟨8, 0, 0, a.off - 0x100⟩
  else a

/-- The GPIO is an axis input of the image (R422). -/
def State.axisGpio (s : State) (g : Nat) : Bool :=
  match s.owner 8 g with
  | some o => o < 64
  | none => false

/-- The master is an application core. -/
def Master.isCore : Master → Bool
  | .core _ => true
  | _ => false

/-- The master may write the register (R267, R531, R566, R590, R611, R638, R659, R684, R707); units with rules of their own
check in those. -/
def State.mayWrite (s : State) (m : Master) (a : RegAddr) : Bool :=
  match a.dom, a.unit with
  | 0, 4 => m == .ranger || a.off == 0xC00 || decide (0x1000 ≤ a.off ∧ a.off < 0x1200)
  | 0, 5 => m == .ranger || (Master.isCore m && !s.axisGpio a.inst)
  | 1, _ => true
  | 3, 0 => m == .ranger || a.off == 0x10
  | 3, 2 =>
    if 0x1000 ≤ a.off ∧ a.off < 0x2100 then ownsPort m ((a.off - 0x1000) / 0x100) else m == .ranger || Master.isCore m
  | 4, 0 => jceWriterOk m
  | 4, _ => true
  | 5, _ => true
  | 6, 2 => m == .ranger || decide (0x100 ≤ a.off ∧ a.off < 0x200 ∧ a.off % 0x20 = 0x10)
  | 7, _ => m == .caldera
  | _, _ => m == .ranger

/-- `OTP_PROG` (R719, R720): a refusal burns nothing. -/
def State.otpProg (s : State) (slot op confirm : Nat) : State :=
  if op ≠ 1 ∧ op ≠ 2 then s
  else if s.mode.mode ≠ .service ∨ confirm ≠ 0x5A4B then s.set Reg.OTP_STATUS_PROG_RESULT 0 3
  else if slot = 0 then s.set Reg.OTP_STATUS_PROG_RESULT 0 4
  else if 4 < slot then s.set Reg.OTP_STATUS_PROG_RESULT 0 2
  else if op = 1 then
    if (s.flash.otpHash.get none slot).isSome || s.flash.otpRevoked.getLsbD (slot - 1) then
      s.set Reg.OTP_STATUS_PROG_RESULT 0 2
    else
      let key := (List.range 328).flatMap fun i => leBytes 4 (s.get Reg.KEY_BUF_WORD i)
      let h := BitVec.ofNat 256 (leNat (sha3 key))
      { s with flash := { s.flash with otpHash := s.flash.otpHash.put none slot (some h),
                                       keyStore := s.flash.keyStore.put none slot (some h) } }.set
        Reg.OTP_STATUS_PROG_RESULT 0 1
  else
    { s with flash := { s.flash with otpRevoked := s.flash.otpRevoked ||| (1#4 <<< (slot - 1)) } }.set
      Reg.OTP_STATUS_PROG_RESULT 0 1

/-- A write in `PLATFORM`. -/
def State.platformWrite (s : State) (m : Master) (a : RegAddr) (v : Nat) : State :=
  if a.unit = 4 ∧ a.off = 0xC00 then s.doEvRaise m (bitsOf v 0 4)
  else if a.unit = 4 ∧ 0x1000 ≤ a.off then
    s.doPendClear m ((a.off - 0x1000) / 32) ((a.off - 0x1000) / 8 % 4) (BitVec.ofNat 64 v)
  else if a.unit = 5 then
    let s := s.writeReg a v
    (if a.off = 0x100 ∨ a.off = 0x118 ∨ a.off = 0x120 then s.triggerSetup a.inst else s).answer .done
  else if a.unit = 6 ∧ a.off = 8 then (s.otpProg (bitsOf v 0 3) (bitsOf v 4 2) (bitsOf v 16 16)).answer .done
  else (s.writeReg a v).answer .done

/-- A write in `HOST` (R768): only application cores reach the doorbell block. -/
def State.hostWrite (s : State) (m : Master) (a : RegAddr) (v : Nat) : State :=
  if a.dom = 8 then
    if !Master.isCore m then s.answer .busError
    else if a.off = 0 then (s.dbRing .cores v).answer .done
    else if a.off = 0x10 then (s.clearDone v).answer .done
    else s.answer .done
  else s.answer .done

/-- A write in `MEMORY` (R629, R632, R638). -/
def State.memoryWrite (s : State) (a : RegAddr) (v : Nat) : State :=
  if a.unit = 4 ∧ a.off = 0x28 then (if bitOf v 0 then s.errPop else s).answer .done
  else if a.unit = 6 then
    let dram := decide (a.off < 0x1000)
    let e := if dram then (a.off - 0x800) / 8 else (a.off - 0x1000) / 8
    (if bitOf v 0 && decide (0x800 ≤ a.off ∧ (dram = true ∨ e < 1352)) then
      s.remapStart dram e (bitsOf v 6 (if dram then 42 else 18)) else s).answer .done
  else (s.writeReg a v).answer .done

/-- A write in the port of the Yarder (R665 to R675). -/
def State.yardPortWrite (s : State) (m : Master) (a : RegAddr) (v : Nat) : State :=
  let p := (a.off - 0x1000) / 0x100
  match a.off % 0x100 with
  | 0x38 => (s.doDone m p (bitsOf v 0 15) (bitsOf v 32 32)).answer .done
  | 0x48 => (s.doArm m p (bitsOf v 0 16) (bitsOf v 16 12) (bitsOf v 28 3) (bitsOf v 32 32)).answer .done
  | 0x50 => (s.doCancel m p (bitsOf v 0 16)).answer .done
  | 0x68 => (s.doFlowCfg m p v).answer .done
  | _ => (s.writeReg a v).answer .done

/-- A write in `COMPUTE`. -/
def State.computeWrite (s : State) (m : Master) (a : RegAddr) (v : Nat) : State :=
  if a.unit = 0 ∧ a.off = 0x10 then s.doKick m a.inst (bitOf v 0)
  else if a.unit = 2 ∧ 0x1000 ≤ a.off ∧ a.off < 0x2100 then s.yardPortWrite m a v
  else (s.writeReg a v).answer .done

/-- A write to a joint engine's block (R267, R268). -/
def State.jceWrite (s : State) (m : Master) (a : RegAddr) (v : Nat) : State :=
  if a.off = 0x08 then
    let s := if bitOf v 0 then s.doJceStart m a.inst else s.answer .done
    if bitOf v 1 then s.doJceStop m a.inst else s
  else if a.off = 0x48 then s.doIndWrite m a.inst (BitVec.ofNat 32 v)
  else (s.writeReg a v).answer .done

/-- A write in `SOLVER` (R195, R203 to R206, R211). -/
def State.solverWrite (s : State) (a : RegAddr) (v : Nat) : State :=
  if a.unit = 2 ∧ (a.off = 0 ∨ (0x1000 ≤ a.off ∧ a.off < 0x2000)) then s.doDqPush a.inst (BitVec.ofNat 64 v)
  else if a.unit = 1 ∧ a.off = 0x100 then
    let s := s.writeReg a v
    let s := if bitOf v 3 then s.doColdNext a.inst else s
    let s := if bitOf v 1 then s.doRunAbort a.inst else s
    (if bitOf v 0 then s.doRunStart a.inst else s).answer .done
  else (s.writeReg a v).answer .done

/-- A write of a port's configuration register: a change restarts the port (R527). -/
def State.portWrite (s : State) (a : RegAddr) (v : Nat) : State :=
  let s' := s.writeReg a v
  (if a.off = 0 ∧ s'.regValue a ≠ s.regValue a then s'.portRestart a.inst else s').answer .done

/-- A write in `NETWORK` (R34, R566, R568, R569, R572, R587, R611). -/
def State.networkWrite (s : State) (m : Master) (a : RegAddr) (v : Nat) : State :=
  match a.unit with
  | 0 => s.portWrite a v
  | 1 => (if a.off < 0x100 ∧ a.inst ≠ 0 then s else s.writeReg a v).answer .done
  | 2 =>
    if 0x100 ≤ a.off ∧ a.off < 0x200 ∧ a.off % 0x20 = 0x10 then s.tailWrite m ((a.off - 0x100) / 0x20) (bitsOf v 16 12)
    else (s.writeReg a v).answer .done
  | 3 => (s.writeReg a v).showRole.answer .done
  | _ =>
    if a.inst = 6 then s.answer .done
    else if a.off = 0x10 then (s.setRate16 a.inst (toS 32 v * 65536 + (bitsOf v 32 16 : Nat))).answer .done
    else if a.off = 0x18 then (s.tbCorrect a.inst (toS 64 v)).answer .done
    else if a.off = 0x40 then (s.tbSnap a.inst (bitsOf v 0 3)).answer .done
    else (s.writeReg a v).answer .done

/-- The unit is without power in PARK (R698): MOTION but its feedback and step front-ends, and SOLVER. -/
def State.unpowered (s : State) (a : RegAddr) : Bool :=
  s.parked && (a.dom == 5 || (a.dom == 4 && a.unit != 1 && a.unit != 4))

/-- A write of a whole register by a master (R33, R35). -/
def State.regWrite (s : State) (m : Master) (a : RegAddr) (v : Nat) : State :=
  if !s.mayWrite m a || s.unpowered a then s.answer .busError
  else
    match a.dom with
    | 0 => s.platformWrite m a v
    | 1 => s.hostWrite m (RegAddr.home a) v
    | 2 => s.memoryWrite (RegAddr.home a) v
    | 3 => s.computeWrite m a v
    | 4 => if a.unit = 0 then s.jceWrite m a v else s.motionWrite m a v s.fineNow
    | 5 => s.solverWrite a v
    | 6 => s.networkWrite m a v
    | _ => s.answer .done

/-- The register at an address is read: its value, and what the read does (R6, R255, R268, R588, R665). -/
def State.regRead (s : State) (m : Master) (a : RegAddr) : State × Nat :=
  let h := RegAddr.home a
  if a.dom = 3 ∧ a.unit = 2 ∧ 0x1000 ≤ a.off ∧ a.off < 0x2100 ∧ (a.off % 0x100 = 0x10 ∨ a.off % 0x100 = 0x20) then
    let p := (a.off - 0x1000) / 0x100
    let s := if a.off % 0x100 = 0x10 then s.doPost m p else s.doTake m p
    match s.bus with
    | .data v => (s, v)
    | _ => (s, 0)
  else if a.dom = 4 ∧ a.unit = 0 ∧ a.off = 0x48 then
    let s := s.doIndRead a.inst
    match s.bus with
    | .data v => (s, v)
    | _ => (s, 0)
  else
    let v := s.regValue h
    let s := if a.dom = 0 ∧ a.unit = 5 ∧ a.off = 0x108 then s.captureRead a.inst else s
    (s.readClears h, v)

/-- A mailbox's bytes in the management space (R768). -/
def mboxBytes (a : RegAddr) : Bool := a.dom == 1 && a.unit == 2 && decide (0x1000 ≤ a.off ∧ a.off < 0x2000)

/-- The half of a 64-bit register that a 4-byte access reaches: the register with the part, none for a narrow register. -/
def halfOf (a : RegAddr) : Option (RegAddr × Bool) :=
  let base : RegAddr := { a with off := a.off / 8 * 8 }
  if wideReg (RegAddr.home base) then some (base, a.off % 8 == 4) else none

/-- The key under which the halves of a register or point are held for a master: its address in the data space. -/
def RegAddr.key (a : RegAddr) : Nat := 0xF000000000 + a.dom * 2 ^ 28 + a.unit * 2 ^ 22 + a.inst * 2 ^ 14 + a.off

/-- Where a master's halves are kept: one place for its points, another for its 64-bit registers, which R22 and R36 do not
count among the points (DESIGN CHOICE, log entry 60). -/
def halfSlot (m : Master) (key : Nat) : Nat := if 0xF000000000 ≤ key then 128 + Master.num m else Master.num m

/-- A 4-byte read of the low half latches the whole value for the master (R22). The low half of another point replaces a
point's shadow, the low half of another register a register's (DESIGN CHOICE, log entry 60: R22 speaks of points only). -/
def State.latchHalf (s : State) (m : Master) (key v : Nat) : State :=
  { s with readShadow := s.readShadow.put none (halfSlot m key) (some (key, v)) }

/-- The shadow of a master for an address, consumed. -/
def State.takeShadow (s : State) (m : Master) (key : Nat) : Option Nat × State :=
  match s.readShadow.get none (halfSlot m key) with
  | some (k, v) =>
    if k = key then (some v, { s with readShadow := s.readShadow.put none (halfSlot m key) none }) else (none, s)
  | none => (none, s)

/-- The register carries `NEWER` in bit 63 (R346). -/
def hasNewer (a : RegAddr) : Bool := (regFields a).any fun h => signFields.contains h.1.id

/-- The high half of a value with `NEWER`. -/
def highHalf (v : Nat) (newer : Option Bool) : Nat :=
  match newer with
  | some b => putBits (v / 2 ^ 32 % 2 ^ 32) 31 1 (b2n b)
  | none => v / 2 ^ 32 % 2 ^ 32

/-- A read of the high half of a 64-bit register (R22, R346): the shadow, or where there is none the present high half,
whose RC fields alone are cleared. -/
def State.regHigh (s : State) (m : Master) (a : RegAddr) : State × Nat :=
  let h := RegAddr.home a
  match s.takeShadow m (RegAddr.key a) with
  | (some v, s) => (s, highHalf v (if hasNewer h then some (s.regValue h != v) else none))
  | (none, s) => (s.readClearsHigh h, highHalf (s.regValue h) (if hasNewer h then some false else none))

/-- A 4-byte read in the management space. The low half of a 64-bit register reads, and clears the RC fields of, the whole
register at once; its high half waits in the shadow, and is lost where another register's low half replaces it (DESIGN
CHOICE, log entry 61: R6 and R22 do not say when the RC fields of the high half clear). -/
def State.read32 (s : State) (m : Master) (a : RegAddr) : State × Nat :=
  if mboxBytes a then (s, leNat ((s.mb a.inst).bytes.getAll 0 (a.off - 0x1000) 4))
  else
    match halfOf a with
    | some (b, true) => s.regHigh m b
    | some (b, false) =>
      let r := s.regRead m b
      (r.1.latchHalf m (RegAddr.key b) r.2, r.2 % 2 ^ 32)
    | none => s.regRead m a

/-- An 8-byte read in the management space: one 64-bit register, or two of 32 bits (R765). -/
def State.read64 (s : State) (m : Master) (a : RegAddr) : State × Nat :=
  if mboxBytes a then (s, leNat ((s.mb a.inst).bytes.getAll 0 (a.off - 0x1000) 8))
  else
    let r := s.regRead m a
    if (halfOf a).isSome then r
    else
      let q := r.1.regRead m { a with off := a.off + 4 }
      (q.1, r.2 % 2 ^ 32 + q.2 % 2 ^ 32 * 2 ^ 32)

/-- A low half is held; a held half of another point is dropped and counted (R23, R36). A held half of a register is
replaced by another register's and not counted (DESIGN CHOICE, log entry 60: R36 counts points). -/
def State.holdLow (s : State) (m : Master) (key v : Nat) : State :=
  let drop := match s.writeHeld.get none (halfSlot m key) with
    | some (k, _) => k != key && decide (key < 0xF000000000)
    | none => false
  let s := if drop then s.count Reg.HALF_DROP_COUNT 0 1 else s
  { s with writeHeld := s.writeHeld.put none (halfSlot m key) (some (key, v % 2 ^ 32)) }

/-- The held low half of an address, given up. -/
def State.takeLow (s : State) (m : Master) (key : Nat) : Option Nat × State :=
  match s.writeHeld.get none (halfSlot m key) with
  | some (k, v) => if k = key then (some v, { s with writeHeld := s.writeHeld.put none (halfSlot m key) none }) else (none, s)
  | none => (none, s)

/-- A 4-byte write in the management space (R23, R765). A lone high half of a 64-bit register has no effect and is not counted
in `HALF_DROP` (DESIGN CHOICE, log entry 60: R23 and R36 count those of points). -/
def State.write32 (s : State) (m : Master) (a : RegAddr) (v : Nat) : State :=
  if mboxBytes a then
    if Master.isCore m then (s.mbWrite a.inst (a.off - 0x1000) (leBytes 4 v)).answer .done else s.answer .busError
  else
    match halfOf a with
    | some (b, high) =>
      if !s.mayWrite m b then s.answer .busError
      else if !high then (s.holdLow m (RegAddr.key b) v).answer .done
      else
        match s.takeLow m (RegAddr.key b) with
        | (some low, s) => s.regWrite m b (low + v % 2 ^ 32 * 2 ^ 32)
        | (none, s) => s.answer .done
    | none => s.regWrite m a (v % 2 ^ 32)

/-- An 8-byte write in the management space (R765). -/
def State.write64 (s : State) (m : Master) (a : RegAddr) (v : Nat) : State :=
  if mboxBytes a then
    if Master.isCore m then (s.mbWrite a.inst (a.off - 0x1000) (leBytes 8 v)).answer .done else s.answer .busError
  else if (halfOf a).isSome then s.regWrite m a v
  else
    let s := s.regWrite m a (v % 2 ^ 32)
    if s.bus = .busError then s
    else if (regFields (RegAddr.home { a with off := a.off + 4 })).isEmpty then s
    else s.regWrite m { a with off := a.off + 4 } (v / 2 ^ 32)

/-- The vectors whose mask is clear and whose pending bit is set are signalled. -/
def State.msixFlush (s : State) : State :=
  if s.host.msixOn then
    (List.range 64).foldl (fun s v =>
      if s.host.msixPending.getLsbD v && !bitOf (s.host.msixTable.get 0 (16 * v + 12)).toNat 0 then
        (s.onHost fun h => { h with msixPending := h.msixPending &&& ~~~(1#64 <<< v) }).out (.msix v)
      else s) s
  else s

/-- The doorbell block or `MB_STATE` register at a BAR 0 offset. -/
def barReg (o : Nat) : RegAddr :=
  if o < 0x20100 then ⟨8, 0, 0, o - 0x20000⟩ else ⟨1, 2, (o - 0x20100) / 4, 0⟩

/-- A grant as the grant table shows it (R86). -/
def State.grantWord (s : State) (i : Nat) : Nat :=
  match s.host.grants.get none i with
  | some g => g.first + g.last * 2 ^ 20 + g.right * 2 ^ 40
  | none => 0

/-- The byte at a BAR 0 offset. -/
def State.barByte (s : State) (o : Nat) : Byte :=
  if o < 0x20000 then (s.mb (o / 4096)).bytes.get 0 (o % 4096)
  else if o < 0x20180 then BitVec.ofNat 8 (s.regValue (barReg (o / 4 * 4)) / 2 ^ (8 * (o % 4)))
  else if 0x21000 ≤ o ∧ o < 0x21400 then s.host.msixTable.get 0 (o - 0x21000)
  else if 0x22000 ≤ o ∧ o < 0x22008 then BitVec.ofNat 8 (s.host.msixPending.toNat / 2 ^ (8 * (o - 0x22000)))
  else if 0x23000 ≤ o ∧ o < 0x23080 then
    BitVec.ofNat 8 (s.grantWord ((o - 0x23000) / 8) / 2 ^ (8 * (o % 8)))
  else 0

/-- Bytes are read from BAR 0; RC fields of the registers that the read touches are cleared. -/
def State.barRead (s : State) (o n : Nat) : State × List Byte :=
  let bs := (List.range n).map fun i => s.barByte (o + i)
  let s := (List.range 96).foldl (fun (s : State) w =>
    let a := 0x20000 + 4 * w
    if a < o + n ∧ o < a + 4 then s.readClears (barReg a) else s) s
  (s, bs)

/-- The doorbell block and `VECTOR` take a write of the bytes `v` of one register; `mask` marks the bytes written. -/
def State.barRegWrite (s : State) (k : Link) (o v mask : Nat) : State :=
  if o = 0x20000 then s.dbRing k v
  else if o = 0x20010 then s.clearDone v
  else if 0x20100 ≤ o ∧ o < 0x20180 ∧ bitOf mask 1 = true then s.set Reg.MB_STATE_VECTOR ((o - 0x20100) / 4) (bitsOf v 8 6)
  else s

/-- Bytes are written to BAR 0 over a link: first the memories in it, then its registers in rising order. -/
def State.barWrite (s : State) (k : Link) (o : Nat) (bs : List Byte) : State :=
  let s := bs.zipIdx.foldl (fun (s : State) e =>
    let a := o + e.2
    if a < 0x20000 then s.mbWrite (a / 4096) (a % 4096) [e.1]
    else if 0x21000 ≤ a ∧ a < 0x21400 then s.onHost fun h => { h with msixTable := h.msixTable.put 0 (a - 0x21000) e.1 }
    else s) s
  let s := s.msixFlush
  (List.range 96).foldl (fun (s : State) w =>
    let a := 0x20000 + 4 * w
    let mask := (List.range 4).foldl (fun m i => if o ≤ a + i ∧ a + i < o + bs.length then m + 2 ^ i else m) 0
    let v := leNat ((List.range 4).map fun i => if bitOf mask i then bs.getD (a + i - o) 0 else 0)
    if mask = 0 then s else s.barRegWrite k a v mask) s

/-- The point at a point-window address, with the byte within it. -/
def windowPoint (a : Nat) : Option (Nat × Nat) :=
  if 0xE380000000 ≤ a ∧ a < 0xE380800000 then some ((a - 0xE380000000) / 8, a % 8) else none

/-- The widest right of the grants that cover a point (R86). -/
def State.grantRight (s : State) (p : Nat) : Nat :=
  (List.range 16).foldl (fun r i =>
    match s.host.grants.get none i with
    | some g => if g.first ≤ p ∧ p ≤ g.last then max r g.right else r
    | none => r) 0

/-- A BAR 2 access is refused (R89). -/
def State.windowDenied (s : State) (p : Nat) : State :=
  ((s.count Reg.WIN_DENIED_COUNT 0 1).set Reg.WIN_LAST_POINT 0 p).raise 50

/-- A refused BAR 2 write also counts among the refused point writes (R36). -/
def State.windowWriteDenied (s : State) (p : Nat) : State := (s.windowDenied p).pointDenied .pcie p

/-- A BAR 2 read of a whole point (R89, R90); a poisoned point reads as all ones (R622). -/
def State.windowRead (s : State) (p : Nat) : State :=
  if s.grantRight p = 0 then (s.windowDenied p).answer (.data (2 ^ 64 - 1))
  else s.answer (.data (if s.pointPoisoned p then 2 ^ 64 - 1 else s.point p))

/-- A BAR 2 write of a whole point that has a right: passed over on a synchronised ACTIVE unit (R606). -/
def State.windowStore (s : State) (p v : Nat) : State :=
  if s.pairSync && s.flag Reg.TWIN_STATE_LINK_UP 0 then
    let c := s.get Reg.CYCLE_NUM_NUMBER 0 + 1 + s.free % 4
    let m := TwinMsg.window c p v
    (s.tookFree.out (.twin m)).onTwin fun t => { t with waiting := t.waiting ++ [m] }
  else s.putPoint p v

/-- A BAR 2 write may take effect: a write right, and on a synchronised pair the ACTIVE unit (R89, R606). -/
def State.windowMay (s : State) (p : Nat) : Bool := s.grantRight p == 2 && (!s.pairSync || s.token)

/-- A BAR 2 write (R89, R90); `whole`: an aligned write of 8 bytes. -/
def State.windowWrite (s : State) (p v : Nat) (whole : Bool) : State :=
  if whole && s.windowMay p then (s.windowStore p v).answer .done else (s.windowWriteDenied p).answer .done

/-- The key of a point for its halves. -/
def pointKey (p : Nat) : Nat := 0xE380000000 + 8 * p

/-- A 4-byte read of the low half of a point (R22, R90). -/
def State.pointLow (s : State) (m : Master) (p : Nat) : State :=
  if m = .pcie ∧ s.grantRight p = 0 then (s.windowDenied p).answer (.data (2 ^ 32 - 1))
  else (s.latchHalf m (pointKey p) (s.point p)).answer (.data (s.point p % 2 ^ 32))

/-- A 4-byte read of the high half of a point. -/
def State.pointHigh (s : State) (m : Master) (p : Nat) : State :=
  if m = .pcie ∧ s.grantRight p = 0 then (s.windowDenied p).answer (.data (2 ^ 32 - 1))
  else
    match s.takeShadow m (pointKey p) with
    | (some v, s) => s.answer (.data (v / 2 ^ 32))
    | (none, s) => s.answer (.data (s.point p / 2 ^ 32))

/-- A 4-byte write of the low half of a point (R23). -/
def State.pointHoldLow (s : State) (m : Master) (p v : Nat) : State :=
  if m = .pcie ∧ s.windowMay p = false then (s.windowWriteDenied p).answer .done
  else (s.holdLow m (pointKey p) v).answer .done

/-- A 4-byte write of the high half of a point (R23, R36). -/
def State.pointCommitHigh (s : State) (m : Master) (p v : Nat) : State :=
  if m = .pcie ∧ s.windowMay p = false then (s.windowWriteDenied p).answer .done
  else
    match s.takeLow m (pointKey p) with
    | (some low, s) =>
      let w := low + v % 2 ^ 32 * 2 ^ 32
      if m = .pcie then (s.windowStore p w).answer .done else s.writePoint m p w
    | (none, s) => (s.count Reg.HALF_DROP_COUNT 0 1).answer .done

/-- The address lies in the Landing (R677). -/
def State.inLanding (s : State) (a : Nat) : Bool :=
  s.flag Reg.REGION_CFG_VALID 63 && decide (s.get Reg.REGION_BASE_BASE 63 ≤ a ∧
    a < s.get Reg.REGION_BASE_BASE 63 + s.get Reg.REGION_SIZE_SIZE 63)

/-- Byte `o` of the tile stores, counted over the eight tiles (R27). -/
def State.tileByte (s : State) (o : Nat) : Byte :=
  BitVec.ofNat 8 (((s.tile (o / 0x200000)).store.get 0 (o % 0x200000 / 4)).toNat / 2 ^ (8 * (o % 4)))

/-- One byte of the tile stores is written (R30). -/
def State.tilePut (s : State) (o : Nat) (b : Byte) : State :=
  let w := ((s.tile (o / 0x200000)).store.get 0 (o % 0x200000 / 4)).toNat
  s.storeAll (o / 0x200000) [(o % 0x200000 / 4, BitVec.ofNat 32 (putBits w (8 * (o % 4)) 8 b.toNat))]

/-- A write of `n` bytes in the data space outside points and registers (R27, R29, R30, R174, R636, R677). -/
def State.dataWrite (s : State) (m : Master) (a n v : Nat) : State :=
  if a + n ≤ 0x200000000 then
    if s.parked then s.parkAccess a
    else if s.inLanding a then s.answer .busError
    else (s.memPut a (leBytes n v)).answer .done
  else if csramBase ≤ a ∧ a + n ≤ csramBase + 0x3800000 then
    if a < csramBase + 0x2000000 ∧ m ≠ .ranger ∧ m ≠ .sawmill then s.answer .busError
    else (s.memPut a (leBytes n v)).answer .done
  else if 0xE800000000 ≤ a ∧ a + n ≤ 0xE801000000 then (s.memPut a (leBytes n v)).answer .done
  else if 0xEC00000000 ≤ a ∧ a + n ≤ 0xEC01000000 ∧ (m = .ranger ∨ m = .sawmill) ∧ s.parked = false then
    ((leBytes n v).zipIdx.foldl (fun (s : State) e => s.tilePut (a - 0xEC00000000 + e.2) e.1) s).answer .done
  else s.answer .busError

/-- A read of `n` bytes in the data space outside points and registers. -/
def State.dataRead (s : State) (a n : Nat) : State :=
  if a + n ≤ 0x200000000 then (if s.parked then s.parkAccess a else s.answer (.data (leNat (s.memGet a n))))
  else if csramBase ≤ a ∧ a + n ≤ csramBase + 0x3800000 then s.answer (.data (leNat (s.memGet a n)))
  else if csramBase + 0x3800000 ≤ a ∧ a + n ≤ csramBase + 0x4000000 then
    s.answer (.data (leNat ((List.range n).map fun i => s.pointByte (a - csramBase - 0x3800000 + i))))
  else if 0xE800000000 ≤ a ∧ a + n ≤ 0xE801000000 then s.answer (.data (leNat (s.memGet a n)))
  else if 0xEC00000000 ≤ a ∧ a + n ≤ 0xEC01000000 then
    s.answer (.data (leNat ((List.range n).map fun i => s.tileByte (a - 0xEC00000000 + i))))
  else s.answer .busError

/-- A write of `n` bytes at address `a`: a BAR 0 offset for the host, an address of the data space for the others. Points
take the widths of `busRead` (log entry 62). -/
def State.busWrite (s : State) (m : Master) (a n v : Nat) : State :=
  if m = .pcie then (s.barWrite .pcie a (leBytes n v)).answer .done
  else
    match windowPoint a with
    | some (p, 0) => if n = 8 then s.writePoint m p v else if n = 4 then s.pointHoldLow m p v else s.answer .busError
    | some (p, 4) => if n = 4 then s.pointCommitHigh m p v else s.answer .busError
    | some _ => s.answer .busError
    | none =>
      if 0xF000000000 ≤ a then
        match mgmtAddr a with
        | none => s.answer .busError
        | some r =>
          if n = 4 ∧ a % 4 = 0 then s.write32 m r v else if n = 8 ∧ a % 8 = 0 then s.write64 m r v else s.answer .busError
      else s.dataWrite m a n v

/-- A read of `n` bytes at address `a`. An on-chip access to a point that is neither 8 bytes nor one half completes with a
bus error (DESIGN CHOICE, log entry 62: the manual gives points only those widths). -/
def State.busRead (s : State) (m : Master) (a n : Nat) : State :=
  if m = .pcie then
    let r := s.barRead a n
    r.1.answer (.data (leNat r.2))
  else
    match windowPoint a with
    | some (p, 0) => if n = 8 then s.answer (.data (s.point p)) else if n = 4 then s.pointLow m p else s.answer .busError
    | some (p, 4) => if n = 4 then s.pointHigh m p else s.answer .busError
    | some _ => s.answer .busError
    | none =>
      if 0xF000000000 ≤ a then
        match mgmtAddr a with
        | none => s.answer .busError
        | some r =>
          if n = 4 ∧ a % 4 = 0 then
            let q := s.read32 m r
            q.1.answer (.data q.2)
          else if n = 8 ∧ a % 8 = 0 then
            let q := s.read64 m r
            q.1.answer (.data q.2)
          else s.answer .busError
      else s.dataRead a n

/-- A row for halves: for the host an offset of BAR 2, for the others an address. -/
def halfAddr (m : Master) (a : Nat) : Nat := if m = .pcie then 0xE380000000 + a % 0x800000 else a

/-- The 4-byte read of a half. -/
def State.halfRead (s : State) (m : Master) (a : Nat) : State :=
  if m = .pcie then
    match windowPoint (halfAddr m a) with
    | some (p, 0) => s.pointLow m p
    | some (p, 4) => s.pointHigh m p
    | _ => s.answer .busError
  else s.busRead m a 4

/-- The 4-byte write of a half. -/
def State.halfWrite (s : State) (m : Master) (a v : Nat) : State :=
  if m = .pcie then
    match windowPoint (halfAddr m a) with
    | some (p, 0) => s.pointHoldLow m p v
    | some (p, 4) => s.pointCommitHigh m p v
    | some (p, _) => (s.windowWriteDenied p).answer .done
    | none => s.answer .done
  else s.busWrite m a 4 v

/-- WINDOW_READ (R89). -/
def execWindowRead (point : BitVec 20) (s : State) : Host.Outcome State Fault Refusal :=
  s.run fun s => s.windowRead point.toNat

/-- WINDOW_WRITE (R89, R90). -/
def execWindowWrite (point : BitVec 20) (v : Word64) (whole : Bool) (s : State) : Host.Outcome State Fault Refusal :=
  s.run fun s => s.windowWrite point.toNat v.toNat whole

/-- A 64-bit write of a point by any master, under the rules of its path (R24, R26, R89, R260, R766). -/
def State.pointStore (s : State) (m : Master) (p v : Nat) : State :=
  match m with
  | .pcie => s.windowWrite p v true
  | .jce k => if s.jownsPoint k.val p then s.putPoint p v else s.ptRefused k.val p
  | _ => s.writePoint m p v

/-- POINT_WRITE (R26, R260, R766). -/
def execPointWrite (m : Master) (point : BitVec 20) (v : Word64) (s : State) : Host.Outcome State Fault Refusal :=
  s.run fun s => s.pointStore m point.toNat v.toNat

/-- POINT_HALF_WRITE_LOW (R23): `a` is the address of the point or register, whose low half is written. -/
def execPointHalfWriteLow (m : Master) (a : BitVec 40) (v : Word32) (s : State) : Host.Outcome State Fault Refusal :=
  s.run fun s => s.halfWrite m (a.toNat / 8 * 8) v.toNat

/-- POINT_HALF_WRITE_HIGH (R23). -/
def execPointHalfWriteHigh (m : Master) (a : BitVec 40) (v : Word32) (s : State) : Host.Outcome State Fault Refusal :=
  s.run fun s => s.halfWrite m (a.toNat / 8 * 8 + 4) v.toNat

/-- SPLIT_READ_LOW (R22). -/
def execSplitReadLow (m : Master) (a : BitVec 40) (s : State) : Host.Outcome State Fault Refusal :=
  s.run fun s => s.halfRead m (a.toNat / 8 * 8)

/-- SPLIT_READ_HIGH (R22, R346). -/
def execSplitReadHigh (m : Master) (a : BitVec 40) (s : State) : Host.Outcome State Fault Refusal :=
  s.run fun s => s.halfRead m (a.toNat / 8 * 8 + 4)

/-- RC_READ: a read of 1 to 8 bytes; it clears the RC fields that it reads (R6, R8). -/
def execRcRead (m : Master) (a : BitVec 40) (bytes : Fin 9) (s : State) : Host.Outcome State Fault Refusal :=
  s.run fun s => s.busRead m a.toNat bytes.val

/-- REGISTER_WRITE (R6, R33, R35, R765, R768). -/
def execRegisterWrite (m : Master) (a : BitVec 40) (bytes : Fin 9) (v : Word64) (s : State) :
    Host.Outcome State Fault Refusal :=
  s.run fun s => s.busWrite m a.toNat bytes.val v.toNat

end Sys2Proof.Machine
end

