-- ==== Sys2Proof/Machine/HostRows.lean ====
section
/-!
DEFINITION. The host links' events: doorbells, SPI transactions (R56, R57), management datagrams (R59 to R64), the start and
the end of commands (R72, R74), and what runs out with time (R71, R82, R84, R85).
-/
namespace Sys2Proof.Machine

open Status

/-- The level of `SPI_IRQ_N` is low (R58). -/
def State.spiIrqLow (s : State) : Bool :=
  (List.range 32).any fun n => s.mbState n == 3 && s.get Reg.MB_STATE_OWNER n == 1 && !bitOf (s.mbAt n 3 1) 2

/-- The bytes of an SPI transfer that lie below offset 0x2_0200 (R57). -/
def spiSpan (o n : Nat) : Nat := min n (0x20200 - o)

/-- SPI READ: bytes beyond the offset space read as 0. -/
def State.spiRead (s : State) (o n : Nat) : State :=
  let k := spiSpan o n
  let r := s.barRead o k
  r.1.out (.spi (r.2 ++ zeros (n - k)))

/-- A response that repeats the request's header and carries a status (R63). -/
def refusalMessage (req : List Byte) (status : Nat) (payload : List Byte) : List Byte :=
  let head := leBytes 2 0x4F44 ++ leBytes 1 1 ++ leBytes 1 (1 + 4 * b2n (bitOf (uAt req 3 1) 2)) ++ (req.drop 4).take 4
    ++ leBytes 4 payload.length ++ (req.drop 12).take 4 ++ leBytes 2 status ++ zeros 2 ++ (req.drop 20).take 4 ++ zeros 4
  sealMessage head payload

/-- A datagram passes the checks of R61. -/
def State.datagramAuth (s : State) (d : List Byte) : Bool :=
  let body := d.take (d.length - 32)
  let key := uAt d 2 1
  decide (80 ≤ d.length) && uAt d 0 2 == 0x4F45 && decide (key < 2) && (s.flash.mgmtKeys.get none key).isSome
    && s.mgmtTag key body == d.drop (d.length - 32)

/-- An authentic datagram (R63). DESIGN CHOICE (log entry 66): one whose mailbox number is 32 or more is ignored like a doorbell from a
link that is not the owner, without a response; one that its mailbox refuses still counts as the last accepted one. -/
def State.datagramTake (s : State) (d : List Byte) : State :=
  let key := uAt d 2 1
  let n := uAt d 3 1
  let counter := uAt d 4 8
  let number := counter % 2 ^ 32
  let req := (d.drop 16).take (d.length - 48)
  if counter / 2 ^ 32 ≠ s.flash.bootEpoch % 2 ^ 32 then
    s.answerDatagram key counter n (refusalMessage req E_EPOCH (leBytes 4 s.flash.bootEpoch))
  else if number + 1 ≤ s.host.lastNumber.get 0 key then (s.count Reg.MGMT_REPLAY 0 1).raise 57
  else
    let s := s.onHost fun h => { h with lastNumber := h.lastNumber.put 0 key (number + 1) }
    if 32 ≤ n then s.ringIgnored
    else if s.mbState n = 1 ∨ s.mbState n = 2 then
      s.ringIgnored.answerDatagram key counter n (refusalMessage req E_BUSY [])
    else if !s.mayRing .mgmtnet n then s.ringIgnored
    else
      let was := (s.mb n).bytes
      ((s.mbWrite n 0 (req.take 4096)).ring .mgmtnet n).onMb n fun m =>
        { m with datagram := some (key, counter), before := some was }

/-- The management function takes a packet of a port (R59): it is enabled, on an Ethernet port that the command named, for its
address and port, over IPv4 and not fragmented. -/
def State.mgmtTakes (s : State) (p : Nat) (k : IpPacket) : Bool :=
  s.host.mgmtOn && s.host.mgmtPorts.getLsbD p && s.link p == linkUp && s.get Reg.PORT_STATUS_PERSONALITY p == 1
    && !k.ipv6 && !k.fragment && k.dest.toNat == s.host.mgmtIp && k.udp.toNat == 41690

/-- A UDP management datagram on a port (R59 to R63). -/
def State.datagramIn (s : State) (p : Nat) (k : IpPacket) : State :=
  if s.mgmtTakes p k = false then s
  else if s.datagramAuth k.payload then s.datagramTake k.payload else (s.count Reg.MGMT_AUTH_FAIL 0 1).raise 53

/-- The tick at which a session ends without a command. -/
def Session.due (x : Session) : Nat := x.last + msTicks (1000 * x.idle)

/-- The session that ends first. -/
def State.firstSession (s : State) : Option Session :=
  s.host.sessions.foldl (fun d x => match d with
    | some y => if Session.due x < Session.due y then some x else some y
    | none => some x) none

/-- SESSION_EXPIRED (R82): the session that ends first. -/
def State.sessionExpires (s : State) : State :=
  match s.firstSession with
  | none => s
  | some x =>
    let s := s.waitTill (Session.due x)
    (s.onHost fun h => { h with sessions := h.sessions.filter fun y => y.id != x.id }).raise 54

/-- The safety session closes: its staged set goes (R492), the change log has an entry of code 0x0003. -/
def State.closeSafe (s : State) (link mailbox detail : Nat) : State :=
  (s.onHost fun h => { h with safe := none, restricted := false, staged := none, stagedSeal := false }).change 0x0003 0 link
    mailbox detail []

/-- SAFE_SESSION_EXPIRED (R84). -/
def State.safeExpires (s : State) : State :=
  match s.host.safe with
  | none => s
  | some x => ((s.waitTill (x.last + msTicks 600000)).closeSafe (Link.code x.link) 0xFF 1).raise 54

/-- The mailboxes that wait for the next segment of a transfer, with the tick at which it is discarded. -/
def State.openTransfers (s : State) : List (Nat × Nat) :=
  (List.range 32).filterMap fun n =>
    match (s.mb n).transfer with
    | some t => if s.mbState n = 2 then none else some (t.last + msTicks 5000, n)
    | none => none

/-- The earlier of two instants. -/
def earlierOf (l : List (Nat × Nat)) : Option (Nat × Nat) :=
  l.foldl (fun d x => match d with
    | some y => if x.1 < y.1 then some x else some y
    | none => some x) none

/-- TRANSFER_TIMEOUT (R71): the transfer whose time runs out first. -/
def State.transferTimeout (s : State) : State :=
  match earlierOf s.openTransfers with
  | none => s
  | some (t, n) => (s.waitTill t).dropLoad n

/-- DOORBELL. -/
def execDoorbell (link : Link) (mb : Fin 32) (s : State) : Host.Outcome State Fault Refusal :=
  s.run fun s => s.ring link mb.val

/-- MAILBOX_ABORT. -/
def execMailboxAbort (link : Link) (mb : Fin 32) (s : State) : Host.Outcome State Fault Refusal :=
  s.run fun s => s.abort link mb.val

/-- MB_DONE_CLEAR. -/
def execMbDoneClear (mask : Word32) (s : State) : Host.Outcome State Fault Refusal := s.run fun s => s.clearDone mask.toNat

/-- An SPI transaction as its bytes spell it (R56, R57). -/
inductive SpiOp where
  | write (offset : Nat) (bytes : List Byte)
  | read (offset count : Nat)
  | status (count : Nat)
  | ring (v : Nat)
  | clear (mask : Nat)
  | malformed
  | nothing
deriving DecidableEq, Repr, Inhabited

/-- What the bytes that the host sends between the edges of `SPI_CS_N` ask for (R55 to R57). Bytes after the last one that an opcode
uses are ignored. A transaction without a byte has no opcode and no effect (DESIGN CHOICE, log entry 72). -/
def spiOp (t : List Byte) : SpiOp :=
  match t with
  | [] => .nothing
  | op :: rest =>
    let need := fun (n : Nat) (o : SpiOp) => if rest.length < n then .malformed else o
    match op.toNat with
    | 0x02 => need 3 (.write (uAt rest 0 3) (rest.drop 3))
    | 0x0B => need 3 (.read (uAt rest 0 3) (rest.length - 4))
    | 0x05 => .status (min 8 rest.length)
    | 0x4D => need 1 (.ring (uAt rest 0 1))
    | 0x4E => need 4 (.clear (uAt rest 0 4))
    | _ => .malformed

/-- An SPI transaction takes effect (R56 to R58). -/
def State.spiTake (s : State) (t : List Byte) : State :=
  match spiOp t with
  | .write o bs => s.barWrite .spi o (bs.take (spiSpan o bs.length))
  | .read o n => s.spiRead o n
  | .status n => s.out (.spi ((leBytes 4 (s.mbMask 1 + s.mbMask 2) ++ leBytes 4 (s.mbMask 3)).take n))
  | .ring v => s.dbRing .spi (v % 32 + 256 * b2n (bitOf v 7))
  | .clear m => s.clearDone m
  | .malformed => (s.count Reg.SPI_FRAME_ERR 0 1).raise 56
  | .nothing => s

/-- SPI_WRITE: opcode 0x02, the bytes of its offset that the host sends, and the bytes after them. -/
def execSpiWrite (offset bytes : List Byte) (s : State) : Host.Outcome State Fault Refusal :=
  s.run fun s => s.spiTake (0x02 :: (offset ++ bytes))

/-- SPI_READ: opcode 0x0B, the bytes of its offset that the host sends, and the number of bytes that it clocks after them: the
dummy byte and the bytes out. -/
def execSpiRead (offset : List Byte) (n : Nat) (s : State) : Host.Outcome State Fault Refusal :=
  s.run fun s => s.spiTake (0x0B :: (offset ++ zeros n))

/-- SPI_STATUS: opcode 0x05, and a byte for each of the eight that are clocked out. -/
def execSpiStatus (s : State) : Host.Outcome State Fault Refusal := s.run fun s => s.spiTake (0x05 :: zeros 8)

/-- SPI_RING: opcode 0x4D. -/
def execSpiRing (rest : List Byte) (s : State) : Host.Outcome State Fault Refusal := s.run fun s => s.spiTake (0x4D :: rest)

/-- SPI_CLEAR: opcode 0x4E. -/
def execSpiClear (rest : List Byte) (s : State) : Host.Outcome State Fault Refusal := s.run fun s => s.spiTake (0x4E :: rest)

/-- SPI_MALFORMED: a transaction of an unknown opcode. Which ones are known, `spiOp` says; a transaction of a known opcode that
ends too early is malformed by its own row, and every malformed one has the same effect. -/
def execSpiMalformed (s : State) : Host.Outcome State Fault Refusal := s.run fun s => s.spiTake [0x00]

/-- MANAGEMENT_DATAGRAM. -/
def execManagementDatagram (port : Fin 64) (p : IpPacket) (s : State) : Host.Outcome State Fault Refusal :=
  s.run fun s => s.datagramIn port.val p

/-- COMMAND_START. -/
def execCommandStart (s : State) : Host.Outcome State Fault Refusal := s.run State.startCommand

/-- COMMAND_COMPLETE. -/
def execCommandComplete (mb : Fin 32) (s : State) : Host.Outcome State Fault Refusal :=
  s.run fun s => s.completeCommand mb.val

/-- TRANSFER_TIMEOUT. -/
def execTransferTimeout (s : State) : Host.Outcome State Fault Refusal := s.run State.transferTimeout

/-- SESSION_EXPIRED. -/
def execSessionExpired (s : State) : Host.Outcome State Fault Refusal := s.run State.sessionExpires

/-- SAFE_SESSION_EXPIRED. -/
def execSafeSessionExpired (s : State) : Host.Outcome State Fault Refusal := s.run State.safeExpires

/-- LOCKOUT_END: the clock reaches the end of the lockout (R85). -/
def execLockoutEnd (s : State) : Host.Outcome State Fault Refusal := s.run fun s => s.waitTill s.host.lockedTill

end Sys2Proof.Machine
end

