-- ==== Sys2Proof/Machine/Star.lean ====
section
/-!
DEFINITION. The Geyser star (chapter 17): frames, downlink, guardian, link delay, clock synchronisation, node states,
start and stop, and the records of a synchronised pair (R601).
-/
namespace Sys2Proof.Machine

/-- `STATE` of the star. -/
def State.starState (s : State) : Nat := s.get Reg.STAR_STATUS_STATE 0

/-- The star sends beacons and takes frames: RUNNING or HOLDOVER. -/
def State.starRuns (s : State) : Bool := s.starState == 3 || s.starState == 4

/-- The frames of the unit carry `ACTIVE` (R536, R593). -/
def State.active (s : State) : Bool := !s.flag Reg.TWIN_CFG_PAIR_EN 0 || (s.token && s.twin.confirmed)

/-- `CHANNEL` (R536). -/
def State.channel (s : State) : Bool := s.flag Reg.TWIN_CFG_PAIR_EN 0 && Config.unitB

/-- The GEYSER ports in UP. -/
def State.geyserPorts (s : State) : List Nat :=
  (List.range 64).filter fun p => s.link p == linkUp && s.get Reg.PORT_STATUS_PERSONALITY p == 4

/-- Destination of the frames that the star sends and relays. -/
def starMac : List Byte := [0x03, 0x4F, 0x44, 0x16, 0x90, 0x01]

/-- Destination of the frames that nodes send. -/
def nodeMac : List Byte := [0x03, 0x4F, 0x44, 0x16, 0x90, 0x02]

/-- A Geyser frame without FCS (R536). -/
def geyserFrame (p type flags node cycle stamp : Nat) (payload : List Byte) : List Byte :=
  let b := leBytes 2 0x4759 ++ leBytes 1 type ++ leBytes 1 flags ++ leBytes 2 node ++ leBytes 2 payload.length
    ++ leBytes 4 cycle ++ leBytes 4 stamp ++ payload
  let f := starMac ++ portMac p ++ [0x88, 0xB5] ++ b ++ leBytes 4 (crc32c b)
  f ++ zeros (60 - f.length)

/-- Sends a frame on a port. -/
def State.sendFrame (s : State) (p : Nat) (f : List Byte) : State :=
  (s.out (.frame p f)).set Reg.FRAMES_OUT_COUNT p (s.get Reg.FRAMES_OUT_COUNT p + 1)

/-- The low flags of a frame of the star. -/
def State.starFlags (s : State) : Nat := b2n s.active + 2 * b2n s.channel

/-- The beacons of a cycle start (R534). -/
def State.beacons (s : State) : State :=
  s.geyserPorts.foldl (fun (s : State) p =>
    s.sendFrame p (geyserFrame p 1 s.starFlags 0xFFFF (s.get Reg.CYCLE_NUM_NUMBER 0) (s.tb 0) [])) s

/-- The definition of node `m` in the installed image. -/
def State.nodeDef (s : State) (m : Nat) : Option NodeDef :=
  match s.cell with
  | some c => c.nodes.find? fun n => n.node == m
  | none => none

/-- Word `w` lies in the safety region. -/
def NodeDef.safeAt (n : NodeDef) (w : Nat) : Bool := decide (n.safeWord ≤ w ∧ w < n.safeWord + n.safeWords)

/-- R139, R264 or R471 forces the set-point of an axis to zero (R542). -/
def State.axisOverridden (s : State) (x : Nat) : Bool :=
  Mode.sto s.mode.mode || (s.eng (axisEngine x)).outSafe || (s.calAx x).sto

/-- The downlink record of the node whose word `w` this is: its axis, and whether it is word 1. -/
def NodeDef.recordAt (n : NodeDef) (w : Nat) : Option (Nat × Bool) :=
  match n.down.find? fun r => r.word == w || r.word + 1 == w with
  | some r => some (r.axis, r.word + 1 == w)
  | none => none

/-- Downlink word `w` of a node outside its safety region (R538, R542). -/
def State.downWord (s : State) (n : NodeDef) (w : Nat) : Word64 :=
  let p := s.points.get 0 (0x30000 + n.node * 0x100 + 0x80 + w)
  match NodeDef.recordAt n w with
  | some (x, second) =>
    if s.axisOverridden x then
      if second then BitVec.ofNat 64 (4 * b2n (s.param x 2 == 1) + 2 ^ 32 * (s.get Reg.CYCLE_NUM_NUMBER 0 % 65536))
      else 0
    else p
  | none => p

/-- A downlink point of the node reads as poisoned (R622). -/
def State.downPoisoned (s : State) (n : NodeDef) : Bool :=
  (List.range (n.dnLen / 8)).any fun w => !NodeDef.safeAt n w && s.pointPoisoned (0x30000 + n.node * 0x100 + 0x80 + w)

/-- Every axis record of the node carries the current tag or is overridden (R541), and none is poisoned. -/
def State.downReady (s : State) (n : NodeDef) : Bool :=
  !s.downPoisoned n && n.down.all fun r => s.axisOverridden r.axis ||
    bitsOf (s.points.get 0 (0x30000 + n.node * 0x100 + 0x80 + r.word + 1)).toNat 32 16 ==
      s.get Reg.CYCLE_NUM_NUMBER 0 % 65536

/-- The safety region of a downlink frame (R540), and the state after Caldera supplied it. -/
def State.downSafety (s : State) (n : NodeDef) : List Byte × State :=
  if n.safeWords = 0 then ([], s)
  else if s.calRuns && s.get Reg.CONN_STATE_STATE n.node != 0 then
    let f := s.calDownlink n.node
    ((f.1 ++ zeros (8 * n.safeWords)).take (8 * n.safeWords), f.2)
  else (zeros (8 * n.safeWords), s)

/-- The star assembles and sends the downlink frame of a node (R536, R538 to R542). -/
def State.downlink (s : State) (i : Nat) : State :=
  let m := s.get Reg.NODE_CFG_NODE_ID i
  let p := s.get Reg.NODE_CFG_PORT i
  match s.nodeDef m with
  | none => s
  | some n =>
    if !s.starRuns || !s.geyserPorts.contains p then s
    else
      let data := s.downReady n
      let words := (List.range (s.get Reg.NODE_SLOT_DN_LEN i / 8)).map fun w => (w, s.downWord n w)
      let r := s.downSafety n
      let s := r.2
      let payload := if data then
          words.flatMap fun e => if NodeDef.safeAt n e.1 then (r.1.drop (8 * (e.1 - n.safeWord))).take 8
            else leBytes 8 e.2.toNat
        else r.1
      let st := s.nodeState i
      let flags := s.starFlags + 4 * b2n (st == 2) + 8 * b2n (s.flag Reg.NODE_DELAY_DELAY_VALID i)
        + 16 * b2n (s.flag Reg.NODE_STATUS_IN_SET i) + 32 * b2n (st == 3)
      let stamp := if s.flag Reg.NODE_DELAY_DELAY_VALID i then s.get Reg.NODE_DELAY_DELAY i
        else s.get Reg.NODE_DELAY_NOM_DELAY i
      let s := s.sendFrame p (geyserFrame p (if data then 2 else 3) flags m (s.get Reg.CYCLE_NUM_NUMBER 0) stamp payload)
      s.onNode i fun x =>
        { x with sent := some (data, if data then (words.filter fun e => !NodeDef.safeAt n e.1).map Prod.snd else []) }

/-- An uplink frame is committed (R538, R540): points, Caldera, the item of `NODE_NOTIFY`. -/
def State.commitUp (s : State) (f : UpFrame) : State :=
  match s.nodeDef f.node with
  | none => s
  | some n =>
    let s := if f.nul then s
      else (List.range (f.payload.length / 8)).foldl (fun (s : State) w =>
        if NodeDef.safeAt n w then s else s.putPoint (0x30000 + n.node * 0x100 + w) (uAt f.payload (8 * w) 8)) s
    let region := if f.nul then f.payload else (f.payload.drop (8 * n.safeWord)).take (8 * n.safeWords)
    let s := if n.safeWords = 0 then s else s.calCatchUp.safetyFrame region false
    if s.flag Reg.NODE_NOTIFY_EN n.node then
      s.postHw (producerNode n.node) (s.get Reg.NODE_NOTIFY_PRIO n.node) (s.get Reg.NODE_NOTIFY_FLOW n.node) 5 1
        (BitVec.ofNat 64 n.node) (BitVec.ofNat 64 (s.get Reg.CYCLE_NUM_NUMBER 0 % 2 ^ 32))
    else s

/-- A node of port `p` holds its item because the Yarder's store is full (R679). -/
def State.portHeld (s : State) (p : Nat) : Bool :=
  s.slots.any fun i => s.get Reg.NODE_CFG_PORT i == p &&
    s.yard.held.any fun h => h.producer == producerNode (s.get Reg.NODE_CFG_NODE_ID i)

/-- The frames of an ingress buffer are committed in order while no item of the port is held. -/
def State.ingressGo (s : State) (p : Nat) : List UpFrame → State
  | [] => s.onStar fun t => { t with ingress := t.ingress.put [] p [] }
  | f :: r =>
    if s.portHeld p then s.onStar fun t => { t with ingress := t.ingress.put [] p (f :: r) }
    else (s.commitUp f).ingressGo p r

/-- A frame reaches the ingress buffer of its port (R546). -/
def State.ingress (s : State) (p : Nat) (f : UpFrame) : State :=
  let s := s.ingressGo p (s.star.ingress.get [] p)
  let l := s.star.ingress.get [] p
  if 8 ≤ l.length then (s.count Reg.RX_DROP_COUNT p 1).raise 140 else s.ingressGo p (l ++ [f])

/-- The port of a slot. -/
def State.slotPort (s : State) (i : Nat) : Nat := s.get Reg.NODE_CFG_PORT i

/-- The frame of a slot that waits for the partner's record is committed alone. -/
def State.commitAlone (s : State) (i : Nat) : State :=
  let up := (s.node i).up
  let s := s.onNode i fun x => { x with up := none, record := none, closed := false }
  match up with
  | some f => s.ingress (s.slotPort i) f
  | none => s

/-- The unit becomes unsynchronised (R607): `EV229`; frames that wait for the partner are committed alone. -/
def State.unsync (s : State) : State :=
  if s.get Reg.TWIN_STATE_SYNC 0 = 2 then s.slots.foldl State.commitAlone ((s.set Reg.TWIN_STATE_SYNC 0 0).raise 229)
  else s

/-- The units' records of a node's window are settled (R601). -/
def State.settleUp (s : State) (i : Nat) : State :=
  let n := s.node i
  match n.record with
  | none => s
  | some (ok, crc) =>
    if !n.closed then s
    else
      let m := s.get Reg.NODE_CFG_NODE_ID i
      let done := fun (s : State) => s.onNode i fun x => { x with up := none, record := none, closed := false }
      match n.up with
      | none => if ok then s else done s
      | some f =>
        if ok && crc == f.crc then (done s).ingress (s.slotPort i) f
        else if !ok || s.token then
          let s := (s.out (.twin (.input (s.get Reg.CYCLE_NUM_NUMBER 0) m f.nul f.payload))).count Reg.INPUT_FWD_COUNT 0 1
          ((done s).raise 233).ingress (s.slotPort i) f
        else s

/-- A frame is accepted: committed at once, or held for the partner's record (R601). -/
def State.acceptUp (s : State) (i : Nat) (f : UpFrame) : State :=
  if s.pairSync then s.onNode i fun x => { x with up := some f } else s.ingress (s.slotPort i) f

/-- The delay measurement of a frame (R547, R548). -/
def State.measureDelay (s : State) (i : Nat) (start : Int) (stamp : Nat) : State :=
  let rtd := start - (stamp : Int)
  let d : Int := (s.get Reg.NODE_DELAY_DELAY i : Nat)
  let put := fun (s : State) (x : Int) => ((s.set Reg.NODE_DELAY_DELAY i (max 0 x).toNat).setFlag
    Reg.NODE_DELAY_DELAY_VALID i true).onNode i fun n => { n with rej := 0 }
  if !s.flag Reg.NODE_DELAY_DELAY_VALID i then put s (roundDiv rtd 2)
  else if (s.guardNs : Int) < (rtd - 2 * d).natAbs then
    let s := s.count Reg.NODE_MISS_DELAY_REJECT i 1
    if 4 ≤ (s.node i).rej + 1 then put s (roundDiv rtd 2) else s.onNode i fun n => { n with rej := n.rej + 1 }
  else put s (d + roundDiv (rtd - 2 * d) 16)

/-- What a receiver reads of a frame (R536, R537). -/
structure GeyserFrame where
  type : Nat
  node : Nat
  len : Nat
  stamp : Nat
  crc : Nat
  crcOk : Bool
  payload : List Byte
  raw : List Byte
deriving DecidableEq, Repr, Inhabited

/-- A node's frame; none where the form of R536 and R537 fails. -/
def readGeyser (f : List Byte) : Option GeyserFrame :=
  let h := f.drop 14
  let len := uAt h 6 2
  if f.take 6 ≠ nodeMac ∨ beAt f 12 2 ≠ 0x88B5 ∨ uAt h 0 2 ≠ 0x4759 ∨ len % 8 ≠ 0 ∨ 1024 < len then none
  else
    let b := h.take (16 + len)
    some { type := uAt h 2 1, node := uAt h 4 2, len := len, stamp := uAt h 12 4, crc := uAt h (16 + len) 4,
           crcOk := b.length == 16 + len && uAt h (16 + len) 4 == crc32c b, payload := (h.drop 16).take len,
           raw := b ++ (h.drop (16 + len)).take 4 }

/-- `start` lies in the window of slot `i` on port `p` (R544). -/
def State.inWindowOf (s : State) (i p : Nat) (start : Int) : Bool :=
  let a : Int := (s.get Reg.NODE_CFG_ARRIVE i : Nat)
  let g : Int := (s.guardNs : Nat)
  s.slotPort i == p && decide (a - g ≤ start ∧ start ≤ a + g)

/-- A frame of valid CRC names node slot `i`: an ABSENT node is INTEGRATING. -/
def State.nodeHeard (s : State) (i : Nat) : State :=
  let s := s.onNode i fun n => { n with crc := true }
  if s.nodeState i = 0 then s.set Reg.NODE_STATUS_STATE i 1 else s

/-- A COLDSTART in LISTEN (R562, R563). -/
def State.coldstart (s : State) (p i : Nat) (g : GeyserFrame) : State :=
  if uAt g.payload 8 4 ≠ s.get Reg.STAR_CFG_CYCLE 0 then s.count Reg.NODE_ERR_FORMAT_ERR i 1
  else
    match s.star.contender with
    | some c => if c.node = g.node ∨ c.tick + 250 < s.ticks then s
      else s.onStar fun t => { t with contender := some { c with collided := true }, since := s.ticks }
    | none => s.onStar fun t =>
        { t with contender := some { node := g.node, port := p, frame := g.raw, tb0 := s.tb 0, tick := s.ticks,
                                     collided := false }, since := s.ticks }

/-- A frame with a wrong Geyser CRC counts for the node whose window it starts in (R545). -/
def State.crcFailed (s : State) (p : Nat) (start : Int) : State :=
  match s.slots.find? fun i => s.inWindowOf i p start with
  | some i => s.count Reg.NODE_ERR_CRC_ERR i 1
  | none => s

/-- The length that a DATA or NULL frame of the slot must have (R544). -/
def State.lengthOk (s : State) (i : Nat) (g : GeyserFrame) : Bool :=
  if g.type = 4 then g.len == s.get Reg.NODE_SLOT_UP_LEN i
  else match s.nodeDef g.node with
    | some n => g.len == 8 * n.safeWords
    | none => false

/-- A frame of valid CRC that names slot `i` (R544, R545, R547). Windows are open in RUNNING and HOLDOVER only; a COLDSTART
carries no turnaround, so it measures no delay (DEDUCED, log entry 84). -/
def State.uplinkTake (s : State) (p i : Nat) (start : Int) (g : GeyserFrame) : State :=
  if g.type ≠ 4 ∧ g.type ≠ 5 ∧ g.type ≠ 6 then s.count Reg.NODE_ERR_FORMAT_ERR i 1
  else if g.type ≠ 6 ∧ s.lengthOk i g = false then s.count Reg.NODE_ERR_FORMAT_ERR i 1
  else
    let s := if g.type = 6 then s else s.measureDelay i start g.stamp
    if g.type = 6 ∨ s.starRuns = false ∨ s.inWindowOf i p start = false ∨ s.nodeState i = 3 then
      (s.count Reg.SLOT_VIOLATION_COUNT i 1).onNode i fun n => { n with blk := true }
    else
      let a : Int := (s.get Reg.NODE_CFG_ARRIVE i : Nat)
      let s := ((s.setS Reg.NODE_STATUS_DEV i (start - a)).set Reg.NODE_STATUS_LAST_CYCLE i
        (s.get Reg.CYCLE_NUM_NUMBER 0 % 65536)).onNode i fun n => { n with acc := true }
      s.acceptUp i { node := g.node, nul := g.type == 5, payload := g.payload, crc := g.crc }

/-- A frame arrives on a GEYSER port; `start` is its corrected SFD in ns after the cycle start. -/
def State.uplink (s : State) (p : Nat) (start : Int) (fcs : Bool) (f : List Byte) : State :=
  if !s.geyserPorts.contains p then s
  else if !fcs then s.count Reg.FCS_ERR_COUNT p 1
  else if clampN 1518 2048 (s.get Reg.PORT_CFG_MTU p) < f.length + 4 then s.count Reg.OVERSIZE_COUNT p 1
  else if beAt f 12 2 = 0x8808 then s.count Reg.PAUSE_DISCARD_COUNT p 1
  else
    let s := s.set Reg.FRAMES_IN_COUNT p (s.get Reg.FRAMES_IN_COUNT p + 1)
    match readGeyser f with
    | none => s
    | some g =>
      if s.starState = 0 then s
      else if !g.crcOk then s.crcFailed p start
      else
        match s.slotOf g.node with
        | none => s
        | some i =>
          let s := s.nodeHeard i
          if s.starRuns || g.type != 6 then s.uplinkTake p i start g
          else if s.starState = 1 then s.coldstart p i g else s

/-- An uplink window closes (R601): on a synchronised pair the ACCEPT record goes out. -/
def State.windowClose (s : State) (i : Nat) : State :=
  if !s.starRuns then s
  else
    let s := s.waitTb 0 (s.star.start + s.get Reg.NODE_CFG_ARRIVE i + s.guardNs)
    if s.pairSync then
      let n := s.node i
      let crc := match n.up with
        | some f => f.crc
        | none => 0
      let s := s.out (.twin (.accept (s.get Reg.CYCLE_NUM_NUMBER 0) (s.get Reg.NODE_CFG_NODE_ID i) n.up.isSome crc))
      (s.onNode i fun x => { x with closed := true }).settleUp i
    else s

/-- The lower integer sort of R549. -/
def insertI (a : Int) : List Int → List Int
  | [] => [a]
  | b :: r => if a ≤ b then a :: b :: r else b :: insertI a r

/-- The quotient rounded to nearest, a tie towards 0 (R549). -/
def roundTie0 (x : Int) (d : Nat) : Int :=
  let q : Int := ((2 * x.natAbs + d - 1) / (2 * d) : Nat)
  if x < 0 then -q else q

/-- The result a of a value set (R549). -/
def syncMean (l : List Int) : Int :=
  let n := l.length
  if n ≤ 2 then 0
  else
    let k := if n ≤ 7 then 1 else 2
    let m := ((l.foldr insertI []).drop k).take (n - 2 * k)
    roundTie0 (m.foldl (· + ·) 0) (n - 2 * k)

/-- The slots of the sync set whose frame of the past cycle counts (R549). -/
def State.valueSet (s : State) : List Int :=
  0 :: s.slots.filterMap fun i =>
    let dev := s.getS Reg.NODE_STATUS_DEV i
    if s.flag Reg.NODE_STATUS_IN_SET i && (s.node i).acc && decide (2 * dev.natAbs ≤ s.guardNs) then some dev else none

/-- The sync set rule of a node (R554). -/
def State.nodeSync (s : State) (i : Nat) : State :=
  let n := s.node i
  let good := n.acc && decide (2 * (s.getS Reg.NODE_STATUS_DEV i).natAbs ≤ s.guardNs) && s.nodeState i == 2
  if s.flag Reg.NODE_STATUS_IN_SET i then
    if good then s
    else ((s.setFlag Reg.NODE_STATUS_IN_SET i false).raise 139).onNode i fun x => { x with inSet := 0 }
  else if !s.flag Reg.NODE_CFG_SYNC i || !good then s.onNode i fun x => { x with inSet := 0 }
  else
    let s := s.onNode i fun x => { x with inSet := x.inSet + 1 }
    if 16 ≤ n.inSet + 1 then s.setFlag Reg.NODE_STATUS_IN_SET i true else s

/-- The runs of a node at the end of a cycle (R552). -/
def State.nodeRuns (s : State) (i : Nat) : State :=
  let n := s.node i
  let s := if n.acc then s else s.count Reg.NODE_MISS_MISSED i 1
  let viol := s.get Reg.NODE_STATUS_VIOL_RUN i
  let v' := if n.acc then 0 else if n.blk then min 3 (viol + 1) else viol
  let s := (s.set Reg.NODE_STATUS_VIOL_RUN i v').raiseIf (viol == 0 && v' == 1) 137
  s.onNode i fun x =>
    { x with miss := if n.acc || n.crc then 0 else x.miss + 1, quiet := if n.crc then 0 else x.quiet + 1,
             good := if n.acc && s.flag Reg.NODE_DELAY_DELAY_VALID i then x.good + 1 else 0 }

/-- The state table of a node at the end of a cycle. -/
def State.nodeMove (s : State) (i : Nat) : State :=
  let n := s.node i
  match s.nodeState i with
  | 1 =>
    if 8 ≤ n.good then ((s.set Reg.NODE_STATUS_STATE i 2).raise 135).onNode i fun x => { x with inSet := 0 }
    else if 3 ≤ n.miss then s.nodeAbsent i else s
  | 2 =>
    if s.get Reg.NODE_STATUS_VIOL_RUN i = 3 then
      let s := ((s.set Reg.NODE_STATUS_STATE i 3).raise 136).onNode i fun x => { x with quiet := 0, good := 0 }
      s.nodeLeft (s.get Reg.NODE_CFG_NODE_ID i)
    else if 3 ≤ n.miss then s.nodeAbsent i else s
  | 3 =>
    if 8 ≤ n.quiet then (s.set Reg.NODE_STATUS_STATE i 1).onNode i fun x => { x with good := 0, miss := 0 } else s
  | _ => s

/-- The marks of the past cycle are cleared. -/
def State.nodeClear (s : State) (i : Nat) : State :=
  s.onNode i fun x => { x with acc := false, blk := false, crc := false }

/-- A node at the end of a cycle. -/
def State.nodeCycle (s : State) (i : Nat) : State := (((s.nodeRuns i).nodeSync i).nodeMove i).nodeClear i

/-- Members of the sync set. -/
def State.members (s : State) : Nat := (s.slots.filter fun i => s.flag Reg.NODE_STATUS_IN_SET i).length

/-- The counts that the star shows of its nodes (R566). -/
def State.showNodes (s : State) : State :=
  let s := s.set Reg.STAR_STATUS_INTEGRATED 0 (s.slots.filter fun i => s.nodeState i == 2).length
  let sync := (List.range 256).filterMap fun m =>
    match s.slotOf m with
    | some i => if s.flag Reg.NODE_CFG_SYNC i then some i else none
    | none => none
  s.set Reg.SYNC_SET_MEMBERS 0
    ((sync.zipIdx.filter fun e => s.flag Reg.NODE_STATUS_IN_SET e.1).foldl (fun v e => v + 2 ^ e.2) 0)

/-- RUNNING is entered (R560). -/
def State.starEnter (s : State) : State :=
  (((s.set Reg.STAR_STATUS_STATE 0 3).set Reg.CYCLES_RUN_COUNT 0 0).raise 133).setTbState 0 2

/-- HOLDOVER and the return from it (R555). -/
def State.starHold (s : State) : State :=
  let few := decide (s.members < s.get Reg.STAR_CFG_SYNC_MIN 0)
  let s := s.onStar fun t => { t with low := if few then t.low + 1 else 0, high := if few then 0 else t.high + 1 }
  if s.starState = 3 ∧ 8 ≤ s.star.low then
    let s := ((s.set Reg.STAR_STATUS_STATE 0 4).setFlag Reg.STAR_FLAGS_SYNC_LOST 0 true).count Reg.STAR_COUNT_HOLDOVER_COUNT 0 1
    (((s.raise 138).latchCause 7).setTbState 0 3).onStar fun t => { t with high := 0 }
  else if s.starState = 4 ∧ 16 ≤ s.star.high then s.starEnter
  else s

/-- The corrections of a cycle (R550): o, then ρ every 16 cycles; TB0 advances by C over C + ρ + o. -/
def State.starCorrect (s : State) (a : Int) : State :=
  let c := s.cycleNs
  let l : Int := (c * 200 / 1000000 : Nat)
  let hold := s.starState == 4
  let rho := s.star.rho
  let o := if hold then 0 else clampI (-l - rho) (l - rho) (clampI (-1000) 1000 a)
  let s := (s.setS Reg.SYNC_CORR_OFFSET 0 o).setS Reg.SYNC_CORR_RATE 0 (roundDiv (rho * 1000000000) c)
  let len : Int := (c : Int) + rho + o
  let s := s.setRate16 0 (roundDiv (-(rho + o) * 1000000000 * 65536) len.toNat)
  if hold then s
  else
    let sum := s.star.sum + a
    if s.star.cnt + 1 < 16 then s.onStar fun t => { t with sum := sum, cnt := t.cnt + 1 }
    else s.onStar fun t => { t with sum := 0, cnt := 0, rho := clampI (-l) l (rho + roundDiv sum 32) }

/-- The star at a cycle start: the past cycle is judged, corrections are taken (R549 to R555). -/
def State.starCycle (s : State) : State :=
  let values := s.valueSet
  let running := s.starRuns
  let s := (s.slots.foldl State.nodeCycle s).showNodes
  if !running then s
  else
    let s := (s.set Reg.STAR_STATUS_SYNC_VALUES 0 (min 16 values.length)).starHold
    (s.set Reg.CYCLES_RUN_COUNT 0 (s.get Reg.CYCLES_RUN_COUNT 0 + 1)).starCorrect (syncMean values)

/-- The first multiple of C strictly after `t`. -/
def State.nextCycle (s : State) (t : Nat) : Nat := (t / s.cycleNs + 1) * s.cycleNs

/-- The star starts (R560). -/
def State.starStart (s : State) : State :=
  if s.get Reg.STAR_CFG_COLD_SRC 0 = 0 then s.onStar fun t => { t with runAt := some (s.nextCycle (s.tb 0)) }
  else ((s.set Reg.STAR_STATUS_STATE 0 1).onStar fun t => { t with since := s.ticks, contender := none }).setTbState 0 1

/-- The star is STOPPED (R564). -/
def State.starStop (s : State) : State :=
  ((s.set Reg.STAR_STATUS_STATE 0 0).onStar fun t => { t with runAt := none, contender := none }).setTbState 0 0

/-- A COLDSTART as the star relays it on a port: header, payload and CRC unchanged (R562; DEDUCED, log entry 84). -/
def relayed (p : Nat) (raw : List Byte) : List Byte :=
  let f := starMac ++ portMac p ++ [0x88, 0xB5] ++ raw
  f ++ zeros (60 - f.length)

/-- The collision window ends (R562, R563). -/
def State.collisionEnd (s : State) : State :=
  match s.star.contender with
  | none => s
  | some c =>
    if s.starState ≠ 1 then s
    else
      let s := (s.waitTill (c.tick + 250)).onStar fun t => { t with contender := none }
      if c.collided then
        let s := s.geyserPorts.foldl (fun (s : State) p =>
          s.sendFrame p (geyserFrame p 7 s.starFlags 0xFFFF (s.get Reg.CYCLE_NUM_NUMBER 0) 0 [])) s
        ((s.count Reg.STAR_COUNT_COLL_COUNT 0 1).setFlag Reg.STAR_FLAGS_COLLISION_SEEN 0 true).raise 134
      else
        let s := (s.geyserPorts.filter fun p => p != c.port).foldl (fun (s : State) p =>
          s.sendFrame p (relayed p c.frame)) s
        let nom := match s.slotOf c.node with
          | some i => s.get Reg.NODE_DELAY_NOM_DELAY i
          | none => 0
        let s := (s.set Reg.STAR_STATUS_STATE 0 2).stepTb 0 ((uAt c.frame 16 8 + nom : Nat) - (c.tb0 : Int))
        let at0 := (s.tb 0 + 10000 + s.cycleNs - 1) / s.cycleNs * s.cycleNs
        s.onStar fun t => { t with runAt := some at0, last := none }

/-- No COLDSTART within 20 ms of LISTEN (R560). -/
def State.listenEnd (s : State) : State :=
  if s.starState = 1 ∧ s.star.contender.isNone = true ∧ s.star.runAt.isNone = true then
    let s := s.waitTill (s.star.since + msTicks 20)
    s.onStar fun t => { t with runAt := some (s.nextCycle (s.tb 0)) }
  else s

/-- The digest of the past cycle (R603). -/
def State.cycleDigest (s : State) : List Byte :=
  let nodes := (List.range 256).filterMap fun m => s.slotOf m
  sha3 (leBytes 8 (s.get Reg.CYCLE_NUM_NUMBER 0) ++ [BitVec.ofNat 8 (Mode.code s.mode.mode)] ++ nodes.flatMap fun i =>
    match (s.node i).sent with
    | some (data, words) => BitVec.ofNat 8 (b2n (!data)) :: words.flatMap fun w => leBytes 8 w.toNat
    | none => [])

/-- DOWNLINK_ASSEMBLY (R541). -/
def execDownlinkAssembly (node : Fin 256) (s : State) : Host.Outcome State Fault Refusal :=
  s.run fun s =>
    match s.slotOf node.val with
    | some i => (s.waitTb 0 (s.star.start + s.get Reg.NODE_SLOT_DN_START i - 2000)).downlink i
    | none => s

/-- UPLINK_FRAME: a frame on a port with the corrected instant of its SFD in ns after the cycle start (R544). -/
def execUplinkFrame (port : Fin 64) (start : Nat) (fcs : Bool) (frame : List Byte) (s : State) :
    Host.Outcome State Fault Refusal :=
  s.run fun s => (s.waitTb 0 (s.star.start + start)).uplink port.val start fcs frame

/-- UPLINK_WINDOW_CLOSE (R601). -/
def execUplinkWindowClose (node : Fin 256) (s : State) : Host.Outcome State Fault Refusal :=
  s.run fun s =>
    match s.slotOf node.val with
    | some i => s.windowClose i
    | none => s

/-- COLDSTART_FRAME: a frame that arrives now (R562). -/
def execColdstartFrame (port : Fin 64) (fcs : Bool) (frame : List Byte) (s : State) :
    Host.Outcome State Fault Refusal :=
  s.run fun s => s.uplink port.val ((s.tb 0 : Int) - (s.star.start : Int)) fcs frame

/-- COLLISION_WINDOW_END (R562, R563). -/
def execCollisionWindowEnd (s : State) : Host.Outcome State Fault Refusal := s.run State.collisionEnd

/-- LISTEN_TIMEOUT (R560). -/
def execListenTimeout (s : State) : Host.Outcome State Fault Refusal := s.run State.listenEnd

end Sys2Proof.Machine
end

