-- ==== Sys2Proof/Machine/Install.lean ====
section
/-!
DEFINITION. What Ranger writes from the active cell image: registers, point map, parameter sets, Geyser schedule and
ports, solver problems; and the reload of the engines (R112, R176, R271, R272, R319, R377, R402, R421, R517, R532).
-/
namespace Sys2Proof.Machine

/-- The settings of the image for the RW fields that satisfy `p`, as field, element and value; the mode
cause of a pair and `CAL_EN` follow the mode alone (R376, R397). -/
def CellContent.fieldSettings (c : CellContent) (p : Field → Bool) : List (Field × Nat × Nat) :=
  c.settings.filterMap fun r =>
    (Reg.byId r.field).bind fun f =>
      if p f && f.acc == .rw && f.id != Reg.PWM_CTRL_STO_MODE.id && f.id != Reg.CAL_CTRL_CAL_EN.id
        && decide (r.index < f.units * f.count) then some (f, r.index, r.value) else none

/-- One of the settings, as Ranger writes it: clamped, without the unnamed bits; a `MODE` restarts its feedback channel
(R321), limits move its counter (R330), a cleared `EN` ends the passes of its converter (R401), a `USTEP_IDX` aligns the microstep index (R415). -/
def State.applySetting (s : State) (e : Field × Nat × Nat) : State :=
  let v := fieldClamp e.1 (e.2.2 % 2 ^ fieldMask e.1)
  if e.1.id = Reg.FB_CFG_MODE.id then (s.set e.1 e.2.1 v).fbRestart e.2.1
  else if e.1.id = Reg.ADC_CFG_EN.id then s.adcEnable e.2.1 (v != 0)
  else if e.1.id = Reg.CNT_LO_LIMIT.id then s.setLimits e.2.1 (toS 48 v) (s.getS Reg.CNT_HI_LIMIT e.2.1)
  else if e.1.id = Reg.CNT_HI_LIMIT.id then s.setLimits e.2.1 (s.getS Reg.CNT_LO_LIMIT e.2.1) (toS 48 v)
  else if e.1.id = Reg.STP_USTEP_USTEP_IDX.id then (s.set e.1 e.2.1 v).setFlag Reg.STP_USTEP_IDX_VALID e.2.1 true
  else s.set e.1 e.2.1 v

/-- Ranger writes the register settings of the image whose field satisfies `p`. -/
def State.applySettings (s : State) (c : CellContent) (p : Field → Bool) : State :=
  (CellContent.fieldSettings c p).foldl State.applySetting s

/-- The point map is installed (R36). -/
def State.installMap (s : State) (c : CellContent) : State :=
  (s.setFlag Reg.PTIMG_STATUS_MAP_VALID 0 true).set Reg.PTIMG_STATUS_MAP_RANGES 0 c.pointMap.length

/-- The registers of MOTION and the point map from the image, the calibration pairs from flash. -/
def State.installMotion (s : State) : State :=
  match s.cell with
  | some c => (((s.applySettings c fun f => f.dom == 4).pairsLoaded true).installMap c).loadCal
  | none => (s.pairsLoaded true).loadCal

/-- At PARK exit: the PWM pairs, the converters with their calibration pairs, the step sequencers and the engines' settings;
the front-ends have kept theirs (R349, R421, R699 step 3). -/
def State.installPowered (s : State) : State :=
  match s.cell with
  | some c =>
    (((s.applySettings c fun f => f.dom == 4 && f.unit != 1 && !f.keeps .l).pairsLoaded true).installMap c).loadCal
  | none => (s.pairsLoaded true).loadCal

/-- An engine is loaded from its assigned slot; its axes start disabled, homed where `homed` holds for them (R319). -/
def State.engineReload (s : State) (k : Nat) (homed : Nat → Bool) : State :=
  let s := (List.range 4).foldl (fun s i =>
    let x := 4 * k + i
    let h := homed x
    ((if (s.ax x).enabled then s.axisDisable x else s).onAx x fun _ => { AxisState.reset with homed := h })) s
  { s.jceReload k with kernelOverruns := s.kernelOverruns.put 0 k 0 }

/-- Every engine is reloaded (R272). -/
def State.reloadEngines (s : State) (homed : Nat → Bool) : State :=
  (List.range 64).foldl (fun s k => s.engineReload k homed) s

/-- The whole-cell problem is in the image (R109). -/
def wholeCell (c : CellContent) : Bool := c.problems.any fun p => p.number == 0

/-- The instances are bound to the problems of the image and their schedules load; the whole-cell enable stays where the
problem is there (R112, R176, R200). -/
def State.installSolver (s : State) : State :=
  let cell := s.flag Reg.INST_CFG_CELL 0
  let s := (List.range 8).foldl (fun s n => s.bindInst n (s.get Reg.INST_CFG_TILES n)) s
  (s.setFlag Reg.INST_CFG_CELL 0 (cell && !s.flag Reg.INST_CFG_NO_PROBLEM 0)).loadSchedules

/-- Two images carry the same Geyser schedule (section 0x0008 and the cycle). -/
def sameSchedule (a b : CellContent) : Bool :=
  a.nodes == b.nodes && a.cycle == b.cycle && a.guardTicks == b.guardTicks && a.coldSrc == b.coldSrc
    && a.syncMin == b.syncMin && a.portModes == b.portModes

/-- A node before another in the order of `ARRIVE`. -/
def insertNode (n : NodeDef) : List NodeDef → List NodeDef
  | [] => [n]
  | m :: r => if n.arrive < m.arrive then n :: m :: r else m :: insertNode n r

/-- The nodes of engine `e` in the order of their slots. -/
def engineNodes (c : CellContent) (e : Nat) : List NodeDef :=
  (c.nodes.filter fun n => n.port % 8 == e).foldl (fun l n => insertNode n l) []

/-- The slot registers of a node. -/
def State.writeNode (s : State) (i : Nat) (n : NodeDef) : State :=
  let s := (s.set Reg.NODE_CFG_NODE_ID i n.node).set Reg.NODE_CFG_PORT i n.port
  let s := (s.set Reg.NODE_CFG_CHAIN i n.chain).setFlag Reg.NODE_CFG_SYNC i n.sync
  let s := (s.setFlag Reg.NODE_CFG_COLDSTART i n.coldstart).setFlag Reg.NODE_CFG_USED i true
  let s := (s.set Reg.NODE_CFG_ARRIVE i n.arrive).set Reg.NODE_SLOT_DN_START i n.dnStart
  let s := (s.set Reg.NODE_SLOT_UP_LEN i n.upLen).set Reg.NODE_SLOT_DN_LEN i n.dnLen
  (s.set Reg.NODE_DELAY_NOM_DELAY i n.nomDelay).set Reg.NODE_DELAY_DELAY i n.nomDelay

/-- The registers of the star engine that hold nodes. -/
def nodeField (f : Field) : Bool := f.dom == 6 && f.unit == 1 && decide (0x1000 ≤ f.base)

/-- A port that the schedule uses: GEYSER only, the mode of the schedule, enabled (R517). -/
def State.writePort (s : State) (p mode : Nat) : State :=
  ((((s.set Reg.PORT_CFG_PERS_MASK p 4).set Reg.PORT_CFG_MODE_MASK p mode).setFlag Reg.PORT_CFG_EN p true).portRestart p)

/-- The Geyser schedule is written into the engine registers and its ports are configured (R517, R532). -/
def State.installSchedule (s : State) (c : CellContent) : State :=
  let s := { s with regs := (Reg.all.filter nodeField).foldl (fun r (f : Field) => r.put Tab.empty f.id Tab.empty) s.regs }
  let s := s.onStar fun t => { t with nodes := Tab.empty, ingress := Tab.empty }
  let s := (s.set Reg.STAR_CFG_CYCLE 0 c.cycle).set Reg.STAR_CFG_GUARD 0 c.guardTicks
  let s := (s.set Reg.STAR_CFG_COLD_SRC 0 c.coldSrc).set Reg.STAR_CFG_SYNC_MIN 0 c.syncMin
  let s := (List.range 8).foldl (fun s e =>
    ((engineNodes c e).zipIdx.filter fun n => decide (n.2 < 32)).foldl (fun s n => s.writeNode (32 * e + n.2) n.1) s) s
  c.portModes.foldl (fun s p => s.writePort p.1 p.2) s

/-- NETWORK from the image after a reset. -/
def State.installNetwork (s : State) : State :=
  match s.cell with
  | some c => (s.applySettings c fun f => f.dom == 6).installSchedule c
  | none => s

/-- A new schedule: the star stops the network and starts it again where it was started (R112, R564). -/
def State.changeSchedule (s : State) (c : CellContent) : State :=
  let on := s.starState != 0 || s.star.runAt.isSome
  let s := s.starStop.installSchedule c
  if on then s.starStart else s

/-- The content of the active slot, where it is VALID. -/
def State.activeContent (s : State) : Option CellContent :=
  match s.flash.activeSlot with
  | some k => ((s.flash.slots.get CellSlot.empty k).image.map CellImage.content).filter fun _ =>
      (s.flash.slots.get CellSlot.empty k).state == .valid
  | none => none

/-- An axis that the new image binds to no joint takes its set-points from its own generator (R16). -/
def State.freeAxes (s : State) (c : CellContent) : State :=
  (List.range 256).foldl (fun (s : State) x =>
    if (s.ax x).traj && (CellContent.jointOf c x).isNone then s.onAx x fun a => { a with traj := false } else s) s

/-- CELL_ACTIVATE installs an image (R112): its register settings, parameter sets, point map, problems, schedule. -/
def State.installCell (s : State) (c : CellContent) : State :=
  let same := match s.cell with
    | some o => sameSchedule o c
    | none => false
  let s := { s with cell := some c }
  let s := (((s.freeAxes c).applySettings c fun f => f.dom != 6).pairsLoaded false).installMap c
  let s := (List.range 64).foldl State.loadParams s
  let s := s.emptyRings.installSolver.postConstants
  let s := (List.range 8).foldl (fun s n => s.onInst n fun i => { i with params := Tab.empty }) s
  if same then s else (s.applySettings c fun f => f.dom == 6).changeSchedule c

/-- At the end of INIT the active image is applied (R711, step 7). -/
def State.bootCell (s : State) : State :=
  match s.activeContent with
  | none => { s with cell := none }
  | some c => ({ s with cell := some c }).applySettings c fun f => f.dom != 4 && f.dom != 6

end Sys2Proof.Machine
end

