-- ==== Sys2Proof/Machine/ModeCtl.lean ====
section
/-!
DEFINITION. Operating modes (chapter 4): what entering one does (R138 to R141, R150), readiness and the checks of JOG and RUN
(R146, R147), fault causes and their conditions (R155 to R158), requests and the change at a cycle start (R142, R160).
-/
namespace Sys2Proof.Machine

open Status

/-- The active image, where its slot is VALID. -/
def State.activeImage (s : State) : Option CellImage :=
  match s.flash.activeSlot with
  | some k => if (s.flash.slots.get CellSlot.empty k).state = .valid then (s.flash.slots.get CellSlot.empty k).image else none
  | none => none

/-- An image fits a safety set (R111, R146): its reference, and its cycle in ticks of 8 ns against `T_CYCLE` in µs. -/
def imageFits (i : CellImage) (p : SafetySet) : Bool :=
  i.safetyRef == p.crc && decide (i.content.cycle ≤ 125 * p.nat 0x080D 0)

/-- The device is ready (R146). -/
def State.ready (s : State) : Bool :=
  match s.activeImage, s.flash.safeSet with
  | some i, some p => imageFits i p
  | _, _ => false

/-- Every safe output is in its permitted state: none has a fault, and each is as it is commanded (DEDUCED). -/
def State.outputsPermitted (s : State) : Bool :=
  !s.ioFault && (List.range 16).all fun k => s.flag Reg.SO_STATUS_OUT k == s.flag Reg.SO_STATUS_CMD k

/-- Caldera accepts JOG or RUN (R147 check 4, R154, R469, R500, R504). -/
def State.calAccepts (s : State) (target : Mode) : Bool :=
  s.calRuns && s.cal.set.isSome
    && !((List.range 16).any fun n => s.pairKind n != 0 && s.flag Reg.SIP_STATUS_DEMAND n)
    && !s.flag Reg.STOP_STATE_RESTART_PEND 0 && s.outputsPermitted
    && (!s.flag Reg.SEAL_STATUS_SEAL_MODE 0 || s.sealState 0 == 1)
    && (target == .jog || s.flash.safeAccepted)

/-- The checks of R147, in order. -/
def State.entryCheck (s : State) (target : Mode) : Nat :=
  let net := match s.cell with
    | some c => !c.netAxes.isEmpty
    | none => false
  let traj := (List.range 256).any fun x => s.bound x && (s.ax x).traj
  if s.parked then E_MODE_TRANSITION
  else if net && s.starState != 3 then E_MODE_TRANSITION
  else if target = .run ∧ traj ∧ !s.flag Reg.INST_CFG_CELL 0 then E_MODE_TRANSITION
  else if !s.calAccepts target then E_MODE_SAFETY
  else OK

/-- The condition of a fault cause is present (R155, R158, R266); an event that is over leaves none. -/
def State.causePresent (s : State) (c : Nat) : Bool :=
  match c with
  | 1 => true
  | 2 => s.get Reg.CAL_STATE_STATE 0 != 1
  | 5 => s.get Reg.CAL_STATE_STATE 0 != 1
  | 3 =>
    !((List.range 256).all fun a => (s.calAx a).sto) || !(s.monitored.all fun a => match (s.calAx a).still with
      | some t => decide (4 * s.safe 0x0512 a ≤ s.cal.n - t)
      | none => false)
  | 4 => s.ioFault
  | 6 => s.mode.engines.any fun k => s.get Reg.JCE_STATE_STATE k == jceTrapped || s.get Reg.JCE_STATE_STATE k == jceHalted
      || (s.eng k).debugReleased
  | 7 => s.starState == 4
  | 11 =>
    (s.mode.stops.contains 1 && (List.range 16).any fun n => s.safe 0x0106 n == 1 && s.flag Reg.SIP_STATUS_DEMAND n)
      || (s.mode.stops.contains 7 && match s.cal.set with
        | some p => p.drives.any fun c => !s.connOk c
        | none => false)
      || (s.mode.stops.contains 10 && !((List.range 256).all fun a => (s.calAx a).sto))
  | _ => false

/-- The check of a `MODE_REQUEST` from the present mode for another one (R145, R157). -/
def State.requestCheck (s : State) (target : Mode) : Nat :=
  match s.mode.mode, target with
  | .config, .idle => if s.ready then OK else E_MODE_NOT_READY
  | .config, .service => OK
  | .idle, .service => OK
  | .fault, .service => OK
  | .idle, .jog => s.entryCheck .jog
  | .idle, .run => s.entryCheck .run
  | .service, .idle =>
    if s.mode.inService.any s.causePresent then E_MODE_CAUSE_ACTIVE else if s.ready then OK else E_MODE_NOT_READY
  | .service, .config =>
    if s.mode.inService.any s.causePresent then E_MODE_CAUSE_ACTIVE else if s.ready then E_MODE_TRANSITION else OK
  | _, _ => E_MODE_TRANSITION

/-- The causes latched so far. -/
def State.causesSeen (s : State) : Nat := s.mode.causes.length + s.mode.inService.length

/-- A mode change waits for the next cycle start (R142). -/
def State.askMode (s : State) (target : Mode) (reason n : Nat) : State :=
  let r : PendingMode := { target := target, reason := reason, mailbox := some n, seen := s.causesSeen }
  { s with mode := { s.mode with requested := some r } }

/-- Every pair and step channel in the safe state of a mode without torque, or out of it (R139). -/
def State.modeTorque (s : State) (off : Bool) : State :=
  let s := (List.range 96).foldl (fun s p => s.setStoMode p s.fineNow off) s
  (List.range 32).foldl (fun s ch => s.setHalt ch haltStoMode off) s

/-- A mode without torque is entered: STO, every axis disabled (R138 to R140). -/
def State.modeSto (s : State) : State :=
  (s.enabledAxes.foldl (fun s a => s.axisDisable a) (s.modeTorque true)).stoAll

/-- HALTING is entered (R150): stop ramps, homing ends; an SS1 unless one is in progress (R466). -/
def State.modeHalting (s : State) (reason : Nat) : State :=
  let s := s.enabledAxes.foldl (fun (s : State) a =>
    if (s.ax a).reaction = 0 then (s.onAx a fun x => { x with homing := none }).axisStop a 0x65 else s) s
  if reason = 4 then s else s.onCal fun k => { k with haltTold := true }

/-- A mode is entered. -/
def State.enterMode (s : State) (m : Mode) (reason : Nat) : State :=
  let old := s.mode.mode
  let causes := if old = .service then [] else s.mode.causes
  let stops := if old = .service then [] else s.mode.stops
  let engines := if old = .service then [] else s.mode.engines
  let s := { s with mode := { s.mode with mode := m, previous := old, reason := reason, since := s.ticks, causes := causes,
                                          stops := stops, engines := engines, inService := [], unusable := false } }
  let s := if m = .fault then s.dropToken else s
  let s := if m = .halting then s.modeHalting reason else if Mode.sto m then s.modeSto else s.modeTorque false
  s.abortRuns

/-- The change that a cause, a demand of Caldera or the end of HALTING makes: mode and reason (R144, R145, R151 to R156,
R163). -/
def State.causedChange (s : State) : Option (Mode × Nat) :=
  let classA := if s.mode.causes.find? causeA = some 11 then 4 else 5
  match s.mode.mode with
  | .config => if s.causeAPending then some (.fault, classA) else if s.causeBPending then some (.fault, 6) else none
  | .idle =>
    if s.causeAPending then some (.fault, classA) else if s.causeBPending then some (.fault, 6)
    else if s.mode.unusable && !s.ready then some (.config, 3) else none
  | .halting =>
    if s.causeAPending then some (.fault, classA)
    else if s.get Reg.STOP_STATE_STOP 0 == 2 && s.allSto then
      some (if s.causeBPending then (.fault, 6) else (.idle, 7))
    else none
  | .jog =>
    if s.causeAPending then some (.fault, classA) else if s.causeBPending then some (.halting, 6)
    else if s.cal.haltAsk then some (.halting, 4) else none
  | .run =>
    if s.causeAPending then some (.fault, classA) else if s.causeBPending then some (.halting, 6)
    else if s.cal.haltAsk then some (.halting, 4) else none
  | _ => none

/-- The check that a waiting request makes again at the cycle start (R145, R147, R157, R161): a cause that came after its start ends
it, and HALTING is entered from JOG and RUN only. -/
def State.lateCheck (s : State) (r : PendingMode) : Nat :=
  if r.seen < s.causesSeen then E_MODE_TRANSITION
  else
    match s.mode.mode, r.target with
    | .idle, .jog => s.entryCheck .jog
    | .idle, .run => s.entryCheck .run
    | .service, _ => if s.mode.inService.any s.causePresent then E_MODE_CAUSE_ACTIVE else OK
    | .jog, .halting => OK
    | .run, .halting => OK
    | _, .halting => E_MODE_TRANSITION
    | _, _ => OK

/-- The answer of a command whose mode is entered: `MODE_FAULT_ACK` and `CELL_ACTIVATE` name the mode. -/
def State.answerMode (s : State) (r : PendingMode) : State :=
  match r.mailbox with
  | some n => s.setResult n ⟨OK, if r.reason = 1 then [] else leBytes 1 (Mode.code r.target)⟩
  | none => s

/-- The mode at a cycle start (R142, R160). -/
def State.modeCycle (s : State) : State :=
  let req := s.mode.requested
  let ask := s.causedChange
  let s := { s with mode := { s.mode with requested := none } }
  let s := s.onCal fun k => { k with haltAsk := false }
  match ask, req with
  | some (m, reason), r => (s.setErrorOf (r.bind PendingMode.mailbox) E_MODE_TRANSITION).enterMode m reason
  | none, some r =>
    let e := s.lateCheck r
    if r.target = s.mode.mode then s.answerMode r
    else if e ≠ OK then s.setErrorOf r.mailbox e else (s.enterMode r.target r.reason).answerMode r
  | none, none => s

/-- Torque of the axes at a cycle start in JOG and RUN: released for an enabled axis with `PERMIT`, held otherwise (R140,
R472). -/
def State.torqueCycle (s : State) : State :=
  if s.inMode [.jog, .run] then
    (List.range 256).foldl (fun (s : State) a =>
      if !(s.ax a).enabled then s.applySto a
      else if s.permit a && s.get Reg.STOP_STATE_STOP 0 == 0 then s.releaseSto a else s) s
  else s

end Sys2Proof.Machine
end

