-- ==== Sys2Proof/Machine/Reset.lean ====
section
/-!
DEFINITION. Resets, domain resets, PARK and what survives them (R53, R54, R77, R698 to R706).
-/
namespace Sys2Proof.Machine

/-- The order in which resets clear (R704). -/
def resetRank : ResetLetter → Nat
  | .p => 6
  | .w => 5
  | .z => 4
  | .d => 3
  | .m => 2
  | .l => 1

/-- The ASCII letter of a reset. -/
def resetAscii : ResetLetter → Nat
  | .p => 0x50
  | .w => 0x57
  | .d => 0x44
  | .m => 0x4D
  | .l => 0x4C
  | .z => 0x5A

/-- What TB6 keeps of the time-base registers: all but its snapshots, which no reset keeps (R567, R590). -/
def tb6Kept (f : Field) : Bool := f.id != Reg.SNAP_SELF_NS.id && f.id != Reg.SNAP_OTHER_NS.id

/-- A field returns to its Reset value; TB6 stays where `tb6` holds (R438, R567). -/
def State.dropField (s : State) (f : Field) (tb6 : Bool) : State :=
  let row := s.regs.get Tab.empty f.id
  { s with regs := s.regs.put Tab.empty f.id (if f.dom == 6 && f.unit == 4 && tb6 && tb6Kept f then row.keep (· == 6) else Tab.empty) }

/-- The fields that satisfy `p` and that the reset does not keep return to their Reset values (R11, R12). -/
def State.dropFields (s : State) (rl : ResetLetter) (p : Field → Bool) : State :=
  (Reg.all.filter fun f => p f && !f.keeps rl).foldl (fun s f => s.dropField f (rl != .p)) s

/-- The next value of `EPOCH` (R54). -/
def nextEpoch (e : Nat) : Nat := if e = 0xFFFF then 1 else e + 1

/-- The token is released and the pair unsynchronised (R596, R607). -/
def State.leavePair (s : State) : State :=
  let s := if s.token then (s.setFlag Reg.TWIN_STATE_TOKEN 0 false).raise 225 else s
  s.unsync

/-- Contents of the data space that a reset keeps: all at D, DRAM at Z, nothing at P and W (R636). -/
def memKept (rl : ResetLetter) (a : Nat) : Bool :=
  match rl with
  | .p => false
  | .w => false
  | .z => decide (a < csramBase)
  | _ => true

/-- The host interface after a reset: D keeps what belongs to the PCIe endpoint (R53). -/
def HostState.after (h : HostState) (rl : ResetLetter) : HostState :=
  if rl = .d then
    { HostState.reset with linkUp := h.linkUp, pcie := h.pcie, msixOn := h.msixOn, msixTable := h.msixTable, msixPending := h.msixPending }
  else HostState.reset

/-- The debug state after a reset: P ends every attachment (R729). -/
def DebugState.after (d : DebugState) (rl : ResetLetter) : DebugState :=
  if rl = .p then { DebugState.reset with attached := d.attached } else d

/-- A load that a reset breaks off leaves its slot EMPTY (R107). -/
def FlashState.dropLoads (f : FlashState) : FlashState :=
  { f with slots := f.slots.mapValues CellSlot.empty fun c => if c.state = .loading then CellSlot.empty else c }

/-- The state beside the registers that P, W, D and Z clear (R706). -/
def State.dropState (s : State) (rl : ResetLetter) : State :=
  let landing := 16384 * s.flash.landingMiB
  let power := s.power
  { s with
    points := if rl = .d then s.points else Tab.empty, mem := s.mem.keep (memKept rl),
    readShadow := Tab.empty, writeHeld := Tab.empty, bus := .idle,
    host := s.host.after rl, mode := { ModeState.reset with since := s.ticks }, cell := none,
    flash := { s.flash.dropLoads with bootEpoch := s.flash.bootEpoch + 1 },
    yard := { YarderState.reset with landingSlots := landing },
    jce := Tab.empty, clusterLast := Tab.empty, pwm := Tab.empty, tripHigh := Tab.empty, fb := Tab.empty, adc := Tab.empty, stp := Tab.empty,
    axisIn := Tab.empty, axes := Tab.empty, kernelOverruns := Tab.empty, tiles := Tab.empty, insts := Tab.empty,
    published := none, dbg := s.dbg.after rl,
    power := { PowerState.reset with resetAt := s.ticks, tbRest := if rl = .d then power.tbRest else power.tbRest.keep fun n => n == 6 && rl != .p },
    ports := Tab.empty, time := TimeState.reset, star := StarState.reset, twin := TwinState.reset,
    memErr := s.memErr.keep (fun a => memKept rl a && decide (a < 2 ^ 48)), memory := MemState.reset, cores := Tab.empty }

/-- The step channels whose microstep index is valid. -/
def State.validIndexes (s : State) : List Nat := (List.range 32).filter fun ch => s.flag Reg.STP_USTEP_IDX_VALID ch

/-- A reset made the index of these channels invalid (R415). -/
def State.indexesLost (s : State) (l : List Nat) : State :=
  l.foldl (fun s ch => (s.setFlag Reg.STP_FLAGS_INDEX_LOST_SEEN ch true).raise 82) s

/-- P, W, D or Z takes effect (R415, R702, R703, R706). -/
def State.deviceReset (s : State) (rl : ResetLetter) (cause : Nat) : State :=
  let lost := s.validIndexes
  let s := s.leavePair
  let epoch := s.get Reg.EPOCH 0
  let w := s.get Reg.RST_COUNT_W_COUNT 0
  let d := s.get Reg.RST_COUNT_D_COUNT 0
  let s := (s.dropFields rl fun _ => true).dropState rl
  let s := s.set Reg.EPOCH 0 (if rl = .p ∨ rl = .w then 1 else nextEpoch epoch)
  let s := (s.set Reg.RST_CAUSE_LETTER 0 (resetAscii rl)).set Reg.RST_CAUSE_CAUSE 0 cause
  let s := if rl = .w then s.set Reg.RST_COUNT_W_COUNT 0 (min (w + 1) 0xFFFF) else s
  let s := if rl = .d then s.set Reg.RST_COUNT_D_COUNT 0 (min (d + 1) 0xFFFF) else s
  let s := s.setFlag Reg.TWIN_CFG_PRIO 0 s.boot.prio
  let s := ({ s with boot := { s.boot with coreDigest := 0 } }).indexesLost lost
  if rl = .d then s.onCal fun k => { k with told := true } else s.calRestart

/-- A reset is requested: it acts unless the device is in one that clears as much (R704); DORMANT ends only at P, W and a
wake (R701). Z begins INIT at once, the others hold the device. -/
def State.startReset (s : State) (rl : ResetLetter) (cause : Nat) : State :=
  let within : Bool := match s.power.held with
    | some h => decide (resetRank rl ≤ resetRank h)
    | none => s.power.dormant && decide (rl = ResetLetter.d)
  if within then s
  else
    let s' := s.deviceReset rl cause
    if rl = ResetLetter.z then { s' with alive := true }
    else { s' with alive := false, power := { s'.power with held := some rl, porst := decide (rl = ResetLetter.p) } }

/-- Every output goes to its reset state (R690). -/
def State.outputsReset (s : State) : State :=
  let s := (List.range 96).foldl (fun s p => s.setForce p s.fineNow true) s
  let s := (List.range 32).foldl (fun s ch =>
    let s := if s.driveOn ch then s.setHalt ch haltAbort true else s
    ((s.setFlag Reg.STP_CTRL_ENABLE ch false).stepRest ch).showStep ch) s
  let s := (List.range 16).foldl (fun s k => if s.flag Reg.SO_STATUS_OUT k then s.switchOut k s.cal.n false else s) s
  s.onCal fun k => { k with tpsOut := 0 }

/-- MOTION and SOLVER lose their power (R698 step 6): the feedback and step front-ends and `HOMED` stay. -/
def State.motionOff (s : State) : State :=
  let homed := (List.range 256).filter fun x => (s.ax x).homed
  let axes : Tab AxisState :=
    homed.foldl (fun t x => t.put AxisState.reset x { AxisState.reset with homed := true }) Tab.empty
  { s with jce := Tab.empty, clusterLast := Tab.empty, pwm := Tab.empty, tripHigh := Tab.empty, adc := Tab.empty, stp := Tab.empty, axes := axes,
           kernelOverruns := Tab.empty, tiles := Tab.empty, published := none,
           insts := s.insts.mapValues SawInst.reset fun i => { SawInst.reset with params := i.params } }.engineMemLost

/-- PARK is entered (R698): runs, engines, rings, the caches, DRAM, power, in this order. -/
def State.parkEnter (s : State) : State :=
  let s := s.set Reg.PWR_STATE_STATE 0 1
  let s := s.dropRuns
  let s := (List.range 64).foldl (fun s k => s.jceHaltIn k jceStopped) s
  let s := s.emptyRings
  let s := (List.range 8).foldl (fun s ch => s.setFlag Reg.UNIT_STATUS_SELF_REFRESH ch true) s
  let s := (s.dropFields .l fun _ => true).motionOff
  let s := s.set Reg.PWR_STATE_STATE 0 2
  ((List.range 32).foldl (fun s ch => (s.stepRest ch).showStep ch) s).raise 8

/-- A feedback channel when PARK is left: mode 4 marks the gap and takes a new reference, modes 4 and 5 have no speed yet
(R337, R343, R348). -/
def State.fbUnpark (s : State) (ch : Nat) : State :=
  let m := s.fbMode ch
  if m < 4 then s
  else
    let s := (s.onFb ch fun c => { c with accepted := 0, reference := if m = 4 then none else c.reference }).setFlag
      Reg.FB_STATUS_SPEED_VALID ch false
    if m = 4 then (s.setFlag Reg.FB_FLAGS_PARK_GAP ch true).raise 71 else s

/-- MOTION comes back in a mode without torque: the causes that Ranger and Caldera hold show again (R139, R140, R417). -/
def State.stoBack (s : State) : State :=
  ((List.range 32).foldl (fun s ch => s.setHalt ch haltStoMode true) s).stoAll

/-- PARK is left (R699). -/
def State.parkLeave (s : State) : State :=
  let s := s.set Reg.PWR_STATE_STATE 0 3
  let s := s.dropFields .l fun _ => true
  let s := (List.range 8).foldl (fun s ch => s.setFlag Reg.UNIT_STATUS_SELF_REFRESH ch false) s
  let s := (List.range 64).foldl (fun s ch => s.fbUnpark ch) s
  let s := s.set Reg.PWR_STATE_STATE 0 0
  let s := s.installPowered
  let s := (List.range 32).foldl (fun s ch =>
    let s := s.stepRest ch
    (if s.stepParked ch then s else s.leaveParked ch).showStep ch) s.stoBack
  let homed := (List.range 256).filter fun x => (s.ax x).homed
  let s := (s.reloadEngines fun x => homed.contains x).installSolver
  s.raise 9

/-- The fields of a domain that a domain reset goes over: the clock, power and reset units and Ranger are no part of it, the
doorbell block is part of HOST (R705). -/
def domainField (d : Nat) (f : Field) : Bool :=
  (f.dom == d || (d == 1 && f.dom == 8)) && !(f.dom == 0 && decide (1 ≤ f.unit ∧ f.unit ≤ 3))
    && !(f.dom == 3 && f.unit == 1)

/-- Cores that the last `FW_ACTIVATE` of target 2 started, with the image of its slot in DRAM (R645, R715). -/
def State.startCores (s : State) (slot : Nat) (mask : BitVec 16) : State :=
  let f := s.flash.coreSlots.get FwSlot.empty slot
  if f.state = 2 ∧ mask ≠ 0 then
    let body := ((f.image.drop 128).take (f.image.length - 2548))
    let s := s.memPut f.load body
    let s := { s with boot := { s.boot with coreDigest := f.digest } }
    (List.range 16).foldl (fun s c => if mask.getLsbD c then s.coreStart c (f.load + f.entry) else s) s
  else s

/-- What a domain reset clears beside registers, and what Ranger restores (R705). -/
def State.domainState (s : State) (d : Nat) : State :=
  match d with
  | 0 =>
    let s := { s with time := { s.time with trig := Tab.empty, capUnread := 0, gpioSafe := 0 } }
    let s := match s.cell with
      | some c => s.applySettings c fun f => f.dom == 0
      | none => s
    s.setFlag Reg.OTP_STATUS_OTP_OK 0 true
  | 1 => { s with host := HostState.reset, flash := s.flash.dropLoads, memory := { s.memory with adding := [] } }
  | 2 => { s with memory := { MemState.reset with copying := s.memory.copying, unsaved := s.memory.unsaved, adding := s.memory.adding } }
  | 3 =>
    let s := (List.range 16).foldl (fun s c => if (s.core c).entry = 0 then s else s.gpiosSafe c) s
    let s := { s with cores := Tab.empty, yard := { YarderState.reset with landingSlots := s.yard.landingSlots } }
    s.startCores s.flash.started.1 s.flash.started.2
  | 4 =>
    let s := { s with jce := Tab.empty, clusterLast := Tab.empty, pwm := Tab.empty, tripHigh := Tab.empty, fb := Tab.empty, adc := Tab.empty,
                      stp := Tab.empty, axisIn := Tab.empty, axes := Tab.empty, kernelOverruns := Tab.empty }
    ((s.engineMemLost.installMotion.reloadEngines fun _ => false).installSolver).stoBack.onCal fun k => { k with told := true }
  | 5 => s.dropRuns.emptyRings.installSolver
  | 6 =>
    let s := { s with ports := Tab.empty, star := StarState.reset, twin := TwinState.reset,
                      power := { s.power with tbRest := s.power.tbRest.keep (· == 6) },
                      time := { TimeState.reset with trig := s.time.trig, capUnread := s.time.capUnread,
                                                     gpioSafe := s.time.gpioSafe } }
    let s := (s.setFlag Reg.TWIN_CFG_PRIO 0 s.boot.prio).setFlag Reg.TWIN_CFG_PAIR_EN 0 s.flash.pairEn
    let s := s.set Reg.TWIN_STATE_ROLE 0 (if s.flash.pairEn then 2 else 0)
    s.installNetwork.onCal fun k => { k with told := true }
  | _ => s

/-- A domain reset (R705); in PARK, MOTION and SOLVER are powered first (R704). -/
def State.domainReset (s : State) (d : Nat) : State :=
  let lost := if d = 4 then s.validIndexes else []
  let s := if s.parked then s.parkLeave else s
  let s := if d = 6 then s.leavePair else s
  let epoch := s.get Reg.EPOCH 0
  let s := { s with power := { s.power with resetAt := s.ticks } }
  let s := ((s.dropFields .m (domainField d)).domainState d).indexesLost lost
  let s := if d = 1 then s.set Reg.EPOCH 0 (nextEpoch epoch) else s
  let s := (s.set Reg.RST_CAUSE_LETTER 0 (resetAscii .m)).set Reg.RST_CAUSE_CAUSE 0 6
  (s.set Reg.RST_CAUSE_DOMAIN 0 d).raise 10

/-- DORMANT is entered (R700): only the always-on block runs. -/
def State.dormantEnter (s : State) (gpio : Nat) (level : Bool) : State :=
  let s := s.leavePair.outputsReset
  { s with alive := false, power := { s.power with dormant := true, wakeGpio := gpio, wakeLevel := level } }

end Sys2Proof.Machine
end

