-- ==== Sys2Proof/Machine/Twin.lean ====
section
/-!
DEFINITION. The redundant pair (chapter 19): lanes of the twin link, token and arbitration (R593 to R596), heartbeat (R597),
digests (R603), the records of an uplink window (R601), resynchronisation (R607 to R610).
-/
namespace Sys2Proof.Machine

open Status

/-- A pair is configured. -/
def State.pairOn (s : State) : Bool := s.flag Reg.TWIN_CFG_PAIR_EN 0

/-- `PRIO` strap. -/
def State.prio (s : State) : Bool := s.flag Reg.TWIN_CFG_PRIO 0

/-- An unsynchronised STANDBY in JOG, RUN or HALTING resets with kind D (R607); after it the safe outputs are held off
(R608). The fault log's code and source are free values. -/
def State.standbyLost (s : State) : State :=
  if s.pairOn && s.get Reg.TWIN_STATE_ROLE 0 == 2 && s.get Reg.TWIN_STATE_SYNC 0 != 2 && s.inMode [.jog, .run, .halting] then
    let code := s.free
    let s := s.tookFree
    ((s.tookFree.log 0 code s.free []).startReset .d 9).onTwin fun t => { t with hold := BitVec.allOnes 16 }
  else s

/-- The unit becomes unsynchronised, with what follows for a STANDBY. -/
def State.loseSync (s : State) : State := s.unsync.standbyLost

/-- The lanes of the twin link are as their flags say (R530, R607). -/
def State.showLanes (s : State) : State :=
  let l0 := s.flag Reg.TWIN_LANES_LANE0_UP 0
  let l1 := s.flag Reg.TWIN_LANES_LANE1_UP 0
  let was := s.flag Reg.TWIN_LANES_DEGRADED 0
  let s := (s.setFlag Reg.TWIN_LANES_DEGRADED 0 (l0 != l1)).setFlag Reg.TWIN_STATE_LINK_UP 0 (l0 || l1)
  let s := s.raiseIf (l0 != l1 && !was) 232
  if l0 || l1 then s else s.loseSync

/-- A lane comes up or goes down. -/
def State.setLane (s : State) (lane : Nat) (up : Bool) : State :=
  (s.setFlag (if lane = 0 then Reg.TWIN_LANES_LANE0_UP else Reg.TWIN_LANES_LANE1_UP) 0 up).showLanes

/-- The partner's heartbeat has failed (R597). -/
def State.partnerGone (s : State) : Bool := !s.flag Reg.TWIN_STATE_HB_OK 0 && decide (2 ≤ s.twin.misses)

/-- A low sample of `INTLK_IN` lets the unit take the token (R594). -/
def State.mayTake (s : State) : Bool :=
  let sync := s.get Reg.TWIN_STATE_SYNC 0 == 2
  (s.twin.partnerHeld && sync) || (decide ((if s.prio then 1 else 3) ≤ s.twin.free) && (sync || s.partnerGone))

/-- The unit takes the token (R595, R596). -/
def State.takeToken (s : State) : State :=
  ((s.setToken true).count Reg.TAKEOVERS_COUNT 0 1).onTwin fun t =>
    { t with takeAt := some s.ticks, confirmed := false, free := 0 }

/-- The sample of `INTLK_IN` at cycle start + 2 µs (R594); a handover command is DONE when the partner holds the token. -/
def State.tokenSample (s : State) (level : Bool) : State :=
  if !s.pairOn then s
  else
    let s := (s.waitTb 0 (s.star.start + 2000)).setFlag Reg.TWIN_STATE_PARTNER_TOKEN 0 level
    let take := !level && !s.token && s.mayTake
    let s := if level && !s.token then
        match s.twin.handMb with
        | some n => (s.setDone n).onTwin fun t => { t with handMb := none }
        | none => s
      else s
    let s := s.onTwin fun t =>
      { t with partnerHeld := level, free := if level || s.token then 0 else t.free + 1 }
    if take then s.takeToken else s

/-- The second sample, 1 µs after a take (R595). -/
def State.arbitrate (s : State) (level : Bool) : State :=
  match s.twin.takeAt with
  | none => s
  | some t =>
    let s := ((s.waitTill (t + 125)).onTwin fun t => { t with takeAt := none }).setFlag Reg.TWIN_STATE_PARTNER_TOKEN 0 level
    let s := s.raise 224
    if level && !s.prio then ((s.setFlag Reg.TWIN_FLAGS_ARB_LOST 0 true).raise 231).dropToken
    else s.onTwin fun t => { t with confirmed := true }

/-- The partner's heartbeat is there: its pulse or its CYCLE message. -/
def State.partnerBeats (s : State) : State :=
  (s.setFlag Reg.TWIN_STATE_HB_OK 0 true).onTwin fun t => { t with hbSeen := true }

/-- The partner's heartbeat fails (R597). -/
def State.heartbeatFails (s : State) : State :=
  if s.pairOn && s.flag Reg.TWIN_STATE_HB_OK 0 && decide (2 ≤ s.twin.misses) then
    let s := (s.setFlag Reg.TWIN_STATE_HB_OK 0 false).raise 226
    let s := if !s.token && s.flag Reg.TWIN_STATE_PARTNER_TOKEN 0 then
        (s.setFlag Reg.TWIN_FLAGS_TWIN_LINK_FAULT 0 true).raise 227 else s
    s.loseSync
  else s

/-- The bytes of a digest as the four words of its register. -/
def State.putDigest (s : State) (f : Field) (d : List Byte) : State :=
  (List.range 4).foldl (fun s i => s.set f i (uAt d (8 * i) 8)) s

/-- A resynchronisation ends without success: the unit stays unsynchronised. -/
def State.endResync (s : State) (e : Nat) : State :=
  let s := s.setErrorOf s.twin.resyncMb e
  let s := s.onTwin fun t => { t with resyncMb := none, cut := none, compare := false }
  let s := if s.get Reg.TWIN_STATE_SYNC 0 = 1 then s.set Reg.TWIN_STATE_SYNC 0 0 else s
  s.set Reg.RESYNC_PROGRESS_PHASE 0 0

/-- The digests of a cycle agree: after a resynchronisation the pair is synchronised (R610). -/
def State.digestsAgree (s : State) : State :=
  if s.twin.compare then
    let s := (s.set Reg.TWIN_STATE_SYNC 0 2).raise 230
    let s := match s.twin.resyncMb with
      | some n => s.setDone n
      | none => s
    s.onTwin fun t => { t with compare := false, resyncMb := none }
  else s

/-- The digests of cycle `n` differ (R603). -/
def State.digestsDiffer (s : State) (n : Nat) : State :=
  let s := if s.flag Reg.TWIN_FLAGS_DIVERGED 0 then s else s.set Reg.FIRST_MISMATCH_CYCLE 0 n
  let s := ((s.count Reg.DIGEST_MISMATCH_COUNT 0 1).setFlag Reg.TWIN_FLAGS_DIVERGED 0 true).raise 228
  let s := if s.twin.compare then s.endResync E_TWIN_NOT_SYNC else s
  s.loseSync

/-- The digests are compared once both of a cycle are known (R603). -/
def State.compareDigests (s : State) : State :=
  match s.twin.theirs with
  | none => s
  | some (n, d) =>
    match s.twin.digests.find? fun e => e.1 == n with
    | none => s
    | some own =>
      let s := s.onTwin fun t => { t with theirs := none }
      if s.get Reg.TWIN_STATE_SYNC 0 = 2 ∨ s.twin.compare = true then
        let s := (s.putDigest Reg.LOCAL_DIGEST_DIGEST own.2).putDigest Reg.PARTNER_DIGEST_DIGEST d
        if own.2 = d then s.digestsAgree else s.digestsDiffer n
      else s

/-- The partner's CYCLE message of cycle `n`, with its digest of the cycle before (R597, R603). -/
def State.cycleMessage (s : State) (n mode role : Nat) (token sync : Bool) (digest : List Byte) : State :=
  let s := s.partnerBeats.onTwin fun t =>
    { t with partner := some { mode := mode, role := role, token := token, sync := sync }, theirs := some (n - 1, digest) }
  s.compareDigests

/-- The partner's ACCEPT record of a node (R601, R602). -/
def State.acceptMessage (s : State) (m : Nat) (ok : Bool) (crc : Nat) : State :=
  match s.slotOf m with
  | some i =>
    if s.pairSync then (s.onNode i fun x => { x with record := some (ok, crc), other := ok }).settleUp i else s
  | none => s

/-- No record within 4 µs of the window's end: the unit commits alone (R601). -/
def State.acceptTimeout (s : State) (m : Nat) : State :=
  match s.slotOf m with
  | some i =>
    if s.pairSync && (s.node i).closed && (s.node i).record.isNone then
      let s := s.waitTb 0 (s.star.start + s.get Reg.NODE_CFG_ARRIVE i + s.guardNs + 4000)
      (s.commitAlone i).loseSync
    else s
  | none => s

/-- A forwarded payload is committed (R601). -/
def State.inputMessage (s : State) (m : Nat) (nul : Bool) (payload : List Byte) : State :=
  match s.slotOf m with
  | some i =>
    if s.pairSync then
      (s.onNode i fun x => { x with up := none, record := none, closed := false }).ingress (s.slotPort i)
        { node := m, nul := nul, payload := payload, crc := 0 }
    else s
  | none => s

/-- Register fields that a resynchronisation copies: the joint engines, the Yarder, the solver, Caldera without the outputs
that R608 holds. -/
def resyncField (f : Field) : Bool :=
  (f.dom == 4 && f.unit == 0) || (f.dom == 3 && f.unit == 2) || f.dom == 5
    || (f.dom == 7 && f.id != Reg.SO_STATUS_OUT.id && f.id != Reg.SO_STATUS_CMD.id)

/-- One part of a RESYNC message is taken over (R610). -/
def State.takePart (s : State) (p : ResyncPart) : State :=
  match p with
  | .bytes a v bad => bad.foldl (fun (s : State) i => { s with memErr := s.memErr.put 0 (a + i) 3 }) (s.memPut a v)
  | .points f v => v.zipIdx.foldl (fun (s : State) e => s.putPoint (f + e.2) e.1.toNat) s
  | .reg f i v =>
    match Reg.byId f with
    | some f => if resyncField f && decide (i < f.units * f.count) then s.set f i v else s
    | none => s
  | .jce k x => { s with jce := s.jce.put JceState.reset k.val x }
  | .yard y => { s with yard := { y with landingSlots := s.yard.landingSlots } }
  | .inst n x => { s with insts := s.insts.put SawInst.reset n.val x }
  | .tile t x => { s with tiles := s.tiles.put SawTile.reset t.val x }
  | .cal c =>
    let k := s.cal
    { s with cal := { c with set := k.set, waiting := k.waiting, halted := k.halted, start := k.start, n := k.n,
                             si := k.si, sorb := k.sorb, edm := k.edm, sealPins := k.sealPins, tpsOut := k.tpsOut,
                             outs := k.outs, sram := k.sram } }
  | .tb0 t => (s.set Reg.TB_TIME_NS 0 t).set Reg.TB_FRAC_FRAC 0 0

/-- The cut of a resynchronisation: the whole-cell run ends as SKIPPED (R610). -/
def State.makeCut (s : State) : State :=
  let s := s.onTwin fun t => { t with cut := some s.ticks }
  match (s.inst 0).run with
  | some r => if r.whole then s.endRun 0 8 r.origin 0 false false else s
  | none => s

/-- Both units release at a frame start: a STANDBY's star joins (R610). -/
def State.releaseCut (s : State) : State :=
  if s.twin.cut.isNone then s
  else
    let s := s.onTwin fun t => { t with cut := none, compare := true, theirs := none }
    if !s.token && s.starState == 0 then s.starEnter else s

/-- A RESYNC message: 1 bulk, 2 cut, 0 release (R610). It acts on a STANDBY that resynchronises and on the ACTIVE. -/
def State.resyncMessage (s : State) (phase dirty : Nat) (parts : List ResyncPart) : State :=
  let standby := s.get Reg.TWIN_STATE_ROLE 0 == 2
  if !s.pairOn || !s.flag Reg.TWIN_STATE_LINK_UP 0 || (standby && s.twin.resyncMb.isNone)
      || s.get Reg.TWIN_STATE_SYNC 0 == 2 then s
  else
    let s := if standby then parts.foldl State.takePart s else s
    let s := (s.set Reg.TWIN_STATE_SYNC 0 1).set Reg.RESYNC_PROGRESS_MIB_DIRTY 0 dirty
    let s := s.set Reg.RESYNC_PROGRESS_PHASE 0 phase
    if phase = 2 then (if s.twin.cut.isSome then s else s.makeCut) else if phase = 0 then s.releaseCut else s

/-- A mode change of either unit, or 120 s, ends a resynchronisation (R609, R610). -/
def State.resyncCheck (s : State) : State :=
  match s.twin.resyncMb with
  | none => s
  | some n =>
    let other := match s.twin.partner with
      | some p => p.mode != s.twin.resyncMode
      | none => false
    if Mode.code s.mode.mode ≠ s.twin.resyncMode ∨ other = true then s.endResync E_MODE
    else if (s.mb n).started + msTicks 120000 < s.ticks then s.endResync E_TWIN_NOT_SYNC
    else s

/-- A message that applies at a cycle start joins the waiting ones (R96, R606); one of the partner answers no mailbox. -/
def State.partnerCommand (s : State) (m : TwinMsg) : State :=
  let m' := match m with
    | .command n code _ bytes => some (TwinMsg.command n code 32 bytes)
    | .window n p v => some (TwinMsg.window n p v)
    | _ => none
  let takes := match m with
    | .window .. => s.pairSync
    | _ => s.pairOn && s.flag Reg.TWIN_STATE_LINK_UP 0
  match m' with
  | some m => if takes then s.onTwin fun t => { t with waiting := t.waiting ++ [m] } else s
  | none => s

/-- TWIN_LANE_UP (R530). -/
def execTwinLaneUp (lane : Fin 2) (s : State) : Host.Outcome State Fault Refusal := s.run fun s => s.setLane lane.val true

/-- TWIN_LANE_DOWN with the blocks that came with errors (R530, R607). -/
def execTwinLaneDown (loss : LaneLoss) (s : State) : Host.Outcome State Fault Refusal :=
  s.run fun s => (s.count (if loss.lane.val = 0 then Reg.TWIN_LANE_ERR_LANE0 else Reg.TWIN_LANE_ERR_LANE1) 0 loss.errs.toNat).setLane
    loss.lane.val false

/-- TOKEN_SAMPLE (R594). -/
def execTokenSample (level : Bool) (s : State) : Host.Outcome State Fault Refusal := s.run fun s => s.tokenSample level

/-- ARBITRATION_CHECK (R595). -/
def execArbitrationCheck (level : Bool) (s : State) : Host.Outcome State Fault Refusal := s.run fun s => s.arbitrate level

/-- TOKEN_RELEASE (R596). -/
def execTokenRelease (s : State) : Host.Outcome State Fault Refusal := s.run State.dropToken

/-- The unit pulls `INTLK_HB`: at the cycle start with `PRIO` 1, half a cycle later with `PRIO` 0 (R597). -/
def State.ownBeat (s : State) : State :=
  (s.waitTb 0 (s.star.start + if s.prio then 0 else s.cycleNs / 2)).out .heartbeat

/-- HEARTBEAT_PULSE: the partner's pulse arrives, or the unit pulls `INTLK_HB` (R597). -/
def execHeartbeatPulse (partner : Bool) (s : State) : Host.Outcome State Fault Refusal :=
  s.run fun s => if !s.pairOn then s else if partner then s.partnerBeats else s.ownBeat

/-- HEARTBEAT_FAIL (R597). -/
def execHeartbeatFail (s : State) : Host.Outcome State Fault Refusal := s.run State.heartbeatFails

/-- CYCLE_MESSAGE (R597, R603). -/
def execCycleMessage (cycle : Nat) (mode role : Nat) (token sync : Bool) (digest : List Byte) (s : State) :
    Host.Outcome State Fault Refusal :=
  s.run fun s => if s.pairOn then s.cycleMessage cycle mode role token sync digest else s

/-- ACCEPT_MESSAGE (R601). -/
def execAcceptMessage (node : Fin 256) (ok : Bool) (crc : Nat) (s : State) : Host.Outcome State Fault Refusal :=
  s.run fun s => s.acceptMessage node.val ok crc

/-- ACCEPT_TIMEOUT (R601). -/
def execAcceptTimeout (node : Fin 256) (s : State) : Host.Outcome State Fault Refusal :=
  s.run fun s => s.acceptTimeout node.val

/-- INPUT_MESSAGE (R601). -/
def execInputMessage (node : Fin 256) (nul : Bool) (payload : List Byte) (s : State) : Host.Outcome State Fault Refusal :=
  s.run fun s => s.inputMessage node.val nul payload

/-- COMMAND_MESSAGE (R96, R606). -/
def execCommandMessage (m : TwinMsg) (s : State) : Host.Outcome State Fault Refusal := s.run fun s => s.partnerCommand m

/-- SOLVE_MESSAGE (R227). -/
def execSolveMessage (inst : Fin 8) (iters : Word16) (outcome : Fin 16) (s : State) : Host.Outcome State Fault Refusal :=
  s.run fun s => if s.pairOn then s.doPairExchange inst.val iters.toNat outcome.val else s

/-- HANDOVER_MESSAGE (R598). -/
def execHandoverMessage (cycle : Nat) (s : State) : Host.Outcome State Fault Refusal :=
  s.run fun s => if s.pairOn then s.onTwin fun t => { t with handover := some cycle } else s

/-- RESYNC_MESSAGE (R610). -/
def execResyncMessage (phase : Fin 3) (dirty : Nat) (parts : List ResyncPart) (s : State) :
    Host.Outcome State Fault Refusal :=
  s.run fun s => s.resyncMessage phase.val dirty parts

end Sys2Proof.Machine
end

