-- ==== Sys2Proof/Machine/CmdSys.lean ====
section
/-!
DEFINITION. The SYS and MODE commands (R101 to R104).
-/
namespace Sys2Proof.Machine

open Status

/-- A payload of small numbers: width in bytes, value. -/
def fieldsOf (l : List (Nat × Nat)) : List Byte := l.flatMap fun f => leBytes f.1 f.2

/-- SYS_INFO. -/
def State.sysInfo (s : State) (_n : Nat) (_p : List Byte) : CmdOut :=
  CmdOut.ok s (fieldsOf [(2, Config.vendorId.toNat), (2, 0x1690), (1, 0x42), (1, 4), (1, 0), (1, Config.firmwarePatch.toNat),
    (4, Config.bootRomVersion.toNat), (16, Config.serial.toNat)])

/-- An identifier that a session may have (R81); which one is free. -/
def State.newSession (s : State) : Nat := 1 + s.free % (2 ^ 32 - 2)

/-- SYS_SESSION_OPEN (R81, R82). DESIGN CHOICE (log entry 69): `E_PARAM` is judged before `E_FULL`. -/
def State.sessionOpen (s : State) (n : Nat) (p : List Byte) : CmdOut :=
  let t := uAt p 0 2
  if 3600 < t then CmdOut.fail s E_PARAM
  else if 8 ≤ s.host.sessions.length then CmdOut.fail s E_FULL
  else
    let id := s.newSession
    let x : Session := { id := id, link := (s.mb n).link, idle := if t = 0 then 60 else t, last := s.ticks }
    CmdOut.ok (s.tookFree.onHost fun h => { h with sessions := h.sessions ++ [x] }) (leBytes 4 id)

/-- SYS_SESSION_CLOSE (R82, R84). -/
def State.sessionClose (s : State) (n : Nat) (_p : List Byte) : CmdOut :=
  let id := s.mbSession n
  let k := (s.mb n).link
  CmdOut.ok (s.onHost fun h => { h with sessions := h.sessions.filter fun x => !(x.id == id && x.link == k) }) []

/-- SYS_STATUS (R101, R155). -/
def State.sysStatus (s : State) (_n : Nat) (_p : List Byte) : CmdOut :=
  CmdOut.ok s (fieldsOf [(1, Mode.code s.mode.mode), (1, s.get Reg.TWIN_STATE_ROLE 0), (2, s.mode.causes.headD 0),
    (4, min ((s.ticks - s.power.resetAt) / 125000000) 0xFFFFFFFF), (2, s.get Reg.TEMP_JUNCTION 0),
    (1, s.get Reg.RST_CAUSE_LETTER 0), (1, b2n s.parked)])

/-- SYS_RESET (R101, R102, R705). A device reset and one of HOST leave no response. -/
def State.sysReset (s : State) (_n : Nat) (p : List Byte) : CmdOut :=
  let kind := uAt p 0 1
  let d := uAt p 1 1
  if 1 < kind ∨ (kind = 1 ∧ 7 < d) then CmdOut.fail s E_PARAM
  else if kind = 0 then CmdOut.later (s.startReset .d 6)
  else if d = 7 then CmdOut.fail s E_SYS_DOMAIN
  else if d = 1 then CmdOut.later (s.domainReset 1)
  else CmdOut.ok (s.domainReset d) []

/-- SYS_MBOX_OWNER (R65). DESIGN CHOICE (log entry 67): `E_BUSY` for a mailbox that is not IDLE. -/
def State.mboxOwner (s : State) (_n : Nat) (p : List Byte) : CmdOut :=
  let m := uAt p 0 1
  let o := uAt p 1 1
  if m = 0 ∨ 31 < m ∨ 3 < o then CmdOut.fail s E_PARAM
  else if s.mbState m ≠ 0 then CmdOut.fail s E_BUSY
  else CmdOut.ok (s.set Reg.MB_STATE_OWNER m o) []

/-- SYS_POWER (R103, R698 to R700). -/
def State.sysPower (s : State) (_n : Nat) (p : List Byte) : CmdOut :=
  let gpio := uAt p 1 1
  let level := uAt p 2 1
  match uAt p 0 1 with
  | 0 => CmdOut.ok (if s.parked then s.parkLeave else s) []
  | 1 =>
    if s.pairSync then CmdOut.fail s E_ROLE
    else CmdOut.ok (if s.parked then s else s.parkEnter) []
  | 2 =>
    if 63 < gpio ∨ 1 < level then CmdOut.fail s E_PARAM
    else if (s.owner 8 gpio).isSome then CmdOut.fail s E_SYS_WAKE
    else CmdOut.later (s.dormantEnter gpio (level == 1))
  | _ => CmdOut.fail s E_PARAM

/-- The events that Caldera accepts (R651). -/
def calderaEvent (e : Nat) : Bool :=
  decide (e < 8) || e == 64 || e == 67 || e == 136 || e == 141 || decide (224 ≤ e ∧ e < 230)

/-- A target that has just been enabled is signalled where its event is already pending in it (R649). -/
def State.routeSignal (s : State) (e target index : Nat) : State :=
  if target = 0 then
    if bitOf (s.get Reg.HOST_PEND_PEND (e / 64)) (e % 64) then s.msix (s.get Reg.EV_ROUTE_VECTOR e) else s
  else if target = 1 then
    if bitOf (s.get Reg.AC_PEND_PEND (4 * index + e / 64)) (e % 64) then s.out (.coreEvent index e) else s
  else s

/-- SYS_EVENT_ROUTE (R649, R651, R763). -/
def State.eventRoute (s : State) (_n : Nat) (p : List Byte) : CmdOut :=
  let e := uAt p 0 1
  let index := uAt p 2 1
  let on := uAt p 3 1
  let target := uAt p 1 1
  if 3 < target ∨ 1 < on then CmdOut.fail s E_PARAM
  else if target = 3 ∧ calderaEvent e = false then CmdOut.fail s E_SYS_EVENT
  else if (target = 0 ∧ 63 < index) ∨ (target = 1 ∧ 15 < index) then CmdOut.fail s E_PARAM
  else
    let was := if target = 0 then s.flag Reg.EV_ROUTE_MSIX_EN e else bitOf (s.get Reg.EV_ROUTE_CORE_MASK e) index
    let s := match target with
      | 0 => (s.set Reg.EV_ROUTE_VECTOR e index).set Reg.EV_ROUTE_MSIX_EN e on
      | 1 => s.set Reg.EV_ROUTE_CORE_MASK e (putBits (s.get Reg.EV_ROUTE_CORE_MASK e) index 1 on)
      | 2 => s.set Reg.EV_ROUTE_RANGER_EN e on
      | _ => s.set Reg.EV_ROUTE_CALDERA_EN e on
    CmdOut.ok (if on = 1 ∧ was = false then s.routeSignal e target index else s) []

/-- MODE_GET (R144). -/
def State.modeGet (s : State) (_n : Nat) (_p : List Byte) : CmdOut :=
  CmdOut.ok s (fieldsOf [(1, Mode.code s.mode.mode), (1, s.get Reg.TWIN_STATE_ROLE 0), (1, Mode.code s.mode.previous),
    (1, s.mode.reason), (4, min ((s.ticks - s.mode.since) / 125000) 0xFFFFFFFF)])

/-- MODE_REQUEST (R142, R145): DONE when the target is entered. -/
def State.modeRequest (s : State) (n : Nat) (p : List Byte) : CmdOut :=
  match Mode.ofCode (uAt p 0 1) with
  | none => CmdOut.fail s E_PARAM
  | some m =>
    if m = s.mode.mode then CmdOut.ok s []
    else
      let e := s.requestCheck m
      if e ≠ OK then CmdOut.fail s e else CmdOut.later (s.askMode m 1 n)

/-- MODE_HALT (R104, R145, R153): refused where HALTING is over by the time it takes effect. -/
def State.modeHalt (s : State) (n : Nat) (_p : List Byte) : CmdOut :=
  if s.mode.mode = .halting then CmdOut.ok s []
  else if s.mode.mode = .jog ∨ s.mode.mode = .run then CmdOut.later (s.askMode .halting 1 n)
  else CmdOut.fail s E_MODE_TRANSITION

/-- MODE_FAULT_ACK (R158). -/
def State.modeAck (s : State) (n : Nat) (_p : List Byte) : CmdOut :=
  if s.mode.causes.any s.causePresent then CmdOut.fail s E_MODE_CAUSE_ACTIVE
  else
    let s := { s with mode := { s.mode with causes := [], stops := [], engines := [] } }
    CmdOut.later (s.askMode (if s.ready then .idle else .config) 8 n)

/-- SYS_INFO. -/
def execSysInfo (mb : Fin 32) (s : State) : Host.Outcome State Fault Refusal :=
  s.run fun s => s.command mb.val 0x0101 State.sysInfo

/-- SYS_SESSION_OPEN. -/
def execSysSessionOpen (mb : Fin 32) (s : State) : Host.Outcome State Fault Refusal :=
  s.run fun s => s.command mb.val 0x0102 State.sessionOpen

/-- SYS_SESSION_CLOSE. -/
def execSysSessionClose (mb : Fin 32) (s : State) : Host.Outcome State Fault Refusal :=
  s.run fun s => s.command mb.val 0x0103 State.sessionClose

/-- SYS_STATUS. -/
def execSysStatus (mb : Fin 32) (s : State) : Host.Outcome State Fault Refusal :=
  s.run fun s => s.command mb.val 0x0104 State.sysStatus

/-- SYS_RESET. -/
def execSysReset (mb : Fin 32) (s : State) : Host.Outcome State Fault Refusal :=
  s.run fun s => s.command mb.val 0x0105 State.sysReset

/-- SYS_MBOX_OWNER. -/
def execSysMboxOwner (mb : Fin 32) (s : State) : Host.Outcome State Fault Refusal :=
  s.run fun s => s.command mb.val 0x0106 State.mboxOwner

/-- SYS_POWER. -/
def execSysPower (mb : Fin 32) (s : State) : Host.Outcome State Fault Refusal :=
  s.run fun s => s.command mb.val 0x0107 State.sysPower

/-- SYS_EVENT_ROUTE. -/
def execSysEventRoute (mb : Fin 32) (s : State) : Host.Outcome State Fault Refusal :=
  s.run fun s => s.command mb.val 0x0108 State.eventRoute

/-- MODE_GET. -/
def execModeGet (mb : Fin 32) (s : State) : Host.Outcome State Fault Refusal :=
  s.run fun s => s.command mb.val 0x0201 State.modeGet

/-- MODE_REQUEST. -/
def execModeRequest (mb : Fin 32) (s : State) : Host.Outcome State Fault Refusal :=
  s.run fun s => s.command mb.val 0x0202 State.modeRequest

/-- MODE_HALT. -/
def execModeHalt (mb : Fin 32) (s : State) : Host.Outcome State Fault Refusal :=
  s.run fun s => s.command mb.val 0x0203 State.modeHalt

/-- MODE_FAULT_ACK. -/
def execModeFaultAck (mb : Fin 32) (s : State) : Host.Outcome State Fault Refusal :=
  s.run fun s => s.command mb.val 0x0204 State.modeAck

end Sys2Proof.Machine
end

