-- ==== Sys2Proof/Machine/CmdAxis.lean ====
section
/-!
DEFINITION. The AXIS commands (R114 to R116 and chapters 8 and 12). Errors come in the order of the table: unbound axis,
trajectory, fault, disabled, not homed, limit (log entry 50).
-/
namespace Sys2Proof.Machine

open Status

/-- A command on a bound axis. -/
def State.onBound (s : State) (p : List Byte) (f : Nat → CmdOut) : CmdOut :=
  if s.bound (uAt p 0 1) then f (uAt p 0 1) else CmdOut.fail s E_AXIS_UNBOUND

/-- AXIS_STATUS: the points of R279. -/
def State.axisStatus (s : State) (_n : Nat) (p : List Byte) : CmdOut :=
  s.onBound p fun x =>
    CmdOut.ok s (fieldsOf [(8, s.point (256 * x)), (8, s.point (256 * x + 1)), (4, s.point (256 * x + 6)), (4, s.point (256 * x + 7))])

/-- AXIS_PARAM_GET (R273, R274). -/
def State.axisParamGet (s : State) (_n : Nat) (p : List Byte) : CmdOut :=
  s.onBound p fun x =>
    let k := uAt p 1 2
    if (paramDef k).isSome ∨ (0x1F0 ≤ k ∧ k < 0x200) then CmdOut.ok s (leBytes 8 (s.param x k)) else CmdOut.fail s E_AXIS_PARAM

/-- AXIS_PARAM_SET (R255, R273 to R278): both halves are staged while the engine runs; the relations of R278 count what is
staged already. -/
def State.axisParamSet (s : State) (_n : Nat) (p : List Byte) : CmdOut :=
  s.onBound p fun x =>
    let k := uAt p 1 2
    let v := uAt p 3 8
    let g := axisEngine x
    let e := (s.commitStage g).paramCheck x k v
    if e ≠ OK then CmdOut.fail s e
    else if !s.jceRuns g then CmdOut.ok (s.putParam x k v) []
    else if 62 < (s.eng g).stage.length then CmdOut.fail s E_FULL
    else
      let a := paramAddr x k
      CmdOut.ok (s.onEng g fun j => { j with stage := j.stage ++ [(a, BitVec.ofNat 32 v), (a + 1, BitVec.ofNat 32 (v / 2 ^ 32))] }) []

/-- A latched fault, or an engine that does not run. -/
def State.axisFaulted (s : State) (x : Nat) : Bool := (s.ax x).faults != 0 || !s.jceRuns (axisEngine x)

/-- AXIS_ENABLE with on = 1 (R149, R318). -/
def State.enableOn (s : State) (x : Nat) : CmdOut :=
  if s.axisFaulted x then CmdOut.fail s E_AXIS_FAULT
  else if !s.nodeReady x then CmdOut.fail ((s.latchFault x 12).axisWords x) E_AXIS_FAULT
  else if (s.ax x).enabled then CmdOut.ok ((s.onAx x fun a => { a with disabling := false, reaction := 0 }).axisWords x) []
  else CmdOut.ok (((s.passCommand x).axisEnable x).axisWords x) []

/-- AXIS_ENABLE with on = 0 (R318): the reaction `RAMP_STOP` starts, unless a more severe one runs. -/
def State.enableOff (s : State) (x : Nat) : CmdOut :=
  if !(s.ax x).enabled then CmdOut.ok s []
  else
    let s := (s.passCommand x).onAx x fun a => { a with disabling := true, homing := none }
    CmdOut.ok (if (s.ax x).reaction = 0 then
      (((s.onAx x fun a => { a with reaction := 1 }).axisStop x 0x65).axisWords x) else s) []

/-- AXIS_ENABLE. -/
def State.axisOnOff (s : State) (_n : Nat) (p : List Byte) : CmdOut :=
  s.onBound p fun x =>
    match uAt p 1 1 with
    | 0 => s.enableOff x
    | 1 => s.enableOn x
    | _ => CmdOut.fail s E_PARAM

/-- The checks that a move and a jog share (R116, R317). -/
def State.motionCheck (s : State) (x : Nat) : Nat :=
  let a := s.ax x
  if s.mode.mode = .run ∧ a.traj = true then E_AXIS_JOINT
  else if s.axisFaulted x then E_AXIS_FAULT
  else if !a.enabled || a.disabling then E_AXIS_DISABLED
  else OK

/-- A limit input is active on the side of a direction (R425). -/
def State.limitTowards (s : State) (x : Nat) (dir : Rat) : Bool :=
  (decide (0 < dir) && bitOf (s.axisInputs x) 0) || (decide (dir < 0) && bitOf (s.axisInputs x) 1)

/-- AXIS_MOVE (R114 to R116, R295, R425); a relative target counts from the present position (log entry 50). -/
def State.axisMove (s : State) (_n : Nat) (p : List Byte) : CmdOut :=
  s.onBound p fun x =>
    let rel := bitOf (uAt p 1 1) 0
    let target := if rel then (s.axisPos x).floor + sAt p 2 8 else sAt p 2 8
    let e := s.motionCheck x
    let l := s.softLimits x
    if e ≠ OK then CmdOut.fail s e
    else if !rel && !(s.ax x).homed then CmdOut.fail s E_AXIS_NOT_HOMED
    else if target < l.1 ∨ l.2 < target ∨ s.limitTowards x (target - s.axisPos x) = true then CmdOut.fail s E_AXIS_LIMIT
    else
      let s := (s.passCommand x).onAx x fun a => { a with homing := none }
      CmdOut.ok (s.axisStart x (.move target) (uAt p 10 4) (uAt p 14 4) (uAt p 18 4) false) []

/-- AXIS_JOG (R295, R425). -/
def State.axisJog (s : State) (_n : Nat) (p : List Byte) : CmdOut :=
  s.onBound p fun x =>
    let v := sAt p 1 4
    let e := s.motionCheck x
    if e ≠ OK then CmdOut.fail s e
    else if s.limitTowards x v then CmdOut.fail s E_AXIS_LIMIT
    else
      let s := (s.passCommand x).onAx x fun a => { a with homing := none }
      CmdOut.ok (s.axisStart x (.velocity v) 0 0 0 (v != 0)) []

/-- The stop of one axis: none where it is disabled or already stops (R115, R150, R314, R430). -/
def State.stopOne (s : State) (x : Nat) : State :=
  let a := s.ax x
  if !a.enabled || a.disabling || a.reaction != 0 || s.mode.mode == .halting then s
  else ((s.passCommand x).onAx x fun a => { a with homing := none, stayed := true }).axisStop x 0x62

/-- AXIS_STOP. -/
def State.axisStopCmd (s : State) (_n : Nat) (p : List Byte) : CmdOut :=
  if uAt p 0 1 = 0xFF then CmdOut.ok (((List.range 256).filter s.bound).foldl (fun s x => s.stopOne x) s) []
  else s.onBound p fun x => CmdOut.ok (s.stopOne x) []

/-- The axis has the inputs and the index channel of a homing method (R426). -/
def State.homingFits (s : State) (x method : Nat) (d : AxisIoDef) : Bool :=
  let ch := indexChannel x
  let index := (axisKind x == 1 || d.encoder) && decide (1 ≤ s.fbMode ch ∧ s.fbMode ch ≤ 4)
  let switch := match homingBit method with
    | 0 => d.hasPos
    | 1 => d.hasNeg
    | _ => d.hasHome
  (method == 5 || method == 6 || switch) && (!homingIndex method || index)

/-- The homing set of an axis. -/
def State.homingSet (s : State) (x : Nat) : Option AxisIoDef := s.cell.bind fun c => c.axisIo.find? fun d => d.axis == x

/-- AXIS_HOME (R114, R426 to R428). -/
def State.axisHome (s : State) (_n : Nat) (p : List Byte) : CmdOut :=
  s.onBound p fun x =>
    let m := uAt p 1 1
    let d := s.homingSet x
    let fits := match d with
      | some d => axisKind x != 0 && decide (m ≤ 10) && s.homingFits x m d
      | none => false
    if m ≠ 0 ∧ fits = false then CmdOut.fail s E_PARAM
    else if s.axisFaulted x then CmdOut.fail s E_AXIS_FAULT
    else if !(s.ax x).enabled || (s.ax x).disabling then CmdOut.fail s E_AXIS_DISABLED
    else if m = 0 then
      if s.axisBusy x then CmdOut.fail s E_BUSY
      else if axisKind x = 0 then CmdOut.ok ((s.passCommand x).onAx x fun a => { a with homed := true }) []
      else CmdOut.ok ((s.passCommand x).presetHome x (s.axisPos x) ((d.map AxisIoDef.offset).getD 0)) []
    else match d with
      | some d => CmdOut.ok ((s.passCommand x).startHoming x m d) []
      | none => CmdOut.fail s E_PARAM

/-- The engine of an axis is TRAPPED, or debug has released it (R266). -/
def State.engineFreed (s : State) (k : Nat) : Bool :=
  s.get Reg.JCE_STATE_STATE k == jceTrapped || (s.eng k).debugReleased

/-- A latched fault bit whose condition is still present (R316); the reload of R266 ends that of ENGINE_STOPPED. -/
def State.faultStays (s : State) (x : Nat) : Bool :=
  (List.range 17).any fun b => bitOf (s.ax x).faults b && s.faultPresent x b && !(b == 11 && s.engineFreed (axisEngine x))

/-- `FB_FAULT`, `INDEX_LOST` and `LIMIT_HIT`: clearing one clears `HOMED` (R316). -/
def losesHome (a : AxisState) : Bool := bitOf a.faults 1 || bitOf a.faults 15 || bitOf a.faults 16

/-- AXIS_FAULT_CLEAR (R266, R316, R327): a reload clears the fault bits of the engine's other axes as well (R319). -/
def State.axisFaultClear (s : State) (_n : Nat) (p : List Byte) : CmdOut :=
  s.onBound p fun x =>
    let k := axisEngine x
    let s := if axisKind x ≠ 0 ∧ s.flag Reg.FB_STATUS_COND (axisFb x) = false then
        s.setFlag Reg.FB_FLAGS_FAULT (axisFb x) false else s
    if (s.eng k).debugHeld || s.faultStays x then CmdOut.fail s E_AXIS_FAULT
    else
      let s := if (s.ax x).enabled then s.axisDisable x else s
      let s := (s.passCommand x).onAx x fun a =>
        { a with faults := 0, first := 0, reaction := 0, homed := a.homed && !losesHome a }
      let s := if s.engineFreed k then s.engineReload k fun y => (s.ax y).homed && !losesHome (s.ax y) else s
      CmdOut.ok (s.axisWords x) []

/-- AXIS_SOURCE (R303): only a joint follows the cell trajectory. -/
def State.axisSource (s : State) (_n : Nat) (p : List Byte) : CmdOut :=
  s.onBound p fun x =>
    let src := uAt p 1 1
    let joint := (s.cell.bind fun c => CellContent.jointOf c x).isSome
    if 1 < src ∨ (src = 1 ∧ joint = false) then CmdOut.fail s E_PARAM
    else CmdOut.ok ((s.onAx x fun a => { a with traj := src == 1 }).axisWords x) []

/-- AXIS_STATUS. -/
def execAxisStatus (mb : Fin 32) (s : State) : Host.Outcome State Fault Refusal :=
  s.run fun s => s.command mb.val 0x0401 State.axisStatus

/-- AXIS_PARAM_GET. -/
def execAxisParamGet (mb : Fin 32) (s : State) : Host.Outcome State Fault Refusal :=
  s.run fun s => s.command mb.val 0x0402 State.axisParamGet

/-- AXIS_PARAM_SET. -/
def execAxisParamSet (mb : Fin 32) (s : State) : Host.Outcome State Fault Refusal :=
  s.run fun s => s.command mb.val 0x0403 State.axisParamSet

/-- AXIS_ENABLE. -/
def execAxisEnable (mb : Fin 32) (s : State) : Host.Outcome State Fault Refusal :=
  s.run fun s => s.command mb.val 0x0404 State.axisOnOff

/-- AXIS_MOVE. -/
def execAxisMove (mb : Fin 32) (s : State) : Host.Outcome State Fault Refusal :=
  s.run fun s => s.command mb.val 0x0405 State.axisMove

/-- AXIS_JOG. -/
def execAxisJog (mb : Fin 32) (s : State) : Host.Outcome State Fault Refusal :=
  s.run fun s => s.command mb.val 0x0406 State.axisJog

/-- AXIS_STOP. -/
def execAxisStop (mb : Fin 32) (s : State) : Host.Outcome State Fault Refusal :=
  s.run fun s => s.command mb.val 0x0407 State.axisStopCmd

/-- AXIS_HOME. -/
def execAxisHome (mb : Fin 32) (s : State) : Host.Outcome State Fault Refusal :=
  s.run fun s => s.command mb.val 0x0408 State.axisHome

/-- AXIS_FAULT_CLEAR. -/
def execAxisFaultClear (mb : Fin 32) (s : State) : Host.Outcome State Fault Refusal :=
  s.run fun s => s.command mb.val 0x0409 State.axisFaultClear

/-- AXIS_SOURCE. -/
def execAxisSource (mb : Fin 32) (s : State) : Host.Outcome State Fault Refusal :=
  s.run fun s => s.command mb.val 0x040A State.axisSource

end Sys2Proof.Machine
end

