-- ==== Sys2Proof/Machine/CellCheck.lean ====
section
/-!
DEFINITION. The checks of a cell image (R15, R18, R110, R770 and the rules of other chapters that extend checks 4 to 7).
-/
namespace Sys2Proof

open Sys2Proof.Machine

/-- What an item of an image breaks: the type of its section, the kind and number of R770. -/
structure CellFail where
  sect : Nat
  kind : Nat
  number : Nat
deriving DecidableEq, Repr, Inhabited

/-- The failure that a check reports: the lowest kind, within it the lowest number (R770). -/
def worst (l : List CellFail) : Option CellFail :=
  l.foldl (fun m f => match m with
    | none => some f
    | some g => if f.kind < g.kind ∨ (f.kind = g.kind ∧ f.number < g.number) then some f else some g) none

/-- A register as the image sets it. -/
def CellContent.setting (c : CellContent) (f : Field) (i : Nat) : Nat :=
  ((c.settings.reverse.find? fun r => r.field == f.id && r.index == i).map fun r => r.value % 2 ^ f.width).getD (f.resetAt i)

/-- A parameter of an axis as the image sets it, as stored. -/
def CellContent.axisParam (c : CellContent) (x n : Nat) : Nat :=
  match c.axisParams.reverse.find? fun q => q.inst == x && q.number == n with
  | some q => q.value
  | none => ((paramDef n).map fun d => ofS 64 d.dflt).getD 0

/-- The owner of a pooled resource in the image. -/
def CellContent.owner (c : CellContent) (kind number : Nat) : Option Nat :=
  (c.claims.find? fun x => x.kind == kind && x.number == number).map Claim.owner

/-- The local and network axes that the image binds. -/
def CellContent.boundAxes (c : CellContent) : List Nat := c.axes ++ c.joints.map Prod.snd

/-- Check 4: hierarchy (R15). -/
def failsHierarchy (c : CellContent) : List CellFail :=
  (c.arms.filter fun a => decide (12 < a.joints.length ∨ 16 ≤ a.arm) || decide (1 < (c.arms.countP fun b => b.arm == a.arm))).map
      (fun a => ⟨0x000A, 1, a.arm⟩)
    ++ (c.joints.filter fun j => decide (256 ≤ j.2 ∨ 1 < (c.joints.countP fun k => k.2 == j.2))).map (fun j => ⟨0x000A, 2, j.1⟩)
    ++ (c.joints.drop 192).map (fun j => ⟨0x000A, 2, j.1⟩)

/-- The conversions of a regular sequence before entry `e`. -/
def CellContent.dwellBefore (c : CellContent) (cv e : Nat) : Nat :=
  ((List.range e).map fun i => max 1 (bitsOf (c.setting Reg.REG_ENTRY_ENTRY (32 * cv + i)) 10 8)).sum

/-- The entry of a converter samples an input as a sin/cos signal (R395). -/
def CellContent.sincosEntry (c : CellContent) (cv e input : Nat) : Bool :=
  let w := c.setting Reg.REG_ENTRY_ENTRY (32 * cv + e)
  bitsOf w 0 3 == input && bitOf w 3 && c.setting Reg.ROUTE_CFG_FILT_LEN (16 * cv + bitsOf w 6 4) == 1
    && c.setting Reg.ADC_CFG_INJ_LEN cv == 0

/-- A channel in mode 4 has a proper pair of converters (R333, R395). -/
def CellContent.sincosOk (c : CellContent) (n : Nat) : Bool :=
  let a := c.setting Reg.SINCOS_CFG_SIN_CV n
  let b := c.setting Reg.SINCOS_CFG_COS_CV n
  let e := c.setting Reg.SINCOS_CFG_ENTRY n
  a != b && c.owner 4 a == some (48 + n / 4) && c.owner 4 b == some (48 + n / 4)
    && c.setting Reg.ADC_CFG_REG_TRG a == c.setting Reg.ADC_CFG_REG_TRG b
    && c.sincosEntry a e (c.setting Reg.SINCOS_CFG_SIN_IN n) && c.sincosEntry b e (c.setting Reg.SINCOS_CFG_COS_IN n)
    && c.dwellBefore a e == c.dwellBefore b e

/-- A trip may act on a pair: it belongs to the pair's engine or to the PWM unit, an owner above 64 (R18, R371). -/
def CellContent.tripAllowed (c : CellContent) (p t : Nat) : Bool :=
  match c.owner 5 t with
  | some o => o == 48 + p / 12 || decide (64 < o)
  | none => false

/-- The points of the downlink axis records with the axes that they serve (R538, R767). -/
def CellContent.downPoints (c : CellContent) : List (Nat × Nat) :=
  c.nodes.flatMap fun n => n.down.flatMap fun r =>
    [(0x30080 + 256 * n.node + r.word, r.axis), (0x30081 + 256 * n.node + r.word, r.axis)]

/-- What a pair cannot drive: local axes and the resources of R591. -/
def CellContent.localItems (c : CellContent) : List CellFail :=
  (c.boundAxes.filter (192 ≤ ·)).map (fun a => ⟨0x000A, 3, a⟩)
    ++ (c.claims.filter fun x => x.kind == 4 || x.kind == 5 || x.kind == 15 || (x.kind == 8 && decide (x.owner < 64))).map
      (fun x => ⟨0x000A, x.kind, x.number⟩)

/-- Check 5: ownership and node binding. -/
def failsOwner (c : CellContent) (pair : Bool) : List CellFail :=
  (c.claims.filter fun x => c.claims.any fun y => x.kind == y.kind && x.number == y.number && x.owner != y.owner).map
      (fun x => ⟨0x000A, x.kind, x.number⟩)
    ++ (c.netAxes.filter fun e => !c.nodes.any fun n => n.node == e.2).map (fun e => ⟨0x000A, 3, e.1⟩)
    ++ (c.downPoints.filter fun q => c.pointMap.any fun r =>
        decide (r.first ≤ q.1 ∧ q.1 ≤ r.last) && r.writer != jceWriter q.2).map (fun q => ⟨0x0009, 16, q.1⟩)
    ++ ((List.range 64).filter fun n => c.setting Reg.FB_CFG_MODE n == 4 && !c.sincosOk n).map (fun n => ⟨0x000B, 14, n⟩)
    ++ ((List.range 96).filter fun p => (List.range 16).any fun t =>
        bitOf (c.setting Reg.PWM_TRIP_TRIP_MASK p) t && !c.tripAllowed p t).map (fun p => ⟨0x000A, 15, p⟩)
    ++ (if pair then c.localItems else [])

/-- The pair that is the tick source of an engine. -/
def CellContent.tickPair (c : CellContent) (k : Nat) : Nat := 12 * (k - 48) + c.setting Reg.JCE_TICK_PAIR k

/-- The periods of an engine's tick in one cycle; none where they do not make up a cycle (R40, R252, R281, R352). -/
def CellContent.ticksPerCycle (c : CellContent) (k : Nat) : Option Nat :=
  match c.setting Reg.JCE_TICK_SRC k with
  | 1 =>
    let p := c.tickPair k
    let per := max 2048 (c.setting Reg.PWM_SET_PER p) * (1 + c.setting Reg.PWM_CFG_MODE p)
    if 128 * c.cycle % per = 0 then some (128 * c.cycle / per) else none
  | 2 => some (c.setting Reg.JCE_TICK_DIV k)
  | _ => none

/-- The loops of an axis divide the cycle (R40, R41, R281, R283). DESIGN CHOICE (log entry 65): an axis whose engine has no tick source
has no loop to divide it and passes. -/
def CellContent.loopsOk (c : CellContent) (x : Nat) : Bool :=
  let div := if axisKind x = 1 then c.axisParam x 0x50 * c.axisParam x 0x51 else c.axisParam x 0x51
  if axisKind x = 0 ∨ c.setting Reg.JCE_TICK_SRC (axisEngine x) = 0 then true
  else match c.ticksPerCycle (axisEngine x) with
    | some n => decide (0 < div ∧ div ≤ n) && n % div == 0
    | none => false

/-- A parameter as an item. -/
def paramFail (x n : Nat) : CellFail := ⟨0x000B, 11, 512 * x + n⟩

/-- The parameters of a bound axis that break R278 or R406. -/
def CellContent.paramFails (c : CellContent) (x : Nat) : List CellFail :=
  let p := c.axisParam x
  let k := axisEngine x
  let step := max 32 (2 * c.setting Reg.STP_CFG_PULSE_W (x - 224))
  (if toS 64 (p 0x71) ≤ toS 64 (p 0x70) then [paramFail x 0x70] else [])
    ++ (if p 0x63 < p 0x62 then [paramFail x 0x62] else [])
    ++ (if p 0x63 < p 0x65 then [paramFail x 0x63] else [])
    ++ (if axisKind x = 0 ∧ c.setting Reg.JCE_TICK_DIV k ≤ p 0x03 then [paramFail x 0x03] else [])
    ++ (if axisKind x = 1 then ([0x93, 0x94, 0x95].filter fun n => c.owner 4 (p n % 16) != some k).map (paramFail x) else [])
    ++ (if axisKind x = 2 ∧ 125000000 < p 0x60 * step then [paramFail x 0x60] else [])

/-- The wire time of a frame in tenths of a ns (R533). -/
def wireTenths (mode len : Nat) : Nat := (max 64 (38 + len) + 20) * byteTenths (Nat.log2 mode)

/-- The mode of a port in the schedule. -/
def CellContent.portMode (c : CellContent) (p : Nat) : Nat := ((c.portModes.find? fun e => e.1 == p).map Prod.snd).getD 1

/-- The regions of a payload: axis records of two words and the safety region, each as first word and word count. -/
def NodeDef.regions (n : NodeDef) (recs : List AxisRecord) : List (Nat × Nat) :=
  recs.map (fun r => (r.word, 2)) ++ (if n.safeWords = 0 then [] else [(n.safeWord, n.safeWords)])

/-- Regions lie in a payload of `len` bytes and none overlaps another. -/
def regionsOk (l : List (Nat × Nat)) (len : Nat) : Bool :=
  (l.all fun r => decide (8 * (r.1 + r.2) ≤ len)) &&
    l.zipIdx.all fun a => l.zipIdx.all fun b => a.2 == b.2 || decide (a.1.1 + a.1.2 ≤ b.1.1 ∨ b.1.1 + b.1.2 ≤ a.1.1)

/-- The window of a node lies in the cycle, and its payloads hold their regions. -/
def CellContent.nodeOk (c : CellContent) (n : NodeDef) : Bool :=
  regionsOk (n.regions n.up) n.upLen && regionsOk (n.regions n.down) n.dnLen
    && decide (8 * c.ciOffset + 1000 + 8 * c.guardTicks ≤ n.arrive ∧ n.arrive + 8 * c.guardTicks ≤ 8 * c.cycle)

/-- The downlink frame of a node as an interval in tenths of a ns. -/
def CellContent.downSpan (c : CellContent) (n : NodeDef) : Nat × Nat :=
  (10 * n.dnStart, 10 * n.dnStart + wireTenths (c.portMode n.port) n.dnLen)

/-- The downlink frame of a node lies between the beacon and the end of the cycle, and meets no other one of its port. -/
def CellContent.downOk (c : CellContent) (n : NodeDef) : Bool :=
  let d := c.downSpan n
  decide (wireTenths (c.portMode n.port) 0 ≤ d.1 ∧ d.2 ≤ 80 * c.cycle) &&
    c.nodes.all fun m => m.node == n.node || m.port != n.port || decide (d.2 ≤ (c.downSpan m).1 ∨ (c.downSpan m).2 ≤ d.1)

/-- The slots of an engine follow each other with room for the earlier frame. -/
def CellContent.slotFails (c : CellContent) : List NodeDef → List CellFail
  | a :: b :: r =>
    (if 10 * (a.arrive + 8 * c.guardTicks) + wireTenths (c.portMode a.port) a.upLen + 80 * c.guardTicks ≤ 10 * b.arrive then []
     else [⟨0x0008, 10, min a.node b.node⟩]) ++ c.slotFails (b :: r)
  | _ => []

/-- The nodes that break the Geyser schedule (R532, R533). -/
def CellContent.starFails (c : CellContent) : List CellFail :=
  let cold := c.nodes.filter NodeDef.coldstart
  let node := fun (n : NodeDef) => (⟨0x0008, 10, n.node⟩ : CellFail)
  ((List.range 64).filter fun p => decide (4 < (c.nodes.countP fun n => n.port == p))).map (fun p => ⟨0x0008, 9, p⟩)
    ++ (c.nodes.drop 256).map node
    ++ (c.nodes.filter fun n => decide (256 ≤ n.node ∨ 64 ≤ n.port ∨ 1 < (c.nodes.countP fun m => m.node == n.node))).map node
    ++ (if 15 < (c.nodes.filter NodeDef.sync).length then (c.nodes.filter NodeDef.sync).map node else [])
    ++ (if 2 < cold.length then cold.map node else [])
    ++ (cold.filter fun n => !n.sync || cold.any fun m => m.node != n.node && m.node % 64 == n.node % 64).map node
    ++ (c.nodes.filter fun n => !c.nodeOk n || !c.downOk n).map node
    ++ (List.range 8).flatMap fun e => c.slotFails (engineNodes c e)

/-- The frame time of a channel in SSI mode exceeds the cycle less 1 µs (R339). -/
def CellContent.ssiLate (c : CellContent) (n : Nat) : Bool :=
  c.setting Reg.FB_CFG_MODE n == 5 && decide (c.cycle < 125 +
    (2 + c.setting Reg.SSI_CFG_BITS n + c.setting Reg.SSI_CFG_PARITY n) * 2 * c.setting Reg.SSI_CFG_SSI_DIV n)

/-- The tick source of an engine is none that R252 allows; no kind of R770 names an engine. -/
def CellContent.tickFail (c : CellContent) (k : Nat) : Bool :=
  match c.setting Reg.JCE_TICK_SRC k with
  | 0 => false
  | 1 => !hasPairs k || decide (11 < c.setting Reg.JCE_TICK_PAIR k)
  | 2 => decide (c.setting Reg.JCE_TICK_DIV k = 0 ∨ 32 < c.setting Reg.JCE_TICK_DIV k)
  | _ => true

/-- Check 6: cycle, loop rates and what other chapters add to it. -/
def failsTiming (c : CellContent) : List CellFail :=
  (if c.cycle < 6250 ∨ 125000 < c.cycle ∨ (wholeCell c = true ∧ 125000 % c.cycle ≠ 0) then [⟨0x000C, 17, 0⟩] else [])
    ++ (if c.cycle ≤ c.ciOffset then [⟨0x000C, 17, 1⟩] else [])
    ++ (if 500 < c.solveStart then [⟨0x000C, 17, 2⟩] else [])
    ++ (if (List.range 64).any c.tickFail then [⟨0x000C, 0, 0⟩] else [])
    ++ ((List.range 8).filter fun i => c.setting Reg.JCE_TICK_SRC (48 + i) == 1
        && c.setting Reg.PWM_CFG_LOCK (c.tickPair (48 + i)) == 0).map (fun i => ⟨0x000C, 15, c.tickPair (48 + i)⟩)
    ++ (c.boundAxes.filter fun x => !c.loopsOk x).map (fun x => ⟨0x000C, 3, x⟩)
    ++ c.boundAxes.flatMap c.paramFails
    ++ ((List.range 64).filter fun n => decide (toS 48 (c.setting Reg.CNT_HI_LIMIT n) ≤ toS 48 (c.setting Reg.CNT_LO_LIMIT n))
        || c.ssiLate n).map (fun n => ⟨0x000B, 14, n⟩)
    ++ c.starFails

/-- A schedule holds an operation code outside the table, or a tile's schedule exceeds its memory (R110, R171, R189). -/
def scheduleBad (p : ProblemDef) : Bool :=
  p.kib.any (512 < ·) || p.words.any fun l => l.any fun w => decide (sawOp w = 0 ∨ 15 < sawOp w)

/-- Stages of a problem. -/
def CellContent.stagesOf (c : CellContent) (p : ProblemDef) : Nat := if p.number = 0 then c.numStages else p.stages

/-- Check 7: the solver's limits (R110, R181, R183, R186, R189). -/
def failsSolver (c : CellContent) : List CellFail :=
  c.problems.flatMap fun p =>
    if 16384 < c.numVars p ∨ 32768 < c.numRows p ∨ 65536 < p.nodes.length ∨ (List.range 8).any (524288 < p.share ·) = true then
      [⟨0x0004, 13, p.number⟩]
    else if scheduleBad p then [⟨0x0005, 13, p.number⟩]
    else if 24 < c.stagesOf p then [⟨0x0007, 13, p.number⟩]
    else []

/-- An entry of the section table (R108). -/
structure CellSection where
  type : Nat
  optional : Bool
  offset : Nat
  length : Nat
  crc : Nat
deriving DecidableEq, Repr, Inhabited

/-- The section table of an image. -/
def cellSections (b : List Byte) : List CellSection :=
  (List.range (uAt b 6 2)).map fun i =>
    let o := 32 + 16 * i
    { type := uAt b o 2, optional := bitOf (uAt b (o + 2) 2) 0, offset := uAt b (o + 4) 4, length := uAt b (o + 8) 4,
      crc := uAt b (o + 12) 4 }

/-- What a check of an image answers: number, section index, item index. -/
abbrev CellVerdict := Nat × Nat × Nat

/-- The section index of a failure that no single section carries (R110). -/
def noSection : Nat := 0xFFFFFFFF

/-- Section `i` lies outside the body of the image, which ends at `last`, or meets another one. -/
def sectionBad (l : List CellSection) (first last : Nat) (x : CellSection × Nat) : Bool :=
  decide (x.1.offset < first ∨ last < x.1.offset + x.1.length) ||
    l.zipIdx.any fun y => y.2 != x.2 && decide (x.1.offset < y.1.offset + y.1.length ∧ y.1.offset < x.1.offset + x.1.length)

/-- The mandatory section types that are missing (R109). -/
def missingTypes (l : List CellSection) : List Nat :=
  let has := fun t => l.any fun (x : CellSection) => x.type == t
  let solver := [4, 5, 6, 7]
  ([1, 2, 3, 8, 9, 10, 11, 12] ++ (if solver.any has then solver else [])).filter fun t => !has t

/-- Check 3: the section table (R109). -/
def checkSections (b : List Byte) : Option CellVerdict :=
  let n := uAt b 6 2
  let first := 32 + 16 * n
  let last := b.length - 2420
  let l := cellSections b
  if n = 0 ∨ 64 < n ∨ last < first then some (3, noSection, 0)
  else match l.zipIdx.find? (sectionBad l first last) with
    | some x => some (3, x.2, 0)
    | none =>
      match l.zipIdx.find? fun x => crc32c ((b.drop x.1.offset).take x.1.length) != x.1.crc with
      | some x => some (3, x.2, 0)
      | none =>
        match l.zipIdx.find? fun x => !x.1.optional && !decide (1 ≤ x.1.type ∧ x.1.type ≤ 12) with
        | some x => some (3, x.2, 0)
        | none =>
          match missingTypes l with
          | [] => none
          | t :: r => some (3, noSection, 12 * 2 ^ 24 + (r.foldl min t))

/-- The verdict of a check on the content. -/
def verdictOf (b : List Byte) (check : Nat) (l : List CellFail) : Option CellVerdict :=
  (worst l).map fun f =>
    let at' := (((cellSections b).zipIdx.find? fun x => x.1.type == f.sect).map Prod.snd).getD noSection
    (check, at', f.kind * 2 ^ 24 + f.number)

end Sys2Proof

namespace Sys2Proof.Machine

/-- A key slot is enrolled, not revoked, and its key in the key store is the one whose hash OTP holds (R716, R718). -/
def State.keyUsable (s : State) (slot : Nat) : Bool :=
  slot == 0 || (decide (slot ≤ 4) && (s.flash.otpHash.get none slot).isSome && !s.flash.otpRevoked.getLsbD (slot - 1)
    && s.flash.keyStore.get none slot == s.flash.otpHash.get none slot)

/-- SHA3-256 as a number. -/
def digestOf (b : List Byte) : BitVec 256 := BitVec.ofNat 256 (leNat (sha3 b))

/-- The digest of a signed object: of every byte before its signature. -/
def signedDigest (b : List Byte) : BitVec 256 := digestOf (b.take (b.length - 2420))

/-- The signature at the end of a signed object verifies. -/
def signedBy (b : List Byte) (slot : Nat) : Bool := Config.signatureValid slot (signedDigest b) (b.drop (b.length - 2420))

/-- The checks of R110 on an image. -/
def State.cellCheck (s : State) (b : List Byte) : Option CellVerdict :=
  let key := uAt b 0xC 1
  let c := Config.cellContent b
  if uAt b 0 4 ≠ 0x4C454346 ∨ uAt b 4 2 ≠ 4 ∨ uAt b 8 4 ≠ b.length then some (1, noSection, 0)
  else if !(s.keyUsable key && signedBy b key) then some (2, noSection, 0)
  else (checkSections b) <|> (verdictOf b 4 (failsHierarchy c)) <|> (verdictOf b 5 (failsOwner c s.flash.pairEn))
    <|> (verdictOf b 6 (failsTiming c)) <|> (verdictOf b 7 (failsSolver c))

/-- The image of a slot. -/
def readImage (b : List Byte) : CellImage :=
  { length := b.length, version := uAt b 0x14 4, safetyRef := uAt b 0x10 4, keySlot := uAt b 0xC 1, digest := signedDigest b,
    content := Config.cellContent b }

end Sys2Proof.Machine
end

