-- ==== Sys2Proof/Machine/CmdCell.lean ====
section
/-!
DEFINITION. The CELL commands (R86 to R88, R105 to R113).
-/
namespace Sys2Proof.Machine

open Status

/-- A slot of the cell images. -/
def State.slotAt (s : State) (k : Nat) : CellSlot := s.flash.slots.get CellSlot.empty k

/-- A slot of the cell images changes. -/
def State.putSlot (s : State) (k : Nat) (x : CellSlot) : State :=
  { s with flash := { s.flash with slots := s.flash.slots.put CellSlot.empty k x } }

/-- The error code of a failed check (R110). -/
def cellError (check : Nat) : Nat :=
  match check with
  | 2 => E_CELL_SIGNATURE
  | 4 => E_CELL_HIERARCHY
  | 5 => E_CELL_OWNER
  | 6 => E_CELL_TIMING
  | 7 => E_CELL_SOLVER
  | _ => E_CELL_FORMAT

/-- CELL_LOAD with its last segment (R106, R107, R110). -/
def State.cellLoad (s : State) (_n : Nat) (p : List Byte) : CmdOut :=
  let slot := uAt p 0 1
  let b := p.drop 8
  if b.length ≠ uAt p 4 4 then CmdOut.fail (s.putSlot slot CellSlot.empty) E_LENGTH
  else match s.cellCheck b with
    | none =>
      CmdOut.ok (s.putSlot slot { state := .valid, failed := 0, image := some (readImage b) }) (fieldsOf [(2, 0), (2, 0), (4, 0), (4, 0)])
    | some (check, sect, item) =>
      (s.putSlot slot { state := .invalid, failed := check, image := none },
        some ⟨cellError check, fieldsOf [(2, check), (2, 0), (4, sect), (4, item)]⟩)

/-- The code of a slot state (R105). -/
def SlotState.code : SlotState → Nat
  | .empty => 0
  | .loading => 1
  | .valid => 2
  | .invalid => 3

/-- The block of one slot in the answer of CELL_INFO. -/
def State.slotInfo (s : State) (k : Nat) : List Byte :=
  let x := s.slotAt k
  let z : CellImage := ⟨0, 0, 0, 0, 0, default⟩
  let i := x.image.getD z
  fieldsOf [(1, SlotState.code x.state), (1, b2n (s.flash.activeSlot == some k)), (2, x.failed), (4, i.length), (4, i.version),
    (4, i.safetyRef), (32, i.digest.toNat)]

/-- CELL_INFO. -/
def State.cellInfo (s : State) (_n : Nat) (_p : List Byte) : CmdOut := CmdOut.ok s (s.slotInfo 0 ++ s.slotInfo 1)

/-- The partner's slot holds another digest; what it holds is not known here (R111, check 4). -/
def State.twinDiffers (s : State) : Bool := s.pairOn && s.free % 2 == 1

/-- CELL_ACTIVATE (R88, R111, R112, R163): DONE at the cycle start that enters IDLE. -/
def State.cellActivate (s : State) (n : Nat) (p : List Byte) : CmdOut :=
  let k := uAt p 0 1
  let x := s.slotAt k
  if 1 < k then CmdOut.fail s E_PARAM
  else if x.state = .loading then CmdOut.fail s E_BUSY
  else match x.image, s.flash.safeSet with
    | some i, some set =>
      if x.state ≠ .valid then CmdOut.fail s E_CELL_EMPTY
      else if !imageFits i set then CmdOut.fail s E_CELL_SAFETY_REF
      else if s.twinDiffers then CmdOut.fail s.tookFree E_CELL_TWIN
      else
        let s := if s.pairOn then s.tookFree else s
        let s := { s with flash := { s.flash with activeSlot := some k } }
        let s := (s.onHost fun h => { h with grants := Tab.empty }).installCell i.content
        CmdOut.later (s.askMode .idle 2 n)
    | none, _ => CmdOut.fail s E_CELL_EMPTY
    | some _, none => CmdOut.fail s (if x.state = .valid then E_CELL_SAFETY_REF else E_CELL_EMPTY)

/-- CELL_ERASE (R107, R113). -/
def State.cellErase (s : State) (_n : Nat) (p : List Byte) : CmdOut :=
  let k := uAt p 0 1
  if 1 < k then CmdOut.fail s E_PARAM
  else if s.flash.activeSlot = some k then CmdOut.fail s E_CELL_ACTIVE
  else if (s.slotAt k).state = .loading then CmdOut.fail s E_BUSY
  else CmdOut.ok (s.putSlot k CellSlot.empty) []

/-- The lowest free entry of the grant table. -/
def State.freeGrant (s : State) : Option Nat := (List.range 16).find? fun i => (s.host.grants.get none i).isNone

/-- CELL_WINDOW_GRANT (R86, R87). -/
def State.windowGrant (s : State) (_n : Nat) (p : List Byte) : CmdOut :=
  let first := uAt p 0 4
  let last := uAt p 4 4
  let right := uAt p 8 1
  if last < first ∨ 0xFFFFF < last ∨ right = 0 ∨ 2 < right then CmdOut.fail s E_PARAM
  else if right = 2 ∧ ((List.range (last - first + 1)).all fun i => s.pointWriter (first + i) == .host) = false then
    CmdOut.fail s E_OWNER
  else match s.freeGrant with
    | none => CmdOut.fail s E_FULL
    | some i =>
      CmdOut.ok (s.onHost fun h => { h with grants := h.grants.put none i (some ⟨first, last, right⟩) }) (leBytes 1 i)

/-- The last cycle start for which a BAR 2 write waits (R606). -/
def State.lastWindow (s : State) : Option Nat :=
  s.twin.waiting.foldl (fun d m => match m with
    | .window n _ _ => some (max n (d.getD 0))
    | _ => d) none

/-- Grants are revoked: DONE once the BAR 2 writes that reached the window before have taken effect (R91). -/
def State.revoked (s : State) (n : Nat) : CmdOut :=
  match s.lastWindow with
  | some c => CmdOut.later (s.onHost fun h => { h with revoking := h.revoking ++ [(n, c)] })
  | none => CmdOut.ok s []

/-- CELL_WINDOW_REVOKE (R86, R91). -/
def State.windowRevoke (s : State) (n : Nat) (p : List Byte) : CmdOut :=
  let i := uAt p 0 1
  if i = 0xFF then (s.onHost fun h => { h with grants := Tab.empty }).revoked n
  else if 16 ≤ i then CmdOut.fail s E_PARAM
  else (s.onHost fun h => { h with grants := h.grants.put none i none }).revoked n

/-- CELL_POINT_READ (R105). -/
def State.pointRead (s : State) (_n : Nat) (p : List Byte) : CmdOut :=
  let first := uAt p 0 4
  let count := uAt p 4 2
  if count = 0 ∨ 508 < count ∨ 0x100000 < first + count then CmdOut.fail s E_PARAM
  else CmdOut.ok s ((List.range count).flatMap fun i => leBytes 8 (s.point (first + i)))

/-- CELL_LOAD. -/
def execCellLoad (mb : Fin 32) (s : State) : Host.Outcome State Fault Refusal :=
  s.run fun s => s.command mb.val 0x0301 State.cellLoad

/-- CELL_INFO. -/
def execCellInfo (mb : Fin 32) (s : State) : Host.Outcome State Fault Refusal :=
  s.run fun s => s.command mb.val 0x0302 State.cellInfo

/-- CELL_ACTIVATE. -/
def execCellActivate (mb : Fin 32) (s : State) : Host.Outcome State Fault Refusal :=
  s.run fun s => s.command mb.val 0x0303 State.cellActivate

/-- CELL_ERASE. -/
def execCellErase (mb : Fin 32) (s : State) : Host.Outcome State Fault Refusal :=
  s.run fun s => s.command mb.val 0x0304 State.cellErase

/-- CELL_WINDOW_GRANT. -/
def execCellWindowGrant (mb : Fin 32) (s : State) : Host.Outcome State Fault Refusal :=
  s.run fun s => s.command mb.val 0x0305 State.windowGrant

/-- CELL_WINDOW_REVOKE. -/
def execCellWindowRevoke (mb : Fin 32) (s : State) : Host.Outcome State Fault Refusal :=
  s.run fun s => s.command mb.val 0x0306 State.windowRevoke

/-- CELL_POINT_READ. -/
def execCellPointRead (mb : Fin 32) (s : State) : Host.Outcome State Fault Refusal :=
  s.run fun s => s.command mb.val 0x0307 State.pointRead

end Sys2Proof.Machine
end

