-- ==== Sys2Proof/Machine/CmdFw.lean ====
section
/-!
DEFINITION. The FW commands (R129 to R131, R269 to R271, R645, R714 to R717, R721, R722). Slot states: 0 EMPTY, 1 INVALID,
2 VERIFIED, 3 TRIAL.
-/
namespace Sys2Proof.Machine

open Status

/-- Changes what flash and OTP hold. -/
def State.onFlash (s : State) (f : FlashState → FlashState) : State := { s with flash := f s.flash }

/-- A Ranger slot and a slot of the application cores. -/
def State.fwSlot (s : State) (k : Nat) : FwSlot := s.flash.fwSlots.get FwSlot.empty k

/-- A slot of the application cores. -/
def State.coreSlot (s : State) (k : Nat) : FwSlot := s.flash.coreSlots.get FwSlot.empty k

/-- A Ranger slot changes. -/
def State.putFw (s : State) (k : Nat) (x : FwSlot) : State :=
  s.onFlash fun f => { f with fwSlots := f.fwSlots.put FwSlot.empty k x }

/-- Security version, version and digest of the booted Ranger firmware (R709). -/
def State.bootedFw (s : State) : Nat × Nat × BitVec 256 :=
  match s.boot.ranger with
  | none => (0, 0, 0)
  | some k =>
    if s.boot.qspi then Config.qspiFirmware k
    else ((s.fwSlot k).secVersion, (s.fwSlot k).version, (s.fwSlot k).digest)

/-- One block of FW_INFO. -/
def infoBlock (state : Nat) (active : Bool) (sec version : Nat) (digest : BitVec 256) : List Byte :=
  Config.fwStateCode state :: fieldsOf [(1, b2n active), (2, sec), (4, version), (32, digest.toNat)]

/-- The block of a Ranger slot. -/
def State.rangerInfo (s : State) (k : Nat) : List Byte :=
  let x := s.fwSlot k
  infoBlock x.state (s.boot.ranger == some k && !s.boot.qspi) x.secVersion x.version x.digest

/-- The program of a slot that has passed its last verification (R717). -/
def State.goodProgram (s : State) (k : Nat) : Option JceProgram :=
  (s.flash.programs.get none k).filter fun _ => !s.boot.badPrograms.contains k

/-- The block of a JCE program slot. -/
def State.programInfo (s : State) (k : Nat) : List Byte :=
  match s.flash.programs.get none k with
  | none => infoBlock 0 false 0 0 0
  | some x =>
    infoBlock (if s.boot.badPrograms.contains k then 1 else 2) ((List.range 64).any fun e => s.flash.assigned.get 0 e == k)
      x.secVersion x.version x.digest

/-- The block of a slot of the application cores. -/
def State.coreInfo (s : State) (k : Nat) : List Byte :=
  let x := s.coreSlot k
  infoBlock x.state (s.flash.started.1 == k && s.flash.started.2 != 0) x.secVersion x.version x.digest

/-- FW_INFO. -/
def State.fwInfo (s : State) (_n : Nat) (_p : List Byte) : CmdOut :=
  CmdOut.ok s ((List.range 2).flatMap s.rangerInfo ++ (List.range 4).flatMap s.programInfo
    ++ (List.range 2).flatMap s.coreInfo ++ leBytes 1 s.flash.rollback)

/-- Bytes `o` to `o + n - 1` of a header are 0. -/
def zeroAt (b : List Byte) (o n : Nat) : Bool := ((b.drop o).take n).all (· == 0)

/-- The header of an image of target 0 or 2 (R715, check 1 of R716). -/
def imageHeaderOk (target : Nat) (b : List Byte) : Bool :=
  let body := b.length - 2548
  let common := decide (2548 ≤ b.length) && uAt b 4 2 == 1 && uAt b 7 1 == 0 && uAt b 0xA 2 == 0 && uAt b 0x10 4 == b.length
    && decide (uAt b 0x14 4 < body) && zeroAt b 0x48 56
  if target = 0 then
    common && uAt b 0 4 == 0x474E5246 && decide (b.length ≤ 6 * 2 ^ 20) && uAt b 0x18 8 == 0
      && decide (uAt b 0x24 4 ≤ 196608) && decide (uAt b 0x20 4 + uAt b 0x24 4 ≤ b.length)
  else
    common && uAt b 0 4 == 0x49434146 && decide (b.length ≤ 4 * 2 ^ 20) && uAt b 0x18 8 % 4096 == 0
      && decide (uAt b 0x18 8 + body ≤ 2 ^ 33) && zeroAt b 0x20 40

/-- The header of a JCE program (R269, check 1 of R270). -/
def programHeaderOk (b : List Byte) : Bool :=
  let i := uAt b 0x10 4
  let d := uAt b 0x14 4
  uAt b 0 4 == 0x45434A46 && uAt b 4 2 == 1 && uAt b 7 1 == 0 && decide (uAt b 0xA 2 < 8) && decide (1 ≤ i ∧ i ≤ 4096)
    && decide (d ≤ 12288) && decide (uAt b 0x18 4 < i) && zeroAt b 0x1C 36 && b.length == 64 + 4 * i + 4 * d + 2420

/-- The words of an image from byte `o` on. -/
def wordsAt (b : List Byte) (o n : Nat) : List Word32 := (List.range n).map fun i => BitVec.ofNat 32 (uAt b (o + 4 * i) 4)

/-- A JCE program as its slot holds it. -/
def readProgram (b : List Byte) : JceProgram :=
  let i := uAt b 0x10 4
  { secVersion := uAt b 8 2, version := uAt b 0xC 4, needs := uAt b 0xA 2, keySlot := uAt b 6 1, instrs := wordsAt b 64 i,
    data := wordsAt b (64 + 4 * i) (uAt b 0x14 4), entry := uAt b 0x18 4, kernel := false, digest := signedDigest b }

/-- An image of target 0 or 2 as its slot holds it. -/
def readFirmware (b : List Byte) : FwSlot :=
  { state := 2, secVersion := uAt b 8 2, version := uAt b 0xC 4, entry := uAt b 0x14 4, load := uAt b 0x18 8,
    digest := signedDigest b, image := b }

/-- The verification of a signed object, in the order of R270 and R716. -/
def State.fwVerify (s : State) (target : Nat) (b : List Byte) : Nat :=
  let key := uAt b 6 1
  if !(if target = 1 then programHeaderOk b else imageHeaderOk target b) then E_PARAM
  else if !((target != 0 || key == 0) && s.keyUsable key) then E_FW_KEY
  else if !signedBy b key then E_FW_SIGNATURE
  else if uAt b 8 2 < s.flash.rollback then E_FW_ROLLBACK
  else OK

/-- FW_WRITE with its last segment: what fails is discarded. -/
def State.fwWrite (s : State) (_n : Nat) (p : List Byte) : CmdOut :=
  let target := uAt p 0 1
  let slot := uAt p 1 1
  let b := p.drop 8
  let e := if b.length ≠ uAt p 4 4 then E_LENGTH else s.fwVerify target b
  if e ≠ OK then CmdOut.fail s e
  else if target = 0 then CmdOut.ok (s.putFw slot (readFirmware b)) []
  else if target = 1 then
    let s := s.onFlash fun f => { f with programs := f.programs.put none slot (some (readProgram b)) }
    CmdOut.ok { s with boot := { s.boot with badPrograms := s.boot.badPrograms.filter (· != slot) } } []
  else CmdOut.ok (s.onFlash fun f => { f with coreSlots := f.coreSlots.put FwSlot.empty slot (readFirmware b) }) []

/-- The engine owns each resource kind that a program needs (R17, R271). -/
def ownsNeeds (k needs : Nat) : Bool :=
  (!bitOf needs 0 || decide (48 ≤ k ∧ k < 56)) && (!bitOf needs 1 || decide (48 ≤ k)) && (!bitOf needs 2 || decide (56 ≤ k))

/-- Activation of Ranger firmware: the slot is marked TRIAL, and a D reset follows (R130, R722). On a synchronised pair both
units reset only where their slots hold the same digest; what the partner holds is free here. -/
def State.activateRanger (s : State) (slot : Nat) : CmdOut :=
  let x := s.fwSlot slot
  let same := !s.pairSync || s.free % 2 == 0
  if 1 < slot || s.boot.qspi || !s.inMode [.init, .service] then CmdOut.fail s E_FW_TARGET
  else if x.state < 2 then CmdOut.fail s E_FW_NOT_STAGED
  else
    let s := if s.pairSync then s.tookFree else s
    if !same then CmdOut.fail s E_FW_NOT_STAGED
    else
      let s := (s.putFw slot { x with state := 3 }).onFlash fun f => { f with bootSlot := slot }
      CmdOut.later (s.startReset .d 8)

/-- Activation of a JCE program (R271); in PARK the engines load it when the device leaves PARK (R272). -/
def State.activateProgram (s : State) (slot mask : Nat) : CmdOut :=
  if 3 < slot || s.inMode [.init] then CmdOut.fail s E_FW_TARGET
  else match s.goodProgram slot with
    | none => CmdOut.fail s E_FW_NOT_STAGED
    | some x =>
      let ks := (List.range 64).filter fun k => bitOf mask k
      if !(ks.all fun k => ownsNeeds k x.needs) then CmdOut.fail s E_FW_TARGET
      else
        CmdOut.ok (ks.foldl (fun (s : State) k =>
          let s := s.onFlash fun f => { f with assigned := f.assigned.put 0 k slot }
          if s.parked then s else s.engineReload k fun y => (s.ax y).homed) s) []

/-- Activation of an image of the application cores (R130, R645). -/
def State.activateCores (s : State) (slot mask : Nat) : CmdOut :=
  if 1 < slot || s.inMode [.init] then CmdOut.fail s E_FW_TARGET
  else if (s.coreSlot slot).state ≠ 2 then CmdOut.fail s E_FW_NOT_STAGED
  else if 65535 < mask then CmdOut.fail s E_PARAM
  else
    let s := (List.range 16).foldl (fun (s : State) c => if bitOf mask c then s.coreStop c else s) s
    let s := s.onFlash fun f => { f with started := (slot, BitVec.ofNat 16 mask) }
    CmdOut.ok (s.startCores slot (BitVec.ofNat 16 mask)) []

/-- FW_ACTIVATE. -/
def State.fwActivate (s : State) (_n : Nat) (p : List Byte) : CmdOut :=
  let slot := uAt p 1 1
  match uAt p 0 1 with
  | 0 => s.activateRanger slot
  | 1 => s.activateProgram slot (uAt p 8 8)
  | 2 => s.activateCores slot (uAt p 8 8)
  | _ => CmdOut.fail s E_FW_TARGET

/-- FW_ROLLBACK_SET (R131, R721). -/
def State.rollbackSet (s : State) (_n : Nat) (p : List Byte) : CmdOut :=
  let v := uAt p 0 1
  if v = 0 ∨ 64 < v then CmdOut.fail s E_PARAM
  else if v < s.flash.rollback then CmdOut.fail s E_FW_ROLLBACK
  else if s.bootedFw.1 < v then CmdOut.fail s E_PARAM
  else CmdOut.ok (s.onFlash fun f => { f with rollback := v }) []

/-- FW_INFO. -/
def execFwInfo (mb : Fin 32) (s : State) : Host.Outcome State Fault Refusal :=
  s.run fun s => s.command mb.val 0x0A01 State.fwInfo

/-- FW_WRITE. -/
def execFwWrite (mb : Fin 32) (s : State) : Host.Outcome State Fault Refusal :=
  s.run fun s => s.command mb.val 0x0A02 State.fwWrite

/-- FW_ACTIVATE. -/
def execFwActivate (mb : Fin 32) (s : State) : Host.Outcome State Fault Refusal :=
  s.run fun s => s.command mb.val 0x0A03 State.fwActivate

/-- FW_ROLLBACK_SET. -/
def execFwRollbackSet (mb : Fin 32) (s : State) : Host.Outcome State Fault Refusal :=
  s.run fun s => s.command mb.val 0x0A04 State.rollbackSet

end Sys2Proof.Machine
end

