-- ==== Sys2Proof/Machine/CmdNet.lean ====
section
/-!
DEFINITION. The NET commands (R119 to R121, R517, R527, R560, R564, R566, R584, R59).
-/
namespace Sys2Proof.Machine

open Status

/-- A command on one of the 64 ports. -/
def State.onNetPort (s : State) (p : List Byte) (f : Nat → CmdOut) : CmdOut :=
  if 63 < uAt p 0 1 then CmdOut.fail s E_PARAM else f (uAt p 0 1)

/-- NET_PORT_STATUS. -/
def State.netPortStatus (s : State) (_n : Nat) (p : List Byte) : CmdOut :=
  s.onNetPort p fun q =>
    CmdOut.ok s (fieldsOf [(2, s.get Reg.PORT_STATUS_MODE q), (1, s.get Reg.PORT_STATUS_PERSONALITY q), (1, s.link q),
      (8, s.get Reg.FRAMES_IN_COUNT q), (8, s.get Reg.FRAMES_OUT_COUNT q), (4, s.get Reg.RX_DROP_COUNT q)])

/-- The port is one that the Geyser schedule of the installed image uses. -/
def State.schedulePort (s : State) (q : Nat) : Bool :=
  match s.cell with
  | some c => c.portModes.any fun e => e.1 == q
  | none => false

/-- NET_PORT_CONFIG (R120, R517, R527). -/
def State.netPortConfig (s : State) (_n : Nat) (p : List Byte) : CmdOut :=
  s.onNetPort p fun q =>
    let en := uAt p 1 1
    let pers := uAt p 2 1
    let modes := uAt p 4 4
    if 1 < en then CmdOut.fail s E_PARAM
    else if s.inMode [.jog, .run, .halting] && s.schedulePort q then CmdOut.fail s E_NET_PORT_IN_USE
    else if 3 < pers ∨ 255 < modes ∨ (en = 1 ∧ (pers = 0 ∨ modes = 0)) then CmdOut.fail s E_NET_MODE
    else
      let same := s.get Reg.PORT_CFG_EN q == en && s.get Reg.PORT_CFG_PERS_MASK q == pers
        && s.get Reg.PORT_CFG_MODE_MASK q == modes
      let s := ((s.set Reg.PORT_CFG_EN q en).set Reg.PORT_CFG_PERS_MASK q pers).set Reg.PORT_CFG_MODE_MASK q modes
      CmdOut.ok (if same then s else s.portRestart q) []

/-- NET_GEYSER_STATUS (R566). -/
def State.geyserStatus (s : State) (_n : Nat) (_p : List Byte) : CmdOut :=
  CmdOut.ok s (fieldsOf [(1, s.starState), (1, s.get Reg.STAR_STATUS_SYNC_VALUES 0), (2, s.get Reg.STAR_STATUS_INTEGRATED 0),
    (4, s.get Reg.STAR_CFG_CYCLE 0), (4, s.get Reg.CYCLES_RUN_COUNT 0)])

/-- NET_GEYSER_START (R560): DONE when RUNNING is entered. -/
def State.geyserStart (s : State) (n : Nat) (_p : List Byte) : CmdOut :=
  if s.starState ≠ 0 ∨ s.star.runAt.isSome = true then CmdOut.fail s E_NET_STATE
  else CmdOut.later (s.starStart.onStar fun t => { t with mailbox := some n })

/-- NET_GEYSER_STOP (R564). -/
def State.geyserStop (s : State) (_n : Nat) (_p : List Byte) : CmdOut :=
  if s.starState = 0 ∧ s.star.runAt.isNone = true then CmdOut.fail s E_NET_STATE else CmdOut.ok s.starStop []

/-- NET_NODE_STATUS (R566). -/
def State.netNodeStatus (s : State) (_n : Nat) (p : List Byte) : CmdOut :=
  let m := uAt p 0 2
  if 255 < m then CmdOut.fail s E_PARAM
  else match s.slotOf m with
    | none => CmdOut.fail s E_NET_NODE
    | some i =>
      CmdOut.ok s (fieldsOf [(1, s.nodeState i), (1, s.get Reg.NODE_CFG_PORT i)] ++ leInt 4 (s.getS Reg.NODE_STATUS_DEV i)
        ++ leBytes 4 (s.get Reg.SLOT_VIOLATION_COUNT i))

/-- The entries of a gate control list in a request: gate mask, interval. -/
def gateEntries (p : List Byte) (n : Nat) : List (Nat × Nat) :=
  (List.range n).map fun i => (uAt p (20 + 8 * i) 1, uAt p (16 + 8 * i) 4)

/-- NET_BRIDGE_GCL (R120, R584): the list waits for its boundary. -/
def State.bridgeGcl (s : State) (_n : Nat) (p : List Byte) : CmdOut :=
  s.onNetPort p fun q =>
    let n := uAt p 1 1
    let l : GateList := { base := uAt p 4 8, entries := gateEntries p n }
    let pers := s.get Reg.PORT_STATUS_PERSONALITY q
    if p.length ≠ 16 + 8 * n then CmdOut.fail s E_LENGTH
    else if n = 0 then CmdOut.fail s E_PARAM
    else if pers ≠ 1 ∧ pers ≠ 2 then CmdOut.fail s E_NET_MODE
    else if GateList.cycle l ≠ uAt p 12 4 ∨ GateList.cycle l = 0 then CmdOut.fail s E_NET_GCL
    else CmdOut.ok ((s.onGate q fun g => { g with waiting := some l }).setFlag Reg.GATE_STATUS_LIST_PENDING q true) []

/-- NET_MGMT_ENABLE (R59). -/
def State.mgmtEnable (s : State) (_n : Nat) (p : List Byte) : CmdOut :=
  match uAt p 0 1 with
  | 0 => CmdOut.ok (s.onHost fun h => { h with mgmtOn := false }) []
  | 1 =>
    CmdOut.ok (s.onHost fun h =>
      { h with mgmtOn := true, mgmtIp := uAt p 4 4, mgmtPorts := BitVec.ofNat 64 (uAt p 8 8) }) []
  | _ => CmdOut.fail s E_PARAM

/-- NET_MGMT_KEY (R121). -/
def State.mgmtKey (s : State) (_n : Nat) (p : List Byte) : CmdOut :=
  let k := uAt p 0 1
  if 1 < k then CmdOut.fail s E_PARAM
  else
    let f := s.flash
    CmdOut.ok { s with flash := { f with mgmtKeys := f.mgmtKeys.put none k (some (BitVec.ofNat 256 (uAt p 1 32))) } } []

/-- NET_PORT_STATUS. -/
def execNetPortStatus (mb : Fin 32) (s : State) : Host.Outcome State Fault Refusal :=
  s.run fun s => s.command mb.val 0x0601 State.netPortStatus

/-- NET_PORT_CONFIG. -/
def execNetPortConfig (mb : Fin 32) (s : State) : Host.Outcome State Fault Refusal :=
  s.run fun s => s.command mb.val 0x0602 State.netPortConfig

/-- NET_GEYSER_STATUS. -/
def execNetGeyserStatus (mb : Fin 32) (s : State) : Host.Outcome State Fault Refusal :=
  s.run fun s => s.command mb.val 0x0603 State.geyserStatus

/-- NET_GEYSER_START. -/
def execNetGeyserStart (mb : Fin 32) (s : State) : Host.Outcome State Fault Refusal :=
  s.run fun s => s.command mb.val 0x0604 State.geyserStart

/-- NET_GEYSER_STOP. -/
def execNetGeyserStop (mb : Fin 32) (s : State) : Host.Outcome State Fault Refusal :=
  s.run fun s => s.command mb.val 0x0605 State.geyserStop

/-- NET_NODE_STATUS. -/
def execNetNodeStatus (mb : Fin 32) (s : State) : Host.Outcome State Fault Refusal :=
  s.run fun s => s.command mb.val 0x0606 State.netNodeStatus

/-- NET_BRIDGE_GCL. -/
def execNetBridgeGcl (mb : Fin 32) (s : State) : Host.Outcome State Fault Refusal :=
  s.run fun s => s.command mb.val 0x0607 State.bridgeGcl

/-- NET_MGMT_ENABLE. -/
def execNetMgmtEnable (mb : Fin 32) (s : State) : Host.Outcome State Fault Refusal :=
  s.run fun s => s.command mb.val 0x0608 State.mgmtEnable

/-- NET_MGMT_KEY. -/
def execNetMgmtKey (mb : Fin 32) (s : State) : Host.Outcome State Fault Refusal :=
  s.run fun s => s.command mb.val 0x0609 State.mgmtKey

end Sys2Proof.Machine
end

