-- ==== Sys2Proof/Machine/CmdDiag.lean ====
section
/-!
DEFINITION. The DIAG commands (R132, R133, R528, R529, R724).
-/
namespace Sys2Proof.Machine

open Status

/-- DIAG_SELFTEST: which tests pass is free. -/
def State.selfTest (s : State) (_n : Nat) (p : List Byte) : CmdOut :=
  let mask := uAt p 0 4
  let failed := mask &&& s.free
  CmdOut.ok s.tookFree (fieldsOf [(4, mask - failed), (4, failed)])

/-- A 4-byte read by Ranger; none is a bus error. -/
def State.rangerRead (s : State) (a : Nat) : State × Option Nat :=
  let b := s.bus
  let t := s.busRead .ranger a 4
  let v := match t.bus with
    | .data v => some v
    | _ => none
  ({ t with bus := b }, v)

/-- Reads of `n` words from address `a` on, up to the first bus error. -/
def State.readRun (s : State) (a : Nat) : Nat → State × Option (List Byte)
  | 0 => (s, some [])
  | n + 1 =>
    match s.rangerRead a with
    | (t, none) => (t, none)
    | (t, some v) =>
      match t.readRun (a + 4) n with
      | (u, r) => (u, r.map fun l => leBytes 4 v ++ l)

/-- DIAG_REG_READ. -/
def State.diagRead (s : State) (_n : Nat) (p : List Byte) : CmdOut :=
  let count := uAt p 8 2
  if count = 0 ∨ 1000 < count then CmdOut.fail s E_PARAM
  else match s.readRun (uAt p 0 8) count with
    | (t, some l) => CmdOut.ok t l
    | (t, none) => CmdOut.fail t E_DIAG_ADDRESS

/-- The bits of a register that keep what is written to them: its RW and SL fields. -/
def keptBits (a : RegAddr) : Nat :=
  (regFields (RegAddr.home a)).foldl (fun m h =>
    if h.1.acc == .rw || h.1.acc == .sl then m ||| ((2 ^ h.1.width - 1) * 2 ^ h.1.lo) else m) 0

/-- What a masked write leaves in the bits outside its mask: the present value of those that keep a written value, 0 in the
others, so that no W1C bit is cleared by it. -/
def State.keptWord (s : State) (a : Nat) : Nat :=
  match mgmtAddr a with
  | some r =>
    match halfOf r with
    | some (b, high) => (s.regValue (RegAddr.home b) &&& keptBits b) / (if high then 2 ^ 32 else 1) % 2 ^ 32
    | none => (s.regValue (RegAddr.home r) &&& keptBits r) % 2 ^ 32
  | none => ((s.rangerRead a).2).getD 0

/-- DIAG_REG_WRITE (R133). -/
def State.diagWrite (s : State) (_n : Nat) (p : List Byte) : CmdOut :=
  let a := uAt p 0 8
  let mask := uAt p 8 4
  if a / 2 ^ 28 = 0xF07 then CmdOut.fail s E_DIAG_SAFETY
  else
    let old := s.keptWord a
    let v := (old &&& (2 ^ 32 - 1 - mask)) ||| (uAt p 12 4 &&& mask)
    let b := s.bus
    let t := s.busWrite .ranger a 4 v
    let ok := t.bus != .busError
    let t := { t with bus := b }
    if !ok then CmdOut.fail t E_DIAG_ADDRESS
    else match t.rangerRead a with
      | (u, some r) => CmdOut.ok u (leBytes 4 r)
      | (u, none) => CmdOut.fail u E_DIAG_ADDRESS

/-- The report before its signature (R724), with the newest entries of log 2, oldest first. -/
def State.attestation (s : State) (nonce : List Byte) : List Byte :=
  let es := (((s.logs.get LogRing.empty 2).entries).take 16).reverse
  let fw := s.bootedFw
  let image := ((s.flash.activeSlot.bind fun k => (s.flash.slots.get CellSlot.empty k).image).map fun i => i.digest.toNat).getD 0
  let slots := (List.range 64).foldl (fun m k => m + (s.flash.assigned.get 0 k % 4) * 4 ^ k) 0
  fieldsOf [(4, 0x54544146), (2, 1), (2, 376 + 32 * es.length + 2420), (16, Config.serial.toNat)] ++ (nonce ++ zeros 32).take 32
    ++ fieldsOf [(8, s.tb 5), (1, 0x42), (1, s.boot.straps.toNat), (1, Mode.code s.mode.mode), (1, s.get Reg.TWIN_STATE_ROLE 0),
      (1, s.flash.rollback), (1, s.observe Reg.OTP_STATUS_ENROLLED 0 + 16 * s.observe Reg.OTP_STATUS_REVOKED 0),
      (1, s.boot.ranger.getD 0), (1, 0), (32, fw.2.2.toNat), (2, fw.1), (2, 0), (4, fw.2.1),
      (4, Config.bootRomVersion.toNat), (4, s.flash.bootEpoch), (32, s.boot.coreDigest.toNat)]
    ++ ((List.range 4).flatMap fun k => leBytes 32 (((s.flash.programs.get none k).map fun x => x.digest.toNat).getD 0))
    ++ fieldsOf [(16, slots), (32, image), (4, (s.flash.safeSet.map SafetySet.crc).getD 0), (1, b2n s.flash.safeAccepted),
      (1, b2n s.flash.sealMode), (2, 0), (4, s.dbg.attached), (4, es.length), (32, Config.identityHash.toNat)]
    ++ es.flatMap fun e => fieldsOf [(4, e.seq), (8, e.time), (2, e.code), (2, e.source)] ++ e.data.take 16

/-- DIAG_ATTEST (R724). -/
def State.diagAttest (s : State) (_n : Nat) (p : List Byte) : CmdOut :=
  let b := s.attestation p
  CmdOut.ok s (b ++ (Config.identitySign (digestOf b) ++ zeros 2420).take 2420)

/-- A loopback of `ms` milliseconds on port `q`; `lost` is the time at which its reference is lost meanwhile, which ends it
at once (R529). -/
def State.loopback (s : State) (q ms : Nat) (lost : Option Nat) : State :=
  let s := (s.set Reg.PORT_STATUS_PERSONALITY q 0).setLink q linkLoopback
  if s.refDown q then s.setLink q linkRefFault
  else match lost with
  | some k =>
    if k < ms then (s.waitTill (s.ticks + msTicks k)).refLoss (q / 32)
    else (s.waitTill (s.ticks + msTicks ms)).portRestart q
  | none => (s.waitTill (s.ticks + msTicks ms)).portRestart q

/-- DIAG_LOOPBACK (R528, R529): the port is in LOOPBACK for the duration; what the lane counts is free. -/
def State.diagLoopback (lost : Option Nat) (s : State) (_n : Nat) (p : List Byte) : CmdOut :=
  let q := uAt p 0 1
  let ms := uAt p 2 2
  if 63 < q ∨ 3 < uAt p 1 1 ∨ ms = 0 ∨ 10000 < ms then CmdOut.fail s E_PARAM
  else if s.schedulePort q then CmdOut.fail s E_DIAG_PORT
  else
    let s := s.loopback q ms lost
    let bits := s.free
    let s := s.tookFree
    CmdOut.ok s.tookFree (fieldsOf [(8, bits), (8, s.free)])

/-- DIAG_SELFTEST. -/
def execDiagSelftest (mb : Fin 32) (s : State) : Host.Outcome State Fault Refusal :=
  s.run fun s => s.command mb.val 0x0B01 State.selfTest

/-- DIAG_REG_READ. -/
def execDiagRegRead (mb : Fin 32) (s : State) : Host.Outcome State Fault Refusal :=
  s.run fun s => s.command mb.val 0x0B02 State.diagRead

/-- DIAG_REG_WRITE. -/
def execDiagRegWrite (mb : Fin 32) (s : State) : Host.Outcome State Fault Refusal :=
  s.run fun s => s.command mb.val 0x0B03 State.diagWrite

/-- DIAG_ATTEST. -/
def execDiagAttest (mb : Fin 32) (s : State) : Host.Outcome State Fault Refusal :=
  s.run fun s => s.command mb.val 0x0B04 State.diagAttest

/-- DIAG_LOOPBACK. -/
def execDiagLoopback (run : LoopbackRun) (s : State) : Host.Outcome State Fault Refusal :=
  s.run fun s => s.command run.mb.val 0x0B05 (State.diagLoopback (run.lost.map Fin.val))

end Sys2Proof.Machine
end

