-- ==== Sys2Proof/Machine/CmdLog.lean ====
section
/-!
DEFINITION. The LOG commands (R127, R128).
-/
namespace Sys2Proof.Machine

open Status

/-- Log `k`. -/
def State.logRing (s : State) (k : Nat) : LogRing := s.logs.get LogRing.empty k

/-- The sequence number of the oldest entry; that of the next one where the log is empty. -/
def LogRing.oldest (l : LogRing) : Nat := l.next - l.entries.length

/-- LOG_INFO. -/
def State.logInfo (s : State) (_n : Nat) (p : List Byte) : CmdOut :=
  let k := uAt p 0 1
  let l := s.logRing k
  if 3 < k then CmdOut.fail s E_LOG_ID
  else CmdOut.ok s (fieldsOf [(4, l.oldest), (4, l.next - 1), (4, max 1 (Config.logCapacity k))])

/-- The 32 bytes of an entry (R127). -/
def LogEntry.wire (e : LogEntry) : List Byte :=
  fieldsOf [(4, e.seq), (8, e.time), (2, e.code), (2, e.source)] ++ e.data.take 16

/-- LOG_READ. -/
def State.logRead (s : State) (_n : Nat) (p : List Byte) : CmdOut :=
  let k := uAt p 0 1
  let first := uAt p 4 4
  let count := uAt p 8 2
  let l := s.logRing k
  if 3 < k then CmdOut.fail s E_LOG_ID
  else if count = 0 ∨ 126 < count then CmdOut.fail s E_PARAM
  else if first < l.oldest then (s, some ⟨E_LOG_GONE, leBytes 4 l.oldest⟩)
  else
    let es := (l.entries.reverse.filter fun e => decide (first ≤ e.seq)).take count
    CmdOut.ok s (fieldsOf [(4, l.oldest), (2, es.length), (2, 0)] ++ es.flatMap LogEntry.wire)

/-- LOG_CLEAR: the sequence numbers go on (R128). -/
def State.logClear (s : State) (_n : Nat) (p : List Byte) : CmdOut :=
  let k := uAt p 0 1
  if 3 < k then CmdOut.fail s E_LOG_ID
  else if k = 2 then CmdOut.fail s E_LOG_PROTECTED
  else CmdOut.ok { s with logs := s.logs.put LogRing.empty k { s.logRing k with entries := [] } } []

/-- LOG_INFO. -/
def execLogInfo (mb : Fin 32) (s : State) : Host.Outcome State Fault Refusal :=
  s.run fun s => s.command mb.val 0x0901 State.logInfo

/-- LOG_READ. -/
def execLogRead (mb : Fin 32) (s : State) : Host.Outcome State Fault Refusal :=
  s.run fun s => s.command mb.val 0x0902 State.logRead

/-- LOG_CLEAR. -/
def execLogClear (mb : Fin 32) (s : State) : Host.Outcome State Fault Refusal :=
  s.run fun s => s.command mb.val 0x0903 State.logClear

end Sys2Proof.Machine
end

