-- ==== Sys2Proof/Machine/CmdMem.lean ====
section
/-!
DEFINITION. The MEM commands (R136, R620, R623, R629 to R631, R634).
-/
namespace Sys2Proof.Machine

open Status

/-- The remap words that are valid, as pairs of bank kind and element. -/
def State.validWords (s : State) (dram : Bool) : List Nat :=
  (List.range (if dram then 256 else 1352)).filter fun e => s.remapValid dram e

/-- MEM_STATUS (R634). -/
def State.memStatus (s : State) (_n : Nat) (_p : List Byte) : CmdOut :=
  CmdOut.ok s (fieldsOf [(4, s.memory.corrected), (4, s.memory.poisoned),
    (4, (s.validWords true).length + (s.validWords false).length), (4, s.get Reg.SCRUB_PASSES_COUNT 0)])

/-- The range lies in DRAM or in cell SRAM (R620). -/
def regionInside (base size : Nat) : Bool :=
  decide (base + size ≤ 2 ^ 33) || decide (csramBase ≤ base ∧ base + size ≤ csramBase + 0x4000000)

/-- The range overlaps another valid entry. -/
def State.regionOverlaps (s : State) (e base size : Nat) : Bool :=
  (List.range 64).any fun i => i != e && s.flag Reg.REGION_CFG_VALID i &&
    decide (base < s.get Reg.REGION_BASE_BASE i + s.get Reg.REGION_SIZE_SIZE i ∧ s.get Reg.REGION_BASE_BASE i < base + size)

/-- MEM_REGION_SET (R620). -/
def State.regionSet (s : State) (_n : Nat) (p : List Byte) : CmdOut :=
  let e := uAt p 0 1
  let c := uAt p 1 1
  let base := uAt p 4 8
  let size := uAt p 12 8
  if 59 < e ∨ 1 < c then CmdOut.fail s E_PARAM
  else if base % 64 ≠ 0 ∨ size % 64 ≠ 0 then CmdOut.fail s E_MEM_REGION
  else if size = 0 then
    let s := { s with flash := { s.flash with regions := s.flash.regions.put none e none } }
    let s := (s.setFlag Reg.REGION_CFG_VALID e false).setFlag Reg.REGION_CFG_CLASS e false
    CmdOut.ok ((s.set Reg.REGION_BASE_BASE e 0).set Reg.REGION_SIZE_SIZE e 0) []
  else if s.regionOverlaps e base size then CmdOut.fail s E_MEM_REGION
  else if !regionInside base size then CmdOut.fail s E_MEM_ADDRESS
  else
    let s := { s with flash := { s.flash with regions := s.flash.regions.put none e (some (base, size, c == 1)) } }
    let s := (s.set Reg.REGION_BASE_BASE e base).set Reg.REGION_SIZE_SIZE e size
    CmdOut.ok ((s.setFlag Reg.REGION_CFG_CLASS e (c == 1)).setFlag Reg.REGION_CFG_VALID e true) []

/-- MEM_SCRUB_RATE (R623). -/
def State.scrubRate (s : State) (_n : Nat) (p : List Byte) : CmdOut :=
  CmdOut.ok (s.set Reg.SCRUB_RATE_KIB_S 0 (min (uAt p 0 4) 1048576)) []

/-- The size of an SRAM group in bytes (R612). -/
def groupBytes (g : Nat) : Nat :=
  if 80 ≤ g ∧ g < 88 then 0x200000
  else if 88 ≤ g ∧ g < 96 then 0x80000
  else if 96 ≤ g ∧ g < 160 then 0x14000
  else if g = 168 then 0x200000 else 0x100000

/-- The kind and index of MEM_REMAP_LIST and MEM_REMAP_ADD are in range (R630). -/
def remapIndexOk (kind index : Nat) : Bool := (kind == 0 && decide (index ≤ 168)) || (kind == 1 && decide (index < 8))

/-- First element and number of the words of a bank. -/
def remapWords (dram : Bool) (index : Nat) : List Nat :=
  if dram then (List.range 32).map (· + 32 * index) else (List.range 8).map (· + 8 * index)

/-- MEM_REMAP_LIST. -/
def State.remapList (s : State) (_n : Nat) (p : List Byte) : CmdOut :=
  let kind := uAt p 0 1
  let index := uAt p 1 1
  let dram := kind == 1
  if !remapIndexOk kind index then CmdOut.fail s E_PARAM
  else
    let used := (remapWords dram index).filter fun e => s.remapValid dram e
    CmdOut.ok s (leBytes 1 used.length ++ zeros 7 ++ used.flatMap fun e => leBytes 8 (64 * s.remapBlock dram e))

/-- The address lies in the bank (R613, R630). -/
def remapAddressOk (dram : Bool) (index a : Nat) : Bool :=
  if dram then decide (a < 2 ^ 33) && bitsOf a 8 3 == index else decide (a < groupBytes index)

/-- MEM_REMAP_ADD (R629, R630): DONE once the word is in flash (R137). -/
def State.remapAdd (s : State) (n : Nat) (p : List Byte) : CmdOut :=
  let kind := uAt p 0 1
  let index := uAt p 1 1
  let a := uAt p 8 8
  let dram := kind == 1
  if !remapIndexOk kind index then CmdOut.fail s E_PARAM
  else if !remapAddressOk dram index a then CmdOut.fail s E_MEM_ADDRESS
  else
    let b := (if dram then a else MemPlace.key (.group index a)) / 64
    match s.remapOf b, s.remapFree b with
    | some e, _ =>
      if s.memory.copying.contains (dram, e) || s.memory.unsaved.contains (dram, e) then CmdOut.later (s.remapWait n dram e)
      else CmdOut.ok s (leBytes 1 (remapWordNumber dram e))
    | none, some e => CmdOut.later ((s.remapStart dram e (remapName b)).remapWait n dram e)
    | none, none => CmdOut.fail s E_FULL

/-- MEM_LANDING. -/
def State.memLanding (s : State) (_n : Nat) (p : List Byte) : CmdOut :=
  let m := uAt p 0 4
  if m < 64 ∨ 1024 < m then CmdOut.fail s E_PARAM
  else CmdOut.ok { s with flash := { s.flash with landingMiB := m } } []

/-- MEM_STATUS. -/
def execMemStatus (mb : Fin 32) (s : State) : Host.Outcome State Fault Refusal :=
  s.run fun s => s.command mb.val 0x0D01 State.memStatus

/-- MEM_REGION_SET. -/
def execMemRegionSet (mb : Fin 32) (s : State) : Host.Outcome State Fault Refusal :=
  s.run fun s => s.command mb.val 0x0D02 State.regionSet

/-- MEM_SCRUB_RATE. -/
def execMemScrubRate (mb : Fin 32) (s : State) : Host.Outcome State Fault Refusal :=
  s.run fun s => s.command mb.val 0x0D03 State.scrubRate

/-- MEM_REMAP_LIST. -/
def execMemRemapList (mb : Fin 32) (s : State) : Host.Outcome State Fault Refusal :=
  s.run fun s => s.command mb.val 0x0D04 State.remapList

/-- MEM_REMAP_ADD. -/
def execMemRemapAdd (mb : Fin 32) (s : State) : Host.Outcome State Fault Refusal :=
  s.run fun s => s.command mb.val 0x0D05 State.remapAdd

/-- MEM_LANDING. -/
def execMemLanding (mb : Fin 32) (s : State) : Host.Outcome State Fault Refusal :=
  s.run fun s => s.command mb.val 0x0D06 State.memLanding

end Sys2Proof.Machine
end

