-- ==== Sys2Proof/Machine/CmdSafe.lean ====
section
/-!
DEFINITION. The SAFE commands (R84, R85, R124 to R126, R439, R446, R449, R456, R460, R469, R492 to R506, R769).
-/
namespace Sys2Proof.Machine

open Status

/-- A change log entry of a command in mailbox `n`; on the partner of a pair it has no link and no mailbox. -/
def State.safeLog (s : State) (n code status detail : Nat) (text : List Byte) : State :=
  if n < 32 then s.change code status (Link.code (s.mb n).link) n detail text else s.change code status 0xFF 0xFF detail text

/-- A SAFE command that is refused, with its change log entry (R126). -/
def State.safeRefuse (s : State) (n code e detail : Nat) : CmdOut := CmdOut.fail (s.safeLog n code e detail []) e

/-- The checks that the SAFE commands with a change log entry share: length (R93), seal (R500, R501), restricted
session (R497). -/
def State.safeGate (s : State) (n code : Nat) (len restrict sealed : Bool) (f : CmdOut) : CmdOut :=
  if !len then s.safeRefuse n code E_LENGTH 0
  else if sealed && s.sealState 0 != 0 then s.safeRefuse n code E_SAFE_SEAL 0
  else if restrict && s.host.restricted && decide (n < 32) then s.safeRefuse n code E_SAFE_PASSWORD 0
  else f

/-- `n` bytes follow a length field at offset `o`. -/
def lengthFits (p : List Byte) (o : Nat) : Bool := p.length == o + 1 + uAt p o 1

/-- The recovery of R498: SERVICE, SEAL2 reads 1 and SEAL3 reads 0, both for 5 s. -/
def State.recovery (s : State) : Bool :=
  let held := fun (k : Nat) (v : Bool) => match (s.sealIn k).since with
    | some t => (s.sealIn k).raw == v && (s.sealIn k).level == some v && decide (5000000000 ≤ s.tb 6 - t)
    | none => false
  s.mode.mode == .service && held 2 true && held 3 false

/-- The safety session opens (R84, R497, R498). -/
def State.safeOpen (s : State) (n code : Nat) (restricted : Bool) : CmdOut :=
  let id := s.newSession
  let x : Session := { id := id, link := (s.mb n).link, idle := 600, last := s.ticks }
  let s := s.tookFree.onHost fun h => { h with safe := some x, restricted := restricted }
  CmdOut.ok (s.safeLog n code OK 0 []) (leBytes 4 id)

/-- A wrong password: after three in a row a lockout, which doubles with each further one (R85). -/
def State.wrongPassword (s : State) : State :=
  let k := s.host.wrong + 1
  let s := (s.onHost fun h => { h with wrong := k }).raise 55
  if k < 3 then s
  else s.onHost fun h => { h with lockedTill := s.ticks + msTicks (1000 * min 3600 (60 * 2 ^ (k - 3))) }

/-- SAFE_LOGIN (R85, R496 to R498). -/
def State.safeLogin (s : State) (n : Nat) (p : List Byte) : CmdOut :=
  let k := uAt p 0 1
  if !lengthFits p 0 then s.safeRefuse n 0x0002 E_LENGTH 0
  else if k < 8 ∨ 64 < k then s.safeRefuse n 0x0002 E_PARAM 0
  else if s.host.safe.isSome then s.safeRefuse n 0x0002 E_BUSY 0
  else match s.flash.password with
    | none =>
      if s.ticks < s.host.lockedTill then s.safeRefuse n 0x0002 E_LOCKED 0
      else (s.onHost fun h => { h with wrong := 0 }).safeOpen n 0x0001 true
    | some (salt, digest) =>
      if s.recovery then s.safeOpen n 0x0005 true
      else if s.ticks < s.host.lockedTill then s.safeRefuse n 0x0002 E_LOCKED 0
      else if sha3 (salt ++ p.drop 1) = digest then (s.onHost fun h => { h with wrong := 0 }).safeOpen n 0x0001 false
      else s.wrongPassword.safeRefuse n 0x0002 E_SAFE_PASSWORD 0

/-- The safety session closes; the staged set goes (R492). -/
def State.safeClose (s : State) : State :=
  s.onHost fun h => { h with safe := none, restricted := false, staged := none, stagedSeal := false }

/-- SAFE_LOGOUT (R84). -/
def State.safeLogout (s : State) (n : Nat) (p : List Byte) : CmdOut :=
  s.safeGate n 0x0003 p.isEmpty false false (CmdOut.ok (s.safeClose.safeLog n 0x0003 OK 0 []) [])

/-- The classes of R496 that a password uses: upper case, lower case, digit, other. -/
def passwordClasses (p : List Byte) : Nat :=
  let up := fun (b : Byte) => decide (0x41 ≤ b.toNat ∧ b.toNat ≤ 0x5A)
  let low := fun (b : Byte) => decide (0x61 ≤ b.toNat ∧ b.toNat ≤ 0x7A)
  let num := fun (b : Byte) => decide (0x30 ≤ b.toNat ∧ b.toNat ≤ 0x39)
  b2n (p.any up) + b2n (p.any low) + b2n (p.any num) + b2n (p.any fun b => !up b && !low b && !num b)

/-- A password breaks a rule of R496. -/
def State.weak (s : State) (p : List Byte) : Bool :=
  decide (p.length < 8) || decide (64 < p.length) || p.any (fun b => decide (b.toNat < 0x21 ∨ 0x7E < b.toNat))
    || decide (passwordClasses p < 3)
    || match s.flash.password with
      | some (salt, digest) => sha3 (salt ++ p) == digest
      | none => false

/-- SAFE_PASSWORD_SET (R496, R497, R500); the salt is random. -/
def State.passwordSet (s : State) (n : Nat) (p : List Byte) : CmdOut :=
  s.safeGate n 0x0004 (lengthFits p 0) false s.flash.sealMode <|
    if s.weak (p.drop 1) then s.safeRefuse n 0x0004 E_SAFE_WEAK 0
    else
      let salt := leBytes 16 s.free
      let s := { s.tookFree with flash := { s.flash with password := some (salt, sha3 (salt ++ p.drop 1)) } }
      CmdOut.ok (s.safeLog n 0x0004 OK 0 []) []

/-- The function states word of R769. -/
def State.functionStates (s : State) : Nat :=
  let ramps := (List.range 16).foldl (fun v g => v + b2n (s.calArm g).ramp.isSome * 2 ^ g) 0
  s.get Reg.STOP_STATE_STOP 0 + 4 * s.get Reg.STOP_STATE_RESTART_PEND 0 + 8 * b2n s.flash.safeAccepted
    + 16 * s.get Reg.CAL_STATE_STATE 0 + 64 * s.get Reg.SEP_STATUS_EN 0 + 256 * s.get Reg.STOP_STATE_STOP_CAUSE 0
    + 65536 * ramps

/-- SAFE_STATUS (R769). -/
def State.safeStatus (s : State) (_n : Nat) (_p : List Byte) : CmdOut :=
  let level := (List.range 16).foldl (fun m g => max m (s.level g)) 0
  CmdOut.ok s (fieldsOf [(4, s.functionStates), (4, s.bits Reg.SIP_STATUS_DEMAND 16), (4, s.bits Reg.SIP_STATUS_DISCREPANCY 16),
    (2, s.bits Reg.SO_STATUS_OUT 16), (2, s.bits Reg.EDM_STATUS_EDM_FAULT 16), (1, level), (1, b2n s.flash.sealMode), (2, 0),
    (4, (s.flash.safeSet.map SafetySet.crc).getD 0)])

/-- SAFE_PARAM_READ (R769). -/
def State.paramRead (s : State) (_n : Nat) (_p : List Byte) : CmdOut :=
  CmdOut.ok s ((s.flash.safeSet.map fun c => c.bytes).getD [])

/-- A set becomes the staged one (R492). -/
def State.stage (s : State) (c : SafetySet) (seals : Bool) : State :=
  s.onHost fun h => { h with staged := some c, stagedSeal := seals }

/-- SAFE_PARAM_WRITE with its last segment (R492, R497). -/
def State.paramWrite (s : State) (_n : Nat) (p : List Byte) : CmdOut :=
  if s.host.restricted then CmdOut.fail s E_SAFE_PASSWORD
  else match SafetySet.parse p with
    | none => (s, some ⟨E_SAFE_INVALID, leBytes 4 0xFFFFFFFF⟩)
    | some c => if c.computeCrc ≠ c.crc then CmdOut.fail s E_SAFE_CRC else CmdOut.ok (s.stage c false) []

/-- The staged set is committed (R125, R163, R494, R502, R504). -/
def State.commitSet (s : State) (c : SafetySet) : State :=
  let f := s.flash
  let seals := f.sealMode || s.host.stagedSeal
  let s := { s with flash := { f with safeSet := some c, safeCopy := !f.safeCopy, safeAccepted := false, sealMode := seals } }
  let s := (s.setFlag Reg.SEAL_STATUS_SEAL_MODE 0 seals).onHost fun h => { h with staged := none, stagedSeal := false }
  let s := if s.get Reg.CAL_STATE_STATE 0 = 1 then s.onCal fun k => { k with waiting := some c } else s
  if s.mode.mode = .idle ∧ s.ready = false then { s with mode := { s.mode with unusable := true } } else s

/-- SAFE_PARAM_COMMIT (R125, R493, R500). -/
def State.paramCommit (s : State) (n : Nat) (p : List Byte) : CmdOut :=
  s.safeGate n 0x0010 (p.length == 4) true s.flash.sealMode <|
    match s.host.staged with
    | none => s.safeRefuse n 0x0010 E_SAFE_NO_STAGED 0
    | some c =>
      if c.crc ≠ uAt p 0 4 then s.safeRefuse n 0x0010 E_SAFE_CRC 0
      else match c.invalid with
        | some key => (s.safeLog n 0x0010 E_SAFE_INVALID key [], some ⟨E_SAFE_INVALID, leBytes 4 key⟩)
        | none => CmdOut.ok ((s.commitSet c).safeLog n 0x0010 OK 0 []) (leBytes 4 s.flash.changeNext)

/-- The objects that an Eckin set has (R502): arms 0 to 3 with their capsules, input pairs, outputs and feedback contacts 0
to 7. -/
def eckinObject (v : EckinValue) : Bool :=
  match v.number / 256 with
  | 1 => decide (v.inst < 8)
  | 3 => decide (v.inst < 8)
  | 4 => decide (v.inst < 8)
  | 6 => decide (v.inst < 4)
  | 7 => decide (v.inst < 48)
  | _ => true

/-- An Eckin value after its conversion: speeds are rounded down to whole mm/s (R502). -/
def EckinValue.convert (v : EckinValue) : SafetyRecord :=
  { number := v.number, inst := v.inst, value := if v.speed then v.value / 10 else v.value }

/-- A record in its place in the order of R493; a later one for the same key replaces an earlier one. -/
def insertRecord (r : SafetyRecord) : List SafetyRecord → List SafetyRecord
  | [] => [r]
  | a :: l => if r.key < a.key then r :: a :: l else if r.key = a.key then r :: l else a :: insertRecord r l

/-- The parameters of the objects in use that take their defaults (R502). -/
def SafetySet.defaulted (c : SafetySet) : Nat :=
  ((safeTable.filter fun p => p.dflt.isSome).map fun p =>
    ((c.used (p.number / 256)).filter fun i => !c.has p.number i).length).sum

/-- An Eckin import: the set, how many parameters took their defaults, the seal setting; none where it is refused (R502,
R503). -/
def eckinImport (p : List Byte) : Option (SafetySet × Nat × Bool) :=
  match Config.eckinParse p with
  | none => none
  | some e =>
    let l := e.values.map EckinValue.convert
    if e.single || e.values.any (fun v => !eckinObject v) || l.any (fun r => !r.fits) then none
    else
      let c : SafetySet := { version := e.version, origin := 1, records := l.foldl (fun l r => insertRecord r l) [], crc := 0 }
      some (c, SafetySet.defaulted c, e.seals)

/-- SAFE_IMPORT_ECKIN with its last segment (R492, R502, R503). -/
def State.importEckin (s : State) (n : Nat) (p : List Byte) : CmdOut :=
  s.safeGate n 0x0011 true true false <|
    match eckinImport p with
    | none => s.safeRefuse n 0x0011 E_SAFE_IMPORT 0
    | some (c, defaults, seals) =>
      let c := { c with origin := 1 }
      let c := { c with crc := c.computeCrc }
      CmdOut.ok ((s.stage c seals).safeLog n 0x0011 OK 0 []) (fieldsOf [(4, c.crc), (2, defaults)])

/-- SAFE_SEAL_MODE (R501). -/
def State.sealModeSet (s : State) (n : Nat) (p : List Byte) : CmdOut :=
  let on := uAt p 0 1
  s.safeGate n 0x0012 (p.length == 1) true true <|
    if 1 < on then s.safeRefuse n 0x0012 E_PARAM on
    else
      let s := { s with flash := { s.flash with sealMode := on == 1 } }
      CmdOut.ok ((s.set Reg.SEAL_STATUS_SEAL_MODE 0 on).safeLog n 0x0012 OK on []) []

/-- A latched `TP_FAIL` of a pair can be cleared: each channel that failed has passed a later test (R449). -/
def State.testsPassed (s : State) (k : Nat) : Bool :=
  [2 * k, 2 * k + 1].all fun c => !(s.chan c).fail || (s.chan c).pass

/-- The acknowledgement of an input pair (R446, R449): none where it is refused. -/
def State.ackPair (s : State) (k : Nat) : Option State :=
  let d := s.demands k
  let disc := s.flag Reg.SIP_STATUS_DISCREPANCY k
  let tp := s.flag Reg.SIP_STATUS_TP_FAIL k
  if (s.pairKind k != 0 && (d.1 || d.2)) || (disc && !s.flag Reg.SIP_STATUS_BOTH_SEEN k) || (tp && !s.testsPassed k) then none
  else
    let s := (s.setFlag Reg.SIP_STATUS_DISCREPANCY k false).setFlag Reg.SIP_STATUS_BOTH_SEEN k false
    let s := s.setFlag Reg.SIP_STATUS_TP_FAIL k false
    some ([2 * k, 2 * k + 1].foldl (fun (s : State) c => s.onChan c fun x => { x with fail := false, pass := false }) s)

/-- The acknowledgement of an EDM fault (R456). -/
def State.ackEdm (s : State) (k : Nat) : Option State :=
  if s.flag Reg.EDM_STATUS_EDM_FAULT k && !s.flag Reg.EDM_STATUS_LEVEL k then none
  else some ((s.setFlag Reg.EDM_STATUS_EDM_FAULT k false).setFlag Reg.EDM_STATUS_REFUSED k false)

/-- The acknowledgement of a restart (R469). -/
def State.ackRestart (s : State) : Option State :=
  if s.stopCausePresent then none else some (s.setFlag Reg.STOP_STATE_RESTART_PEND 0 false)

/-- SAFE_RESET_ACK (R126). -/
def State.resetAck (s : State) (n : Nat) (p : List Byte) : CmdOut :=
  let kind := uAt p 0 1
  let k := uAt p 1 1
  let detail := kind + 256 * k
  if p.length = 2 ∧ (2 < kind ∨ (15 < k ∧ ¬(kind = 1 ∧ k = 0xFF))) then s.safeRefuse n 0x0014 E_PARAM detail
  else
    s.safeGate n 0x0014 (p.length == 2) true false <|
      let r := match kind with
        | 0 => s.ackPair k
        | 1 => s.ackRestart
        | _ => s.ackEdm k
      match r with
      | some s => CmdOut.ok (s.safeLog n 0x0014 OK detail []) []
      | none => s.safeRefuse n 0x0014 E_SAFE_DEMAND detail

/-- SAFE_CHANGELOG_READ (R506). -/
def State.changelogRead (s : State) (_n : Nat) (p : List Byte) : CmdOut :=
  let first := uAt p 0 4
  let k := uAt p 4 2
  if k = 0 ∨ 42 < k then CmdOut.fail s E_PARAM
  else
    let l := s.flash.changes.reverse.filter fun e => decide (first ≤ e.entry)
    CmdOut.ok s ((l.take k).flatMap fun e => ChangeEntry.bytes e)

/-- The next state of a UTF-8 reader: bytes still to come and the bounds of the next one; none for a fault. -/
def utf8Step (st : Option (Nat × Nat × Nat)) (b : Byte) : Option (Nat × Nat × Nat) :=
  let v := b.toNat
  match st with
  | none => none
  | some (0, _, _) =>
    if v < 0x80 then some (0, 0, 0)
    else if 0xC2 ≤ v ∧ v ≤ 0xDF then some (1, 0x80, 0xBF)
    else if 0xE0 ≤ v ∧ v ≤ 0xEF then some (2, if v = 0xE0 then 0xA0 else 0x80, if v = 0xED then 0x9F else 0xBF)
    else if 0xF0 ≤ v ∧ v ≤ 0xF4 then some (3, if v = 0xF0 then 0x90 else 0x80, if v = 0xF4 then 0x8F else 0xBF)
    else none
  | some (k + 1, lo, hi) => if lo ≤ v ∧ v ≤ hi then some (k, 0x80, 0xBF) else none

/-- The bytes are UTF-8. -/
def utf8 (p : List Byte) : Bool :=
  match p.foldl utf8Step (some (0, 0, 0)) with
  | some (0, _, _) => true
  | _ => false

/-- SAFE_ACCEPT (R500, R504). -/
def State.safeAccept (s : State) (n : Nat) (p : List Byte) : CmdOut :=
  let name := p.drop 5
  s.safeGate n 0x0015 (lengthFits p 4) true s.flash.sealMode <|
    if name = [] ∨ 64 < name.length ∨ utf8 name = false then s.safeRefuse n 0x0015 E_PARAM 0
    else if s.flash.safeSet.map SafetySet.crc ≠ some (uAt p 0 4) then s.safeRefuse n 0x0015 E_SAFE_CRC 0
    else
      let s := { s with flash := { s.flash with safeAccepted := true } }
      CmdOut.ok (s.safeLog n 0x0015 OK 0 name) (leBytes 4 s.flash.changeNext)

/-- A part of the proof test whose outcome lies in the hardware: it passes or fails (a free value). -/
def State.proofPart (s : State) (fails : State → State) (r : Nat × State) (bit : Nat) : Nat × State :=
  if s.free % 2 = 1 then (r.1 ||| 2 ^ bit, (fails r.2).tookFree) else (r.1, r.2.tookFree)

/-- A test pulse of a TPS on one channel that it feeds (R449, R460). -/
def proofChannel (t : Nat) (r : Nat × State) (c : Nat) : Nat × State :=
  r.2.proofPart (fun s =>
    let s := (s.onChan c fun k => { k with fail := true, pass := false }).setFlag Reg.TPS_STATUS_LAST_PASS t false
    let s := (s.setFlag Reg.SIP_STATUS_TP_FAIL (c / 2) true).count Reg.DISC_COUNT_TP_FAIL_COUNT (c / 2) 1
    ((s.enterDemand (c / 2)).raise 194).calDecide) (r.1, r.2.onChan c fun k => { k with pass := k.fail }) 6

/-- One test pulse of a TPS (R460). -/
def proofPulse (r : Nat × State) (t : Nat) : Nat × State :=
  let s := (r.2.setFlag Reg.TPS_STATUS_LAST_PASS t true).set Reg.TPS_LAST_TIME t (r.2.tb 6)
  (s.fed t).foldl (proofChannel t) (r.1, s)

/-- One off pulse of a safe output with its readback (R452, R460). -/
def proofOutput (r : Nat × State) (k : Nat) : Nat × State := r.2.proofPart (fun s => s.soFault k) r 7

/-- The EDM level of an enabled output with the output off (R455, R456, R460): the level that Caldera has, or, for an output that
is on, the one that the test finds. -/
def proofEdm (r : Nat × State) (k : Nat) : Nat × State :=
  if r.2.flag Reg.SO_STATUS_OUT k then r.2.proofPart (fun s => s.edmFault k false) r 8
  else if r.2.flag Reg.EDM_STATUS_LEVEL k then r else (r.1 ||| 256, r.2.edmFault k false)

/-- The diagnostic of a failed test of bits 0 to 5 (R440, R460): 0x02 to 0x05, one of the voltage and the temperature monitor,
0x08. -/
def State.proofFault (s : State) (bit : Nat) : State :=
  if bit = 5 then s.diagnostic 8
  else if bit = 4 then s.tookFree.diagnostic (6 + s.free % 2)
  else s.diagnostic (bit + 2)

/-- The tests of R460 that a mask names: the failed ones, and the state after them; SAFE_FAULT of a failed test of bits 0 to 5
comes once all have run (DEDUCED, log entry 82). -/
def State.proofTests (s : State) (mask : Nat) : Nat × State :=
  let r := ((List.range 6).filter (bitOf mask)).foldl (fun r b => r.2.proofPart id r b) (0, s)
  let r := if bitOf mask 6 then ((List.range 8).filter fun t => s.flag Reg.TPS_CFG_EN t).foldl proofPulse r else r
  let outs := (List.range 16).filter fun k => s.flag Reg.SO_CFG_EN k
  let r := if bitOf mask 7 then outs.foldl proofOutput r else r
  let r := if bitOf mask 8 then (outs.filter fun k => s.flag Reg.EDM_CFG_EDM_EN k).foldl proofEdm r else r
  (r.1, ((List.range 6).filter (bitOf r.1)).foldl State.proofFault r.2)

/-- SAFE_PROOF_TEST (R460). -/
def State.proofTest (s : State) (n : Nat) (p : List Byte) : CmdOut :=
  let mask := uAt p 0 4
  s.safeGate n 0x0016 (p.length == 4) true false <|
    if 0x1FF < mask then s.safeRefuse n 0x0016 E_PARAM 0
    else
      let r := s.proofTests mask
      CmdOut.ok (r.2.safeLog n 0x0016 OK r.1 []) (fieldsOf [(4, mask - r.1), (4, r.1)])

/-- SAFE_ISLAND_RESET (R438, R439): TB6 is cleared, Caldera restarts. -/
def State.islandReset (s : State) (n : Nat) (p : List Byte) : CmdOut :=
  s.safeGate n 0x0017 p.isEmpty true false <|
    let s := (s.set Reg.TB_TIME_NS 6 0).set Reg.TB_FRAC_FRAC 6 0
    let s := { s with power := { s.power with tbRest := s.power.tbRest.put 0 6 0 } }
    CmdOut.ok (s.calRestart.safeLog n 0x0017 OK 0 []) []

/-- SAFE_LOGIN. -/
def execSafeLogin (mb : Fin 32) (s : State) : Host.Outcome State Fault Refusal :=
  s.run fun s => s.command mb.val 0x0801 State.safeLogin

/-- SAFE_LOGOUT. -/
def execSafeLogout (mb : Fin 32) (s : State) : Host.Outcome State Fault Refusal :=
  s.run fun s => s.command mb.val 0x0802 State.safeLogout

/-- SAFE_PASSWORD_SET. -/
def execSafePasswordSet (mb : Fin 32) (s : State) : Host.Outcome State Fault Refusal :=
  s.run fun s => s.command mb.val 0x0803 State.passwordSet

/-- SAFE_STATUS. -/
def execSafeStatus (mb : Fin 32) (s : State) : Host.Outcome State Fault Refusal :=
  s.run fun s => s.command mb.val 0x0804 State.safeStatus

/-- SAFE_PARAM_READ. -/
def execSafeParamRead (mb : Fin 32) (s : State) : Host.Outcome State Fault Refusal :=
  s.run fun s => s.command mb.val 0x0805 State.paramRead

/-- SAFE_PARAM_WRITE. -/
def execSafeParamWrite (mb : Fin 32) (s : State) : Host.Outcome State Fault Refusal :=
  s.run fun s => s.command mb.val 0x0806 State.paramWrite

/-- SAFE_PARAM_COMMIT. -/
def execSafeParamCommit (mb : Fin 32) (s : State) : Host.Outcome State Fault Refusal :=
  s.run fun s => s.command mb.val 0x0807 State.paramCommit

/-- SAFE_IMPORT_ECKIN. -/
def execSafeImportEckin (mb : Fin 32) (s : State) : Host.Outcome State Fault Refusal :=
  s.run fun s => s.command mb.val 0x0808 State.importEckin

/-- SAFE_SEAL_MODE. -/
def execSafeSealMode (mb : Fin 32) (s : State) : Host.Outcome State Fault Refusal :=
  s.run fun s => s.command mb.val 0x0809 State.sealModeSet

/-- SAFE_RESET_ACK. -/
def execSafeResetAck (mb : Fin 32) (s : State) : Host.Outcome State Fault Refusal :=
  s.run fun s => s.command mb.val 0x080A State.resetAck

/-- SAFE_CHANGELOG_READ. -/
def execSafeChangelogRead (mb : Fin 32) (s : State) : Host.Outcome State Fault Refusal :=
  s.run fun s => s.command mb.val 0x080B State.changelogRead

/-- SAFE_ACCEPT. -/
def execSafeAccept (mb : Fin 32) (s : State) : Host.Outcome State Fault Refusal :=
  s.run fun s => s.command mb.val 0x080C State.safeAccept

/-- SAFE_PROOF_TEST. -/
def execSafeProofTest (mb : Fin 32) (s : State) : Host.Outcome State Fault Refusal :=
  s.run fun s => s.command mb.val 0x080D State.proofTest

/-- SAFE_ISLAND_RESET. -/
def execSafeIslandReset (mb : Fin 32) (s : State) : Host.Outcome State Fault Refusal :=
  s.run fun s => s.command mb.val 0x080E State.islandReset

end Sys2Proof.Machine
end

