-- ==== Sys2Proof/Machine/CmdSolv.lean ====
section
/-!
DEFINITION. The SOLV commands (R117, R118, R200 to R211).
-/
namespace Sys2Proof.Machine

open Status

/-- A command on one of the eight instances. -/
def State.onSolver (s : State) (p : List Byte) (f : Nat → CmdOut) : CmdOut :=
  if 7 < uAt p 0 1 then CmdOut.fail s E_PARAM else f (uAt p 0 1)

/-- SOLV_STATUS (R207). -/
def State.solvStatus (s : State) (_n : Nat) (p : List Byte) : CmdOut :=
  s.onSolver p fun k =>
    CmdOut.ok s (fieldsOf [(4, s.get Reg.RUN_FRAME_FRAME k), (1, s.get Reg.RUN_STATUS_OUTCOME k), (1, 0),
      (2, s.get Reg.RUN_ITER_ITERATIONS k), (4, s.get Reg.RES_PRIMAL_VALUE k), (4, s.get Reg.RES_DUAL_VALUE k),
      (4, s.regValue ⟨5, 1, k, 0x110⟩), (4, s.get Reg.PIVOT_REG_COUNT k), (4, s.get Reg.PIVOT_FIRST_COLUMN k)])

/-- A tile mask is one of the aligned masks of R202. -/
def tileMask (m : Nat) : Bool :=
  m == 0xFF || m == 0x0F || m == 0xF0 || [0x03, 0x0C, 0x30, 0xC0].contains m
    || (List.range 8).any fun t => m == 2 ^ t

/-- Masks that do not overlap and are aligned (R118). -/
def tileMasks (l : List Nat) : Bool :=
  l.all tileMask && (List.range 8).all fun t => decide ((l.filter fun m => bitOf m t).length ≤ 1)

/-- SOLV_INSTANCES (R93, R118, R199, R200). -/
def State.solvInstances (s : State) (_n : Nat) (p : List Byte) : CmdOut :=
  let k := uAt p 0 1
  let l := (p.drop 1).map BitVec.toNat
  if p.length ≠ 1 + k then CmdOut.fail s E_LENGTH
  else if k = 0 ∨ 8 < k then CmdOut.fail s E_PARAM
  else if !tileMasks l then CmdOut.fail s E_SOLV_TILES
  else CmdOut.ok (s.setInstances l) []

/-- SOLV_CELL_ENABLE with on = 1 (R118, R184, R201, R211). -/
def State.cellEnableOn (s : State) : CmdOut :=
  if s.get Reg.INST_CFG_SIZE 0 ≠ 8 ∨ s.wholeProblem.isNone then CmdOut.fail s E_SOLV_NO_PROBLEM
  else
    let s := (s.setFlag Reg.INST_CFG_CELL 0 true).onInst 0 fun i => { i with coldNext := true }
    CmdOut.ok s.postConstants []

/-- SOLV_CELL_ENABLE (R206: a run ends at its next checkpoint). -/
def State.cellEnable (s : State) (_n : Nat) (p : List Byte) : CmdOut :=
  match uAt p 0 1 with
  | 0 =>
    let s := if s.flag Reg.INST_CFG_CELL 0 then s.onRun 0 fun r => { r with abort := true } else s
    CmdOut.ok (s.setFlag Reg.INST_CFG_CELL 0 false) []
  | 1 => s.cellEnableOn
  | _ => CmdOut.fail s E_PARAM

/-- SOLV_PARAM_GET (R209). -/
def State.solvParamGet (s : State) (_n : Nat) (p : List Byte) : CmdOut :=
  s.onSolver p fun k =>
    let q := uAt p 1 2
    if q = 0 ∨ 13 < q then CmdOut.fail s E_SOLV_PARAM else CmdOut.ok s (leBytes 4 (s.runParam k q))

/-- SOLV_PARAM_SET (R209, R210, R215): it takes effect at the next run start. -/
def State.solvParamSet (s : State) (_n : Nat) (p : List Byte) : CmdOut :=
  s.onSolver p fun k =>
    let q := uAt p 1 2
    let v := uAt p 3 4
    if s.runParamOk k q v then CmdOut.ok (s.onInst k fun i => { i with params := i.params.put 0 q (v + 1) }) []
    else CmdOut.fail s E_SOLV_PARAM

/-- SOLV_STATUS. -/
def execSolvStatus (mb : Fin 32) (s : State) : Host.Outcome State Fault Refusal :=
  s.run fun s => s.command mb.val 0x0501 State.solvStatus

/-- SOLV_INSTANCES. -/
def execSolvInstances (mb : Fin 32) (s : State) : Host.Outcome State Fault Refusal :=
  s.run fun s => s.command mb.val 0x0502 State.solvInstances

/-- SOLV_CELL_ENABLE. -/
def execSolvCellEnable (mb : Fin 32) (s : State) : Host.Outcome State Fault Refusal :=
  s.run fun s => s.command mb.val 0x0503 State.cellEnable

/-- SOLV_PARAM_GET. -/
def execSolvParamGet (mb : Fin 32) (s : State) : Host.Outcome State Fault Refusal :=
  s.run fun s => s.command mb.val 0x0504 State.solvParamGet

/-- SOLV_PARAM_SET. -/
def execSolvParamSet (mb : Fin 32) (s : State) : Host.Outcome State Fault Refusal :=
  s.run fun s => s.command mb.val 0x0505 State.solvParamSet

end Sys2Proof.Machine
end

