-- ==== Sys2Proof/Machine/CmdTime.lean ====
section
/-!
DEFINITION. The TIME commands (R122, R123, R570 to R577).
-/
namespace Sys2Proof.Machine

open Status

/-- TIME_GET (R570). -/
def State.timeGet (s : State) (_n : Nat) (p : List Byte) : CmdOut :=
  let b := uAt p 0 1
  if 7 < b then CmdOut.fail s E_TIME_BASE
  else
    CmdOut.ok s (leBytes 8 (s.tb b) ++ leInt 4 (s.getS Reg.TB_RATE_PPB b)
      ++ fieldsOf [(1, s.get Reg.TB_STATE_STATE b), (1, s.get Reg.TB_STATE_STEP_PENDING b), (2, 0)]
      ++ leInt 8 (s.getS Reg.PENDING_STEP_NS b))

/-- Another instance holds the domain on one of the ports (R577). -/
def State.domainTaken (s : State) (b d ports : Nat) : Bool :=
  [1, 2, 3, 4].any fun n =>
    n != b && match s.ptpOf n with
      | some i => i.domain == d && (i.ports.toNat &&& ports) != 0
      | none => false

/-- A mask names a port without the ETHERNET or SAFETY-ETHERNET personality (R577). -/
def State.plainPorts (s : State) (ports : Nat) : Bool :=
  (List.range 64).any fun q =>
    bitOf ports q && s.get Reg.PORT_STATUS_PERSONALITY q != 1 && s.get Reg.PORT_STATUS_PERSONALITY q != 2

/-- TIME_PTP_CONFIG (R577): a mask of 0 removes the instance, and the base is FREE. -/
def State.ptpConfig (s : State) (_n : Nat) (p : List Byte) : CmdOut :=
  let b := uAt p 0 1
  let d := uAt p 1 1
  let ports := uAt p 4 8
  if b = 0 ∨ 4 < b then CmdOut.fail s E_TIME_BASE
  else if ports = 0 then CmdOut.ok ((s.setPtp b none).setTbState b 0) []
  else if 127 < d ∨ 3 < uAt p 2 1 ∨ s.domainTaken b d ports = true then CmdOut.fail s E_TIME_PROFILE
  else if s.plainPorts ports then CmdOut.fail s E_PARAM
  else
    let i : PtpInst :=
      { domain := d, profile := uAt p 2 1, ports := BitVec.ofNat 64 ports, gm := none, rank := 0, slave := 0, heard := s.ticks,
        good := 0, offs := [], settling := false, sent := Tab.empty }
    CmdOut.ok ((s.setPtp b (some i)).tbFollow b) []

/-- TIME_STEP_ACCEPT (R123, R573). -/
def State.stepAccept (s : State) (_n : Nat) (p : List Byte) : CmdOut :=
  let b := uAt p 0 1
  if !steps b then CmdOut.fail s E_TIME_BASE
  else if !s.flag Reg.TB_STATE_STEP_PENDING b then CmdOut.fail s E_TIME_NO_STEP
  else CmdOut.ok (s.acceptStep b) []

/-- TIME_TB7_SET (R574). -/
def State.tb7Set (s : State) (_n : Nat) (p : List Byte) : CmdOut :=
  let s := s.setRate16 7 (sAt p 8 4 * 65536)
  CmdOut.ok (if sAt p 0 8 = 0 then s else s.tbCorrect 7 (sAt p 0 8)) []

/-- TIME_JUMP_LIMIT (R571). -/
def State.jumpLimit (s : State) (_n : Nat) (p : List Byte) : CmdOut :=
  let b := uAt p 0 1
  let v := uAt p 1 4
  if !steps b then CmdOut.fail s E_TIME_BASE
  else if v < 100 ∨ 1000000 < v then CmdOut.fail s E_PARAM
  else CmdOut.ok (s.set Reg.JUMP_LIMIT_NS b v) []

/-- TIME_GET. -/
def execTimeGet (mb : Fin 32) (s : State) : Host.Outcome State Fault Refusal :=
  s.run fun s => s.command mb.val 0x0701 State.timeGet

/-- TIME_PTP_CONFIG. -/
def execTimePtpConfig (mb : Fin 32) (s : State) : Host.Outcome State Fault Refusal :=
  s.run fun s => s.command mb.val 0x0702 State.ptpConfig

/-- TIME_STEP_ACCEPT. -/
def execTimeStepAccept (mb : Fin 32) (s : State) : Host.Outcome State Fault Refusal :=
  s.run fun s => s.command mb.val 0x0703 State.stepAccept

/-- TIME_TB7_SET. -/
def execTimeTb7Set (mb : Fin 32) (s : State) : Host.Outcome State Fault Refusal :=
  s.run fun s => s.command mb.val 0x0704 State.tb7Set

/-- TIME_JUMP_LIMIT. -/
def execTimeJumpLimit (mb : Fin 32) (s : State) : Host.Outcome State Fault Refusal :=
  s.run fun s => s.command mb.val 0x0705 State.jumpLimit

end Sys2Proof.Machine
end

