-- ==== Sys2Proof/Machine/CmdTwin.lean ====
section
/-!
DEFINITION. The TWIN commands (R134, R135, R591, R598, R609 to R611).
-/
namespace Sys2Proof.Machine

open Status

/-- The partner state that TWIN_STATUS shows (R611). -/
def State.partnerState (s : State) : Nat :=
  if !s.flag Reg.TWIN_STATE_HB_OK 0 then 0
  else match s.get Reg.TWIN_STATE_SYNC 0 with
    | 0 => 1
    | 1 => 3
    | _ => 2

/-- TWIN_STATUS. -/
def State.twinStatus (s : State) (_n : Nat) (_p : List Byte) : CmdOut :=
  CmdOut.ok s (fieldsOf [(1, s.get Reg.TWIN_STATE_ROLE 0), (1, s.partnerState), (1, b2n s.token),
    (1, s.get Reg.TWIN_STATE_LINK_UP 0), (4, s.get Reg.DIGEST_MISMATCH_COUNT 0)])

/-- The active image holds what a pair cannot drive (R591). -/
def State.imageLocal (s : State) : Bool :=
  match s.cell with
  | some c => !c.localItems.isEmpty
  | none => false

/-- TWIN_CONFIG (R591, R611). -/
def State.twinConfig (s : State) (_n : Nat) (p : List Byte) : CmdOut :=
  let e := uAt p 0 1
  if 1 < e then CmdOut.fail s E_PARAM
  else if e = 1 ∧ s.imageLocal = true then CmdOut.fail s E_PARAM
  else
    let s := if e = 1 then s else s.unsync
    let s := { s with flash := { s.flash with pairEn := e == 1 } }
    CmdOut.ok (s.setFlag Reg.TWIN_CFG_PAIR_EN 0 (e == 1)).showRole []

/-- A mode in which a unit resynchronises (R609). -/
def resyncModes : List Mode := [.config, .idle, .service]

/-- The partner's mode; free where no message has shown it. -/
def State.partnerMode (s : State) : Nat :=
  match s.twin.partner with
  | some p => p.mode
  | none => s.free

/-- TWIN_RESYNC (R135, R609, R610). What image, set and configuration the partner holds is not known to this unit until it
compares them: a free value. -/
def State.twinResync (s : State) (n : Nat) (_p : List Byte) : CmdOut :=
  if !s.pairOn then CmdOut.fail s E_TWIN_ABSENT
  else if s.get Reg.TWIN_STATE_ROLE 0 ≠ 2 then CmdOut.fail s E_TWIN_NOT_STANDBY
  else if !s.flag Reg.TWIN_STATE_LINK_UP 0 then CmdOut.fail s E_TWIN_ABSENT
  else
    let other := s.partnerMode
    let s := if s.twin.partner.isNone then s.tookFree else s
    let m := Mode.code s.mode.mode
    if !s.inMode resyncModes || other != m then CmdOut.fail s E_MODE
    else
      let same := s.free % 2 == 0
      let s := s.tookFree
      if !same then CmdOut.fail s E_TWIN_NOT_SYNC
      else
        let s := s.onTwin fun t => { t with resyncMb := some n, resyncMode := m, cut := none, compare := false }
        CmdOut.later ((s.set Reg.TWIN_STATE_SYNC 0 1).set Reg.RESYNC_PROGRESS_PHASE 0 1)

/-- TWIN_HANDOVER (R135, R598): the cycle start is at least 4 cycles ahead, which one is free. -/
def State.twinHandover (s : State) (n : Nat) (_p : List Byte) : CmdOut :=
  if !s.pairOn || !s.flag Reg.TWIN_STATE_LINK_UP 0 then CmdOut.fail s E_TWIN_ABSENT
  else if !s.pairSync then CmdOut.fail s E_TWIN_NOT_SYNC
  else if !s.token then CmdOut.later s
  else
    let c := s.get Reg.CYCLE_NUM_NUMBER 0 + 4 + s.free
    CmdOut.later ((s.tookFree.onTwin fun t => { t with handover := some c, handMb := some n }).out (.twin (.handover c)))

/-- TWIN_STATUS. -/
def execTwinStatus (mb : Fin 32) (s : State) : Host.Outcome State Fault Refusal :=
  s.run fun s => s.command mb.val 0x0C01 State.twinStatus

/-- TWIN_CONFIG. -/
def execTwinConfig (mb : Fin 32) (s : State) : Host.Outcome State Fault Refusal :=
  s.run fun s => s.command mb.val 0x0C02 State.twinConfig

/-- TWIN_RESYNC. -/
def execTwinResync (mb : Fin 32) (s : State) : Host.Outcome State Fault Refusal :=
  s.run fun s => s.command mb.val 0x0C03 State.twinResync

/-- TWIN_HANDOVER. -/
def execTwinHandover (mb : Fin 32) (s : State) : Host.Outcome State Fault Refusal :=
  s.run fun s => s.command mb.val 0x0C04 State.twinHandover

end Sys2Proof.Machine
end

