-- ==== Sys2Proof/Machine/Power.lean ====
section
/-!
DEFINITION. Clocks, rails, the sag governor, temperature, DORMANT and the resets (chapter 23), and INIT as the boot ROM and
Ranger run it (R709 to R713, R717).
-/
namespace Sys2Proof.Machine

/-- An event that acts while a reset holds the device, or in DORMANT. -/
def State.always (s : State) (f : State → State) : Host.Outcome State Fault Refusal := .next (s.beside f)

/-- A brown-out, a clock loss: nothing watches for it in DORMANT (R700). -/
def State.powered (s : State) (f : State → State) : Host.Outcome State Fault Refusal :=
  .next (if s.power.dormant then s else s.beside f)

/-- The endpoint's link state and MSI-X enables are cleared (R52). -/
def State.pcieClear (s : State) : State :=
  s.onHost fun h => { h with linkUp := false, msixOn := false, pcie := { h.pcie with gen := 0, width := 0 } }

/-- The endpoint loses its link (R52). -/
def State.pcieDown (s : State) : State :=
  (s.raiseIf s.host.linkUp 51).pcieClear

/-- A PLL loses lock (R686, R688, R368, R440): 0 CORE to 10 PCIe as `LOCK` numbers them. -/
def State.pllUnlock (s : State) (p : Nat) : State :=
  let s := (s.set Reg.CLK_STATUS_LOCK 0 (putBits (s.get Reg.CLK_STATUS_LOCK 0) p 1 0)).raise 5
  if p = 5 then s.doClockLoss s.fineNow
  else if p = 8 then s.diagnostic 5
  else if p = 10 then s
  else s.startReset .w 4

/-- `PCIE_REFCLK` is lost (R686). -/
def State.refclkLoss (s : State) : State :=
  ((s.setFlag Reg.CLK_STATUS_PCIE_REF_OK 0 false).setFlag Reg.CLK_FLAGS_PCIE_REF_LOST 0 true).pcieDown.raise 6

/-- A rail leaves its range (R690), numbered as in the rail table. -/
def State.railFault (s : State) (r : Nat) : State :=
  let s := s.set Reg.RAIL_STATUS_IN_RANGE 0 (putBits (s.get Reg.RAIL_STATUS_IN_RANGE 0) r 1 0)
  if r < 2 then s.startReset .w (2 + r)
  else
    let s := (s.outputsReset.setFlag Reg.SAG_FLAGS_RAIL_FAULT 0 true).raise 2
    if r = 2 then s.diagnostic 6 else s

/-- A junction temperature in 1/16 °C. -/
def celsius (t : Int) : Int := 16 * t

/-- TEMP_UPDATE (R696): the highest of the four quadrants. -/
def State.tempUpdate (s : State) (t : Int) : State :=
  let was := s.getS Reg.TEMP_JUNCTION 0
  let s := s.set Reg.TEMP_JUNCTION 0 (ofS 16 t)
  let s := s.raiseIf (decide ((was < celsius 105 ∧ celsius 105 ≤ t) ∨ (celsius 100 ≤ was ∧ t < celsius 100))) 3
  let s := s.raiseIf (decide (was < celsius 115 ∧ celsius 115 ≤ t)) 4
  if celsius 125 ≤ t then s.startReset .w 5 else s

/-- The sag event changes. -/
def State.onPower (s : State) (f : PowerState → PowerState) : State := { s with power := f s.power }

/-- A rail falls below its warning level (R691, R693). -/
def State.sagWarning (s : State) (saw : Bool) : State :=
  let s := s.setFlag (if saw then Reg.SAG_STATUS_WARN_SAW else Reg.SAG_STATUS_WARN_CORE) 0 true
  let s := (s.set Reg.SAG_STATUS_RATE 0 4).setFlag Reg.SAG_STATUS_HOLDING 0 false
  if s.power.sagFrom.isSome then s.onPower fun p => { p with sagHold := none }
  else
    let s := ((s.setFlag Reg.SAG_FLAGS_SAG_WARN 0 true).count Reg.SAG_COUNT_COUNT 0 1).raise 0
    s.onPower fun p => { p with sagFrom := some s.ticks, sagHold := none }

/-- Both rails are above their clear level again: `SAG_HOLD` starts (R692). -/
def State.sagClear (s : State) : State :=
  if s.power.sagFrom.isSome && s.power.sagHold.isNone then
    let s := (s.setFlag Reg.SAG_STATUS_WARN_CORE 0 false).setFlag Reg.SAG_STATUS_WARN_SAW 0 false
    (s.setFlag Reg.SAG_STATUS_HOLDING 0 true).onPower fun p => { p with sagHold := some s.ticks }
  else s

/-- `SAG_HOLD` has run (R692). -/
def State.sagHoldEnd (s : State) : State :=
  match s.power.sagHold with
  | some t =>
    if s.flag Reg.SAG_STATUS_HOLDING 0 then
      let e := t + usTicks (max 1 (s.get Reg.SAG_CFG_SAG_HOLD 0))
      ((s.waitTill e).setFlag Reg.SAG_STATUS_HOLDING 0 false).onPower fun p => { p with sagHold := some e }
    else s
  | none => s

/-- The slowed clocks rise by one eighth, 1 µs after the last step (R692). -/
def State.sagStep (s : State) : State :=
  match s.power.sagHold, s.power.sagFrom with
  | some e, some b =>
    let r := s.get Reg.SAG_STATUS_RATE 0
    if s.flag Reg.SAG_STATUS_HOLDING 0 || decide (8 ≤ r) then s
    else
      let t := e + usTicks (r - 3)
      let s := (s.waitTill t).set Reg.SAG_STATUS_RATE 0 (r + 1)
      if r + 1 < 8 then s
      else
        let s := (s.raise 1).set Reg.SAG_MAX_US 0 (max (s.get Reg.SAG_MAX_US 0) ((t - b) / 125))
        s.onPower fun p => { p with sagFrom := none, sagHold := none }
  | _, _ => s

/-- The marked slot verifies: VERIFIED or TRIAL, signed by the vendor key, not rolled back (R712, R714, R716). -/
def State.rangerGood (s : State) (k : Nat) : Bool :=
  decide (2 ≤ (s.fwSlot k).state) && decide (s.flash.rollback ≤ (s.fwSlot k).secVersion)

/-- The boot ROM tries the in-package slots, the marked one first; a TRIAL slot that fails is marked INVALID (R712). -/
def State.bootFlash (s : State) : State :=
  let k := s.flash.bootSlot
  let other := 1 - k
  if s.rangerGood k then { s with boot := { s.boot with ranger := some k, qspi := false } }
  else
    let s := if (s.fwSlot k).state = 3 then
        (s.putFw k { s.fwSlot k with state := 1 }).onFlash fun f => { f with trialFailed := some k, bootSlot := other }
      else s
    { s with boot := { s.boot with ranger := if s.rangerGood other then some other else none, qspi := false } }

/-- The boot ROM chooses the Ranger slot by the straps (R709, R711 to R713); `qspi` is the slot of the external flash that
verifies. A hart that a debugger holds halts at its first instruction (R729). -/
def State.bootRom (s : State) (qspi : Option Nat) : State :=
  let s := { s with pwmClock := true }
  let s := if s.rangerHalted && !s.boot.rangerUnlogged then
      { s with boot := { s.boot with rangerPc := s.free, rangerUnlogged := true } }.tookFree else s
  match s.boot.straps.toNat, qspi with
  | 1, q => { s with boot := { s.boot with ranger := q, qspi := true } }
  | 2, some q => { s with boot := { s.boot with ranger := some q, qspi := true } }
  | _, _ => s.bootFlash

/-- `PORST_N` is released: the level of each bank is sensed, 1 at 3.0 V or above; IO5 below it is a rail fault (R738, R739). -/
def State.senseBanks (s : State) (banks : BitVec 7) : State :=
  let s := { s with boot := { s.boot with banks := banks } }
  if s.io5Low then s.railFault 7 else s

/-- The hold of a reset ends (R702): 100 µs after its cause, the banks are sensed after P, the straps are sampled after P and
W, and INIT begins. -/
def State.resetRelease (s : State) (straps : BitVec 2) (prio : Bool) (banks : BitVec 7) (qspi : Option Nat) : State :=
  match s.power.held with
  | none => s
  | some h =>
    let s := s.advance (usTicks 100)
    let s := ({ s with alive := true }.onPower fun p => { p with held := none, porst := false }).set Reg.RAIL_STATUS_IN_RANGE 0 0xFF
    let s := if h = .p then s.senseBanks banks else s
    let s := if h = .p ∨ h = .w then { s with boot := { s.boot with straps := straps, prio := prio } } else s
    (s.setFlag Reg.TWIN_CFG_PRIO 0 s.boot.prio).bootRom qspi

/-- The wake GPIO ends DORMANT (R701); a bank that was removed and is still out of range then is a rail fault (R690, R745). -/
def State.dormantWake (s : State) (banks : Bool) (qspi : Option Nat) : State :=
  if s.power.dormant && s.power.held.isNone then
    let s := (s.startReset .z 10).set Reg.RAIL_STATUS_IN_RANGE 0 0xFF
    (if banks then s else s.railFault 7).bootRom qspi
  else s

/-- An image of the cores still verifies (R716, R717). -/
def State.coreGood (s : State) (x : FwSlot) : Bool :=
  s.keyUsable (uAt x.image 6 1) && decide (s.flash.rollback ≤ x.secVersion)

/-- Every slot is verified again; one that fails is treated as absent (R711 step 6, R717). -/
def State.verifySlots (s : State) : State :=
  let bad := (List.range 4).filter fun k =>
    match s.flash.programs.get none k with
    | some p => !(s.keyUsable p.keySlot && decide (s.flash.rollback ≤ p.secVersion))
    | none => false
  let s := { s with boot := { s.boot with badPrograms := bad } }
  let s := (List.range 2).foldl (fun (s : State) k =>
    let x := s.coreSlot k
    if x.state = 2 ∧ s.coreGood x = false then
      s.onFlash fun f => { f with coreSlots := f.coreSlots.put FwSlot.empty k { x with state := 1 } }
    else s) s
  (List.range 2).foldl (fun (s : State) k =>
    let x := s.flash.slots.get CellSlot.empty k
    match x.image with
    | some i =>
      if s.keyUsable i.keySlot then s
      else s.onFlash fun f => { f with slots := f.slots.put CellSlot.empty k { state := .invalid, failed := 2, image := none } }
    | none => s) s

/-- What INIT shows of clocks, rails, OTP and memories once they run (R711 steps 2 and 3). -/
def State.initHardware (s : State) : State :=
  let s := (s.set Reg.CLK_STATUS_LOCK 0 0x7FF).setFlag Reg.CLK_STATUS_MAIN_OK 0 true
  let s := s.setFlag Reg.CLK_STATUS_PCIE_REF_OK 0 true
  (List.range 10).foldl (fun (s : State) u => s.setFlag Reg.UNIT_STATUS_READY u true) (s.setFlag Reg.OTP_STATUS_OTP_OK 0 true)

/-- The log entry of a trial slot that failed, made by the next boot that gets so far (R712). -/
def State.logTrial (s : State) : State :=
  match s.flash.trialFailed with
  | some k => (s.tookFree.log 0 0x0101 s.free (leBytes 1 k)).onFlash fun f => { f with trialFailed := none }
  | none => s

/-- A TRIAL slot becomes VERIFIED when INIT ends (R712). -/
def State.endTrial (s : State) : State :=
  match s.boot.ranger with
  | some k =>
    if !s.boot.qspi && (s.fwSlot k).state == 3 then s.putFw k { s.fwSlot k with state := 2 } else s
  | none => s

/-- INIT ends (R145, R164, R711): tables and slots, the active image, engines, solver, network, cores, then the mode. -/
def State.initEnd (s : State) (selftest : Bool) : State :=
  if s.mode.mode ≠ .init ∨ s.boot.ranger = none ∨ s.rangerHalted = true then s
  else
    let s := s.logRangerHalt.initHardware.loadMemTables.verifySlots
    let s := (s.bootCell.installMotion).reloadEngines fun _ => false
    let s := (s.setInstances [0xFF]).installNetwork
    let s := (s.setFlag Reg.TWIN_CFG_PAIR_EN 0 s.flash.pairEn).showRole
    let s := s.startCores s.flash.started.1 s.flash.started.2
    let s := if selftest then s else s.latchCause 1
    let s := s.logTrial.endTrial
    let m := if !s.mode.causes.isEmpty then Mode.fault else if s.ready then Mode.idle else Mode.config
    let s := s.enterMode m 0
    let c := s.get Reg.RST_CAUSE_CAUSE 0
    s.raiseIf (c == 2 || c == 3 || c == 4 || c == 5 || c == 7) 7

/-- Ranger's watchdog acts (R657, R712): a TRIAL slot whose firmware lets it act before INIT ends is marked INVALID. -/
def State.rangerWatchdog (s : State) : State :=
  match s.boot.ranger with
  | none => s
  | some k =>
    let s := if s.mode.mode = .init ∧ s.boot.qspi = false ∧ (s.fwSlot k).state = 3 then
        (s.putFw k { s.fwSlot k with state := 1 }).onFlash fun f => { f with trialFailed := some k, bootSlot := 1 - k }
      else s
    s.startReset .d 7

/-- POWER_ON_RESET: `PORST_N` goes low. -/
def execPowerOnReset (s : State) : Host.Outcome State Fault Refusal := s.always fun s => s.startReset .p 0

/-- WARM_RESET: `RESET_N` has been low for 1 µs. -/
def execWarmReset (s : State) : Host.Outcome State Fault Refusal := s.always fun s => s.startReset .w 1

/-- BROWNOUT, of `VDD_SAW` or of `VDD_CORE` (R695). -/
def execBrownout (saw : Bool) (s : State) : Host.Outcome State Fault Refusal :=
  s.powered fun s => s.startReset .w (if saw then 3 else 2)

/-- CLOCK_LOSS, of `XTAL_MAIN` (R686). -/
def execClockLoss (s : State) : Host.Outcome State Fault Refusal := s.powered fun s => s.startReset .w 4

/-- PLL_UNLOCK. -/
def execPllUnlock (pll : Fin 11) (s : State) : Host.Outcome State Fault Refusal := s.run fun s => s.pllUnlock pll.val

/-- PCIE_REFCLK_LOSS. -/
def execPcieRefclkLoss (s : State) : Host.Outcome State Fault Refusal := s.run State.refclkLoss

/-- RAIL_FAULT. -/
def execRailFault (rail : Fin 8) (s : State) : Host.Outcome State Fault Refusal := s.run fun s => s.railFault rail.val

/-- TEMP_UPDATE, with the four readings in 1/16 °C. -/
def execTempUpdate (a b c d : BitVec 16) (s : State) : Host.Outcome State Fault Refusal :=
  s.run fun s => s.tempUpdate (max (max a.toInt b.toInt) (max c.toInt d.toInt))

/-- SAG_WARNING, of `VDD_SAW` or of `VDD_CORE`. -/
def execSagWarning (saw : Bool) (s : State) : Host.Outcome State Fault Refusal := s.run fun s => s.sagWarning saw

/-- SAG_CLEAR. -/
def execSagClear (s : State) : Host.Outcome State Fault Refusal := s.run State.sagClear

/-- SAG_HOLD_END. -/
def execSagHoldEnd (s : State) : Host.Outcome State Fault Refusal := s.run State.sagHoldEnd

/-- SAG_RATE_STEP. -/
def execSagRateStep (s : State) : Host.Outcome State Fault Refusal := s.run State.sagStep

/-- DORMANT_WAKE; `banks` says that every I/O bank is in range. -/
def execDormantWake (sensed : Sensed Bool) (s : State) : Host.Outcome State Fault Refusal :=
  s.always fun s => s.dormantWake sensed.banks (sensed.qspi.map Fin.val)

/-- RESET_RELEASE, with the levels of the straps and of the I/O banks IO0 to IO6. -/
def execResetRelease (straps : BitVec 2) (prio : Bool) (sensed : Sensed (BitVec 7)) (s : State) :
    Host.Outcome State Fault Refusal :=
  s.always fun s => s.resetRelease straps prio sensed.banks (sensed.qspi.map Fin.val)

/-- INIT_END, with the result of the boot self-test. -/
def execInitEnd (selftest : Bool) (s : State) : Host.Outcome State Fault Refusal := s.run fun s => s.initEnd selftest

/-- RANGER_WATCHDOG. -/
def execRangerWatchdog (s : State) : Host.Outcome State Fault Refusal := s.run State.rangerWatchdog

/-- PCIE_LINK_RESET: 0 link-down, 1 hot reset, 2 function-level reset (R52). DESIGN CHOICE (log entry 71): a function-level reset
raises `EV052` and not `EV051`. -/
def execPcieLinkReset (kind : Fin 3) (s : State) : Host.Outcome State Fault Refusal :=
  s.run fun s =>
    if kind.val = 2 then s.pcieClear.raise 52 else s.pcieDown

/-- The class code, the largest payload and the largest read request of the endpoint (R49). -/
def pcieClassCode : Nat := 0x088000
/-- The largest payload in bytes. -/
def pcieMaxPayload : Nat := 256
/-- The largest read request in bytes. -/
def pcieMaxReadRequest : Nat := 512

/-- Size and prefetchability of the 64-bit memory BARs (R51). -/
def pcieBar (k : Nat) : Option (Nat × Bool) :=
  match k with
  | 0 => some (0x100000, false)
  | 2 => some (0x800000, true)
  | _ => none

/-- A BAR as the configuration space shows it: the aligned base with the bits of its type (PRESUMED: the layout of PCI; log entry
73). -/
def barValue (k base : Nat) : Nat :=
  match pcieBar k with
  | some (size, prefetch) => base / size * size % 2 ^ 64 + 4 + 8 * b2n prefetch
  | none => 0

/-- The configuration header with the limits of R49 after it (PRESUMED: the layout of PCI; log entry 73). -/
def State.pcieHeader (s : State) : List Byte :=
  let p := s.host.pcie
  leBytes 2 Config.vendorId.toNat ++ leBytes 2 0x1690 ++ zeros 5 ++ leBytes 3 pcieClassCode ++ zeros 4
    ++ leBytes 8 (barValue 0 p.bar0) ++ leBytes 8 (barValue 2 p.bar2) ++ zeros 32
    ++ leBytes 2 pcieMaxPayload ++ leBytes 2 pcieMaxReadRequest ++ leBytes 1 p.gen ++ leBytes 1 p.width

/-- The link comes up at a generation and a width, and the host sets up the endpoint's configuration space: its BARs, the MSI-X
enable, D3hot (R49 to R53; log entry 73). -/
def State.pcieUp (s : State) (gen width bar0 bar2 : Nat) (msix d3hot : Bool) : State :=
  let s := (s.setFlag Reg.CLK_STATUS_PCIE_REF_OK 0 true).raiseIf (!s.host.linkUp) 51
  let s := s.onHost fun h =>
    { h with linkUp := true, msixOn := msix, pcie := { gen := gen, width := width, bar0 := bar0, bar2 := bar2, d3hot := d3hot } }
  s.out (.pcieConfig s.pcieHeader)

/-- PCIE_LINK_UP: Gen1 to Gen4, 1, 2 or 4 lanes. -/
def execPcieLinkUp (settled : PcieSettled) (s : State) : Host.Outcome State Fault Refusal :=
  s.run fun s => s.pcieUp (settled.gen.val + 1) (2 ^ settled.lanes.val) settled.bar0.toNat settled.bar2.toNat settled.msix settled.d3hot

end Sys2Proof.Machine
end

