-- ==== Sys2Proof/Machine/Cycle.lean ====
section
/-!
DEFINITION. The Geyser cycle and the solver frame (R37 to R48, R96, R142, R534, R596 to R606): what happens at a cycle start,
at the common instant and at a frame start.
-/
namespace Sys2Proof.Machine

open Status

/-- The commands marked A, as either unit of a pair applies them (R96). -/
def pairedCommand (code : Nat) : Option (State → Nat → List Byte → CmdOut) :=
  match code with
  | 0x0202 => some State.modeRequest
  | 0x0203 => some State.modeHalt
  | 0x0204 => some State.modeAck
  | 0x0303 => some State.cellActivate
  | 0x0403 => some State.axisParamSet
  | 0x0404 => some State.axisOnOff
  | 0x0405 => some State.axisMove
  | 0x0406 => some State.axisJog
  | 0x0407 => some State.axisStopCmd
  | 0x0408 => some State.axisHome
  | 0x0409 => some State.axisFaultClear
  | 0x040A => some State.axisSource
  | 0x0502 => some State.solvInstances
  | 0x0503 => some State.cellEnable
  | 0x0505 => some State.solvParamSet
  | 0x0602 => some State.netPortConfig
  | 0x0604 => some State.geyserStart
  | 0x0605 => some State.geyserStop
  | 0x0607 => some State.bridgeGcl
  | 0x0703 => some State.stepAccept
  | 0x0705 => some State.jumpLimit
  | 0x0807 => some State.paramCommit
  | 0x0809 => some State.sealModeSet
  | 0x080A => some State.resetAck
  | 0x080C => some State.safeAccept
  | 0x080E => some State.islandReset
  | 0x0A03 => some State.fwActivate
  | 0x0B03 => some State.diagWrite
  | 0x0C04 => some State.twinHandover
  | 0x0D02 => some State.regionSet
  | _ => none

/-- The partner's commit brings its staged set with it (R494; DEDUCED, log entry 42). -/
def State.stageFrom (s : State) (n code : Nat) (p : List Byte) : State :=
  if n = 32 ∧ code = 0x0807 then
    let q := p.drop (4 + uAt p 0 4)
    match SafetySet.parse (q.drop 1) with
    | some c => s.stage c (uAt q 0 1 == 1)
    | none => s
  else s

/-- A message of the twin link takes effect (R96, R606). -/
def State.applyMessage (s : State) (m : TwinMsg) : State :=
  match m with
  | .command _ code mb p =>
    match pairedCommand code with
    | some f =>
      let s := s.stageFrom mb code p
      s.applyCommand mb code (if code = 0x0807 then (p.drop 4).take (uAt p 0 4) else p) f
    | none => s
  | .window _ p v => s.putPoint p v
  | _ => s

/-- The cycle at which a waiting message applies. -/
def messageCycle : TwinMsg → Nat
  | .command n _ _ _ => n
  | .window n _ _ => n
  | _ => 0

/-- The revocations whose BAR 2 writes have taken effect by cycle `n` are DONE (R91). -/
def State.revokesDone (s : State) (n : Nat) : State :=
  let s' := s.onHost fun h => { h with revoking := h.revoking.filter fun r => decide (n < r.2) }
  (s.host.revoking.filter fun r => decide (r.2 ≤ n)).foldl (fun s r => s.setDone r.1) s'

/-- The messages whose cycle start has come take effect, oldest first. -/
def State.applyWaiting (s : State) (n : Nat) : State :=
  let w := s.twin.waiting
  let s := s.onTwin fun t => { t with waiting := w.filter fun m => decide (n < messageCycle m) }
  ((w.filter fun m => decide (messageCycle m ≤ n)).foldl State.applyMessage s).revokesDone n

/-- The number of the next multiple of `len` ns of TB0, where multiple `last` was the last one made: the present one when
it has not been made, else the one after it. -/
def State.nextMultiple (s : State) (len : Nat) (last : Option Nat) : Nat :=
  let k := s.tb 0 / len
  match last with
  | none => (s.tb 0 + len - 1) / len
  | some l => if l < k then k else if l = k then k + 1 else (s.tb 0 + len - 1) / len

/-- A star that has waited for this cycle start enters RUNNING (R560). -/
def State.starJoins (s : State) : State :=
  match s.star.runAt with
  | some t =>
    if t ≤ s.star.start then
      let s := (s.onStar fun x => { x with runAt := none }).starEnter
      let s := match s.star.mailbox with
        | some n => s.setDone n
        | none => s
      s.onStar fun x => { x with mailbox := none }
    else s
  | none => s

/-- The pair at a cycle start: heartbeat periods without the partner, a handover (R597, R598). -/
def State.pairCycle (s : State) (n : Nat) : State :=
  let s := s.onTwin fun t => { t with misses := if t.hbSeen then 0 else t.misses + 1, hbSeen := false }
  match s.twin.handover with
  | some c => if c ≤ n then (s.onTwin fun t => { t with handover := none }).dropToken else s
  | none => s

/-- The unit's CYCLE message (R597, R603). -/
def State.sendCycle (s : State) (n : Nat) (digest : List Byte) : State :=
  if s.pairOn && s.flag Reg.TWIN_STATE_LINK_UP 0 then
    s.out (.twin (.cycle n (Mode.code s.mode.mode) (s.get Reg.TWIN_STATE_ROLE 0) s.token s.pairSync digest (s.tb 0)))
  else s

/-- CYCLE_START: the past cycle is judged; then star, pair, waiting messages and the mode take their new state, and the
beacons go out (R142, R534, R549 to R555, R603). -/
def State.cycleStart (s : State) : State :=
  let n := s.nextMultiple s.cycleNs s.star.last
  let s := s.waitTb 0 (n * s.cycleNs)
  let digest := s.cycleDigest
  let past := s.get Reg.CYCLE_NUM_NUMBER 0
  let s := if s.pairOn then s.onTwin fun t => { t with digests := ((past, digest) :: t.digests).take 4 } else s
  let s := s.starCycle
  let s := (s.set Reg.CYCLE_NUM_NUMBER 0 n).onStar fun t => { t with last := some n, start := n * s.cycleNs }
  let s := s.starJoins
  let s := if s.pairOn then s.compareDigests.pairCycle n else s
  let s := s.applyWaiting n
  if !s.alive then s
  else
    let s := s.resyncCheck.modeCycle.torqueCycle
    let s := if s.starRuns then s.beacons else s
    (s.sendCycle n digest).standbyLost

/-- The snapshot of a step axis (R38). -/
def State.stepSnapshot (s : State) (x : Nat) : State :=
  s.onAx x fun a => { a with snapPos := s.axisPos x, snapVel := s.axisSpeed x }

/-- The first cycle of a frame: the sampled state is posted, at once where it is there, later where a frame brings it
(R45, R184). -/
def State.sampleState (s : State) (n : Nat) : State :=
  (List.range 256).foldl (fun (s : State) x =>
    if !s.bound x then s
    else if axisKind x = 0 ∨ (axisKind x = 1 ∧ s.fbMode (axisFb x) = 5) then s.onAx x fun a => { a with postFor := some n }
    else s.postInitial x) s

/-- The divisors of a local axis count from the common instant: the tick there ends a period of every loop (R41). -/
def State.alignLoops (s : State) (x : Nat) : State :=
  if s.bound x then
    let vd := s.param x 0x50
    let pd := s.param x 0x51
    s.onAx x fun a => { a with velN := vd - 1, posN := pd - 1 }
  else s

/-- COMMON_INSTANT: the snapshots of the feedback channels and step counts, the locked PWM pairs (R38, R344, R355). -/
def State.commonInstant (s : State) : State :=
  let offset := match s.cell with
    | some c => 8 * c.ciOffset
    | none => 0
  let n := match s.star.last with
    | some l => if s.star.common = some l then l + 1 else l
    | none => s.nextMultiple s.cycleNs s.star.common
  let s := (s.waitTb 0 (n * s.cycleNs + offset)).onStar fun t => { t with common := some n }
  let s := s.fbCommon.pwmCommon s.fineNow (s.cycleFine (s.get Reg.STAR_CFG_CYCLE 0))
  let s := (List.range 32).foldl (fun (s : State) ch => s.stepSnapshot (224 + ch)) s
  let s := (List.range 64).foldl (fun (s : State) i => s.alignLoops (192 + i)) s
  if s.flag Reg.INST_CFG_CELL 0 && n * s.cycleNs % 1000000 == 0 then s.sampleState n else s

/-- An axis follows its trajectory from this frame start on (R141). -/
def State.startFollowing (s : State) (x : Nat) : State :=
  let a := s.ax x
  if a.enabled && a.traj && decide (a.reaction = 0) && !a.disabling && a.homing.isNone && !a.stayed then
    s.onAx x fun a => { a with following := true }
  else s

/-- FRAME_START (R47, R48, R141). -/
def State.frameStart (s : State) : State :=
  let f := s.nextMultiple 1000000 s.star.frame
  let s := ((s.waitTb 0 (f * 1000000)).onStar fun t => { t with frame := some f }).selectBanks
  if s.mode.mode = .run then (List.range 256).foldl State.startFollowing s else s

/-- CYCLE_START. -/
def execCycleStart (s : State) : Host.Outcome State Fault Refusal := s.run State.cycleStart

/-- COMMON_INSTANT. -/
def execCommonInstant (s : State) : Host.Outcome State Fault Refusal := s.run State.commonInstant

/-- FRAME_START. -/
def execFrameStart (s : State) : Host.Outcome State Fault Refusal := s.run State.frameStart

/-- SSI_FRAME: a frame ends; the state of a joint in mode 5 is there with it. -/
def execSsiFrame (ch : Fin 64) (ready parity : Bool) (word : BitVec 48) (s : State) :
    Host.Outcome State Fault Refusal :=
  s.run fun s =>
    let s := s.doSsi ch.val ready parity word
    if ch.val < 32 then s.postLate (192 + ch.val) else s

end Sys2Proof.Machine
end

