-- ==== Sys2Proof/Machine/DebugPort.lean ====
section
/-!
DEFINITION. The TAP and debug access (R725 to R729), and the keys of OTP (R719, R720).
-/
namespace Sys2Proof.Machine

/-- Changes the debug state. -/
def State.onDbg (s : State) (f : DebugState → DebugState) : State := { s with dbg := f s.dbg }

/-- A TAP instruction is loaded. -/
def State.tapLoad (s : State) (code : Nat) : State := s.onDbg fun d => { d with insn := code }

/-- An attachment event (R727): counted in the always-on block, mirrored to flash, entered in log 2. -/
def State.attach (s : State) (source : Nat) : State :=
  let s := s.onDbg fun d => { d with attached := d.attached + 1 }
  let n := s.dbg.attached
  (s.onFlash fun f => { f with debugCount := n }).debugLog 1 source 0

/-- A boundary-scan instruction is loaded (R726, R727). -/
def State.boundaryScan (s : State) (code : Nat) : State := (s.tapLoad code).attach 0x200

/-- `dmactive` is set, or the JCE debug port enabled; the source of the entry is not given. -/
def State.debugAttach (s : State) (jce : Bool) : State :=
  if (if jce then s.dbg.jcePort else s.dbg.dm) then s
  else
    let src := s.free
    ((s.tookFree.onDbg fun d => if jce then { d with jcePort := true } else { d with dm := true })).attach src

/-- The debug module or the JCE debug port is released. -/
def State.debugRelease (s : State) (jce : Bool) : State :=
  if (if jce then s.dbg.jcePort else s.dbg.dm) then
    let src := s.free
    (s.tookFree.onDbg fun d => if jce then { d with jcePort := false } else { d with dm := false }).debugLog 2 src 0
  else s

/-- Debug resumes a hart (0 to 15 the cores, 16 Ranger, 17 the safety core) or an engine (R728). -/
def State.debugResume (s : State) (engine : Bool) (n pc : Nat) : State :=
  if engine then s.jceDebugResume n
  else if n < 16 then s.coreResumes n pc
  else if n = 16 then s.rangerResumes pc
  else if n = 17 then s.calDebugResume pc
  else s

/-- The word that `IDCODE` shifts out: issue B, the device, the manufacturer's identity, 1 (R725). -/
def idcodeWord : Word32 := BitVec.ofNat 32 (0x11690001 + 2 * Config.manufacturer.toNat)

/-- `TRST_N` ends every attachment, with the halt requests that it held (R727, R729); DEDUCED (log entry 87): a hart that is
halted stays halted until it is resumed. -/
def State.tapReset (s : State) : State :=
  (s.onDbg fun d => { d with insn := 1, dm := false, jcePort := false,
                             heldHarts := d.heldHarts.filter fun h => decide (16 ≤ h) }).debugLog 2 0x200 0

/-- EXTEST. -/
def execExtest (s : State) : Host.Outcome State Fault Refusal := s.always fun s => s.boundaryScan 0x00

/-- IDCODE. -/
def execIdcode (s : State) : Host.Outcome State Fault Refusal := s.always fun s => (s.tapLoad 0x01).out (.tap idcodeWord)

/-- SAMPLE/PRELOAD. -/
def execSamplePreload (s : State) : Host.Outcome State Fault Refusal := s.always fun s => s.tapLoad 0x02

/-- CLAMP. -/
def execClampInstruction (s : State) : Host.Outcome State Fault Refusal := s.always fun s => s.boundaryScan 0x03

/-- HIGHZ. -/
def execHighz (s : State) : Host.Outcome State Fault Refusal := s.always fun s => s.boundaryScan 0x04

/-- DTMCS. -/
def execDtmcs (s : State) : Host.Outcome State Fault Refusal := s.always fun s => s.tapLoad 0x10

/-- DMI. -/
def execDmi (s : State) : Host.Outcome State Fault Refusal := s.always fun s => s.tapLoad 0x11

/-- The JCE debug port is selected. -/
def execJceDebugPort (s : State) : Host.Outcome State Fault Refusal := s.always fun s => s.tapLoad 0x12

/-- BYPASS. -/
def execBypass (s : State) : Host.Outcome State Fault Refusal := s.always fun s => s.tapLoad 0xFF

/-- DEBUG_ATTACH. -/
def execDebugAttach (jce : Bool) (s : State) : Host.Outcome State Fault Refusal := s.always fun s => s.debugAttach jce

/-- DEBUG_RELEASE. -/
def execDebugRelease (jce : Bool) (s : State) : Host.Outcome State Fault Refusal := s.always fun s => s.debugRelease jce

/-- DEBUG_RESUME, with the program counter at which a hart resumes. -/
def execDebugResume (engine : Bool) (n : Fin 64) (pc : Word64) (s : State) : Host.Outcome State Fault Refusal :=
  s.run fun s => s.debugResume engine n.val pc.toNat

/-- TAP_RESET. -/
def execTapReset (s : State) : Host.Outcome State Fault Refusal := s.always State.tapReset

/-- OTP_ENROL. -/
def execOtpEnrol (slot : Fin 8) (confirm : Word16) (s : State) : Host.Outcome State Fault Refusal :=
  s.run fun s => s.otpProg slot.val 1 confirm.toNat

/-- OTP_REVOKE. -/
def execOtpRevoke (slot : Fin 8) (confirm : Word16) (s : State) : Host.Outcome State Fault Refusal :=
  s.run fun s => s.otpProg slot.val 2 confirm.toNat

end Sys2Proof.Machine
end

