-- ==== Sys2Proof/Machine/Memory.lean ====
section
/-!
DEFINITION. The commands of chapter 20.
-/
namespace Sys2Proof.Machine

/-- The commands that wait for a word are answered with its number (R137). -/
def State.remapAnswer (s : State) (dram : Bool) (e : Nat) : State :=
  let s' := s.onMem fun m => { m with adding := m.adding.filter fun x => x.2 != (dram, e) }
  (s.memory.adding.filter fun x => x.2 == (dram, e)).foldl (fun s x =>
    s.setResult x.1 ⟨Status.OK, leBytes 1 (remapWordNumber dram e)⟩) s'

/-- A read of the safety SRAM: by Caldera only (R431); its own check corrects one bit, and more is diagnostic 0x03 (R440). -/
def State.safetyRead (s : State) (r : MemReader) (off n : Nat) (errs : List MemErr) : State :=
  if r ≠ .caldera then s.answer .busError
  else
    let s := s.answer (.data (leNat (s.cal.sram.getAll 0 off n)))
    if errs.any fun e => decide (e.off < n ∧ 2 ≤ e.kind) then s.diagnostic 3 else s

/-- CODE_WORD_READ: a read of `n` bytes with the damage that the array shows; `clean`: a clean cache line (R614, R617). -/
def execCodeWordRead (r : MemReader) (p : MemPlace) (n : Fin 65) (clean : Bool) (errs : List MemErr) (s : State) :
    Host.Outcome State Fault Refusal :=
  s.run fun s =>
    match p with
    | .safety off => s.safetyRead r off n.val errs
    | _ => s.codeRead r p n.val clean errs

/-- SCRUB_BLOCK (R623, R624). -/
def execScrubBlock (errs : List MemErr) (s : State) : Host.Outcome State Fault Refusal :=
  s.run fun s => s.scrubWalk errs

/-- PRIORITY_SCRUB (R625). -/
def execPriorityScrub (errs : List MemErr) (s : State) : Host.Outcome State Fault Refusal :=
  s.run fun s => s.scrubQueued errs

/-- LOCAL_SCRUB: groups 88 to 168; those of MOTION, SOLVER and the last-level cache stop in PARK (R626). -/
def execLocalScrub (group : Fin 169) (block : Nat) (errs : List MemErr) (s : State) :
    Host.Outcome State Fault Refusal :=
  s.run fun s =>
    if group.val < 88 ∨ (group.val < 168 ∧ s.parked = true) then s
    else s.scrub 25 (MemPlace.key (.group group.val (64 * (block % 32768))) / 64) errs

/-- REMAP_AUTO: the block of a place (R628). -/
def execRemapAuto (p : MemPlace) (s : State) : Host.Outcome State Fault Refusal :=
  s.run fun s => s.remapAuto (MemPlace.key p / 64)

/-- REMAP_VALID_WRITE: a write of a remap word with its block; only Ranger writes (R629, R638). -/
def execRemapValidWrite (m : Master) (dram : Bool) (word : Nat) (block : Nat) (valid : Bool) (s : State) :
    Host.Outcome State Fault Refusal :=
  s.run fun s =>
    if m ≠ .ranger then s.answer .busError
    else
      let e := word % (if dram then 256 else 1352)
      (s.remapWrite dram e block valid).answer .done

/-- REMAP_COPY_END: the oldest copy in progress ends (R629). -/
def execRemapCopyEnd (s : State) : Host.Outcome State Fault Refusal :=
  s.run fun s =>
    match s.memory.copying with
    | (d, e) :: _ => s.remapEnd d e
    | [] => s

/-- REMAP_FLASH_WRITE (R628). -/
def execRemapFlashWrite (s : State) : Host.Outcome State Fault Refusal :=
  s.run fun s =>
    match s.memory.unsaved with
    | (d, e) :: _ => (s.remapSave d e).remapAnswer d e
    | [] => s

/-- ERR_POP (R632, R638). -/
def execErrPop (m : Master) (s : State) : Host.Outcome State Fault Refusal :=
  s.run fun s => if m = .ranger then s.errPop.answer .done else s.answer .busError

/-- ERROR_DRAIN (R633). -/
def execErrorDrain (s : State) : Host.Outcome State Fault Refusal := s.run State.errDrain

/-- FLASH_CORRECTION: a page with its byte offset; `ok`: corrected (R635). -/
def execFlashCorrection (page : Fin 2097152) (syn : Byte) (ok : Bool) (s : State) : Host.Outcome State Fault Refusal :=
  s.run fun s => s.flashPage (64 * page.val) syn.toNat ok

end Sys2Proof.Machine
end

