-- ==== Sys2Proof/Machine/SawOps.lean ====
section
/-!
DEFINITION. The schedule operations of the Sawmill (R185 to R190, R219 to R221). The manual gives what each one computes, its
number formats and its duration; the order of sums, the places of write-backs and the layout of the pattern lists are the
model's (DESIGN CHOICE, log entry 22).
-/
namespace Sys2Proof

open Sys2Proof.Machine

/-- Places of a lower triangle of `r` rows, row by row. -/
def triangle (r : Nat) : List (Nat × Nat) := (List.range r).flatMap fun i => (List.range (i + 1)).map fun j => (i, j)

/-- The word of the tile store that holds element (i, j), j ≤ i, of the diagonal block of a supernode: D on the diagonal, L
below it. -/
def Supernode.diag (x : Supernode) (i j : Nat) : Nat := x.base + i * (i + 1) / 2 + j

/-- The word of the tile store that holds element (i, j) of the panel below the diagonal block. -/
def Supernode.panel (x : Supernode) (i j : Nat) : Nat :=
  x.base + x.cols.length * (x.cols.length + 1) / 2 + i * x.cols.length + j

/-- The word of the tile store for row `a` and column `b` of K, where the supernode holds it. -/
def Supernode.place (x : Supernode) (a b : Nat) : Option Nat :=
  match x.cols.contains a, x.cols.contains b with
  | true, true => some (x.diag (max (x.cols.idxOf a) (x.cols.idxOf b)) (min (x.cols.idxOf a) (x.cols.idxOf b)))
  | false, true => if x.rows.contains a then some (x.panel (x.rows.idxOf a) (x.cols.idxOf b)) else none
  | true, false => if x.rows.contains b then some (x.panel (x.rows.idxOf b) (x.cols.idxOf a)) else none
  | false, false => none

/-- The fraction bits of a target. -/
def SawOperand.frac : SawOperand → Nat
  | .one => 0
  | .word _ f => f
  | .scalar _ f => f

end Sys2Proof

namespace Sys2Proof.Machine

/-- The problem of an instance; an empty one where it has none. -/
def State.problemOf (s : State) (n : Nat) : ProblemDef := (s.problem n).getD default

/-- The supernode of a schedule word. -/
def State.snode (s : State) (n : Nat) (w : BitVec 128) : Supernode := (s.problemOf n).nodes.getD (sawNode w) default

/-- The elements of the pattern list that a schedule word names: `B` elements from place `A` on (R187). -/
def State.sawList (s : State) (t : Nat) (w : BitVec 128) : List SawElem := ((s.tile t).lists.drop (sawA w)).take (sawB w)

/-- The operation of word `w` starts at time `start` and takes its cycles; the clock stands at least at its end (R188). -/
def State.sawTake (s : State) (t n : Nat) (w : BitVec 128) (start : Nat) : State :=
  let e := start + s.sawTime (sawCycles (s.instTiles n).length w)
  (s.waitTill ((e + 5039) / 5040)).onTile t fun x => { x with ready := e }

/-- Runs `f`, the effect of operation `op`, when the next word of tile `t` has that code; then comes the next word. -/
def State.sawStep (s : State) (t op : Nat) (f : State → Nat → BitVec 128 → State) : State :=
  match s.sawWord t with
  | some (n, w) => if sawOp w = op then (f (s.sawTake t n w (s.tile t).ready) n w).sawNext t n w else s
  | none => s

/-- A factor value. -/
def State.factorGet (s : State) (t a f : Nat) : FixNum := ⟨((s.tile t).store.get 0 a).toInt, f⟩

/-- Writes a factor value. -/
def State.factorPut (s : State) (t a : Nat) (x : Int) : State := s.storeAll t [(a, BitVec.ofInt 32 x)]

/-- A sum of products becomes factor value `a` (R178, R179, R221). -/
def State.factorSum (s : State) (t n a f : Nat) (l : List FixNum) : State :=
  (s.factorPut t a (macWrite l f).1).saturate n (macWrite l f).2

/-- The entry of K in row `a` and column `b` as a sum (R185, R188): H + Σx + ρ and −(Σc + δ) on the diagonal, C beside it. -/
def State.kktTerms (s : State) (n : Nat) (a b : Nat) : List FixNum :=
  let p := s.problemOf n
  let vars := s.content.numVars p
  let entry := fun (m : MatPos) =>
    if p.matrix.contains m then
      match blockAt p.entries (p.matrix.idxOf m) with
      | some (f, o) => [s.sawWord32 o f]
      | none => []
    else []
  let sigma := match blockAt p.sigma a with
    | some (f, o) => [s.sawWord32 o f]
    | none => []
  if a = b then
    if a < vars then entry (.h a) ++ sigma ++ [FixNum.pow (s.inForce n 9)]
    else sigma.map FixNum.neg ++ [(FixNum.pow (s.inForce n 10)).neg]
  else if a < vars ∧ vars ≤ b then entry (.c (b - vars) a)
  else if b < vars ∧ vars ≤ a then entry (.c (a - vars) b)
  else []

/-- GATHER: the supernode's entries of K are assembled from the problem area (R188). -/
def State.doGather (s : State) (t : Nat) : State :=
  s.sawStep t 1 fun s n w =>
    let x := s.snode n w
    let s := (triangle x.cols.length).foldl (fun s e =>
      s.factorSum t n (x.diag e.1 e.2) x.frac (s.kktTerms n (x.cols.getD e.1 0) (x.cols.getD e.2 0))) s
    x.rows.zipIdx.foldl (fun s r => x.cols.zipIdx.foldl (fun s k =>
      s.factorSum t n (x.panel r.2 k.2) x.frac (s.kktTerms n r.1 k.1)) s) s

/-- A pivot below the threshold is replaced (R219, R220): `d` its value, `f` the fraction bits of its block. -/
def State.pivot (s : State) (t n a f column position : Nat) (d : Int) : State :=
  let eps := s.inForce n 7
  let del := s.inForce n 8
  let small := if f < eps then decide (d = 0) else decide (d.natAbs < 2 ^ (f - eps))
  if small then
    let size : Nat := if f < del then 1 else 2 ^ (f - del)
    let minus := decide (d < 0) || (d == 0 && decide (s.content.numVars (s.problemOf n) ≤ column))
    let v := sat32 (if minus then -(size : Int) else size)
    ((s.factorPut t a v.1).saturate n (b2n v.2)).onRun n fun r =>
      { r with pivots := r.pivots + 1,
               firstPivot := match r.firstPivot with
                 | some q => if position < q.1 then some (position, column) else some q
                 | none => some (position, column) }
  else s

/-- The reciprocal of a pivot in the format of its block (R180, R188). -/
def State.reciprocal (s : State) (t a f : Nat) : Int × Bool := sawDiv 1 (s.factorGet t a f).raw 0 f f

/-- d_k × L_jk for the columns before `j` of the diagonal block, in the format of the block. -/
def State.scaledRow (s : State) (t : Nat) (x : Supernode) (j : Nat) : List (Int × Nat) :=
  (List.range j).map fun k =>
    macWrite [(s.factorGet t (x.diag j k) x.frac).mul (s.factorGet t (x.diag k k) x.frac)] x.frac

/-- What the columns before `j` subtract from an element whose row has its factor values at `row k`. -/
def State.columnTerms (s : State) (t : Nat) (f : Nat) (row : Nat → Nat) (u : List (Int × Nat)) : List FixNum :=
  u.zipIdx.map fun e => ((s.factorGet t (row e.2) f).mul ⟨e.1.1, f⟩).neg

/-- One column of FACTOR: the columns before it are taken off, the pivot is judged, its reciprocal scales the column. -/
def State.factorColumn (s : State) (t n : Nat) (x : Supernode) (j : Nat) : State :=
  let w := x.cols.length
  let u := s.scaledRow t x j
  let s := s.saturate n (u.map Prod.snd).sum
  let s := ((List.range w).drop j).foldl (fun s i =>
    s.factorSum t n (x.diag i j) x.frac (s.factorGet t (x.diag i j) x.frac :: s.columnTerms t x.frac (x.diag i) u)) s
  let s := s.pivot t n (x.diag j j) x.frac (x.cols.getD j 0) (x.position + j) (s.factorGet t (x.diag j j) x.frac).raw
  let q := s.reciprocal t (x.diag j j) x.frac
  ((List.range w).drop (j + 1)).foldl (fun s i =>
    s.factorSum t n (x.diag i j) x.frac [(s.factorGet t (x.diag i j) x.frac).mul ⟨q.1, x.frac⟩]) (s.saturate n (b2n q.2))

/-- FACTOR: the dense L D Lᵀ of the diagonal block, one reciprocal per pivot (R185, R188, R219). -/
def State.doFactor (s : State) (t : Nat) : State :=
  s.sawStep t 2 fun s n w =>
    let x := s.snode n w
    (List.range x.cols.length).foldl (fun s j => s.factorColumn t n x j) s

/-- PANEL: the panel is solved against L and D of the diagonal block (R188). -/
def State.doPanel (s : State) (t : Nat) : State :=
  s.sawStep t 3 fun s n w =>
    let x := s.snode n w
    (List.range x.rows.length).foldl (fun s i => (List.range x.cols.length).foldl (fun s j =>
      let a := x.panel i j
      let s := s.factorSum t n a x.frac (s.factorGet t a x.frac :: s.columnTerms t x.frac (x.panel i) (s.scaledRow t x j))
      s.factorSum t n a x.frac [(s.factorGet t a x.frac).mul ⟨(s.reciprocal t (x.diag j j) x.frac).1, x.frac⟩]) s) s

/-- The Schur update of a supernode at (i, j): −Σ L_ik d_k L_jk over its columns, with its saturations. -/
def State.schur (s : State) (t : Nat) (x : Supernode) (i j : Nat) : Int × Nat :=
  let u := (List.range x.cols.length).map fun k =>
    macWrite [(s.factorGet t (x.panel j k) x.frac).mul (s.factorGet t (x.diag k k) x.frac)] x.frac
  macWrite (s.columnTerms t x.frac (x.panel i) u) x.frac

/-- UPDATE: the lower-triangular Schur update of the panel is formed (R188). -/
def State.doUpdate (s : State) (t : Nat) : State :=
  s.sawStep t 4 fun s n w =>
    let x := s.snode n w
    let v := (triangle x.rows.length).map fun e => s.schur t x e.1 e.2
    (s.onTile t fun y => { y with update := ⟨x.rows, x.frac, 0, v.map fun e => BitVec.ofInt 32 e.1⟩ }).saturate n
      (v.map Prod.snd).sum

/-- The `n` values from place `a` of an update block. -/
def SawPack.part (b : SawPack) (a n : Nat) : SawPack := { b with first := b.first + a, values := (b.values.drop a).take n }

/-- One value of an update block is added into a target supernode of tile `t`, where that holds its place. -/
def State.scatterOne (s : State) (t n : Nat) (x : Supernode) (b : SawPack) (e : (Nat × Nat) × Word32) : State :=
  match x.place (b.rows.getD e.1.1 0) (b.rows.getD e.1.2 0) with
  | some a => s.factorSum t n a x.frac [s.factorGet t a x.frac, ⟨e.2.toInt, b.frac⟩]
  | none => s

/-- An update block is added into a target supernode of tile `t` (R188). -/
def State.scatter (s : State) (t n : Nat) (x : Supernode) (b : SawPack) : State :=
  (((triangle b.rows.length).drop b.first).zip b.values).foldl (fun s e => s.scatterOne t n x b e) s

/-- SCATTER: `n` values of the tile's update block from place `A` go into supernode `SNODE`. -/
def State.doScatter (s : State) (t : Nat) : State :=
  s.sawStep t 5 fun s n w => s.scatter t n (s.snode n w) ((s.tile t).update.part (sawA w) (sawB w))

/-- The peer tile of a `SEND` or `WAIT`. -/
def sawPeer (w : BitVec 128) : Nat := sawW w % 8

/-- The words in the update buffer of a tile. -/
def SawTile.held (x : SawTile) : Nat := (x.buffer.map fun b => b.pack.values.length).sum

/-- The update buffer of the peer has room for the block: 64 KiB, 16,384 words (R171). -/
def State.sendFits (s : State) (w : BitVec 128) : Bool := decide ((s.tile (sawPeer w)).held + sawB w ≤ 16384)

/-- SEND: `n` values of the tile's update block from place `A` reach the update buffer of tile `W` under tag `R` at the end of
the operation (R188, R190); without room there the word waits (log entry 22). -/
def State.doSend (s : State) (t : Nat) : State :=
  match s.sawWord t with
  | some (_, w) =>
    if s.sendFits w then
      s.sawStep t 6 fun s _ w =>
        let b : SawBlock := ⟨t, sawR w, (s.tile t).ready, (s.tile t).update.part (sawA w) (sawB w)⟩
        s.onTile (sawPeer w) fun x => { x with buffer := x.buffer ++ [b] }
    else s
  | none => s

/-- The block that a WAIT awaits, once it is in the update buffer. -/
def State.blockHere (s : State) (t : Nat) (w : BitVec 128) : Option SawBlock :=
  (s.tile t).buffer.find? fun b => b.peer == sawPeer w && b.tag == sawR w

/-- The awaited block, fully arrived, is scattered into supernode `SNODE` and leaves the buffer (R190). -/
def State.takeBlock (s : State) (t n : Nat) (w : BitVec 128) (b : SawBlock) : State :=
  let s := s.sawTake t n w (max (s.tile t).ready b.arrival)
  let s := s.scatter t n (s.snode n w) b.pack
  (s.onTile t fun x => { x with buffer := x.buffer.erase b }).sawNext t n w

/-- WAIT (R190). -/
def State.doWait (s : State) (t : Nat) : State :=
  match s.sawWord t with
  | some (n, w) =>
    if sawOp w = 7 then
      match s.blockHere t w with
      | some b => s.takeBlock t n w b
      | none => s.onTile t fun x => { x with wait := .block (sawPeer w) (sawR w) }
    else s
  | none => s

/-- WAIT_COMPLETE (R190). -/
def State.doWaitComplete (s : State) (t : Nat) : State :=
  match (s.tile t).wait with
  | .block _ _ =>
    let u := s.onTile t fun x => { x with wait := .nothing }
    match u.sawWord t with
    | some (n, w) =>
      match u.blockHere t w with
      | some b => u.takeBlock t n w b
      | none => s
    | none => s
  | _ => s

/-- The right side at a KKT column, and on return the solution there. -/
def State.rhsGet (s : State) (n k : Nat) : FixNum :=
  match blockAt (s.problemOf n).rhs k with
  | some (f, o) => s.sawWord32 o f
  | none => ⟨0, 0⟩

/-- A sum of products becomes the right side at a KKT column. -/
def State.rhsSum (s : State) (n k : Nat) (l : List FixNum) : State :=
  match blockAt (s.problemOf n).rhs k with
  | some (f, o) => (s.sramPut o (macWrite l f).1).saturate n (macWrite l f).2
  | none => s

/-- FSOLVE: forward substitution over the supernode's factor values (R188). -/
def State.doFsolve (s : State) (t : Nat) : State :=
  s.sawStep t 8 fun s n w =>
    let x := s.snode n w
    let off := fun (s : State) (row : Nat → Nat) (m : Nat) =>
      ((x.cols.take m).zipIdx.map fun k => ((s.factorGet t (row k.2) x.frac).mul (s.rhsGet n k.1)).neg)
    let s := x.cols.zipIdx.foldl (fun s c => s.rhsSum n c.1 (s.rhsGet n c.1 :: off s (x.diag c.2) c.2)) s
    x.rows.zipIdx.foldl (fun s r => s.rhsSum n r.1 (s.rhsGet n r.1 :: off s (x.panel r.2) x.cols.length)) s

/-- The right side at a KKT column is divided by its pivot (R180). -/
def State.rhsDivide (s : State) (t n k a f : Nat) : State :=
  match blockAt (s.problemOf n).rhs k with
  | some (g, o) =>
    let v := sawDiv (s.sramGet o) (s.factorGet t a f).raw g f g
    (s.sramPut o v.1).saturate n (b2n v.2)
  | none => s

/-- BSOLVE: the right side is divided by D, then backward substitution over the supernode's factor values (R188). -/
def State.doBsolve (s : State) (t : Nat) : State :=
  s.sawStep t 9 fun s n w =>
    let x := s.snode n w
    x.cols.zipIdx.reverse.foldl (fun s c =>
      let s := s.rhsDivide t n c.1 (x.diag c.2 c.2) x.frac
      let below := (x.cols.zipIdx.drop (c.2 + 1)).map (fun i => ((s.factorGet t (x.diag i.2 c.2) x.frac).mul (s.rhsGet n i.1)).neg)
      let panel := x.rows.zipIdx.map fun r => ((s.factorGet t (x.panel r.2 c.2) x.frac).mul (s.rhsGet n r.1)).neg
      s.rhsSum n c.1 (s.rhsGet n c.1 :: (below ++ panel))) s

/-- Writes a raw value to a target. -/
def State.sawTarget (s : State) (t : Nat) (d : SawOperand) (x : Int) : State :=
  match d with
  | .one => s
  | .word o _ => s.sramPut o x
  | .scalar k _ => s.onTile t fun y => { y with scalars := y.scalars.put 0 (k % 8) (BitVec.ofInt 32 x) }

/-- The product of a term, with its sign. -/
def State.sawTerm (s : State) (t : Nat) (e : SawTerm) : FixNum :=
  let p := (s.sawOperand t e.a).mul (s.sawOperand t e.b)
  if e.minus then p.neg else p

/-- One element of VEC (R178, R179). -/
def State.vecOne (s : State) (t n : Nat) (e : SawElem) : State :=
  match e with
  | .sum d l =>
    let v := macWrite (l.map (s.sawTerm t)) d.frac
    (s.sawTarget t d v.1).saturate n v.2
  | _ => s

/-- VEC: residual, scaling or iterate update, element by element (R188). -/
def State.doVec (s : State) (t : Nat) : State :=
  s.sawStep t 10 fun s n w => (s.sawList t w).foldl (fun s e => s.vecOne t n e) s

/-- One element of VDIV (R180). -/
def State.vdivOne (s : State) (t n : Nat) (e : SawElem) : State :=
  match e with
  | .div d a b =>
    let x := s.sawOperand t a
    let y := s.sawOperand t b
    let v := sawDiv x.raw y.raw x.frac y.frac d.frac
    (s.sawTarget t d v.1).saturate n (b2n v.2)
  | .root d b =>
    let y := s.sawOperand t b
    let v := sawRoot y.raw y.frac d.frac
    (s.sawTarget t d v.1).saturate n (b2n v.2)
  | _ => s

/-- VDIV: quotient or reciprocal square root, element by element (R180, R188). -/
def State.doVdiv (s : State) (t : Nat) : State :=
  s.sawStep t 11 fun s n w => (s.sawList t w).foldl (fun s e => s.vdivOne t n e) s

/-- One element of STEP: where the value falls, the step length is at most `STEP_FRAC` of the way to 0 (R188, R209). -/
def State.ratioOne (s : State) (t n : Nat) (e : SawElem) : State :=
  match e with
  | .ratio k f value change =>
    let x := s.sawOperand t value
    let y := s.sawOperand t change
    if y.raw < 0 then
      let q := sawDiv x.raw (-y.raw) x.frac y.frac f
      let v := macWrite [FixNum.mul ⟨q.1, f⟩ ⟨s.inForce n 11, 31⟩] f
      (s.sawTarget t (.scalar k f) (min (s.sawOperand t (.scalar k f)).raw v.1)).saturate n (b2n q.2 + v.2)
    else s
  | _ => s

/-- The step length of an element is 1 before the test. -/
def State.ratioFull (s : State) (t : Nat) (e : SawElem) : State :=
  match e with
  | .ratio k f _ _ => s.sawTarget t (.scalar k f) (rawOf 1 f)
  | _ => s

/-- STEP: the fraction-to-boundary ratio test over the elements (R188). -/
def State.doStep (s : State) (t : Nat) : State :=
  s.sawStep t 12 fun s n w =>
    let l := s.sawList t w
    l.foldl (fun s e => s.ratioOne t n e) (l.foldl (fun s e => s.ratioFull t e) s)

/-- Every tile of an instance has the mark `w`. -/
def State.allWait (s : State) (n : Nat) (w : SawWait) : Bool := (s.instTiles n).all fun t => (s.tile t).wait == w

/-- When the last tile of an instance is there. -/
def State.lastReady (s : State) (n : Nat) : Nat := (s.instTiles n).foldl (fun m t => max m (s.tile t).ready) 0

/-- Every tile of an instance goes through its present word together, from the arrival of the last one on (R188). -/
def State.allNext (s : State) (n : Nat) : State :=
  let e := s.lastReady n
  (s.instTiles n).foldl (fun s t =>
    match (s.tile t).sched[(s.tile t).next]? with
    | some w => (s.sawTake t n w e).sawNext t n w
    | none => s) s

/-- The scalars `k` of the tiles combined in tile order (R190), with the saturations. -/
def State.combined (s : State) (n k f : Nat) (how : SawFold) : Int × Nat :=
  let l := (s.instTiles n).map fun t => (s.sawOperand t (.scalar k f)).raw
  match how, l with
  | _, [] => (0, 0)
  | .least, x :: r => (r.foldl min x, 0)
  | .greatest, x :: r => (r.foldl max x, 0)
  | .total, l => macWrite (l.map fun x => ⟨x, f⟩) f

/-- One element of REDUCE: every tile takes the combined scalar. -/
def State.combineOne (s : State) (n : Nat) (e : SawElem) : State :=
  match e with
  | .combine k f how =>
    let v := s.combined n k f how
    ((s.instTiles n).foldl (fun s t => s.sawTarget t (.scalar k f) v.1) s).saturate n v.2
  | _ => s

/-- REDUCE: once every tile is there, the scalars are combined in tile order, as the list of the last tile to come says, and
every tile goes on (R188, R190). -/
def State.doReduce (s : State) (t : Nat) : State :=
  match s.sawWord t with
  | some (n, w) =>
    if sawOp w = 13 then
      let s := s.onTile t fun x => { x with wait := .reduce }
      if s.allWait n .reduce then (((s.sawList t w).take 8).foldl (fun s e => s.combineOne n e) s).allNext n else s
    else s
  | none => s

/-- BARRIER: the tile waits for the others (R188). -/
def State.doBarrier (s : State) (t : Nat) : State :=
  match s.sawWord t with
  | some (_, w) => if sawOp w = 14 then s.onTile t fun x => { x with wait := .barrier } else s
  | none => s

/-- BARRIER_COMPLETE: every tile has reached its barrier. -/
def State.doBarrierComplete (s : State) (n : Nat) : State :=
  match (s.inst n).run with
  | some r => if r.wrap.isNone && s.allWait n .barrier && !(s.instTiles n).isEmpty then s.allNext n else s
  | none => s

/-- Every tile of an instance has passed `k` END words of the run. -/
def State.allEnded (s : State) (n k : Nat) : Bool := (s.instTiles n).all fun t => decide (k ≤ (s.tile t).ends)

/-- An iteration is complete: its iterate with norms, merit and prefix-best (R213, R227), then the tests of R214. -/
def State.iterationDone (s : State) (n : Nat) : State :=
  match (s.inst n).run with
  | none => s
  | some r =>
    let it := s.iterate n (r.iters + 1)
    let best := match r.prefixes with
      | b :: _ => betterIterate b it
      | [] => it
    (s.onRun n fun r => { r with iters := r.iters + 1, latest := it, prefixes := (best :: r.prefixes).take 4 }).endTests n

/-- END: the tile's list starts again; with the last tile's END the iteration is complete (R188, R190, R213). -/
def State.doEnd (s : State) (t : Nat) : State :=
  match s.sawWord t with
  | some (n, w) =>
    if sawOp w = 15 then
      let s := (s.sawTake t n w (s.tile t).ready).onTile t fun x => { x with next := 0, ends := x.ends + 1 }
      if s.allEnded n ((((s.inst n).run.map SawRun.iters).getD 0) + 1) then s.iterationDone n else s.checkpoint n
    else s
  | none => s

/-- SCHED_FAULT: an operation code outside the table ends the run, and the tile halts (R189). -/
def State.doSchedFault (s : State) (t : Nat) : State :=
  match s.sawWord t with
  | some (n, w) =>
    if 1 ≤ sawOp w ∧ sawOp w ≤ 15 then s else (s.wrapUp n 7).onTile t fun x => { x with halted := true }
  | none => s

/-- GATHER. -/
def execSawGather (tile : Fin 8) (s : State) : Host.Outcome State Fault Refusal := s.run fun s => s.doGather tile.val

/-- FACTOR. -/
def execSawFactor (tile : Fin 8) (s : State) : Host.Outcome State Fault Refusal := s.run fun s => s.doFactor tile.val

/-- PANEL. -/
def execSawPanel (tile : Fin 8) (s : State) : Host.Outcome State Fault Refusal := s.run fun s => s.doPanel tile.val

/-- UPDATE. -/
def execSawUpdate (tile : Fin 8) (s : State) : Host.Outcome State Fault Refusal := s.run fun s => s.doUpdate tile.val

/-- SCATTER. -/
def execSawScatter (tile : Fin 8) (s : State) : Host.Outcome State Fault Refusal := s.run fun s => s.doScatter tile.val

/-- SEND. -/
def execSawSend (tile : Fin 8) (s : State) : Host.Outcome State Fault Refusal := s.run fun s => s.doSend tile.val

/-- WAIT. -/
def execSawWait (tile : Fin 8) (s : State) : Host.Outcome State Fault Refusal := s.run fun s => s.doWait tile.val

/-- WAIT_COMPLETE. -/
def execSawWaitComplete (tile : Fin 8) (s : State) : Host.Outcome State Fault Refusal :=
  s.run fun s => s.doWaitComplete tile.val

/-- FSOLVE. -/
def execSawFsolve (tile : Fin 8) (s : State) : Host.Outcome State Fault Refusal := s.run fun s => s.doFsolve tile.val

/-- BSOLVE. -/
def execSawBsolve (tile : Fin 8) (s : State) : Host.Outcome State Fault Refusal := s.run fun s => s.doBsolve tile.val

/-- VEC. -/
def execSawVec (tile : Fin 8) (s : State) : Host.Outcome State Fault Refusal := s.run fun s => s.doVec tile.val

/-- VDIV. -/
def execSawVdiv (tile : Fin 8) (s : State) : Host.Outcome State Fault Refusal := s.run fun s => s.doVdiv tile.val

/-- STEP. -/
def execSawStep (tile : Fin 8) (s : State) : Host.Outcome State Fault Refusal := s.run fun s => s.doStep tile.val

/-- REDUCE. -/
def execSawReduce (tile : Fin 8) (s : State) : Host.Outcome State Fault Refusal := s.run fun s => s.doReduce tile.val

/-- BARRIER. -/
def execSawBarrier (tile : Fin 8) (s : State) : Host.Outcome State Fault Refusal := s.run fun s => s.doBarrier tile.val

/-- BARRIER_COMPLETE. -/
def execSawBarrierComplete (inst : Fin 8) (s : State) : Host.Outcome State Fault Refusal :=
  s.run fun s => s.doBarrierComplete inst.val

/-- END. -/
def execSawEnd (tile : Fin 8) (s : State) : Host.Outcome State Fault Refusal := s.run fun s => s.doEnd tile.val

/-- SCHED_FAULT. -/
def execSchedFault (tile : Fin 8) (s : State) : Host.Outcome State Fault Refusal :=
  s.run fun s => s.doSchedFault tile.val

end Sys2Proof.Machine
end

