-- ==== Sys2Proof/Machine/Dispatch.lean ====
section
/-!
DEFINITION. The meaning of every command: one direct call an arm.
-/
namespace Sys2Proof.Machine

/-- The effect of a command on everything but the queue. -/
def exec (i : Instr) (s : State) : Host.Outcome State Fault Refusal :=
  match i with
  | .powerOnReset => Sys2Proof.Machine.execPowerOnReset s
  | .warmReset => Sys2Proof.Machine.execWarmReset s
  | .brownout saw => Sys2Proof.Machine.execBrownout saw s
  | .clockLoss => Sys2Proof.Machine.execClockLoss s
  | .pllUnlock pll => Sys2Proof.Machine.execPllUnlock pll s
  | .pcieRefclkLoss => Sys2Proof.Machine.execPcieRefclkLoss s
  | .railFault rail => Sys2Proof.Machine.execRailFault rail s
  | .tempUpdate a b c d => Sys2Proof.Machine.execTempUpdate a b c d s
  | .sagWarning saw => Sys2Proof.Machine.execSagWarning saw s
  | .sagClear => Sys2Proof.Machine.execSagClear s
  | .sagHoldEnd => Sys2Proof.Machine.execSagHoldEnd s
  | .sagRateStep => Sys2Proof.Machine.execSagRateStep s
  | .dormantWake sensed => Sys2Proof.Machine.execDormantWake sensed s
  | .initEnd selftest => Sys2Proof.Machine.execInitEnd selftest s
  | .rangerWatchdog => Sys2Proof.Machine.execRangerWatchdog s
  | .pcieLinkReset kind => Sys2Proof.Machine.execPcieLinkReset kind s
  | .doorbell link mb => Sys2Proof.Machine.execDoorbell link mb s
  | .mailboxAbort link mb => Sys2Proof.Machine.execMailboxAbort link mb s
  | .mbDoneClear mask => Sys2Proof.Machine.execMbDoneClear mask s
  | .spiWrite offset bytes => Sys2Proof.Machine.execSpiWrite offset bytes s
  | .spiRead offset n => Sys2Proof.Machine.execSpiRead offset n s
  | .spiStatus => Sys2Proof.Machine.execSpiStatus s
  | .spiRing rest => Sys2Proof.Machine.execSpiRing rest s
  | .spiClear rest => Sys2Proof.Machine.execSpiClear rest s
  | .spiMalformed => Sys2Proof.Machine.execSpiMalformed s
  | .managementDatagram port p => Sys2Proof.Machine.execManagementDatagram port p s
  | .commandStart => Sys2Proof.Machine.execCommandStart s
  | .commandComplete mb => Sys2Proof.Machine.execCommandComplete mb s
  | .transferTimeout => Sys2Proof.Machine.execTransferTimeout s
  | .sessionExpired => Sys2Proof.Machine.execSessionExpired s
  | .safeSessionExpired => Sys2Proof.Machine.execSafeSessionExpired s
  | .lockoutEnd => Sys2Proof.Machine.execLockoutEnd s
  | .windowRead point => Sys2Proof.Machine.execWindowRead point s
  | .windowWrite point v whole => Sys2Proof.Machine.execWindowWrite point v whole s
  | .pointWrite m point v => Sys2Proof.Machine.execPointWrite m point v s
  | .pointHalfWriteLow m a v => Sys2Proof.Machine.execPointHalfWriteLow m a v s
  | .pointHalfWriteHigh m a v => Sys2Proof.Machine.execPointHalfWriteHigh m a v s
  | .splitReadLow m a => Sys2Proof.Machine.execSplitReadLow m a s
  | .splitReadHigh m a => Sys2Proof.Machine.execSplitReadHigh m a s
  | .rcRead m a bytes => Sys2Proof.Machine.execRcRead m a bytes s
  | .registerWrite m a bytes v => Sys2Proof.Machine.execRegisterWrite m a bytes v s
  | .sysInfo mb => Sys2Proof.Machine.execSysInfo mb s
  | .sysSessionOpen mb => Sys2Proof.Machine.execSysSessionOpen mb s
  | .sysSessionClose mb => Sys2Proof.Machine.execSysSessionClose mb s
  | .sysStatus mb => Sys2Proof.Machine.execSysStatus mb s
  | .sysReset mb => Sys2Proof.Machine.execSysReset mb s
  | .sysMboxOwner mb => Sys2Proof.Machine.execSysMboxOwner mb s
  | .sysPower mb => Sys2Proof.Machine.execSysPower mb s
  | .sysEventRoute mb => Sys2Proof.Machine.execSysEventRoute mb s
  | .modeGet mb => Sys2Proof.Machine.execModeGet mb s
  | .modeRequest mb => Sys2Proof.Machine.execModeRequest mb s
  | .modeHalt mb => Sys2Proof.Machine.execModeHalt mb s
  | .modeFaultAck mb => Sys2Proof.Machine.execModeFaultAck mb s
  | .cellLoad mb => Sys2Proof.Machine.execCellLoad mb s
  | .cellInfo mb => Sys2Proof.Machine.execCellInfo mb s
  | .cellActivate mb => Sys2Proof.Machine.execCellActivate mb s
  | .cellErase mb => Sys2Proof.Machine.execCellErase mb s
  | .cellWindowGrant mb => Sys2Proof.Machine.execCellWindowGrant mb s
  | .cellWindowRevoke mb => Sys2Proof.Machine.execCellWindowRevoke mb s
  | .cellPointRead mb => Sys2Proof.Machine.execCellPointRead mb s
  | .axisStatus mb => Sys2Proof.Machine.execAxisStatus mb s
  | .axisParamGet mb => Sys2Proof.Machine.execAxisParamGet mb s
  | .axisParamSet mb => Sys2Proof.Machine.execAxisParamSet mb s
  | .axisEnable mb => Sys2Proof.Machine.execAxisEnable mb s
  | .axisMove mb => Sys2Proof.Machine.execAxisMove mb s
  | .axisJog mb => Sys2Proof.Machine.execAxisJog mb s
  | .axisStop mb => Sys2Proof.Machine.execAxisStop mb s
  | .axisHome mb => Sys2Proof.Machine.execAxisHome mb s
  | .axisFaultClear mb => Sys2Proof.Machine.execAxisFaultClear mb s
  | .axisSource mb => Sys2Proof.Machine.execAxisSource mb s
  | .solvStatus mb => Sys2Proof.Machine.execSolvStatus mb s
  | .solvInstances mb => Sys2Proof.Machine.execSolvInstances mb s
  | .solvCellEnable mb => Sys2Proof.Machine.execSolvCellEnable mb s
  | .solvParamGet mb => Sys2Proof.Machine.execSolvParamGet mb s
  | .solvParamSet mb => Sys2Proof.Machine.execSolvParamSet mb s
  | .netPortStatus mb => Sys2Proof.Machine.execNetPortStatus mb s
  | .netPortConfig mb => Sys2Proof.Machine.execNetPortConfig mb s
  | .netGeyserStatus mb => Sys2Proof.Machine.execNetGeyserStatus mb s
  | .netGeyserStart mb => Sys2Proof.Machine.execNetGeyserStart mb s
  | .netGeyserStop mb => Sys2Proof.Machine.execNetGeyserStop mb s
  | .netNodeStatus mb => Sys2Proof.Machine.execNetNodeStatus mb s
  | .netBridgeGcl mb => Sys2Proof.Machine.execNetBridgeGcl mb s
  | .netMgmtEnable mb => Sys2Proof.Machine.execNetMgmtEnable mb s
  | .netMgmtKey mb => Sys2Proof.Machine.execNetMgmtKey mb s
  | .timeGet mb => Sys2Proof.Machine.execTimeGet mb s
  | .timePtpConfig mb => Sys2Proof.Machine.execTimePtpConfig mb s
  | .timeStepAccept mb => Sys2Proof.Machine.execTimeStepAccept mb s
  | .timeTb7Set mb => Sys2Proof.Machine.execTimeTb7Set mb s
  | .timeJumpLimit mb => Sys2Proof.Machine.execTimeJumpLimit mb s
  | .safeLogin mb => Sys2Proof.Machine.execSafeLogin mb s
  | .safeLogout mb => Sys2Proof.Machine.execSafeLogout mb s
  | .safePasswordSet mb => Sys2Proof.Machine.execSafePasswordSet mb s
  | .safeStatus mb => Sys2Proof.Machine.execSafeStatus mb s
  | .safeParamRead mb => Sys2Proof.Machine.execSafeParamRead mb s
  | .safeParamWrite mb => Sys2Proof.Machine.execSafeParamWrite mb s
  | .safeParamCommit mb => Sys2Proof.Machine.execSafeParamCommit mb s
  | .safeImportEckin mb => Sys2Proof.Machine.execSafeImportEckin mb s
  | .safeSealMode mb => Sys2Proof.Machine.execSafeSealMode mb s
  | .safeResetAck mb => Sys2Proof.Machine.execSafeResetAck mb s
  | .safeChangelogRead mb => Sys2Proof.Machine.execSafeChangelogRead mb s
  | .safeAccept mb => Sys2Proof.Machine.execSafeAccept mb s
  | .safeProofTest mb => Sys2Proof.Machine.execSafeProofTest mb s
  | .safeIslandReset mb => Sys2Proof.Machine.execSafeIslandReset mb s
  | .logInfo mb => Sys2Proof.Machine.execLogInfo mb s
  | .logRead mb => Sys2Proof.Machine.execLogRead mb s
  | .logClear mb => Sys2Proof.Machine.execLogClear mb s
  | .fwInfo mb => Sys2Proof.Machine.execFwInfo mb s
  | .fwWrite mb => Sys2Proof.Machine.execFwWrite mb s
  | .fwActivate mb => Sys2Proof.Machine.execFwActivate mb s
  | .fwRollbackSet mb => Sys2Proof.Machine.execFwRollbackSet mb s
  | .diagSelftest mb => Sys2Proof.Machine.execDiagSelftest mb s
  | .diagRegRead mb => Sys2Proof.Machine.execDiagRegRead mb s
  | .diagRegWrite mb => Sys2Proof.Machine.execDiagRegWrite mb s
  | .diagAttest mb => Sys2Proof.Machine.execDiagAttest mb s
  | .diagLoopback run => Sys2Proof.Machine.execDiagLoopback run s
  | .twinStatus mb => Sys2Proof.Machine.execTwinStatus mb s
  | .twinConfig mb => Sys2Proof.Machine.execTwinConfig mb s
  | .twinResync mb => Sys2Proof.Machine.execTwinResync mb s
  | .twinHandover mb => Sys2Proof.Machine.execTwinHandover mb s
  | .memStatus mb => Sys2Proof.Machine.execMemStatus mb s
  | .memRegionSet mb => Sys2Proof.Machine.execMemRegionSet mb s
  | .memScrubRate mb => Sys2Proof.Machine.execMemScrubRate mb s
  | .memRemapList mb => Sys2Proof.Machine.execMemRemapList mb s
  | .memRemapAdd mb => Sys2Proof.Machine.execMemRemapAdd mb s
  | .memLanding mb => Sys2Proof.Machine.execMemLanding mb s
  | .cycleStart => Sys2Proof.Machine.execCycleStart s
  | .commonInstant => Sys2Proof.Machine.execCommonInstant s
  | .frameStart => Sys2Proof.Machine.execFrameStart s
  | .wholeCellRunStart => Sys2Proof.Machine.execWholeCellRunStart s
  | .runStart inst => Sys2Proof.Machine.execRunStart inst s
  | .timedStart inst => Sys2Proof.Machine.execTimedStart inst s
  | .runAbort inst => Sys2Proof.Machine.execRunAbort inst s
  | .coldNext inst => Sys2Proof.Machine.execColdNext inst s
  | .sawGather tile => Sys2Proof.Machine.execSawGather tile s
  | .sawFactor tile => Sys2Proof.Machine.execSawFactor tile s
  | .sawPanel tile => Sys2Proof.Machine.execSawPanel tile s
  | .sawUpdate tile => Sys2Proof.Machine.execSawUpdate tile s
  | .sawScatter tile => Sys2Proof.Machine.execSawScatter tile s
  | .sawSend tile => Sys2Proof.Machine.execSawSend tile s
  | .sawWait tile => Sys2Proof.Machine.execSawWait tile s
  | .sawWaitComplete tile => Sys2Proof.Machine.execSawWaitComplete tile s
  | .sawFsolve tile => Sys2Proof.Machine.execSawFsolve tile s
  | .sawBsolve tile => Sys2Proof.Machine.execSawBsolve tile s
  | .sawVec tile => Sys2Proof.Machine.execSawVec tile s
  | .sawVdiv tile => Sys2Proof.Machine.execSawVdiv tile s
  | .sawStep tile => Sys2Proof.Machine.execSawStep tile s
  | .sawReduce tile => Sys2Proof.Machine.execSawReduce tile s
  | .sawBarrier tile => Sys2Proof.Machine.execSawBarrier tile s
  | .sawBarrierComplete inst => Sys2Proof.Machine.execSawBarrierComplete inst s
  | .sawEnd tile => Sys2Proof.Machine.execSawEnd tile s
  | .schedFault tile => Sys2Proof.Machine.execSchedFault tile s
  | .wrapUpEnd inst => Sys2Proof.Machine.execWrapUpEnd inst s
  | .pairExchange inst iters outcome => Sys2Proof.Machine.execPairExchange inst iters outcome s
  | .pairExchangeTimeout inst => Sys2Proof.Machine.execPairExchangeTimeout inst s
  | .scheduleLoadDone inst => Sys2Proof.Machine.execScheduleLoadDone inst s
  | .dqPush m queue v => Sys2Proof.Machine.execDqPush m queue v s
  | .dqBurst m queue v => Sys2Proof.Machine.execDqBurst m queue v s
  | .recordApply queue => Sys2Proof.Machine.execRecordApply queue s
  | .loopTick k => Sys2Proof.Machine.execLoopTick k s
  | .waitevReturn k late => Sys2Proof.Machine.execWaitevReturn k late s
  | .jceNop k => Sys2Proof.Machine.execJceNop k s
  | .jceBr k => Sys2Proof.Machine.execJceBr k s
  | .jceJmp k => Sys2Proof.Machine.execJceJmp k s
  | .jceCall k => Sys2Proof.Machine.execJceCall k s
  | .jceRet k => Sys2Proof.Machine.execJceRet k s
  | .jceLoop k => Sys2Proof.Machine.execJceLoop k s
  | .jceWaitev k cycles => Sys2Proof.Machine.execJceWaitev k cycles s
  | .jceSigev k => Sys2Proof.Machine.execJceSigev k s
  | .jceTrap k => Sys2Proof.Machine.execJceTrap k s
  | .jceEbreak k => Sys2Proof.Machine.execJceEbreak k s
  | .jceAdd k => Sys2Proof.Machine.execJceAdd k s
  | .jceSub k => Sys2Proof.Machine.execJceSub k s
  | .jceAddi k => Sys2Proof.Machine.execJceAddi k s
  | .jceAnd k => Sys2Proof.Machine.execJceAnd k s
  | .jceOr k => Sys2Proof.Machine.execJceOr k s
  | .jceXor k => Sys2Proof.Machine.execJceXor k s
  | .jceShl k => Sys2Proof.Machine.execJceShl k s
  | .jceShra k => Sys2Proof.Machine.execJceShra k s
  | .jceShrl k => Sys2Proof.Machine.execJceShrl k s
  | .jceMin k => Sys2Proof.Machine.execJceMin k s
  | .jceMax k => Sys2Proof.Machine.execJceMax k s
  | .jceAbs k => Sys2Proof.Machine.execJceAbs k s
  | .jceNeg k => Sys2Proof.Machine.execJceNeg k s
  | .jceCmp k => Sys2Proof.Machine.execJceCmp k s
  | .jceCmpi k => Sys2Proof.Machine.execJceCmpi k s
  | .jceMovis k => Sys2Proof.Machine.execJceMovis k s
  | .jceMovih k => Sys2Proof.Machine.execJceMovih k s
  | .jceClamp k => Sys2Proof.Machine.execJceClamp k s
  | .jceLd k => Sys2Proof.Machine.execJceLd k s
  | .jceSt k => Sys2Proof.Machine.execJceSt k s
  | .jceLd2 k => Sys2Proof.Machine.execJceLd2 k s
  | .jceLdd k => Sys2Proof.Machine.execJceLdd k s
  | .jceStd k => Sys2Proof.Machine.execJceStd k s
  | .jceSetar k => Sys2Proof.Machine.execJceSetar k s
  | .jceGetar k => Sys2Proof.Machine.execJceGetar k s
  | .jcePtrd k => Sys2Proof.Machine.execJcePtrd k s
  | .jcePtrdComplete k => Sys2Proof.Machine.execJcePtrdComplete k s
  | .jcePtwr k => Sys2Proof.Machine.execJcePtwr k s
  | .jceDqpush k => Sys2Proof.Machine.execJceDqpush k s
  | .clusterPortTransaction c => Sys2Proof.Machine.execClusterPortTransaction c s
  | .jcePrd k => Sys2Proof.Machine.execJcePrd k s
  | .jcePwr k t => Sys2Proof.Machine.execJcePwr k t s
  | .jceMac1 k => Sys2Proof.Machine.execJceMac1 k s
  | .jceMacq k => Sys2Proof.Machine.execJceMacq k s
  | .jceMacqr k => Sys2Proof.Machine.execJceMacqr k s
  | .jceMacd k => Sys2Proof.Machine.execJceMacd k s
  | .jceClra k => Sys2Proof.Machine.execJceClra k s
  | .jceWbacc k => Sys2Proof.Machine.execJceWbacc k s
  | .jceWbq k => Sys2Proof.Machine.execJceWbq k s
  | .jceLdacc k => Sys2Proof.Machine.execJceLdacc k s
  | .illegalInstruction k => Sys2Proof.Machine.execIllegalInstruction k s
  | .engineStopped k => Sys2Proof.Machine.execEngineStopped k s
  | .jceStart m k => Sys2Proof.Machine.execJceStart m k s
  | .jceStop m k => Sys2Proof.Machine.execJceStop m k s
  | .indDataWrite m k v => Sys2Proof.Machine.execIndDataWrite m k v s
  | .indDataRead k => Sys2Proof.Machine.execIndDataRead k s
  | .jceDebugHalt k => Sys2Proof.Machine.execJceDebugHalt k s
  | .fbCountEdge ch levels samples => Sys2Proof.Machine.execFbCountEdge ch levels samples s
  | .errWinExpiry ch => Sys2Proof.Machine.execErrWinExpiry ch s
  | .standstillTimeout ch => Sys2Proof.Machine.execStandstillTimeout ch s
  | .indexEvent z => Sys2Proof.Machine.execIndexEvent z s
  | .sincosSample ch sin cos qsin qcos => Sys2Proof.Machine.execSincosSample ch sin cos qsin qcos s
  | .ssiFrame ch ready parity word => Sys2Proof.Machine.execSsiFrame ch ready parity word s
  | .fbFaultClear m ch => Sys2Proof.Machine.execFbFaultClear m ch s
  | .posPreset m ch v => Sys2Proof.Machine.execPosPreset m ch v s
  | .fbModeWrite m ch mode => Sys2Proof.Machine.execFbModeWrite m ch mode s
  | .cntLimitWrite m ch lo hi => Sys2Proof.Machine.execCntLimitWrite m ch lo hi s
  | .indexArm m ch => Sys2Proof.Machine.execIndexArm m ch s
  | .pwmSetWrite m pair v t => Sys2Proof.Machine.execPwmSetWrite m pair v t s
  | .pwmPeriodStart pair t => Sys2Proof.Machine.execPwmPeriodStart pair t s
  | .pwmEdge pair t => Sys2Proof.Machine.execPwmEdge pair t s
  | .deadTimeEnd pair high t => Sys2Proof.Machine.execDeadTimeEnd pair high t s
  | .minPulseEnd pair high t => Sys2Proof.Machine.execMinPulseEnd pair high t s
  | .pwmForce m pair on t => Sys2Proof.Machine.execPwmForce m pair on t s
  | .tripActive trip run => Sys2Proof.Machine.execTripActive trip run s
  | .tripClear m pair => Sys2Proof.Machine.execTripClear m pair s
  | .pwmClockLoss t => Sys2Proof.Machine.execPwmClockLoss t s
  | .clkLostClear m pair => Sys2Proof.Machine.execClkLostClear m pair s
  | .psyncPulse sync => Sys2Proof.Machine.execPsyncPulse sync s
  | .adcTrigger pin rising => Sys2Proof.Machine.execAdcTrigger pin rising s
  | .adcInjectedTrigger pin rising => Sys2Proof.Machine.execAdcInjectedTrigger pin rising s
  | .adcPassEnd cv => Sys2Proof.Machine.execAdcPassEnd cv s
  | .adcResult cv code => Sys2Proof.Machine.execAdcResult cv code s
  | .rdIdxWrite m cv route v => Sys2Proof.Machine.execRdIdxWrite m cv route v s
  | .calStepZero m cv input diff gain => Sys2Proof.Machine.execCalStepZero m cv input diff gain s
  | .calStepFull m cv input diff gain => Sys2Proof.Machine.execCalStepFull m cv input diff gain s
  | .calStepEnd cv sum => Sys2Proof.Machine.execCalStepEnd cv sum s
  | .calPairPersist cv pair => Sys2Proof.Machine.execCalPairPersist cv pair s
  | .stpNone m ch => Sys2Proof.Machine.execStpNone m ch s
  | .stpMove m ch => Sys2Proof.Machine.execStpMove m ch s
  | .stpVelocity m ch => Sys2Proof.Machine.execStpVelocity m ch s
  | .stpStop m ch => Sys2Proof.Machine.execStpStop m ch s
  | .stpTrack m ch => Sys2Proof.Machine.execStpTrack m ch s
  | .stpAbort m ch => Sys2Proof.Machine.execStpAbort m ch s
  | .stpProfileUpdate ch => Sys2Proof.Machine.execStpProfileUpdate ch s
  | .stepIssue ch => Sys2Proof.Machine.execStepIssue ch s
  | .drvfltAccept flt => Sys2Proof.Machine.execDrvfltAccept flt s
  | .stpEnable m ch on => Sys2Proof.Machine.execStpEnable m ch on s
  | .ustepAlign m ch idx => Sys2Proof.Machine.execUstepAlign m ch idx s
  | .drvPark m ch on => Sys2Proof.Machine.execDrvPark m ch on s
  | .parkSettleEnd ch => Sys2Proof.Machine.execParkSettleEnd ch s
  | .stpPosPreset m ch v => Sys2Proof.Machine.execStpPosPreset m ch v s
  | .axisInputEdge axis input level => Sys2Proof.Machine.execAxisInputEdge axis input level s
  | .chatterClear axis neg => Sys2Proof.Machine.execChatterClear axis neg s
  | .calderaStart diag => Sys2Proof.Machine.execCalderaStart diag s
  | .diagnosticFault code => Sys2Proof.Machine.execDiagnosticFault code s
  | .watchdogTrip => Sys2Proof.Machine.execWatchdogTrip s
  | .safetySample si sorb edm => Sys2Proof.Machine.execSafetySample si sorb edm s
  | .discrepancyLatch pair => Sys2Proof.Machine.execDiscrepancyLatch pair s
  | .safetyCycleBoundary seals => Sys2Proof.Machine.execSafetyCycleBoundary seals s
  | .separationCycle => Sys2Proof.Machine.execSeparationCycle s
  | .standstillConfirm axis => Sys2Proof.Machine.execStandstillConfirm axis s
  | .ss1TmaxExpiry => Sys2Proof.Machine.execSs1TmaxExpiry s
  | .xchkFail axis => Sys2Proof.Machine.execXchkFail axis s
  | .levelRaise arm => Sys2Proof.Machine.execLevelRaise arm s
  | .testPulseStart tps => Sys2Proof.Machine.execTestPulseStart tps s
  | .testPulseCheck tps si => Sys2Proof.Machine.execTestPulseCheck tps si s
  | .testWindowEnd tps si => Sys2Proof.Machine.execTestWindowEnd tps si s
  | .outputTestPulse so => Sys2Proof.Machine.execOutputTestPulse so s
  | .outputTestEnd so sorb => Sys2Proof.Machine.execOutputTestEnd so sorb s
  | .outputRetest so => Sys2Proof.Machine.execOutputRetest so s
  | .safetyFrame frame eth => Sys2Proof.Machine.execSafetyFrame frame eth s
  | .connectionTimeout conn => Sys2Proof.Machine.execConnectionTimeout conn s
  | .sealAccept ball level => Sys2Proof.Machine.execSealAccept ball level s
  | .setApply => Sys2Proof.Machine.execSetApply s
  | .refLoss r => Sys2Proof.Machine.execRefLoss r s
  | .refRestore r => Sys2Proof.Machine.execRefRestore r s
  | .clause73Timeout p => Sys2Proof.Machine.execClause73Timeout p s
  | .modeTryTimeout p partner => Sys2Proof.Machine.execModeTryTimeout p partner s
  | .phySettled p partner fec => Sys2Proof.Machine.execPhySettled p partner fec s
  | .linkDown loss => Sys2Proof.Machine.execLinkDown loss s
  | .negotiationMessage p mac payload => Sys2Proof.Machine.execNegotiationMessage p mac payload s
  | .offerTimer p => Sys2Proof.Machine.execOfferTimer p s
  | .silentPartner p => Sys2Proof.Machine.execSilentPartner p s
  | .twinLaneUp lane => Sys2Proof.Machine.execTwinLaneUp lane s
  | .twinLaneDown loss => Sys2Proof.Machine.execTwinLaneDown loss s
  | .downlinkAssembly node => Sys2Proof.Machine.execDownlinkAssembly node s
  | .uplinkFrame port start fcs frame => Sys2Proof.Machine.execUplinkFrame port start fcs frame s
  | .uplinkWindowClose node => Sys2Proof.Machine.execUplinkWindowClose node s
  | .coldstartFrame port fcs frame => Sys2Proof.Machine.execColdstartFrame port fcs frame s
  | .collisionWindowEnd => Sys2Proof.Machine.execCollisionWindowEnd s
  | .listenTimeout => Sys2Proof.Machine.execListenTimeout s
  | .tbCorrection base d => Sys2Proof.Machine.execTbCorrection base d s
  | .stepApply base => Sys2Proof.Machine.execStepApply base s
  | .tbSnap m base other => Sys2Proof.Machine.execTbSnap m base other s
  | .ptpMessage port msg => Sys2Proof.Machine.execPtpMessage port msg s
  | .ptpMessageTimer base port kind => Sys2Proof.Machine.execPtpMessageTimer base port kind s
  | .announceTimeout base => Sys2Proof.Machine.execAnnounceTimeout base s
  | .bridgeFrame port fcs frame => Sys2Proof.Machine.execBridgeFrame port fcs frame s
  | .frameLaunch port => Sys2Proof.Machine.execFrameLaunch port s
  | .gateIntervalEnd port => Sys2Proof.Machine.execGateIntervalEnd port s
  | .gclSwitch port => Sys2Proof.Machine.execGclSwitch port s
  | .txrTailWrite m ring tail => Sys2Proof.Machine.execTxrTailWrite m ring tail s
  | .captureEdge gpio rising => Sys2Proof.Machine.execCaptureEdge gpio rising s
  | .triggerPulse gpio => Sys2Proof.Machine.execTriggerPulse gpio s
  | .tokenSample level => Sys2Proof.Machine.execTokenSample level s
  | .arbitrationCheck level => Sys2Proof.Machine.execArbitrationCheck level s
  | .tokenRelease => Sys2Proof.Machine.execTokenRelease s
  | .heartbeatPulse partner => Sys2Proof.Machine.execHeartbeatPulse partner s
  | .heartbeatFail => Sys2Proof.Machine.execHeartbeatFail s
  | .cycleMessage cycle mode role token sync digest => Sys2Proof.Machine.execCycleMessage cycle mode role token sync digest s
  | .acceptMessage node ok crc => Sys2Proof.Machine.execAcceptMessage node ok crc s
  | .acceptTimeout node => Sys2Proof.Machine.execAcceptTimeout node s
  | .inputMessage node nul payload => Sys2Proof.Machine.execInputMessage node nul payload s
  | .commandMessage m => Sys2Proof.Machine.execCommandMessage m s
  | .solveMessage inst iters outcome => Sys2Proof.Machine.execSolveMessage inst iters outcome s
  | .handoverMessage cycle => Sys2Proof.Machine.execHandoverMessage cycle s
  | .resyncMessage phase dirty parts => Sys2Proof.Machine.execResyncMessage phase dirty parts s
  | .codeWordRead r p n clean errs => Sys2Proof.Machine.execCodeWordRead r p n clean errs s
  | .scrubBlock errs => Sys2Proof.Machine.execScrubBlock errs s
  | .priorityScrub errs => Sys2Proof.Machine.execPriorityScrub errs s
  | .remapAuto p => Sys2Proof.Machine.execRemapAuto p s
  | .remapValidWrite m dram word block valid => Sys2Proof.Machine.execRemapValidWrite m dram word block valid s
  | .remapCopyEnd => Sys2Proof.Machine.execRemapCopyEnd s
  | .errPop m => Sys2Proof.Machine.execErrPop m s
  | .errorDrain => Sys2Proof.Machine.execErrorDrain s
  | .flashCorrection page syn ok => Sys2Proof.Machine.execFlashCorrection page syn ok s
  | .eventRaise n => Sys2Proof.Machine.execEventRaise n s
  | .evRaise m n => Sys2Proof.Machine.execEvRaise m n s
  | .acPendClear m core w v => Sys2Proof.Machine.execAcPendClear m core w v s
  | .coreWatchdogExpiry core => Sys2Proof.Machine.execCoreWatchdogExpiry core s
  | .wdtKick m core kick => Sys2Proof.Machine.execWdtKick m core kick s
  | .coreDebugHalt core pc => Sys2Proof.Machine.execCoreDebugHalt core pc s
  | .rangerDebugHalt pc => Sys2Proof.Machine.execRangerDebugHalt pc s
  | .yardPost m port => Sys2Proof.Machine.execYardPost m port s
  | .yardTake m port => Sys2Proof.Machine.execYardTake m port s
  | .yardDone m port ticket result => Sys2Proof.Machine.execYardDone m port ticket result s
  | .tmrArm m port handle flow prio period => Sys2Proof.Machine.execTmrArm m port handle flow prio period s
  | .tmrCancel m port handle => Sys2Proof.Machine.execTmrCancel m port handle s
  | .timerExpiry => Sys2Proof.Machine.execTimerExpiry s
  | .flowCfgWrite m port v => Sys2Proof.Machine.execFlowCfgWrite m port v s
  | .landingRefill => Sys2Proof.Machine.execLandingRefill s
  | .heldItemEntry => Sys2Proof.Machine.execHeldItemEntry s
  | .otpEnrol slot confirm => Sys2Proof.Machine.execOtpEnrol slot confirm s
  | .otpRevoke slot confirm => Sys2Proof.Machine.execOtpRevoke slot confirm s
  | .extest => Sys2Proof.Machine.execExtest s
  | .idcode => Sys2Proof.Machine.execIdcode s
  | .samplePreload => Sys2Proof.Machine.execSamplePreload s
  | .clampInstruction => Sys2Proof.Machine.execClampInstruction s
  | .highz => Sys2Proof.Machine.execHighz s
  | .dtmcs => Sys2Proof.Machine.execDtmcs s
  | .dmi => Sys2Proof.Machine.execDmi s
  | .jceDebugPort => Sys2Proof.Machine.execJceDebugPort s
  | .bypass => Sys2Proof.Machine.execBypass s
  | .debugAttach jce => Sys2Proof.Machine.execDebugAttach jce s
  | .debugResume engine n pc => Sys2Proof.Machine.execDebugResume engine n pc s
  | .tapReset => Sys2Proof.Machine.execTapReset s
  | .pcieLinkUp settled => Sys2Proof.Machine.execPcieLinkUp settled s
  | .resetRelease straps prio sensed => Sys2Proof.Machine.execResetRelease straps prio sensed s
  | .pwmClockReturn => Sys2Proof.Machine.execPwmClockReturn s
  | .tripInactive run => Sys2Proof.Machine.execTripInactive run s
  | .drvfltRelease flt => Sys2Proof.Machine.execDrvfltRelease flt s
  | .debugRelease jce => Sys2Proof.Machine.execDebugRelease jce s
  | .calderaDebugHalt => Sys2Proof.Machine.execCalderaDebugHalt s
  | .machineTimer core cmp => Sys2Proof.Machine.execMachineTimer core cmp s
  | .loadWindowEnd => Sys2Proof.Machine.execLoadWindowEnd s
  | .remapFlashWrite => Sys2Proof.Machine.execRemapFlashWrite s
  | .localScrub group block errs => Sys2Proof.Machine.execLocalScrub group block errs s

end Sys2Proof.Machine
end

