-- ==== Sys2Proof/Machine/Pins.lean ====
section
/-!
DEFINITION. The balls of the package (R731, R733 to R737) and what the device drives at its outputs (R740, R741). Nothing here
changes the state: a ball shows what the state holds.
-/
namespace Sys2Proof.Machine

/-- The signals of R733 to R735. -/
inductive Signal where
  | port (p : Fin 64) (tx neg : Bool)
  | fb (n : Fin 64) (phase : Fin 3)
  | gpio (g : Fin 64)
  | ain (k : Fin 128)
  | adtrg (t : Fin 16)
  | si (n : Fin 32)
  | tps (k : Fin 8)
  | so (n : Fin 16)
  | sorb (n : Fin 16)
  | edm (n : Fin 16)
  | seal (k : Fin 4)
  | stp (i : Fin 32)
  | dir (i : Fin 32)
  | drven (i : Fin 32)
  | drvflt (i : Fin 32)
  | pwmH (n : Fin 96)
  | pwmL (n : Fin 96)
  | trip (n : Fin 16)
  | pwmSync (k : Fin 8)
  | twinTx (lane : Fin 2) (neg : Bool)
  | twinRx (lane : Fin 2) (neg : Bool)
  | pcieTx (k : Fin 4) (neg : Bool)
  | pcieRx (k : Fin 4) (neg : Bool)
  | pcieRef (neg : Bool)
  | sdref (k : Fin 2) (neg : Bool)
  | adcVref (neg : Bool)
  | xtalSafe (out : Bool)
  | xtalMain (out : Bool)
  | porst
  | resetN
  | bootSel (k : Fin 2)
  | tck
  | tms
  | tdi
  | tdo
  | trst
  | qspiClk
  | qspiCs
  | qspiIo (k : Fin 4)
  | spiCs
  | spiSck
  | spiMosi
  | spiMiso
  | spiIrq
  | intlkOut
  | intlkIn
  | intlkHb
  | prio
deriving DecidableEq, Repr

/-- The ball of a signal, row and column (R731, R733 to R735). -/
def Signal.ball : Signal → Nat × Nat
  | .port p tx neg =>
    let q := p.val % 32
    let band := if q < 16 then 0 else 3
    (if p.val < 32 then 1 + band + 2 * b2n (!tx) else 55 - band - 2 * b2n (!tx), 4 + 3 * (q % 16) + b2n neg)
  | .fb n phase => (9 + n.val / 2, 5 + 3 * (n.val % 2) + phase.val)
  | .gpio g => (9 + g.val / 16, 11 + g.val % 16)
  | .ain k => (39 + k.val / 16, 11 + k.val % 16)
  | .adtrg t => (47, 11 + t.val)
  | .si n => (39 + n.val / 16, 30 + n.val % 16)
  | .tps k => (41, 30 + k.val)
  | .so n => (42, 30 + n.val)
  | .sorb n => (43, 30 + n.val)
  | .edm n => (44, 30 + n.val)
  | .seal k => (45, 30 + k.val)
  | .stp i => (9 + i.val, 46)
  | .dir i => (9 + i.val, 47)
  | .drven i => (9 + i.val, 48)
  | .drvflt i => (9 + i.val, 49)
  | .pwmH n => (9 + n.val / 3, 50 + 2 * (n.val % 3))
  | .pwmL n => (9 + n.val / 3, 51 + 2 * (n.val % 3))
  | .trip n => (42 + n.val / 6, 50 + n.val % 6)
  | .pwmSync k => if k.val < 6 then (46, 50 + k.val) else (44, 48 + k.val)
  | .twinTx lane neg => (9 + 4 * lane.val, 1 + b2n neg)
  | .twinRx lane neg => (11 + 4 * lane.val, 1 + b2n neg)
  | .pcieTx k neg => (17 + 2 * k.val, 1 + b2n neg)
  | .pcieRx k neg => (17 + 2 * k.val, 3 + b2n neg)
  | .pcieRef neg => (25, 1 + b2n neg)
  | .sdref k neg => (27 + 2 * k.val, 1 + b2n neg)
  | .adcVref neg => (47, 27 + b2n neg)
  | .xtalSafe out => (47, 30 + b2n out)
  | .xtalMain out => (31, 1 + b2n out)
  | .porst => (33, 1)
  | .resetN => (33, 2)
  | .bootSel k => (33, 3 + k.val)
  | .tck => (35, 1)
  | .tms => (35, 2)
  | .tdi => (35, 3)
  | .tdo => (35, 4)
  | .trst => (36, 1)
  | .qspiClk => (38, 1)
  | .qspiCs => (38, 2)
  | .qspiIo k => if k.val < 2 then (38, 3 + k.val) else (39, k.val - 1)
  | .spiCs => (41, 1)
  | .spiSck => (41, 2)
  | .spiMosi => (41, 3)
  | .spiMiso => (41, 4)
  | .spiIrq => (42, 1)
  | .intlkOut => (45, 36)
  | .intlkIn => (45, 37)
  | .intlkHb => (45, 38)
  | .prio => (45, 39)

/-- The supplies of R736; `io` is the bank of a `VDDIO`. -/
inductive Supply where
  | vddhSerdes
  | vddSerdes
  | vddCore
  | vddSaw
  | vddinDram
  | vddSafe
  | avddAdc
  | io (bank : Fin 7)
deriving DecidableEq, Repr

/-- The supply that R736 gives a ball. -/
def supplyBall (r c : Nat) : Option Supply :=
  let odd := (r + c) % 2 == 1
  let rows := fun a b : Nat => decide (a ≤ r ∧ r ≤ b)
  let cols := fun a b : Nat => decide (a ≤ c ∧ c ≤ b)
  let serdes := c % 2 == 1 && cols 5 51
  let twin := r == 9 || r == 11 || r == 13 || r == 15
  if (r == 7 || r == 49) && serdes || twin && c == 4 then some .vddhSerdes
  else if (r == 8 || r == 48) && serdes || twin && c == 3 then some .vddSerdes
  else if r == 46 && c % 2 == 1 && cols 31 45 then some .vddSafe
  else if !odd then none
  else if rows 34 37 && cols 11 33 then some .vddinDram
  else if rows 9 12 && cols 27 28 then some (.io 4)
  else if rows 9 37 && cols 11 33 && !(rows 9 12 && cols 11 28) then some .vddCore
  else if rows 9 37 && cols 34 45 then some .vddSaw
  else if rows 39 46 && cols 27 28 then some .avddAdc
  else if rows 41 47 && cols 5 10 then some (.io 0)
  else if rows 43 47 && cols 1 4 then some (.io 1)
  else if (rows 41 45 || r == 47) && cols 46 49 then some (.io 2)
  else if (r == 41 || r == 45 || r == 47) && cols 50 55 then some (.io 3)
  else if r == 41 && cols 38 45 || r == 45 && cols 40 45 then some (.io 5)
  else if r == 38 && cols 11 28 then some (.io 6)
  else none

/-- The I/O bank of a signal (R738). -/
def Signal.bank : Signal → Option (Fin 7)
  | .fb .. => some 0
  | .porst | .resetN | .bootSel _ | .tck | .tms | .tdi | .tdo | .trst | .qspiClk | .qspiCs | .qspiIo _ | .spiCs | .spiSck
  | .spiMosi | .spiMiso | .spiIrq => some 1
  | .stp _ | .dir _ | .drven _ | .drvflt _ => some 2
  | .pwmH _ | .pwmL _ | .trip _ | .pwmSync _ => some 3
  | .gpio _ => some 4
  | .si _ | .tps _ | .so _ | .sorb _ | .edm _ | .seal _ | .intlkOut | .intlkIn | .intlkHb | .prio => some 5
  | .adtrg _ => some 6
  | _ => none

/-- What an output shows. -/
inductive PinLevel where
  | low
  | high
  | highZ
deriving DecidableEq, Repr

/-- A driven level. -/
def PinLevel.drive (b : Bool) : PinLevel := if b then .high else .low

/-- The device holds its outputs in their reset states: during reset and in DORMANT (R740, R741, R745). -/
def State.pinsReset (s : State) : Bool := !s.alive || s.power.dormant

/-- Ranger has written the motion units from the active cell image since the last reset (R740). -/
def State.configured (s : State) : Bool := !s.pinsReset && s.mode.mode != .init && s.cell.isSome

/-- The levels that the device drives at its outputs (R740, R741); `none` for a ball whose level the state does not hold. -/
def State.pin (s : State) : Signal → Option PinLevel
  | .pwmH n => some (.drive (s.configured && !s.parked && s.flag Reg.PWM_STATUS_H_ON n.val))
  | .pwmL n => some (.drive (s.configured && !s.parked && s.flag Reg.PWM_STATUS_L_ON n.val))
  | .stp i => some (if s.configured then .drive (s.stepPins i.val).1 else .highZ)
  | .dir i => some (if s.configured then .drive (s.stepPins i.val).2.1 else .highZ)
  | .drven i => some (if s.configured then .drive (s.stepPins i.val).2.2 else .highZ)
  | .so n => some (.drive (!s.power.dormant && s.flag Reg.SO_STATUS_OUT n.val))
  | .tps k => some (.drive (!s.power.dormant && s.cal.tpsOut.getLsbD k.val))
  | .intlkOut => some (.drive (!s.pinsReset && s.token))
  | .spiIrq => some (if !s.pinsReset && s.spiIrqLow then .low else .highZ)
  | _ => none

end Sys2Proof.Machine
end

