-- ==== Sys2Proof/Safety.lean ====
section
/-!
DEFINITION. The terms in which the claims speak of the block: when a command completes, when it acts at all, when a
mailbox's command is served, and how an event shows at its targets.
-/
namespace Sys2Proof.Machine

/-- Command `c` completes in `s`: exec answers a next state, and `Q` holds of it. -/
def Completes (c : Instr) (s : State) (Q : State → Prop) : Prop := ∃ t, exec c s = .next t ∧ Q t

/-- Event `n` shows at every target of its route but Ranger and Caldera: it is pending for the host where the route has
MSI-X, and for each core of the route (R648). -/
abbrev State.Signalled (s : State) (n : Nat) (t : State) : Prop :=
  (s.flag Reg.EV_ROUTE_MSIX_EN n = true → bitOf (t.get Reg.HOST_PEND_PEND (n / 64)) (n % 64) = true) ∧
  ∀ c < 16, bitOf (s.get Reg.EV_ROUTE_CORE_MASK n) c = true →
    bitOf (t.get Reg.AC_PEND_PEND (4 * c + n / 64)) (n % 64) = true

/-- The device runs: out of reset, not DORMANT. -/
abbrev State.Runs (s : State) : Prop := s.alive = true ∧ s.power.held = none ∧ s.power.dormant = false

/-- Mailbox `n` is BUSY with the command of code `code`, which has not begun; Ranger runs, the command is not passed to a
partner, and it passes the length and PARK checks (R78, R93, R96, R103). -/
abbrev State.Served (s : State) (n code : Nat) : Prop :=
  s.alive = true ∧ s.mbState n = 2 ∧ s.mbCode n = code ∧ (s.mb n).result = none ∧ (s.mb n).begun = false ∧
    s.rangerHalted = false ∧ s.passes code = false ∧ s.commonCheck code (s.cmdPayload n) = Status.OK

/-- The command of mailbox `n` has begun. -/
def State.begins (s : State) (n : Nat) : State := s.onMb n fun m => { m with begun := true }

/-- The command of mailbox `n` has ended with a status code and a payload; the response is not yet written. -/
def State.answered (s : State) (n status : Nat) (p : List Byte) : State :=
  s.onMb n fun m => { m with result := some ⟨status, p⟩ }

/-- No word of the engine's own memories is damaged (R233, R614). -/
def State.JceSound (s : State) (k : Nat) : Prop :=
  ∀ (imem : Bool) (a i : Nat), i < 4 → s.memErr.get 0 (jmemKey k imem a + i) = 0

/-- A PWM pair that cannot short its bridge leg: its two switches are never on together, none is about to turn on while
the other is on or about to, and a forced pair has its high side off for good (R363, R365). -/
abbrev State.PairSafe (s : State) (p : Nat) : Prop :=
  (s.flag Reg.PWM_STATUS_H_ON p = false ∨ s.flag Reg.PWM_STATUS_L_ON p = false) ∧
  ((s.pair p).hDue.isSome = true → s.flag Reg.PWM_STATUS_L_ON p = false) ∧
  ((s.pair p).lDue.isSome = true → s.flag Reg.PWM_STATUS_H_ON p = false) ∧
  (s.flag Reg.PWM_STATUS_FORCED p = true → s.flag Reg.PWM_STATUS_H_ON p = false ∧ (s.pair p).hDue = none) ∧
  (s.flag Reg.PWM_STATUS_FORCED p = false → ((s.pair p).hDue.isSome = true → (s.pair p).href = true) ∧
    ((s.pair p).lDue.isSome = true → (s.pair p).href = false))

/-- The commands that act while a reset holds the device or in DORMANT: the TAP, power, and the end of a hold (log entry 6). -/
def actsInHold : Instr → Bool
  | .powerOnReset | .warmReset | .brownout .. | .clockLoss | .dormantWake .. | .resetRelease .. | .extest | .idcode
  | .samplePreload | .clampInstruction | .highz | .dtmcs | .dmi | .jceDebugPort | .bypass | .debugAttach .. | .debugRelease ..
  | .tapReset => true
  | _ => false

/-- The state after `n` steps; none where a step stopped. -/
def stepsFrom : Nat → State → Option State
  | 0, s => some s
  | n + 1, s =>
    match step s with
    | .next t => stepsFrom n t
    | _ => none

/-- The canonical form of memory, of its damage and of the points: addresses rise strictly, and no entry equals what an
unlisted address reads as. -/
def Memory.wf (s : State) : Bool := s.mem.wf 0 && s.memErr.wf 0 && s.points.wf 0

end Sys2Proof.Machine
end

