-- ==== Sys2Proof/Certificates/Slice0/Obligations.lean ====
section
/-!
DEFINITION. The statements for the provers, chapter by chapter. A statement that rests on a choice of the model, or on an
inference, says so and names the log entry.
-/
open Sys2Proof Sys2Proof.Machine

/-- Queries answer and change nothing but their mailbox. Rests on 03_firmware_commands.md, 02_host_and_mailboxes.md,
18_time_and_tsn.md, 15_safety_parameters.md. -/
def Obligations.QueriesAnswer : Prop :=
  (
    ∀ (s u : State) (mb : Fin 32), u = s.begins mb →
      (s.Served mb 0x0101 → exec (.sysInfo mb) s = .next (u.answered mb Status.OK
        (fieldsOf [(2, Config.vendorId.toNat), (2, 0x1690), (1, 0x42), (1, 4), (1, 0), (1, Config.firmwarePatch.toNat),
          (4, Config.bootRomVersion.toNat), (16, Config.serial.toNat)]))) ∧
      (s.Served mb 0x0104 → exec (.sysStatus mb) s = .next (u.answered mb Status.OK
        (fieldsOf [(1, Mode.code u.mode.mode), (1, u.get Reg.TWIN_STATE_ROLE 0), (2, u.mode.causes.headD 0),
          (4, min ((u.ticks - u.power.resetAt) / 125000000) 0xFFFFFFFF), (2, u.get Reg.TEMP_JUNCTION 0),
          (1, u.get Reg.RST_CAUSE_LETTER 0), (1, b2n u.parked)]))) ∧
      (s.Served mb 0x0201 → exec (.modeGet mb) s = .next (u.answered mb Status.OK
        (fieldsOf [(1, Mode.code u.mode.mode), (1, u.get Reg.TWIN_STATE_ROLE 0), (1, Mode.code u.mode.previous),
          (1, u.mode.reason), (4, min ((u.ticks - u.mode.since) / 125000) 0xFFFFFFFF)]))) ∧
      (s.Served mb 0x0302 → exec (.cellInfo mb) s = .next (u.answered mb Status.OK
        (u.slotInfo 0 ++ u.slotInfo 1))) ∧
      (s.Served mb 0x0603 → exec (.netGeyserStatus mb) s = .next (u.answered mb Status.OK
        (fieldsOf [(1, u.starState), (1, u.get Reg.STAR_STATUS_SYNC_VALUES 0), (2, u.get Reg.STAR_STATUS_INTEGRATED 0),
          (4, u.get Reg.STAR_CFG_CYCLE 0), (4, u.get Reg.CYCLES_RUN_COUNT 0)]))) ∧
      (s.Served mb 0x0804 → exec (.safeStatus mb) s = .next (u.answered mb Status.OK
        (fieldsOf [(4, u.functionStates), (4, u.bits Reg.SIP_STATUS_DEMAND 16), (4, u.bits Reg.SIP_STATUS_DISCREPANCY 16),
          (2, u.bits Reg.SO_STATUS_OUT 16), (2, u.bits Reg.EDM_STATUS_EDM_FAULT 16),
          (1, (List.range 16).foldl (fun m g => max m (u.level g)) 0), (1, b2n u.flash.sealMode), (2, 0),
          (4, (u.flash.safeSet.map SafetySet.crc).getD 0)]))) ∧
      (s.Served mb 0x0805 → exec (.safeParamRead mb) s = .next (u.answered mb Status.OK
        ((u.flash.safeSet.map fun c => c.bytes).getD []))) ∧
      (s.Served mb 0x0A01 → exec (.fwInfo mb) s = .next (u.answered mb Status.OK
        ((List.range 2).flatMap u.rangerInfo ++ (List.range 4).flatMap u.programInfo ++ (List.range 2).flatMap u.coreInfo
          ++ leBytes 1 u.flash.rollback))) ∧
      (s.Served mb 0x0B04 → exec (.diagAttest mb) s = .next (u.answered mb Status.OK
        (u.attestation (s.cmdPayload mb) ++
          (Config.identitySign (digestOf (u.attestation (s.cmdPayload mb))) ++ zeros 2420).take 2420))) ∧
      (s.Served mb 0x0C01 → exec (.twinStatus mb) s = .next (u.answered mb Status.OK
        (fieldsOf [(1, u.get Reg.TWIN_STATE_ROLE 0), (1, u.partnerState), (1, b2n u.token),
          (1, u.get Reg.TWIN_STATE_LINK_UP 0), (4, u.get Reg.DIGEST_MISMATCH_COUNT 0)]))) ∧
      (s.Served mb 0x0D01 → exec (.memStatus mb) s = .next (u.answered mb Status.OK
        (fieldsOf [(4, u.memory.corrected), (4, u.memory.poisoned),
          (4, (u.validWords true).length + (u.validWords false).length), (4, u.get Reg.SCRUB_PASSES_COUNT 0)])))) ∧ (
    ∀ (s u : State) (mb : Fin 32) (p : List Byte), u = s.begins mb → p = s.cmdPayload mb →
      (s.Served mb 0x0401 → u.bound (uAt p 0 1) = true → exec (.axisStatus mb) s = .next (u.answered mb Status.OK
        (fieldsOf [(8, u.point (256 * uAt p 0 1)), (8, u.point (256 * uAt p 0 1 + 1)), (4, u.point (256 * uAt p 0 1 + 6)),
          (4, u.point (256 * uAt p 0 1 + 7))]))) ∧
      (s.Served mb 0x0402 → u.bound (uAt p 0 1) = true →
        ((paramDef (uAt p 1 2)).isSome = true ∨ (0x1F0 ≤ uAt p 1 2 ∧ uAt p 1 2 < 0x200)) →
        exec (.axisParamGet mb) s = .next (u.answered mb Status.OK (leBytes 8 (u.param (uAt p 0 1) (uAt p 1 2))))) ∧
      (s.Served mb 0x0501 → uAt p 0 1 ≤ 7 → exec (.solvStatus mb) s = .next (u.answered mb Status.OK
        (fieldsOf [(4, u.get Reg.RUN_FRAME_FRAME (uAt p 0 1)), (1, u.get Reg.RUN_STATUS_OUTCOME (uAt p 0 1)), (1, 0),
          (2, u.get Reg.RUN_ITER_ITERATIONS (uAt p 0 1)), (4, u.get Reg.RES_PRIMAL_VALUE (uAt p 0 1)),
          (4, u.get Reg.RES_DUAL_VALUE (uAt p 0 1)), (4, u.regValue ⟨5, 1, uAt p 0 1, 0x110⟩),
          (4, u.get Reg.PIVOT_REG_COUNT (uAt p 0 1)), (4, u.get Reg.PIVOT_FIRST_COLUMN (uAt p 0 1))]))) ∧
      (s.Served mb 0x0504 → uAt p 0 1 ≤ 7 → 1 ≤ uAt p 1 2 → uAt p 1 2 ≤ 13 →
        exec (.solvParamGet mb) s = .next (u.answered mb Status.OK (leBytes 4 (u.runParam (uAt p 0 1) (uAt p 1 2))))) ∧
      (s.Served mb 0x0601 → uAt p 0 1 ≤ 63 → exec (.netPortStatus mb) s = .next (u.answered mb Status.OK
        (fieldsOf [(2, u.get Reg.PORT_STATUS_MODE (uAt p 0 1)), (1, u.get Reg.PORT_STATUS_PERSONALITY (uAt p 0 1)),
          (1, u.link (uAt p 0 1)), (8, u.get Reg.FRAMES_IN_COUNT (uAt p 0 1)), (8, u.get Reg.FRAMES_OUT_COUNT (uAt p 0 1)),
          (4, u.get Reg.RX_DROP_COUNT (uAt p 0 1))]))) ∧
      (∀ i, s.Served mb 0x0606 → uAt p 0 2 ≤ 255 → u.slotOf (uAt p 0 2) = some i →
        exec (.netNodeStatus mb) s = .next (u.answered mb Status.OK
          (fieldsOf [(1, u.nodeState i), (1, u.get Reg.NODE_CFG_PORT i)] ++ leInt 4 (u.getS Reg.NODE_STATUS_DEV i)
            ++ leBytes 4 (u.get Reg.SLOT_VIOLATION_COUNT i)))) ∧
      (s.Served mb 0x0701 → uAt p 0 1 ≤ 7 → exec (.timeGet mb) s = .next (u.answered mb Status.OK
        (leBytes 8 (u.tb (uAt p 0 1)) ++ leInt 4 (u.getS Reg.TB_RATE_PPB (uAt p 0 1))
          ++ fieldsOf [(1, u.get Reg.TB_STATE_STATE (uAt p 0 1)), (1, u.get Reg.TB_STATE_STEP_PENDING (uAt p 0 1)), (2, 0)]
          ++ leInt 8 (u.getS Reg.PENDING_STEP_NS (uAt p 0 1))))) ∧
      (s.Served mb 0x0307 → 1 ≤ uAt p 4 2 → uAt p 4 2 ≤ 508 → uAt p 0 4 + uAt p 4 2 ≤ 0x100000 →
        exec (.cellPointRead mb) s = .next (u.answered mb Status.OK
          ((List.range (uAt p 4 2)).flatMap fun i => leBytes 8 (u.point (uAt p 0 4 + i))))) ∧
      (s.Served mb 0x0901 → uAt p 0 1 ≤ 3 → exec (.logInfo mb) s = .next (u.answered mb Status.OK
        (fieldsOf [(4, (u.logRing (uAt p 0 1)).oldest), (4, (u.logRing (uAt p 0 1)).next - 1),
          (4, max 1 (Config.logCapacity (uAt p 0 1)))]))) ∧
      (∀ es, s.Served mb 0x0902 → uAt p 0 1 ≤ 3 → 1 ≤ uAt p 8 2 → uAt p 8 2 ≤ 126 → (u.logRing (uAt p 0 1)).oldest ≤ uAt p 4 4 →
        es = ((u.logRing (uAt p 0 1)).entries.reverse.filter fun e => decide (uAt p 4 4 ≤ e.seq)).take (uAt p 8 2) →
        exec (.logRead mb) s = .next (u.answered mb Status.OK
          (fieldsOf [(4, (u.logRing (uAt p 0 1)).oldest), (2, es.length), (2, 0)] ++ es.flatMap LogEntry.wire))) ∧
      (s.Served mb 0x080B → 1 ≤ uAt p 4 2 → uAt p 4 2 ≤ 42 → exec (.safeChangelogRead mb) s = .next (u.answered mb Status.OK
        (((u.flash.changes.reverse.filter fun e => decide (uAt p 0 4 ≤ e.entry)).take (uAt p 4 2)).flatMap ChangeEntry.bytes))) ∧
      (∀ l, s.Served mb 0x0D04 → remapIndexOk (uAt p 0 1) (uAt p 1 1) = true →
        l = (remapWords (uAt p 0 1 == 1) (uAt p 1 1)).filter (fun e => u.remapValid (uAt p 0 1 == 1) e) →
        exec (.memRemapList mb) s = .next (u.answered mb Status.OK
          (leBytes 1 l.length ++ zeros 7 ++ l.flatMap fun e => leBytes 8 (64 * u.remapBlock (uAt p 0 1 == 1) e)))))

/-- Setting commands with operands in range set what their tables say and nothing else. Rests on
02_host_and_mailboxes.md, 03_firmware_commands.md, 06_sawmill_runs.md, 18_time_and_tsn.md, 20_memory_integrity.md. -/
def Obligations.SettingsTakeEffect : Prop :=
  ∀ (s u : State) (mb : Fin 32) (p : List Byte), u = s.begins mb → p = s.cmdPayload mb →
    (s.Served mb 0x0106 → 1 ≤ uAt p 0 1 → uAt p 0 1 ≤ 31 → uAt p 1 1 ≤ 3 → s.mbState (uAt p 0 1) = 0 →
      exec (.sysMboxOwner mb) s = .next ((u.set Reg.MB_STATE_OWNER (uAt p 0 1) (uAt p 1 1)).answered mb Status.OK [])) ∧
    (s.Served mb 0x0102 → uAt p 0 2 ≤ 3600 → s.host.sessions.length < 8 →
      exec (.sysSessionOpen mb) s = .next ((u.tookFree.onHost fun h =>
        { h with sessions := h.sessions ++ [Session.mk u.newSession (u.mb mb).link
          (if uAt p 0 2 = 0 then 60 else uAt p 0 2) u.ticks] }).answered mb Status.OK (leBytes 4 u.newSession))) ∧
    (s.Served mb 0x0103 → exec (.sysSessionClose mb) s = .next ((u.onHost fun h =>
      { h with sessions := h.sessions.filter fun x => !(x.id == u.mbSession mb && x.link == (u.mb mb).link) }).answered
        mb Status.OK [])) ∧
    (s.Served mb 0x0304 → uAt p 0 1 ≤ 1 → s.flash.activeSlot ≠ some (uAt p 0 1) → (s.slotAt (uAt p 0 1)).state ≠ .loading →
      exec (.cellErase mb) s = .next ((u.putSlot (uAt p 0 1) CellSlot.empty).answered mb Status.OK [])) ∧
    (∀ i, s.Served mb 0x0305 → uAt p 0 4 ≤ uAt p 4 4 → uAt p 4 4 ≤ 0xFFFFF → uAt p 8 1 = 1 → u.freeGrant = some i →
      exec (.cellWindowGrant mb) s = .next ((u.onHost fun h =>
        { h with grants := h.grants.put none i (some ⟨uAt p 0 4, uAt p 4 4, 1⟩) }).answered mb Status.OK (leBytes 1 i))) ∧
    (s.Served mb 0x0306 → uAt p 0 1 < 16 → u.lastWindow = none → exec (.cellWindowRevoke mb) s = .next ((u.onHost fun h =>
      { h with grants := h.grants.put none (uAt p 0 1) none }).answered mb Status.OK [])) ∧
    (∀ c, s.Served mb 0x0306 → uAt p 0 1 < 16 → u.lastWindow = some c → exec (.cellWindowRevoke mb) s = .next (u.onHost fun h =>
      { h with grants := h.grants.put none (uAt p 0 1) none, revoking := h.revoking ++ [(mb.val, c)] })) ∧
    (s.Served mb 0x0505 → uAt p 0 1 ≤ 7 → u.runParamOk (uAt p 0 1) (uAt p 1 2) (uAt p 3 4) = true →
      exec (.solvParamSet mb) s = .next ((u.onInst (uAt p 0 1) fun i =>
        { i with params := i.params.put 0 (uAt p 1 2) (uAt p 3 4 + 1) }).answered mb Status.OK [])) ∧
    (s.Served mb 0x0608 → uAt p 0 1 = 1 → exec (.netMgmtEnable mb) s = .next ((u.onHost fun h =>
      { h with mgmtOn := true, mgmtIp := uAt p 4 4, mgmtPorts := BitVec.ofNat 64 (uAt p 8 8) }).answered mb Status.OK [])) ∧
    (s.Served mb 0x0609 → uAt p 0 1 ≤ 1 → exec (.netMgmtKey mb) s = .next ((u.onFlash fun f =>
      { f with mgmtKeys := f.mgmtKeys.put none (uAt p 0 1) (some (BitVec.ofNat 256 (uAt p 1 32))) }).answered mb Status.OK [])) ∧
    (∀ l, l = GateList.mk (uAt p 4 8) (gateEntries p (uAt p 1 1)) → s.Served mb 0x0607 → uAt p 0 1 ≤ 63 →
      p.length = 16 + 8 * uAt p 1 1 → 1 ≤ uAt p 1 1 → u.get Reg.PORT_STATUS_PERSONALITY (uAt p 0 1) = 1 →
      GateList.cycle l = uAt p 12 4 → GateList.cycle l ≠ 0 →
      exec (.netBridgeGcl mb) s = .next (((u.onGate (uAt p 0 1) fun g => { g with waiting := some l }).setFlag
        Reg.GATE_STATUS_LIST_PENDING (uAt p 0 1) true).answered mb Status.OK [])) ∧
    (s.Served mb 0x0705 → steps (uAt p 0 1) = true → 100 ≤ uAt p 1 4 → uAt p 1 4 ≤ 1000000 →
      exec (.timeJumpLimit mb) s = .next ((u.set Reg.JUMP_LIMIT_NS (uAt p 0 1) (uAt p 1 4)).answered mb Status.OK [])) ∧
    (s.Served mb 0x0903 → uAt p 0 1 ≤ 3 → uAt p 0 1 ≠ 2 → exec (.logClear mb) s = .next
      (State.answered { u with logs := u.logs.put LogRing.empty (uAt p 0 1) { u.logRing (uAt p 0 1) with entries := [] } }
        mb Status.OK [])) ∧
    (s.Served mb 0x0A04 → 1 ≤ uAt p 0 1 → uAt p 0 1 ≤ 64 → s.flash.rollback ≤ uAt p 0 1 → uAt p 0 1 ≤ u.bootedFw.1 →
      exec (.fwRollbackSet mb) s = .next ((u.onFlash fun f => { f with rollback := uAt p 0 1 }).answered mb Status.OK [])) ∧
    (s.Served mb 0x0D03 → exec (.memScrubRate mb) s = .next
      ((u.set Reg.SCRUB_RATE_KIB_S 0 (min (uAt p 0 4) 1048576)).answered mb Status.OK [])) ∧
    (s.Served mb 0x0D06 → 64 ≤ uAt p 0 4 → uAt p 0 4 ≤ 1024 → exec (.memLanding mb) s = .next
      ((u.onFlash fun f => { f with landingMiB := uAt p 0 4 }).answered mb Status.OK []))

/-- A mode command that is accepted waits for the next cycle start; CELL_ACTIVATE installs the image at once. Rests on
04_operating_modes.md, 03_firmware_commands.md. -/
def Obligations.ModeCommands : Prop :=
  ∀ (s u : State) (mb : Fin 32) (p : List Byte), u = s.begins mb → p = s.cmdPayload mb →
    (∀ m, s.Served mb 0x0202 → Mode.ofCode (uAt p 0 1) = some m → m ≠ s.mode.mode → u.requestCheck m = Status.OK →
      exec (.modeRequest mb) s = .next { u with mode := { u.mode with requested := some ⟨m, 1, some mb, u.mode.causes.length + u.mode.inService.length⟩ } }) ∧
    (∀ m, s.Served mb 0x0202 → Mode.ofCode (uAt p 0 1) = some m → m = s.mode.mode →
      exec (.modeRequest mb) s = .next (u.answered mb Status.OK [])) ∧
    (s.Served mb 0x0203 → s.mode.mode = .jog ∨ s.mode.mode = .run →
      exec (.modeHalt mb) s = .next { u with mode := { u.mode with
        requested := some ⟨.halting, 1, some mb, u.mode.causes.length + u.mode.inService.length⟩ } }) ∧
    (s.Served mb 0x0203 → s.mode.mode = .halting → exec (.modeHalt mb) s = .next (u.answered mb Status.OK [])) ∧
    (∀ v, s.Served mb 0x0204 → s.mode.causes.any u.causePresent = false →
      v = { u with mode := { u.mode with causes := [], stops := [], engines := [] } } →
      exec (.modeFaultAck mb) s = .next { v with mode :=
        { v.mode with requested := some ⟨if v.ready then .idle else .config, 8, some mb, v.mode.inService.length⟩ } }) ∧
    (∀ i c, s.Served mb 0x0303 → uAt p 0 1 ≤ 1 → (s.slotAt (uAt p 0 1)).state = .valid → (s.slotAt (uAt p 0 1)).image = some i →
      s.flash.safeSet = some c → imageFits i c = true → u.pairOn = false →
      exec (.cellActivate mb) s = .next (s.beside fun _ =>
        ((State.onHost { u with flash := { u.flash with activeSlot := some (uAt p 0 1) } } fun h =>
          { h with grants := Tab.empty }).installCell i.content).askMode .idle 2 mb))

/-- SYS_RESET, SYS_POWER and SYS_EVENT_ROUTE do what their tables say. Rests on 03_firmware_commands.md,
23_clocks_power_reset.md, 21_cores_and_events.md. -/
def Obligations.ResetAndPowerCommands : Prop :=
  ∀ (s u : State) (mb : Fin 32) (p : List Byte), u = s.begins mb → p = s.cmdPayload mb →
    (s.Served mb 0x0105 → uAt p 0 1 = 0 → exec (.sysReset mb) s = .next (s.beside fun _ => u.startReset .d 6)) ∧
    (s.Served mb 0x0105 → uAt p 0 1 = 1 → uAt p 1 1 = 1 →
      exec (.sysReset mb) s = .next (s.beside fun _ => u.domainReset 1)) ∧
    (s.Served mb 0x0105 → uAt p 0 1 = 1 → uAt p 1 1 ≤ 6 → uAt p 1 1 ≠ 1 →
      exec (.sysReset mb) s = .next (s.beside fun _ => (u.domainReset (uAt p 1 1)).setResult mb ⟨Status.OK, []⟩)) ∧
    (s.Served mb 0x0107 → uAt p 0 1 = 1 → u.pairSync = false → s.parked = false →
      exec (.sysPower mb) s = .next (s.beside fun _ => u.parkEnter.setResult mb ⟨Status.OK, []⟩)) ∧
    (s.Served mb 0x0107 → uAt p 0 1 = 0 → s.parked = true →
      exec (.sysPower mb) s = .next (s.beside fun _ => u.parkLeave.setResult mb ⟨Status.OK, []⟩)) ∧
    (s.Served mb 0x0107 → uAt p 0 1 = 2 → uAt p 1 1 ≤ 63 → uAt p 2 1 ≤ 1 → s.owner 8 (uAt p 1 1) = none →
      exec (.sysPower mb) s = .next (s.beside fun _ => u.dormantEnter (uAt p 1 1) (uAt p 2 1 == 1))) ∧
    (∀ v, s.Served mb 0x0108 → uAt p 1 1 = 0 → uAt p 2 1 ≤ 63 → uAt p 3 1 ≤ 1 →
      v = (u.set Reg.EV_ROUTE_VECTOR (uAt p 0 1) (uAt p 2 1)).set Reg.EV_ROUTE_MSIX_EN (uAt p 0 1) (uAt p 3 1) →
      exec (.sysEventRoute mb) s = .next (s.beside fun _ =>
        (if uAt p 3 1 = 1 ∧ u.flag Reg.EV_ROUTE_MSIX_EN (uAt p 0 1) = false ∧
            bitOf (v.get Reg.HOST_PEND_PEND (uAt p 0 1 / 64)) (uAt p 0 1 % 64) = true
          then v.msix (v.get Reg.EV_ROUTE_VECTOR (uAt p 0 1)) else v).setResult mb ⟨Status.OK, []⟩))

/-- SAFE_LOGIN, SAFE_LOGOUT and SAFE_PASSWORD_SET open and close the safety session and set the password, each with
its change log entry. Rests on 15_safety_parameters.md, 02_host_and_mailboxes.md. -/
def Obligations.SafetySessionCommands : Prop :=
  ∀ (s u : State) (mb : Fin 32) (p : List Byte), u = s.begins mb → p = s.cmdPayload mb →
    (∀ w, s.Served mb 0x0801 → lengthFits p 0 = true → 8 ≤ uAt p 0 1 → uAt p 0 1 ≤ 64 → s.host.safe = none →
      s.host.lockedTill ≤ s.ticks → s.flash.password = none → w = u.onHost (fun h => { h with wrong := 0 }) →
      exec (.safeLogin mb) s = .next (s.beside fun _ =>
        ((w.tookFree.onHost fun h => { h with safe := some ⟨w.newSession, (w.mb mb).link, 600, w.ticks⟩, restricted := true }).safeLog
          mb 0x0001 Status.OK 0 []).setResult mb ⟨Status.OK, leBytes 4 w.newSession⟩)) ∧
    (∀ w salt digest, s.Served mb 0x0801 → lengthFits p 0 = true → 8 ≤ uAt p 0 1 → uAt p 0 1 ≤ 64 → s.host.safe = none →
      s.host.lockedTill ≤ s.ticks → s.flash.password = some (salt, digest) → sha3 (salt ++ p.drop 1) = digest →
      s.recovery = false → w = u.onHost (fun h => { h with wrong := 0 }) →
      exec (.safeLogin mb) s = .next (s.beside fun _ =>
        ((w.tookFree.onHost fun h => { h with safe := some ⟨w.newSession, (w.mb mb).link, 600, w.ticks⟩, restricted := false }).safeLog
          mb 0x0001 Status.OK 0 []).setResult mb ⟨Status.OK, leBytes 4 w.newSession⟩)) ∧
    (∀ salt digest, s.Served mb 0x0801 → lengthFits p 0 = true → 8 ≤ uAt p 0 1 → uAt p 0 1 ≤ 64 → s.host.safe = none →
      s.host.lockedTill ≤ s.ticks → s.flash.password = some (salt, digest) → sha3 (salt ++ p.drop 1) ≠ digest →
      s.recovery = false →
      exec (.safeLogin mb) s = .next (s.beside fun _ =>
        (u.wrongPassword.safeLog mb 0x0002 Status.E_SAFE_PASSWORD 0 []).setResult mb ⟨Status.E_SAFE_PASSWORD, []⟩)) ∧
    (s.Served mb 0x0802 → p = [] → exec (.safeLogout mb) s = .next (s.beside fun _ =>
      ((u.onHost fun h => { h with safe := none, restricted := false, staged := none, stagedSeal := false }).safeLog
        mb 0x0003 Status.OK 0 []).setResult mb ⟨Status.OK, []⟩)) ∧
    (s.Served mb 0x0803 → lengthFits p 0 = true → s.flash.sealMode = false → s.weak (p.drop 1) = false →
      exec (.safePasswordSet mb) s = .next (s.beside fun _ =>
        (State.safeLog { u.tookFree with flash :=
          { u.flash with password := some (leBytes 16 u.free, sha3 (leBytes 16 u.free ++ p.drop 1)) } }
            mb 0x0004 Status.OK 0 []).setResult mb ⟨Status.OK, []⟩))

/-- The SAFE commands on sets, seals, acknowledgements and tests take effect with their change log entries. Rests on
15_safety_parameters.md, 13_caldera_io.md, 03_firmware_commands.md. -/
def Obligations.SafetySetCommands : Prop :=
  ∀ (s u : State) (mb : Fin 32) (p : List Byte), u = s.begins mb → p = s.cmdPayload mb → s.host.restricted = false →
    (∀ c, s.Served mb 0x0806 → SafetySet.parse p = some c → c.computeCrc = c.crc →
      exec (.safeParamWrite mb) s = .next (s.beside fun _ => (u.stage c false).setResult mb ⟨Status.OK, []⟩)) ∧
    (∀ c, s.Served mb 0x0807 → p.length = 4 → s.flash.sealMode = false → s.host.staged = some c → c.crc = uAt p 0 4 →
      c.invalid = none → exec (.safeParamCommit mb) s = .next (s.beside fun _ =>
        ((u.commitSet c).safeLog mb 0x0010 Status.OK 0 []).setResult mb ⟨Status.OK, leBytes 4 s.flash.changeNext⟩)) ∧
    (s.Served mb 0x0808 → exec (.safeImportEckin mb) s = .next (s.beside fun _ =>
      match eckinImport p with
      | none => (u.safeLog mb 0x0011 Status.E_SAFE_IMPORT 0 []).setResult mb ⟨Status.E_SAFE_IMPORT, []⟩
      | some (c, defaults, seals) =>
        ((u.stage (SafetySet.mk c.version 1 c.records (SafetySet.mk c.version 1 c.records c.crc).computeCrc) seals).safeLog mb 0x0011
          Status.OK 0 []).setResult mb ⟨Status.OK,
            fieldsOf [(4, (SafetySet.mk c.version 1 c.records c.crc).computeCrc), (2, defaults)]⟩)) ∧
    (s.Served mb 0x0809 → p.length = 1 → s.sealState 0 = 0 → uAt p 0 1 ≤ 1 → exec (.safeSealMode mb) s = .next (s.beside fun _ =>
      ((State.set { u with flash := { u.flash with sealMode := uAt p 0 1 == 1 } } Reg.SEAL_STATUS_SEAL_MODE 0 (uAt p 0 1)).safeLog
        mb 0x0012 Status.OK (uAt p 0 1) []).setResult mb ⟨Status.OK, []⟩)) ∧
    (∀ r, s.Served mb 0x080A → p.length = 2 → uAt p 0 1 ≤ 2 → uAt p 1 1 ≤ 15 →
      r = (if uAt p 0 1 = 0 then u.ackPair (uAt p 1 1) else if uAt p 0 1 = 1 then u.ackRestart else u.ackEdm (uAt p 1 1)) →
      exec (.safeResetAck mb) s = .next (s.beside fun _ =>
        match r with
        | some t => (t.safeLog mb 0x0014 Status.OK (uAt p 0 1 + 256 * uAt p 1 1) []).setResult mb ⟨Status.OK, []⟩
        | none => (u.safeLog mb 0x0014 Status.E_SAFE_DEMAND (uAt p 0 1 + 256 * uAt p 1 1) []).setResult mb
            ⟨Status.E_SAFE_DEMAND, []⟩)) ∧
    (s.Served mb 0x080C → lengthFits p 4 = true → s.flash.sealMode = false → p.drop 5 ≠ [] → (p.drop 5).length ≤ 64 →
      utf8 (p.drop 5) = true → s.flash.safeSet.map SafetySet.crc = some (uAt p 0 4) →
      exec (.safeAccept mb) s = .next (s.beside fun _ =>
        (State.safeLog { u with flash := { u.flash with safeAccepted := true } } mb 0x0015 Status.OK 0 (p.drop 5)).setResult mb
          ⟨Status.OK, leBytes 4 s.flash.changeNext⟩)) ∧
    (∀ r, s.Served mb 0x080D → p.length = 4 → uAt p 0 4 ≤ 0x1FF → r = u.proofTests (uAt p 0 4) →
      exec (.safeProofTest mb) s = .next (s.beside fun _ =>
        (r.2.safeLog mb 0x0016 Status.OK r.1 []).setResult mb ⟨Status.OK, fieldsOf [(4, uAt p 0 4 - r.1), (4, r.1)]⟩)) ∧
    (∀ v, s.Served mb 0x080E → p = [] → v = (u.set Reg.TB_TIME_NS 6 0).set Reg.TB_FRAC_FRAC 6 0 →
      exec (.safeIslandReset mb) s = .next (s.beside fun _ =>
        ((State.calRestart { v with power := { v.power with tbRest := v.power.tbRest.put 0 6 0 } }).safeLog mb 0x0017 Status.OK 0
          []).setResult mb ⟨Status.OK, []⟩))

/-- The AXIS commands on a bound axis take effect where the checks of their table pass. Rests on
03_firmware_commands.md, 08_servo_kernel.md, 12_step_axes_homing.md. -/
def Obligations.AxisCommands : Prop :=
  ∀ (s u : State) (mb : Fin 32) (p : List Byte) (x : Nat), u = s.begins mb → p = s.cmdPayload mb → x = uAt p 0 1 →
    u.bound x = true →
    (s.Served mb 0x0403 → (u.commitStage (axisEngine x)).paramCheck x (uAt p 1 2) (uAt p 3 8) = Status.OK →
      u.jceRuns (axisEngine x) = false →
      exec (.axisParamSet mb) s = .next (s.beside fun _ => (u.putParam x (uAt p 1 2) (uAt p 3 8)).setResult mb ⟨Status.OK, []⟩)) ∧
    (s.Served mb 0x0403 → (u.commitStage (axisEngine x)).paramCheck x (uAt p 1 2) (uAt p 3 8) = Status.OK →
      u.jceRuns (axisEngine x) = true → (u.eng (axisEngine x)).stage.length ≤ 62 →
      exec (.axisParamSet mb) s = .next (s.beside fun _ => (u.onEng (axisEngine x) fun j =>
        { j with stage := j.stage ++ [(paramAddr x (uAt p 1 2), BitVec.ofNat 32 (uAt p 3 8)),
          (paramAddr x (uAt p 1 2) + 1, BitVec.ofNat 32 (uAt p 3 8 / 2 ^ 32))] }).setResult mb ⟨Status.OK, []⟩)) ∧
    (s.Served mb 0x0404 → uAt p 1 1 = 1 → u.axisFaulted x = false → u.nodeReady x = true → (u.ax x).enabled = false →
      exec (.axisEnable mb) s = .next (s.beside fun _ =>
        (((u.passCommand x).axisEnable x).axisWords x).setResult mb ⟨Status.OK, []⟩)) ∧
    (s.Served mb 0x0404 → uAt p 1 1 = 0 → (u.ax x).enabled = false →
      exec (.axisEnable mb) s = .next (s.beside fun _ => u.setResult mb ⟨Status.OK, []⟩)) ∧
    (∀ target : Int, s.Served mb 0x0405 → target = (if bitOf (uAt p 1 1) 0 then (u.axisPos x).floor + sAt p 2 8 else sAt p 2 8) →
      u.motionCheck x = Status.OK → (u.ax x).homed = true → (u.softLimits x).1 ≤ target → target ≤ (u.softLimits x).2 →
      u.limitTowards x (target - u.axisPos x) = false →
      exec (.axisMove mb) s = .next (s.beside fun _ =>
        (((u.passCommand x).onAx x fun a => { a with homing := none }).axisStart x (.move target) (uAt p 10 4) (uAt p 14 4)
          (uAt p 18 4) false).setResult mb ⟨Status.OK, []⟩)) ∧
    (s.Served mb 0x0406 → u.motionCheck x = Status.OK → u.limitTowards x (sAt p 1 4) = false →
      exec (.axisJog mb) s = .next (s.beside fun _ =>
        (((u.passCommand x).onAx x fun a => { a with homing := none }).axisStart x (.velocity (sAt p 1 4)) 0 0 0
          (sAt p 1 4 != 0)).setResult mb ⟨Status.OK, []⟩)) ∧
    (s.Served mb 0x0407 → x ≠ 0xFF → (u.ax x).enabled = true → (u.ax x).disabling = false → (u.ax x).reaction = 0 →
      u.mode.mode ≠ .halting → exec (.axisStop mb) s = .next (s.beside fun _ =>
        (((u.passCommand x).onAx x fun a => { a with homing := none, stayed := true }).axisStop x 0x62).setResult mb
          ⟨Status.OK, []⟩)) ∧
    (∀ d, s.Served mb 0x0408 → u.homingSet x = some d → axisKind x ≠ 0 → 1 ≤ uAt p 1 1 → uAt p 1 1 ≤ 10 →
      u.homingFits x (uAt p 1 1) d = true → u.axisFaulted x = false → (u.ax x).enabled = true → (u.ax x).disabling = false →
      exec (.axisHome mb) s = .next (s.beside fun _ =>
        ((u.passCommand x).startHoming x (uAt p 1 1) d).setResult mb ⟨Status.OK, []⟩)) ∧
    (∀ v w, s.Served mb 0x0409 →
      w = (if axisKind x ≠ 0 ∧ u.flag Reg.FB_STATUS_COND (axisFb x) = false then u.setFlag Reg.FB_FLAGS_FAULT (axisFb x) false else u) →
      (w.eng (axisEngine x)).debugHeld = false → w.faultStays x = false → (w.ax x).enabled = false →
      v = (w.passCommand x).onAx x (fun a =>
        { a with faults := 0, first := 0, reaction := 0,
                 homed := a.homed && !(bitOf a.faults 1 || bitOf a.faults 15 || bitOf a.faults 16) }) →
      exec (.axisFaultClear mb) s = .next (s.beside fun _ =>
        (State.axisWords (if v.engineFreed (axisEngine x) then v.engineReload (axisEngine x) fun y => (v.ax y).homed && !losesHome (v.ax y)
          else v) x).setResult mb ⟨Status.OK, []⟩)) ∧
    (s.Served mb 0x040A → uAt p 1 1 = 0 ∨ (uAt p 1 1 = 1 ∧ (u.cell.bind fun c => CellContent.jointOf c x).isSome = true) →
      exec (.axisSource mb) s = .next (s.beside fun _ =>
        ((u.onAx x fun a => { a with traj := uAt p 1 1 == 1 }).axisWords x).setResult mb ⟨Status.OK, []⟩))

/-- SOLV, NET and TIME commands that change a unit do so where their checks pass. Rests on 06_sawmill_runs.md,
16_ports_and_negotiation.md, 17_geyser.md, 18_time_and_tsn.md. -/
def Obligations.SolverNetworkTimeCommands : Prop :=
  ∀ (s u : State) (mb : Fin 32) (p : List Byte), u = s.begins mb → p = s.cmdPayload mb →
    (s.Served mb 0x0502 → p.length = 1 + uAt p 0 1 → 1 ≤ uAt p 0 1 → uAt p 0 1 ≤ 8 →
      tileMasks ((p.drop 1).map BitVec.toNat) = true →
      exec (.solvInstances mb) s = .next (s.beside fun _ =>
        (u.setInstances ((p.drop 1).map BitVec.toNat)).setResult mb ⟨Status.OK, []⟩)) ∧
    (s.Served mb 0x0503 → uAt p 0 1 = 1 → u.get Reg.INST_CFG_SIZE 0 = 8 → u.wholeProblem.isNone = false →
      exec (.solvCellEnable mb) s = .next (s.beside fun _ =>
        (State.postConstants ((u.setFlag Reg.INST_CFG_CELL 0 true).onInst 0 fun i => { i with coldNext := true })).setResult mb
          ⟨Status.OK, []⟩)) ∧
    (s.Served mb 0x0503 → uAt p 0 1 = 0 → exec (.solvCellEnable mb) s = .next (s.beside fun _ =>
      (State.setFlag (if u.flag Reg.INST_CFG_CELL 0 then u.onRun 0 fun r => { r with abort := true } else u) Reg.INST_CFG_CELL 0
        false).setResult mb ⟨Status.OK, []⟩)) ∧
    (s.Served mb 0x0602 → uAt p 0 1 ≤ 63 → uAt p 1 1 ≤ 1 → u.schedulePort (uAt p 0 1) = false → 1 ≤ uAt p 2 1 → uAt p 2 1 ≤ 3 →
      1 ≤ uAt p 4 4 → uAt p 4 4 ≤ 255 → u.get Reg.PORT_CFG_EN (uAt p 0 1) ≠ uAt p 1 1 →
      exec (.netPortConfig mb) s = .next (s.beside fun _ =>
        ((((u.set Reg.PORT_CFG_EN (uAt p 0 1) (uAt p 1 1)).set Reg.PORT_CFG_PERS_MASK (uAt p 0 1) (uAt p 2 1)).set
          Reg.PORT_CFG_MODE_MASK (uAt p 0 1) (uAt p 4 4)).portRestart (uAt p 0 1)).setResult mb ⟨Status.OK, []⟩)) ∧
    (s.Served mb 0x0604 → u.starState = 0 → u.star.runAt = none → exec (.netGeyserStart mb) s = .next (s.beside fun _ =>
      u.starStart.onStar fun t => { t with mailbox := some mb })) ∧
    (s.Served mb 0x0605 → u.starState ≠ 0 → exec (.netGeyserStop mb) s = .next (s.beside fun _ =>
      u.starStop.setResult mb ⟨Status.OK, []⟩)) ∧
    (s.Served mb 0x0702 → 1 ≤ uAt p 0 1 → uAt p 0 1 ≤ 4 → uAt p 4 8 = 0 → exec (.timePtpConfig mb) s = .next (s.beside fun _ =>
      ((u.setPtp (uAt p 0 1) none).setTbState (uAt p 0 1) 0).setResult mb ⟨Status.OK, []⟩)) ∧
    (s.Served mb 0x0703 → steps (uAt p 0 1) = true → u.flag Reg.TB_STATE_STEP_PENDING (uAt p 0 1) = true →
      exec (.timeStepAccept mb) s = .next (s.beside fun _ => (u.acceptStep (uAt p 0 1)).setResult mb ⟨Status.OK, []⟩)) ∧
    (s.Served mb 0x0704 → sAt p 0 8 ≠ 0 → exec (.timeTb7Set mb) s = .next (s.beside fun _ =>
      ((u.setRate16 7 (sAt p 8 4 * 65536)).tbCorrect 7 (sAt p 0 8)).setResult mb ⟨Status.OK, []⟩))

/-- TWIN and MEM commands that change state do so where their checks pass. Rests on 19_redundant_pair.md,
20_memory_integrity.md, 03_firmware_commands.md. -/
def Obligations.PairAndMemoryCommands : Prop :=
  ∀ (s u : State) (mb : Fin 32) (p : List Byte), u = s.begins mb → p = s.cmdPayload mb →
    (s.Served mb 0x0C02 → uAt p 0 1 = 0 → exec (.twinConfig mb) s = .next (s.beside fun _ =>
      (State.showRole (State.setFlag { u.unsync with flash := { u.unsync.flash with pairEn := false } } Reg.TWIN_CFG_PAIR_EN 0
        false)).setResult mb ⟨Status.OK, []⟩)) ∧
    (s.Served mb 0x0C02 → uAt p 0 1 = 1 → u.imageLocal = false → exec (.twinConfig mb) s = .next (s.beside fun _ =>
      (State.showRole (State.setFlag { u with flash := { u.flash with pairEn := true } } Reg.TWIN_CFG_PAIR_EN 0 true)).setResult mb
        ⟨Status.OK, []⟩)) ∧
    (∀ q, s.Served mb 0x0C03 → u.pairOn = true → u.get Reg.TWIN_STATE_ROLE 0 = 2 → u.flag Reg.TWIN_STATE_LINK_UP 0 = true →
      u.twin.partner = some q → u.inMode resyncModes = true → q.mode = Mode.code u.mode.mode →
      exec (.twinResync mb) s = .next (s.beside fun _ =>
        if u.free % 2 = 0 then
          ((u.tookFree.onTwin fun t => { t with resyncMb := some mb, resyncMode := q.mode, cut := none, compare := false }).set
            Reg.TWIN_STATE_SYNC 0 1).set Reg.RESYNC_PROGRESS_PHASE 0 1
        else u.tookFree.setResult mb ⟨Status.E_TWIN_NOT_SYNC, []⟩)) ∧
    (∀ m, s.alive = true → s.mbState mb = 2 → s.mbCode mb = 0x0C04 → (s.mb mb).result = none → (s.mb mb).begun = false →
      s.rangerHalted = false → s.passes 0x0C04 = true →
      m = TwinMsg.command (s.get Reg.CYCLE_NUM_NUMBER 0 + 1 + s.free % 4) 0x0C04 mb p →
      exec (.twinHandover mb) s = .next ((((s.tookFree.out (.twin m)).onTwin fun t =>
        { t with waiting := t.waiting ++ [m] }).begins mb))) ∧
    (∀ v c, v = ((s.onMb mb fun m => { m with begun := true }).twinHandover mb p) → s.pairOn = true →
      s.flag Reg.TWIN_STATE_LINK_UP 0 = true → s.pairSync = true → s.token = true → c = s.get Reg.CYCLE_NUM_NUMBER 0 + 4 + s.free →
      v = ((u.tookFree.onTwin fun t => { t with handover := some c, handMb := some mb }).out (.twin (.handover c)), none)) ∧
    (s.Served mb 0x0D02 → uAt p 0 1 ≤ 59 → uAt p 1 1 ≤ 1 → uAt p 4 8 % 64 = 0 → uAt p 12 8 = 0 →
      exec (.memRegionSet mb) s = .next (s.beside fun _ =>
        ((((State.setFlag { u with flash := { u.flash with regions := u.flash.regions.put none (uAt p 0 1) none } }
          Reg.REGION_CFG_VALID (uAt p 0 1) false).setFlag Reg.REGION_CFG_CLASS (uAt p 0 1) false).set Reg.REGION_BASE_BASE
            (uAt p 0 1) 0).set Reg.REGION_SIZE_SIZE (uAt p 0 1) 0).setResult mb ⟨Status.OK, []⟩)) ∧
    (∀ r, r = u.flash.regions.put none (uAt p 0 1) (some (uAt p 4 8, uAt p 12 8, uAt p 1 1 == 1)) →
      s.Served mb 0x0D02 → uAt p 0 1 ≤ 59 → uAt p 1 1 ≤ 1 → uAt p 4 8 % 64 = 0 → uAt p 12 8 % 64 = 0 → uAt p 12 8 ≠ 0 →
      u.regionOverlaps (uAt p 0 1) (uAt p 4 8) (uAt p 12 8) = false → regionInside (uAt p 4 8) (uAt p 12 8) = true →
      exec (.memRegionSet mb) s = .next (s.beside fun _ =>
        ((((State.set { u with flash := { u.flash with regions := r } } Reg.REGION_BASE_BASE (uAt p 0 1) (uAt p 4 8)).set Reg.REGION_SIZE_SIZE (uAt p 0 1) (uAt p 12 8)).setFlag
            Reg.REGION_CFG_CLASS (uAt p 0 1) (uAt p 1 1 == 1)).setFlag Reg.REGION_CFG_VALID (uAt p 0 1) true).setResult mb
              ⟨Status.OK, []⟩)) ∧
    (∀ b e, s.Served mb 0x0D05 → remapIndexOk (uAt p 0 1) (uAt p 1 1) = true →
      remapAddressOk (uAt p 0 1 == 1) (uAt p 1 1) (uAt p 8 8) = true →
      b = (if uAt p 0 1 = 1 then uAt p 8 8 else MemPlace.key (.group (uAt p 1 1) (uAt p 8 8))) / 64 → u.remapOf b = some e →
      exec (.memRemapAdd mb) s = .next (s.beside fun _ =>
        if (u.memory.copying.contains (uAt p 0 1 == 1, e) || u.memory.unsaved.contains (uAt p 0 1 == 1, e)) = true then
          u.onMem fun m => { m with adding := m.adding ++ [(mb.val, uAt p 0 1 == 1, e)] }
        else u.setResult mb ⟨Status.OK, leBytes 1 (remapWordNumber (uAt p 0 1 == 1) e)⟩)) ∧
    (∀ b e, s.Served mb 0x0D05 → remapIndexOk (uAt p 0 1) (uAt p 1 1) = true →
      remapAddressOk (uAt p 0 1 == 1) (uAt p 1 1) (uAt p 8 8) = true →
      b = (if uAt p 0 1 = 1 then uAt p 8 8 else MemPlace.key (.group (uAt p 1 1) (uAt p 8 8))) / 64 → u.remapOf b = none →
      u.remapFree b = some e →
      exec (.memRemapAdd mb) s = .next (s.beside fun _ =>
        (u.remapStart (uAt p 0 1 == 1) e (remapName b)).onMem fun m =>
          { m with adding := m.adding ++ [(mb.val, uAt p 0 1 == 1, e)] }))

/-- CELL_LOAD, FW_WRITE, FW_ACTIVATE and the DIAG commands do what their tables say. Rests on 03_firmware_commands.md,
24_boot_trust_debug.md, 16_ports_and_negotiation.md. -/
def Obligations.ImageAndDiagnosticCommands : Prop :=
  ∀ (s u : State) (mb : Fin 32) (p : List Byte), u = s.begins mb → p = s.cmdPayload mb →
    (s.Served mb 0x0301 → (p.drop 8).length = uAt p 4 4 → exec (.cellLoad mb) s = .next (s.beside fun _ =>
      match u.cellCheck (p.drop 8) with
      | none => (u.putSlot (uAt p 0 1) ⟨.valid, 0, some (readImage (p.drop 8))⟩).setResult mb
          ⟨Status.OK, fieldsOf [(2, 0), (2, 0), (4, 0), (4, 0)]⟩
      | some (check, sect, item) => (u.putSlot (uAt p 0 1) ⟨.invalid, check, none⟩).setResult mb
          ⟨cellError check, fieldsOf [(2, check), (2, 0), (4, sect), (4, item)]⟩)) ∧
    (s.Served mb 0x0A02 → (p.drop 8).length = uAt p 4 4 → uAt p 0 1 = 2 → exec (.fwWrite mb) s = .next (s.beside fun _ =>
      if u.fwVerify 2 (p.drop 8) = Status.OK then
        (u.onFlash fun f => { f with coreSlots := f.coreSlots.put FwSlot.empty (uAt p 1 1) (readFirmware (p.drop 8)) }).setResult mb
          ⟨Status.OK, []⟩
      else u.setResult mb ⟨u.fwVerify 2 (p.drop 8), []⟩)) ∧
    (∀ x ks, s.Served mb 0x0A03 → uAt p 0 1 = 1 → uAt p 1 1 ≤ 3 → u.inMode [.init] = false → u.goodProgram (uAt p 1 1) = some x →
      ks = (List.range 64).filter (bitOf (uAt p 8 8)) → ks.all (fun k => ownsNeeds k x.needs) = true →
      exec (.fwActivate mb) s = .next (s.beside fun _ => (ks.foldl (fun (v : State) k =>
        let w := v.onFlash fun f => { f with assigned := f.assigned.put 0 k (uAt p 1 1) }
        if w.parked then w else w.engineReload k fun y => (w.ax y).homed) u).setResult mb ⟨Status.OK, []⟩)) ∧
    (∀ v, s.Served mb 0x0A03 → uAt p 0 1 = 2 → uAt p 1 1 ≤ 1 → u.inMode [.init] = false → (u.coreSlot (uAt p 1 1)).state = 2 →
      uAt p 8 8 ≤ 65535 →
      v = (List.range 16).foldl (fun (v : State) c => if bitOf (uAt p 8 8) c then v.coreStop c else v) u →
      exec (.fwActivate mb) s = .next (s.beside fun _ =>
        (State.startCores (v.onFlash fun f => { f with started := (uAt p 1 1, BitVec.ofNat 16 (uAt p 8 8)) }) (uAt p 1 1)
          (BitVec.ofNat 16 (uAt p 8 8))).setResult mb ⟨Status.OK, []⟩)) ∧
    (s.Served mb 0x0A03 → uAt p 0 1 = 0 → uAt p 1 1 ≤ 1 → s.boot.qspi = false → u.inMode [.init, .service] = true →
      2 ≤ (u.fwSlot (uAt p 1 1)).state → u.pairSync = false → exec (.fwActivate mb) s = .next (s.beside fun _ =>
        State.startReset ((u.putFw (uAt p 1 1) { u.fwSlot (uAt p 1 1) with state := 3 }).onFlash fun f =>
          { f with bootSlot := uAt p 1 1 }) .d 8)) ∧
    (s.Served mb 0x0B01 → exec (.diagSelftest mb) s = .next (u.tookFree.answered mb Status.OK
      (fieldsOf [(4, uAt p 0 4 - (uAt p 0 4 &&& u.free)), (4, uAt p 0 4 &&& u.free)]))) ∧
    (s.Served mb 0x0B02 → 1 ≤ uAt p 8 2 → uAt p 8 2 ≤ 1000 → exec (.diagRegRead mb) s = .next (s.beside fun _ =>
      match u.readRun (uAt p 0 8) (uAt p 8 2) with
      | (t, some l) => t.setResult mb ⟨Status.OK, l⟩
      | (t, none) => t.setResult mb ⟨Status.E_DIAG_ADDRESS, []⟩)) ∧
    (∀ t, s.Served mb 0x0B03 → uAt p 0 8 / 2 ^ 28 ≠ 0xF07 → t = u.busWrite .ranger (uAt p 0 8) 4
        ((u.keptWord (uAt p 0 8) &&& (2 ^ 32 - 1 - uAt p 8 4)) ||| (uAt p 12 4 &&& uAt p 8 4)) → t.bus ≠ .busError →
      exec (.diagRegWrite mb) s = .next (s.beside fun _ =>
        match ({ t with bus := u.bus } : State).rangerRead (uAt p 0 8) with
        | (v, some r) => v.setResult mb ⟨Status.OK, leBytes 4 r⟩
        | (v, none) => v.setResult mb ⟨Status.E_DIAG_ADDRESS, []⟩)) ∧
    (∀ lost v, s.Served mb 0x0B05 → uAt p 0 1 ≤ 63 → uAt p 1 1 ≤ 3 → 1 ≤ uAt p 2 2 → uAt p 2 2 ≤ 10000 →
      u.schedulePort (uAt p 0 1) = false →
      v = u.loopback (uAt p 0 1) (uAt p 2 2) (lost.map Fin.val) →
      exec (.diagLoopback ⟨mb, lost⟩) s = .next (s.beside fun _ => v.tookFree.tookFree.setResult mb
        ⟨Status.OK, fieldsOf [(8, v.free), (8, v.tookFree.free)]⟩))

/-- Doorbells, interrupts, links and their done bits. Rests on 02_host_and_mailboxes.md. -/
def Obligations.HostLinkCommands : Prop :=
  (
    ∀ (s : State) (mb : Fin 32) (link : Link), s.alive = true →
      (s.mayRing link mb = true → s.mbState mb = 0 ∨ s.mbState mb = 3 →
        exec (.doorbell link mb) s = .next
          (s.beside fun s => (((if mb.val = 0 then (s.set Reg.MB_STATE_STATE mb 1).set Reg.MB_STATE_OWNER 0 (Link.code link)
            else s.set Reg.MB_STATE_STATE mb 1).onMb mb fun m =>
              { m with link := link, result := none, begun := false, datagram := none,
                       rung := if s.mbState mb == 0 then some s.ticks else none, before := none }).onHost fun h =>
                { h with doorbells := h.doorbells ++ [mb.val] }))) ∧
      (mb.val = 0 → s.mbState 0 = 1 → (s.mb 0).rung = some s.ticks → Link.code link < s.get Reg.MB_STATE_OWNER 0 →
        exec (.doorbell link mb) s = .next (s.beside fun s => (((s.set Reg.MB_STATE_OWNER 0 (Link.code link)).onMb 0 fun m =>
          { m with link := link, datagram := none, bytes := m.before.getD m.bytes, before := none }).count
            Reg.DB_IGNORED_COUNT 0 1).raise 49)) ∧
      ((s.mayRing link mb = false ∨ s.mbState mb = 1 ∨ s.mbState mb = 2) →
        ¬ (mb.val = 0 ∧ s.mbState 0 = 1 ∧ (s.mb 0).rung = some s.ticks ∧ Link.code link < s.get Reg.MB_STATE_OWNER 0) →
        exec (.doorbell link mb) s = .next (s.beside fun s => (s.count Reg.DB_IGNORED_COUNT 0 1).raise 49)) ∧
      (s.mayRing link mb = true → s.mbState mb = 1 →
        exec (.mailboxAbort link mb) s = .next (s.beside fun s =>
          (s.onHost fun h => { h with doorbells := h.doorbells.filter (· != mb.val) }).respond mb Status.E_ABORTED [])) ∧
      (∀ e, s.mayRing link mb = true → s.mbState mb = 2 → (s.mb mb).result = none → stopCode (s.mbCode mb) = some e →
        exec (.mailboxAbort link mb) s = .next (s.beside fun s => (s.setError mb e).stopEffect mb (s.mbCode mb))) ∧
      (s.mayRing link mb = true → s.mbState mb = 0 ∨ s.mbState mb = 3 → exec (.mailboxAbort link mb) s = .next s) ∧
      (∀ (offset : List Byte) n, offset.length = 3 → uAt offset 0 3 + (n - 1) ≤ 0x20200 →
        exec (.spiRead offset n) s = .next (s.beside fun s =>
          (s.barRead (uAt offset 0 3) (n - 1)).1.out (.spi (s.barRead (uAt offset 0 3) (n - 1)).2))) ∧
      (∀ offset bytes : List Byte, offset.length = 3 → exec (.spiWrite offset bytes) s = .next (s.beside fun s =>
        s.barWrite .spi (uAt offset 0 3) (bytes.take (0x20200 - uAt offset 0 3)))) ∧
      exec .spiStatus s = .next { s with
        outbox := .spi (leBytes 4 (s.mbMask 1 + s.mbMask 2) ++ leBytes 4 (s.mbMask 3)) :: s.outbox } ∧
      (∀ (v : Byte) more, v.getLsbD 7 = false → v.toNat % 32 = mb.val →
        exec (.spiRing (v :: more)) s = exec (.doorbell .spi mb) s ∧ ∃ t, exec (.spiRing (v :: more)) s = .next t) ∧
      (∀ (v : Byte) more, v.getLsbD 7 = true → v.toNat % 32 = mb.val →
        exec (.spiRing (v :: more)) s = exec (.mailboxAbort .spi mb) s ∧ ∃ t, exec (.spiRing (v :: more)) s = .next t) ∧
      (∀ rest : List Byte, (∀ op ∉ [0x02#8, 0x0B#8, 0x05#8, 0x4D#8, 0x4E#8], spiOp (op :: rest) = .malformed) ∧
        ∀ c, c = .spiMalformed ∨ (rest.length < 3 ∧ (c = .spiWrite rest [] ∨ c = .spiRead rest 0)) ∨ c = .spiRing [] ∨
          (rest.length < 4 ∧ c = .spiClear rest) →
        exec c s = .next (s.beside fun s => (s.count Reg.SPI_FRAME_ERR 0 1).raise 56))) ∧ (
    ∀ (s : State) (mask : Word32) (c : Instr), s.alive = true →
      c = .mbDoneClear mask ∨ (∃ rest, 4 ≤ rest.length ∧ mask = BitVec.ofNat 32 (uAt rest 0 4) ∧ c = .spiClear rest) →
      Completes c s fun t =>
        (∀ n < 32, t.mbState n = if mask.getLsbD n ∧ s.mbState n = 3 then 0 else s.mbState n) ∧
        (∀ f i, f.id ≠ Reg.MB_STATE_STATE.id → t.get f i = s.get f i) ∧ ∃ r, t = { s with regs := r })

/-- Commands start, end and time out as chapter 2 says. Rests on 02_host_and_mailboxes.md. -/
def Obligations.MailboxProtocol : Prop :=
  ∀ s : State, s.alive = true →
    (∀ n r v, s.rangerHalted = false → s.rangerBusy = false → s.twin.cut = none → s.nextDoorbell = some n →
      v = ((s.onHost fun h => { h with doorbells := h.doorbells.filter (· != n) }).set Reg.MB_STATE_STATE n 2).onMb n
        (fun m => { m with started := s.ticks, begun := false, result := none }) →
      v.earlyChecks n = (Status.OK, some r) → v.segmentOk n = true → v.sessionCheck r n = Status.OK →
      (v.touchSession n).roleCheck r n = Status.OK → ((v.touchSession n).mb n).transfer = none →
      (v.touchSession n).firstSegment ((v.touchSession n).mbCode n) ((v.touchSession n).mbPayload n) = Status.OK →
      bitOf ((v.touchSession n).mbAt n 3 1) 1 = false → (v.touchSession n).mbCode n ≠ 0x0301 →
      (v.touchSession n).mbCode n ≠ 0x0A02 → exec .commandStart s = .next (s.beside fun _ => v.touchSession n)) ∧
    (s.rangerHalted = false → s.rangerBusy = false → s.twin.cut = none → s.nextDoorbell = none →
      exec .commandStart s = .next s) ∧
    (∀ (mb : Fin 32) (r : MbResult), s.mbState mb = 2 → (s.mb mb).result = some r → (s.mb mb).begun = false →
      (s.mb mb).datagram = none →
      exec (.commandComplete mb) s = .next (s.beside fun s => s.respond mb r.status r.payload)) ∧
    (∀ t n, earlierOf s.openTransfers = some (t, n) →
      exec .transferTimeout s = .next (s.beside fun s => (s.advance (t - s.ticks)).dropLoad n)) ∧
    (∀ x, s.firstSession = some x →
      exec .sessionExpired s = .next (s.beside fun s => ((s.advance (x.last + msTicks (1000 * x.idle) - s.ticks)).onHost fun h =>
        { h with sessions := h.sessions.filter fun y => y.id != x.id }).raise 54)) ∧
    (∀ x, s.host.safe = some x → exec .safeSessionExpired s = .next (s.beside fun s =>
      (((s.advance (x.last + msTicks 600000 - s.ticks)).onHost fun h =>
        { h with safe := none, restricted := false, staged := none, stagedSeal := false }).change 0x0003 0 (Link.code x.link)
          0xFF 1 []).raise 54)) ∧
    exec .lockoutEnd s = .next (s.beside fun s => s.advance (s.host.lockedTill - s.ticks)) ∧
    (∀ (p : Fin 64) (k : IpPacket) (d : List Byte) (n : Nat), s.host.mgmtOn = true → s.host.mgmtPorts.getLsbD p = true →
      s.link p = linkUp → s.get Reg.PORT_STATUS_PERSONALITY p = 1 → k.ipv6 = false → k.fragment = false →
      k.dest.toNat = s.host.mgmtIp → k.udp.toNat = 41690 → d = k.payload → s.datagramAuth d = true → n = uAt d 3 1 → n < 32 →
      uAt d 4 8 / 2 ^ 32 = s.flash.bootEpoch % 2 ^ 32 → s.host.lastNumber.get 0 (uAt d 2 1) ≤ uAt d 4 8 % 2 ^ 32 →
      s.mbState n = 0 ∨ s.mbState n = 3 → s.mayRing .mgmtnet n = true →
      exec (.managementDatagram p k) s = .next (s.beside fun s =>
        ((((s.onHost fun h => { h with lastNumber := h.lastNumber.put 0 (uAt d 2 1) (uAt d 4 8 % 2 ^ 32 + 1) }).onMb n fun m =>
          { m with bytes := m.bytes.putAll 0 0 (((d.drop 16).take (d.length - 48)).take 4096) }).ring .mgmtnet n).onMb n fun m =>
            { m with datagram := some (uAt d 2 1, uAt d 4 8), before := some (s.mb n).bytes }))) ∧
    (∀ (p : Fin 64) (k : IpPacket), k.ipv6 = true ∨ k.fragment = true ∨ k.udp.toNat ≠ 41690 ∨ k.dest.toNat ≠ s.host.mgmtIp →
      exec (.managementDatagram p k) s = .next s) ∧
    (exec (.pcieLinkReset 2) s = .next (s.beside fun s =>
      (s.onHost fun h => { h with linkUp := false, msixOn := false, pcie := { h.pcie with gen := 0, width := 0 } }).raise 52)) ∧
    (∀ k : Fin 3, k.val ≠ 2 → s.host.linkUp = true → exec (.pcieLinkReset k) s = .next (s.beside fun s =>
      (s.raise 51).onHost fun h => { h with linkUp := false, msixOn := false, pcie := { h.pcie with gen := 0, width := 0 } })) ∧
    (∀ (gen : Fin 4) (lanes : Fin 3) (bar0 bar2 : Word64) (msix d3hot : Bool), s.host.linkUp = false →
      exec (.pcieLinkUp ⟨gen, lanes, bar0, bar2, msix, d3hot⟩) s = .next (s.beside fun s =>
        let u := ((s.setFlag Reg.CLK_STATUS_PCIE_REF_OK 0 true).raise 51).onHost fun h =>
          { h with linkUp := true, msixOn := msix, pcie := ⟨gen.val + 1, 2 ^ lanes.val, bar0.toNat, bar2.toNat, d3hot⟩ }
        { u with outbox := .pcieConfig u.pcieHeader :: u.outbox }))

/-- A 32-bit master reads the two halves of a point as they stood at its read of the low half. Formalises R22. -/
def Obligations.SplitReadIsTearless : Prop :=
  ∀ (s : State) (m : Master) (p : Nat) (a : BitVec 40), s.alive = true → p < 2 ^ 20 →
    a.toNat = (if m = .pcie then 8 * p else 0xE380000000 + 8 * p) → (m = .pcie → s.grantRight p ≠ 0) →
    exec (.splitReadLow m a) s = .next { s with
      readShadow := s.readShadow.put none (Master.num m) (some (pointKey p, s.point p)), bus := .data (s.point p % 2 ^ 32) } ∧
    (∀ v, s.readShadow.get none (Master.num m) = some (pointKey p, v) → exec (.splitReadHigh m a) s = .next { s with
      readShadow := s.readShadow.put none (Master.num m) none, bus := .data (v / 2 ^ 32) }) ∧
    ((∀ v, s.readShadow.get none (Master.num m) ≠ some (pointKey p, v)) →
      exec (.splitReadHigh m a) s = .next { s with bus := .data (s.point p / 2 ^ 32) })

/-- The two halves of a point write take effect together, and a lone half has none. Rests on 01_cell_and_cycle.md,
02_host_and_mailboxes.md. -/
def Obligations.HalvesCommitTogether : Prop :=
  ∀ (s : State) (m : Master) (p : Nat) (a : BitVec 40) (v : Word32), s.alive = true → p < 2 ^ 20 →
    a.toNat = (if m = .pcie then 8 * p else 0xE380000000 + 8 * p) → (m = .pcie → s.windowMay p = true) →
    (s.writeHeld.get none (Master.num m) = none ∨ (∃ l, s.writeHeld.get none (Master.num m) = some (pointKey p, l)) →
      exec (.pointHalfWriteLow m a v) s = .next { s with
        writeHeld := s.writeHeld.put none (Master.num m) (some (pointKey p, v.toNat)), bus := .done }) ∧
    (∀ k l, s.writeHeld.get none (Master.num m) = some (k, l) → k ≠ pointKey p →
      Completes (.pointHalfWriteLow m a v) s fun t => t.writeHeld.get none (Master.num m) = some (pointKey p, v.toNat) ∧
        t.get Reg.HALF_DROP_COUNT 0 = min (s.get Reg.HALF_DROP_COUNT 0 + 1) 0xFFFFFFFF ∧ t.points = s.points) ∧
    (∀ l, s.writeHeld.get none (Master.num m) = some (pointKey p, l) →
      exec (.pointHalfWriteHigh m a v) s = .next (s.beside fun s =>
        let u := { s with writeHeld := s.writeHeld.put none (Master.num m) none }
        if m = .pcie then (u.windowStore p (l + v.toNat * 2 ^ 32)).answer .done else u.writePoint m p (l + v.toNat * 2 ^ 32))) ∧
    ((∀ l, s.writeHeld.get none (Master.num m) ≠ some (pointKey p, l)) →
      Completes (.pointHalfWriteHigh m a v) s fun t =>
        t.get Reg.HALF_DROP_COUNT 0 = min (s.get Reg.HALF_DROP_COUNT 0 + 1) 0xFFFFFFFF ∧ t.points = s.points)

/-- BAR 2 checks each access: all ones without a read right, no effect without a write right, each refusal counted.
Formalises R89. -/
def Obligations.WindowAccessRules : Prop :=
  ∀ (s : State) (p : BitVec 20) (v : Word64), s.alive = true →
    (s.grantRight p.toNat = 0 → Completes (.windowRead p) s fun t => t.bus = .data (2 ^ 64 - 1) ∧ t.points = s.points ∧
      t.get Reg.WIN_DENIED_COUNT 0 = min (s.get Reg.WIN_DENIED_COUNT 0 + 1) 0xFFFF ∧
      t.get Reg.WIN_LAST_POINT 0 = p.toNat ∧ s.Signalled 50 t) ∧
    (∀ whole, whole = false ∨ s.windowMay p.toNat = false → Completes (.windowWrite p v whole) s fun t => t.points = s.points ∧
      t.get Reg.WIN_DENIED_COUNT 0 = min (s.get Reg.WIN_DENIED_COUNT 0 + 1) 0xFFFF ∧
      t.get Reg.WIN_LAST_POINT 0 = p.toNat ∧ s.Signalled 50 t) ∧
    (∀ c a, a.toNat = 8 * p.toNat → s.grantRight p.toNat = 0 → c = Instr.splitReadLow .pcie a ∨ c = .splitReadHigh .pcie a →
      Completes c s fun t => t.bus = .data (2 ^ 32 - 1) ∧ t.points = s.points ∧
        t.get Reg.WIN_DENIED_COUNT 0 = min (s.get Reg.WIN_DENIED_COUNT 0 + 1) 0xFFFF ∧
        t.get Reg.WIN_LAST_POINT 0 = p.toNat ∧ s.Signalled 50 t) ∧
    (∀ c a w, a.toNat = 8 * p.toNat → s.windowMay p.toNat = false →
      c = Instr.pointHalfWriteLow .pcie a w ∨ c = .pointHalfWriteHigh .pcie a w → Completes c s fun t => t.points = s.points ∧
        t.get Reg.WIN_DENIED_COUNT 0 = min (s.get Reg.WIN_DENIED_COUNT 0 + 1) 0xFFFF ∧
        t.get Reg.WIN_LAST_POINT 0 = p.toNat ∧ s.Signalled 50 t) ∧
    (s.grantRight p.toNat ≠ 0 → s.pointPoisoned p.toNat = false →
      exec (.windowRead p) s = .next { s with bus := .data (s.point p.toNat) }) ∧
    (s.windowMay p.toNat = true → s.pairSync = false → Completes (.windowWrite p v true) s fun t =>
      t.point p.toNat = v.toNat ∧ (∀ q, q ≠ p.toNat → t.point q = s.point q) ∧ t.regs = s.regs ∧ t.mem = s.mem)

/-- A read of a register answers what it shows and clears exactly its RC fields. Rests on 00_scope.md,
01_cell_and_cycle.md, 23_clocks_power_reset.md. -/
def Obligations.RegisterReadsClear : Prop :=
  ∀ (s : State) (m : Master) (a : BitVec 40) (r : RegAddr), s.alive = true → m ≠ .pcie → a.toNat % 4 = 0 →
    mgmtAddr a.toNat = some r → mboxBytes r = false → halfOf r = none →
    ¬ (r.dom = 3 ∧ r.unit = 2 ∧ 0x1000 ≤ r.off) → ¬ (r.dom = 4 ∧ r.unit = 0 ∧ r.off = 0x48) →
    ¬ (r.dom = 0 ∧ r.unit = 5 ∧ r.off = 0x108) →
    Completes (.rcRead m a 4) s fun t => t.bus = .data (s.regValue (RegAddr.home r)) ∧
      (∀ h ∈ regFields (RegAddr.home r), h.1.acc = .rc → t.get h.1 h.2 = 0) ∧
      (∀ f ∈ Reg.all, ∀ i, (f.acc = .rc → (f, i) ∉ regFields (RegAddr.home r)) → t.get f i = s.get f i) ∧
      ∃ g, t = { s with regs := g, bus := .data (s.regValue (RegAddr.home r)) }

/-- A write of a point by a master that may not write it changes no point, is counted and answers a bus error. Rests
on 01_cell_and_cycle.md, 07_joint_engines.md. -/
def Obligations.PointsHaveOneWriter : Prop :=
  ∀ (s : State) (m : Master) (p : BitVec 20) (v : Word64), s.alive = true → (∀ k, m ≠ .jce k) → m ≠ .pcie →
    ((safetyPoint p.toNat = true ∧ m ≠ .caldera) ∨ s.pointWriter p.toNat = .nobody →
      Completes (.pointWrite m p v) s fun t => t.points = s.points ∧ t.bus = .busError ∧
        t.get Reg.PT_DENIED_TOTAL_COUNT 0 = min (s.get Reg.PT_DENIED_TOTAL_COUNT 0 + 1) 0xFFFFFFFF ∧
        t.get Reg.PT_LAST_DENIED_POINT 0 = p.toNat ∧ t.mem = s.mem) ∧
    ((safetyPoint p.toNat = false ∨ m = .caldera) → s.pointWriter p.toNat ≠ .nobody →
      Completes (.pointWrite m p v) s fun t => t.point p.toNat = v.toNat ∧ (∀ q, q ≠ p.toNat → t.point q = s.point q) ∧
        t.bus = .done ∧ t.regs = s.regs ∧ t.mem = s.mem) ∧
    (∀ k : Fin 64, s.jownsPoint k p.toNat = true → Completes (.pointWrite (.jce k) p v) s fun t =>
      t.point p.toNat = v.toNat ∧ (∀ q, q ≠ p.toNat → t.point q = s.point q) ∧ t.regs = s.regs ∧ t.mem = s.mem)

/-- A register write takes effect where its master may write the register and its unit is powered. Rests on
00_scope.md, 01_cell_and_cycle.md, 02_host_and_mailboxes.md. -/
def Obligations.RegisterWriteRules : Prop :=
  ∀ (s : State) (m : Master) (a : BitVec 40) (r : RegAddr) (v : Word64), s.alive = true → m ≠ .pcie → a.toNat % 4 = 0 →
    mgmtAddr a.toNat = some r → mboxBytes r = false → halfOf r = none →
    ((s.mayWrite m r = false ∨ s.unpowered r = true) → exec (.registerWrite m a 4 v) s = .next { s with bus := .busError }) ∧
    (s.mayWrite m r = true → s.unpowered r = false → exec (.registerWrite m a 4 v) s = .next (s.beside fun s =>
      s.regWrite m r (v.toNat % 2 ^ 32))) ∧
    (∀ n < 256, a.toNat = 0xF001000000 + 8 * n → m = .ranger → Completes (.registerWrite m a 4 v) s fun t =>
      t.get Reg.EV_ROUTE_VECTOR n = v.toNat % 64 ∧ t.get Reg.EV_ROUTE_MSIX_EN n = v.toNat / 64 % 2 ∧
      t.get Reg.EV_ROUTE_RANGER_EN n = v.toNat / 128 % 2 ∧ t.get Reg.EV_ROUTE_CALDERA_EN n = v.toNat / 256 % 2 ∧
      t.get Reg.EV_ROUTE_CORE_MASK n = v.toNat / 65536 % 65536 ∧
      (∀ f i, i ≠ n ∨ f.id ∉ [Reg.EV_ROUTE_VECTOR.id, Reg.EV_ROUTE_MSIX_EN.id, Reg.EV_ROUTE_RANGER_EN.id,
        Reg.EV_ROUTE_CALDERA_EN.id, Reg.EV_ROUTE_CORE_MASK.id] → t.get f i = s.get f i) ∧
      ∃ g, t = { s with regs := g, bus := .done })

/-- EPOCH becomes 1 at P and W, steps on at D, at Z exit and at a HOST reset, and commands rung before are lost.
Formalises R54. -/
def Obligations.EpochCountsDeviceResets : Prop :=
  ∀ s : State,
    (∀ c, (c = .powerOnReset ∧ (∀ h, s.power.held = some h → h ≠ .p)) ∨
        (c = .warmReset ∧ ∀ h, s.power.held = some h → h ≠ .p ∧ h ≠ .w) →
      Completes c s fun t => t.get Reg.EPOCH 0 = 1 ∧ t.host.doorbells = [] ∧ ∀ n < 32, t.mbState n ≠ 1 ∧ t.mbState n ≠ 2) ∧
    (∀ e c, e = (if s.get Reg.EPOCH 0 = 0xFFFF then 1 else (s.get Reg.EPOCH 0 + 1) % 0x10000) →
        (c = .rangerWatchdog ∧ s.Runs ∧ s.boot.ranger.isSome = true) ∨
        ((∃ b, c = .dormantWake ⟨b, none⟩) ∧ s.power.dormant = true ∧ s.power.held = none) ∨
        (∃ mb : Fin 32, c = .sysReset mb ∧ s.Served mb 0x0105 ∧ uAt (s.cmdPayload mb) 0 1 = 1 ∧ uAt (s.cmdPayload mb) 1 1 = 1) →
      Completes c s fun t => t.get Reg.EPOCH 0 = e ∧ t.host.doorbells = [] ∧ ∀ n < 32, t.mbState n ≠ 1 ∧ t.mbState n ≠ 2)

/-- P, W, brown-out, loss of the crystal, thermal reset and loss of a core PLL hold the device in reset. Rests on
23_clocks_power_reset.md. -/
def Obligations.ResetsHoldTheDevice : Prop :=
  ∀ s : State,
    (s.Runs → ∀ c, (c = .powerOnReset ∨ c = .warmReset ∨ (∃ b, c = .brownout b) ∨ c = .clockLoss ∨
        (∃ t1 t2 t3 t4 : BitVec 16, c = .tempUpdate t1 t2 t3 t4 ∧ 16 * 125 ≤ max (max t1.toInt t2.toInt) (max t3.toInt t4.toInt)) ∨
        (∃ p : Fin 11, c = .pllUnlock p ∧ p ≠ 5 ∧ p ≠ 8 ∧ p ≠ 10) ∨ (∃ r : Fin 8, c = .railFault r ∧ r < 2)) →
      Completes c s fun t => t.alive = false ∧ t.power.held = some (if c = .powerOnReset then ResetLetter.p else ResetLetter.w) ∧
        t.mode.mode = .init ∧ t.pending = s.pending) ∧
    (∀ h straps prio banks q, s.power.held = some h → Completes (.resetRelease straps prio ⟨banks, q⟩) s fun t =>
      t.alive = true ∧ t.power.held = none ∧ t.ticks = s.ticks + usTicks 100 ∧ t.mode = s.mode ∧
        t.boot.straps = (if h = .p ∨ h = .w then straps else s.boot.straps) ∧
        t.boot.banks = (if h = .p then banks else s.boot.banks) ∧ t.pending = s.pending ∧
        (h = .p → banks.getLsbD 5 = false → t.get Reg.RAIL_STATUS_IN_RANGE 0 = 0x7F ∧ t.flag Reg.SAG_FLAGS_RAIL_FAULT 0 = true) ∧
        (h ≠ .p ∨ banks.getLsbD 5 = true → t.get Reg.RAIL_STATUS_IN_RANGE 0 = 0xFF)) ∧
    (∀ banks q, s.power.dormant = true → s.power.held = none → exec (.dormantWake ⟨banks, q⟩) s = .next (s.beside fun s =>
      let u := ({ s.deviceReset .z 10 with alive := true }).set Reg.RAIL_STATUS_IN_RANGE 0 0xFF
      State.bootRom (if banks = true then u else u.railFault 7) (q.map Fin.val))) ∧
    (s.power.held = some .p → ∀ c, c = .powerOnReset ∨ c = .warmReset → exec c s = .next s)

/-- A sag halves the clocks, a second warning extends it, and the clocks return in four steps after the hold. Rests on
23_clocks_power_reset.md. -/
def Obligations.SagGovernor : Prop :=
  ∀ s : State, s.alive = true →
    (∀ saw, s.power.sagFrom = none → Completes (.sagWarning saw) s fun t => t.get Reg.SAG_STATUS_RATE 0 = 4 ∧
      t.flag Reg.SAG_FLAGS_SAG_WARN 0 = true ∧ t.get Reg.SAG_COUNT_COUNT 0 = min (s.get Reg.SAG_COUNT_COUNT 0 + 1) 0xFFFFFFFF ∧
      t.flag (if saw then Reg.SAG_STATUS_WARN_SAW else Reg.SAG_STATUS_WARN_CORE) 0 = true ∧
      t.power.sagFrom = some s.ticks ∧ t.power.sagHold = none ∧ s.Signalled 0 t) ∧
    (∀ saw b, s.power.sagFrom = some b → Completes (.sagWarning saw) s fun t => t.get Reg.SAG_STATUS_RATE 0 = 4 ∧
      t.get Reg.SAG_COUNT_COUNT 0 = s.get Reg.SAG_COUNT_COUNT 0 ∧ t.flag Reg.SAG_STATUS_HOLDING 0 = false ∧
      t.power = { s.power with sagHold := none } ∧ t.outbox = s.outbox) ∧
    (s.power.sagFrom.isSome = true → s.power.sagHold = none → Completes .sagClear s fun t =>
      t.flag Reg.SAG_STATUS_HOLDING 0 = true ∧ t.flag Reg.SAG_STATUS_WARN_CORE 0 = false ∧
      t.flag Reg.SAG_STATUS_WARN_SAW 0 = false ∧ t.power = { s.power with sagHold := some s.ticks } ∧ t.mem = s.mem) ∧
    (∀ t0 e, s.power.sagHold = some t0 → s.flag Reg.SAG_STATUS_HOLDING 0 = true →
      e = t0 + usTicks (max 1 (s.get Reg.SAG_CFG_SAG_HOLD 0)) →
      exec .sagHoldEnd s = .next (s.beside fun s => ((s.advance (e - s.ticks)).set Reg.SAG_STATUS_HOLDING 0 0).onPower fun p =>
        { p with sagHold := some e })) ∧
    (∀ e b r, s.power.sagHold = some e → s.power.sagFrom = some b → s.flag Reg.SAG_STATUS_HOLDING 0 = false →
      s.get Reg.SAG_STATUS_RATE 0 = r → r < 7 → exec .sagRateStep s = .next (s.beside fun s =>
        (s.advance (e + usTicks (r - 3) - s.ticks)).set Reg.SAG_STATUS_RATE 0 (r + 1))) ∧
    (∀ e b, s.power.sagHold = some e → s.power.sagFrom = some b → s.flag Reg.SAG_STATUS_HOLDING 0 = false →
      s.get Reg.SAG_STATUS_RATE 0 = 7 → Completes .sagRateStep s fun t => t.get Reg.SAG_STATUS_RATE 0 = 8 ∧
        t.power.sagFrom = none ∧ t.power.sagHold = none ∧
        t.get Reg.SAG_MAX_US 0 = (max (s.get Reg.SAG_MAX_US 0) ((e + usTicks 4 - b) / 125)) % 2 ^ Reg.SAG_MAX_US.width)

/-- Temperatures, rails and clocks that do not reset the device set their status and raise their events, and INIT ends
in FAULT, IDLE or CONFIG. Rests on 23_clocks_power_reset.md, 13_caldera_io.md, 10_pwm.md, 24_boot_trust_debug.md,
04_operating_modes.md. -/
def Obligations.PowerEventsAndInit : Prop :=
  (
    ∀ s : State, s.alive = true →
      (∀ a b c d : BitVec 16, max (max a.toInt b.toInt) (max c.toInt d.toInt) < 16 * 125 →
        Completes (.tempUpdate a b c d) s fun t =>
          t.getS Reg.TEMP_JUNCTION 0 = max (max a.toInt b.toInt) (max c.toInt d.toInt) ∧
          (s.getS Reg.TEMP_JUNCTION 0 < 16 * 105 → 16 * 105 ≤ t.getS Reg.TEMP_JUNCTION 0 → s.Signalled 3 t) ∧
          (16 * 100 ≤ s.getS Reg.TEMP_JUNCTION 0 → t.getS Reg.TEMP_JUNCTION 0 < 16 * 100 → s.Signalled 3 t) ∧
          (s.getS Reg.TEMP_JUNCTION 0 < 16 * 115 → 16 * 115 ≤ t.getS Reg.TEMP_JUNCTION 0 → s.Signalled 4 t) ∧
          t.mode = s.mode ∧ t.power = s.power ∧ t.points = s.points ∧ t.mem = s.mem ∧ t.jce = s.jce) ∧
      Completes .pcieRefclkLoss s (fun t => t.flag Reg.CLK_STATUS_PCIE_REF_OK 0 = false ∧ t.flag Reg.CLK_FLAGS_PCIE_REF_LOST 0 = true ∧
        t.host.linkUp = false ∧ t.host.msixOn = false ∧ t.power = s.power ∧ t.mode = s.mode) ∧
      exec (.pllUnlock 10) s = .next (s.beside fun s =>
        (s.set Reg.CLK_STATUS_LOCK 0 (putBits (s.get Reg.CLK_STATUS_LOCK 0) 10 1 0)).raise 5) ∧
      (∀ k : Fin 3, k ≠ 2 → Completes (.pcieLinkReset k) s fun t => t.host.linkUp = false ∧ t.host.msixOn = false ∧
        t.host.mailboxes = s.host.mailboxes ∧ t.power = s.power ∧ (s.host.linkUp = true → s.Signalled 51 t)) ∧
      (∀ r : Fin 8, 3 ≤ r.val → exec (.railFault r) s = .next (s.beside fun s =>
        ((s.set Reg.RAIL_STATUS_IN_RANGE 0 (putBits (s.get Reg.RAIL_STATUS_IN_RANGE 0) r 1 0)).outputsReset.setFlag
          Reg.SAG_FLAGS_RAIL_FAULT 0 true).raise 2))) ∧ (
    ∀ (s : State) (ok : Bool), s.alive = true → s.mode.mode = .init → s.boot.ranger.isSome = true → s.rangerHalted = false →
      Completes (.initEnd ok) s fun t => (t.mode.mode = .fault ∨ t.mode.mode = .idle ∨ t.mode.mode = .config) ∧
        t.mode.previous = .init ∧ t.mode.reason = 0 ∧ (ok = false → t.mode.mode = .fault) ∧ t.alive = true ∧ t.pending = s.pending)

/-- Runs start where nothing forbids them and are refused, without effect on a run, where something does. Rests on
06_sawmill_runs.md, 01_cell_and_cycle.md. -/
def Obligations.RunsStartAndEnd : Prop :=
  ∀ (s : State) (n : Fin 8), s.alive = true →
    (s.cellRuns n = false → s.startBlocked n = false → exec (.runStart n) s = .next (s.beside fun s =>
      s.startRun n (s.tb 0) (s.tb 0 + 1000 * s.runParam n 12))) ∧
    (∀ u start deadline, u = s.startRun n start deadline → ∃ r, (u.inst n).run = some r ∧ r.start = start ∧ r.deadline = deadline ∧
      r.iters = 0 ∧ r.abort = false ∧ r.wrap = none ∧ r.overflows = 0 ∧ r.cold = (s.inst n).coldNext ∧ (u.inst n).coldNext = false) ∧
    ((s.cellRuns n = true ∨ s.startBlocked n = true) → exec (.runStart n) s = .next (s.set Reg.RUN_STATUS_START_REFUSED n 1)) ∧
    (∀ u, s.flag Reg.RUN_CTRL_TIMED n = true → s.cellRuns n = false →
      u = (if s.get Reg.START_AT_TIME n ≤ s.tb 0 then s.advance 1 else s.waitTb 0 (s.get Reg.START_AT_TIME n)).set Reg.RUN_CTRL_TIMED n 0 →
      exec (.timedStart n) s = .next (s.beside fun _ => if u.startBlocked n then u.set Reg.RUN_STATUS_START_REFUSED n 1
        else u.startRun n (u.tb 0) (u.tb 0 + 1000 * u.runParam n 12))) ∧
    (∀ u f, s.cellRuns 0 = true → f = s.tb 0 / 1000000 →
      s.wholeFrame = (if f * 1000000 + s.solveStartNs + 8 ≤ s.tb 0 ∨ (s.inst 0).lastFrame = some f then f + 1 else f) ∧
      (u = ((s.waitTb 0 (s.wholeFrame * 1000000 + s.solveStartNs)).onInst 0 fun i => { i with lastFrame := some s.wholeFrame }) →
      exec .wholeCellRunStart s = .next (s.beside fun _ =>
        if u.startBlocked 0 = false then u.startRun 0 (s.wholeFrame * 1000000) (s.wholeFrame * 1000000 + 900000)
        else (((((((u.set Reg.RUN_STATUS_START_REFUSED 0 1).set Reg.RUN_STATUS_OUTCOME 0 8).set Reg.RUN_STATUS_QUALITY 0 0).set
          Reg.RUN_FRAME_FRAME 0 s.wholeFrame).set Reg.RUN_STATUS_RESULT_CODE 0 0).set
            Reg.RUN_ITER_ITERATIONS 0 0).streak 8).statusPoints 0))) ∧
    (s.cellRuns n = false → exec (.runAbort n) s = .next (s.onRun n fun r => { r with abort := true })) ∧
    exec (.coldNext n) s = .next (s.onInst n fun i => { i with coldNext := true })

/-- The arithmetic schedule operations complete with the sums that chapter 5 gives them, and change nothing else.
Rests on 05_sawmill_structure.md. -/
def Obligations.SawmillArithmeticOperations : Prop :=
  ∀ (s : State) (t : Fin 8) (n : Nat) (w : BitVec 128) (v : State) (x : Supernode) (l : List SawElem), s.alive = true →
    s.sawWord t = some (n, w) → v = s.sawTake t n w (s.tile t).ready → x = v.snode n w → l = v.sawList t w →
    (sawOp w = 1 → exec (.sawGather t) s = .next (s.beside fun _ => State.sawNext
      (x.rows.zipIdx.foldl (fun u r => x.cols.zipIdx.foldl (fun u k =>
          u.factorSum t n (x.panel r.2 k.2) x.frac (u.kktTerms n r.1 k.1)) u)
        ((triangle x.cols.length).foldl (fun u e =>
          u.factorSum t n (x.diag e.1 e.2) x.frac (u.kktTerms n (x.cols.getD e.1 0) (x.cols.getD e.2 0))) v)) t n w)) ∧
    (sawOp w = 2 → exec (.sawFactor t) s = .next (s.beside fun _ =>
      ((List.range x.cols.length).foldl (fun u j => u.factorColumn t n x j) v).sawNext t n w)) ∧
    (sawOp w = 3 → exec (.sawPanel t) s = .next (s.beside fun _ =>
      ((List.range x.rows.length).foldl (fun u i => (List.range x.cols.length).foldl (fun u j =>
        State.factorSum (u.factorSum t n (x.panel i j) x.frac
            (u.factorGet t (x.panel i j) x.frac :: u.columnTerms t x.frac (x.panel i) (u.scaledRow t x j))) t n (x.panel i j) x.frac
          [FixNum.mul ((u.factorSum t n (x.panel i j) x.frac
              (u.factorGet t (x.panel i j) x.frac :: u.columnTerms t x.frac (x.panel i) (u.scaledRow t x j))).factorGet t (x.panel i j) x.frac)
            ⟨((u.factorSum t n (x.panel i j) x.frac
              (u.factorGet t (x.panel i j) x.frac :: u.columnTerms t x.frac (x.panel i) (u.scaledRow t x j))).reciprocal t (x.diag j j) x.frac).1,
              x.frac⟩]) u) v).sawNext t n w)) ∧
    (sawOp w = 4 → exec (.sawUpdate t) s = .next (s.beside fun _ =>
      State.sawNext (State.saturate (v.onTile t fun y => { y with update :=
        ⟨x.rows, x.frac, 0, (triangle x.rows.length).map fun e => BitVec.ofInt 32 (v.schur t x e.1 e.2).1⟩ }) n
          (((triangle x.rows.length).map fun e => v.schur t x e.1 e.2).map Prod.snd).sum) t n w)) ∧
    (sawOp w = 5 → exec (.sawScatter t) s = .next (s.beside fun _ =>
      (v.scatter t n x ((v.tile t).update.part (sawA w) (sawB w))).sawNext t n w)) ∧
    (sawOp w = 8 → exec (.sawFsolve t) s = .next (s.beside fun _ => State.sawNext
      (x.rows.zipIdx.foldl (fun u r => u.rhsSum n r.1 (u.rhsGet n r.1 ::
          x.cols.zipIdx.map fun k => ((u.factorGet t (x.panel r.2 k.2) x.frac).mul (u.rhsGet n k.1)).neg))
        (x.cols.zipIdx.foldl (fun u c => u.rhsSum n c.1 (u.rhsGet n c.1 ::
          (x.cols.take c.2).zipIdx.map fun k => ((u.factorGet t (x.diag c.2 k.2) x.frac).mul (u.rhsGet n k.1)).neg)) v)) t n w)) ∧
    (∀ back : State → Nat × Nat → State, (∀ u c, ∃ z, z = u.rhsDivide t n c.1 (x.diag c.2 c.2) x.frac ∧
        back u c = z.rhsSum n c.1 (z.rhsGet n c.1 ::
          ((x.cols.zipIdx.drop (c.2 + 1)).map (fun i => ((z.factorGet t (x.diag i.2 c.2) x.frac).mul (z.rhsGet n i.1)).neg) ++
            x.rows.zipIdx.map fun r => ((z.factorGet t (x.panel r.2 c.2) x.frac).mul (z.rhsGet n r.1)).neg))) →
      sawOp w = 9 → exec (.sawBsolve t) s = .next (s.beside fun _ => (x.cols.zipIdx.reverse.foldl back v).sawNext t n w)) ∧
    (sawOp w = 10 → exec (.sawVec t) s = .next (s.beside fun _ => (l.foldl (fun u e => u.vecOne t n e) v).sawNext t n w)) ∧
    (sawOp w = 11 → exec (.sawVdiv t) s = .next (s.beside fun _ => (l.foldl (fun u e => u.vdivOne t n e) v).sawNext t n w)) ∧
    (sawOp w = 12 → exec (.sawStep t) s = .next (s.beside fun _ =>
      (l.foldl (fun u e => u.ratioOne t n e) (l.foldl (fun u e => u.ratioFull t e) v)).sawNext t n w)) ∧
    ∀ (c : Instr) (keeps : Nat → Prop),
      (((c = .sawGather t ∧ sawOp w = 1) ∨ (c = .sawFactor t ∧ sawOp w = 2) ∨ (c = .sawPanel t ∧ sawOp w = 3) ∨
          (c = .sawUpdate t ∧ sawOp w = 4) ∨ (c = .sawScatter t ∧ sawOp w = 5) ∨ (c = .sawStep t ∧ sawOp w = 12)) ∧
        (∀ a, keeps a)) ∨
      (((c = .sawFsolve t ∧ sawOp w = 8) ∨ (c = .sawBsolve t ∧ sawOp w = 9)) ∧
        ∀ a, keeps a ↔ ∀ k f o, k ∈ x.cols ++ x.rows → blockAt (v.problemOf n).rhs k = some (f, o) →
          a < csramBase + o ∨ csramBase + o + 4 ≤ a) ∨
      ((c = .sawVec t ∧ sawOp w = 10) ∧
        ∀ a, keeps a ↔ ∀ o f m, .sum (.word o f) m ∈ l → a < csramBase + o ∨ csramBase + o + 4 ≤ a) ∨
      ((c = .sawVdiv t ∧ sawOp w = 11) ∧
        ∀ a, keeps a ↔ ∀ o f y z, .div (.word o f) y z ∈ l ∨ .root (.word o f) z ∈ l → a < csramBase + o ∨ csramBase + o + 4 ≤ a) →
      Completes c s fun u => (u.tile t).next = (v.tile t).next + 1 ∧ (u.tile t).sched = (v.tile t).sched ∧
        (u.tile t).lists = (v.tile t).lists ∧
        (∀ k, k ≠ t.val → (u.tile k).store = (v.tile k).store ∧ (u.tile k).scalars = (v.tile k).scalars ∧
          (u.tile k).update = (v.tile k).update ∧ (u.tile k).sched = (v.tile k).sched ∧
          (u.tile k).next = (v.tile k).next ∧ (u.tile k).buffer = (v.tile k).buffer) ∧
        u.points = s.points ∧ (∀ a, keeps a → u.mem.get 0 a = s.mem.get 0 a) ∧
        (∀ f i, f.id ≠ Reg.HOST_PEND_PEND.id → f.id ≠ Reg.EV_MERGED_COUNT.id → f.id ≠ Reg.AC_PEND_PEND.id →
          u.get f i = v.get f i) ∧
        ∃ tl il g h o m e, u = { v with
          pending := s.pending, tiles := tl, insts := il, regs := g, host := { v.host with msixPending := h }, outbox := o, mem := m,
          memErr := e }

/-- The schedule operations that move blocks, wait and end, and the ends of runs, as chapters 5 and 6 say. Rests on
05_sawmill_structure.md, 06_sawmill_runs.md, 19_redundant_pair.md. -/
def Obligations.SawmillControlOperations : Prop :=
  ∀ (s : State) (t : Fin 8), s.alive = true →
    (∀ n w v, s.sawWord t = some (n, w) → sawOp w = 6 → v = s.sawTake t n w (s.tile t).ready →
      ((s.tile (sawW w % 8)).buffer.map fun b => b.pack.values.length).sum + sawB w ≤ 16384 → exec (.sawSend t) s = .next (s.beside fun _ =>
      (v.onTile (sawW w % 8) fun x => { x with
        buffer := x.buffer ++ [⟨t, sawR w, (v.tile t).ready, (v.tile t).update.part (sawA w) (sawB w)⟩] }).sawNext t n w)) ∧
    (∀ n w, s.sawWord t = some (n, w) → sawOp w = 6 →
      16384 < ((s.tile (sawW w % 8)).buffer.map fun b => b.pack.values.length).sum + sawB w → exec (.sawSend t) s = .next s) ∧
    (∀ n w, s.sawWord t = some (n, w) → sawOp w = 7 → s.blockHere t w = none →
      exec (.sawWait t) s = .next (s.onTile t fun x => { x with wait := .block (sawW w % 8) (sawR w) })) ∧
    (∀ n w b v, s.sawWord t = some (n, w) → sawOp w = 7 → s.blockHere t w = some b →
      v = s.sawTake t n w (max (s.tile t).ready b.arrival) → b ∈ (s.tile t).buffer ∧ b.peer = sawW w % 8 ∧ b.tag = sawR w ∧
      exec (.sawWait t) s = .next (s.beside fun _ => ((v.scatter t n (v.snode n w) b.pack).onTile t fun x =>
        { x with buffer := x.buffer.erase b }).sawNext t n w)) ∧
    (∀ i k n w b u v, (s.tile t).wait = .block i k → u = (s.onTile t fun x => { x with wait := .nothing }) →
      u.sawWord t = some (n, w) → u.blockHere t w = some b → v = u.sawTake t n w (max (u.tile t).ready b.arrival) →
      exec (.sawWaitComplete t) s = .next (s.beside fun _ => ((v.scatter t n (v.snode n w) b.pack).onTile t fun x =>
        { x with buffer := x.buffer.erase b }).sawNext t n w)) ∧
    (∀ n w u, s.sawWord t = some (n, w) → sawOp w = 13 → u = (s.onTile t fun x => { x with wait := .reduce }) →
      u.allWait n .reduce = false → exec (.sawReduce t) s = .next u) ∧
    (∀ n w u, s.sawWord t = some (n, w) → sawOp w = 13 → u = (s.onTile t fun x => { x with wait := .reduce }) →
      u.allWait n .reduce = true → exec (.sawReduce t) s = .next (s.beside fun _ =>
        (((u.sawList t w).take 8).foldl (fun s e => s.combineOne n e) u).allNext n)) ∧
    (∀ n k f how v, v = s.combined n k f how → s.combineOne n (.combine k f how) =
      State.saturate ((s.instTiles n).foldl (fun u t => u.sawTarget t (.scalar k f) v.1) s) n v.2) ∧
    (∀ n w, s.sawWord t = some (n, w) → sawOp w = 14 →
      exec (.sawBarrier t) s = .next (s.onTile t fun x => { x with wait := .barrier })) ∧
    (∀ (n : Fin 8) r, (s.inst n).run = some r → r.wrap = none → s.allWait n .barrier = true → s.instTiles n ≠ [] →
      exec (.sawBarrierComplete n) s = .next (s.beside fun _ => (s.instTiles n).foldl (fun u t =>
        match (u.tile t).sched[(u.tile t).next]? with
        | some w => (u.sawTake t n w (s.lastReady n)).sawNext t n w
        | none => u) s)) ∧
    (∀ n w u r, s.sawWord t = some (n, w) → sawOp w = 15 →
      u = ((s.sawTake t n w (s.tile t).ready).onTile t fun x => { x with next := 0, ends := x.ends + 1 }) →
      (u.inst n).run = some r → u.allEnded n (r.iters + 1) = false → exec (.sawEnd t) s = .next (s.beside fun _ => u.checkpoint n)) ∧
    (∀ n w u r it best, s.sawWord t = some (n, w) → sawOp w = 15 →
      u = ((s.sawTake t n w (s.tile t).ready).onTile t fun x => { x with next := 0, ends := x.ends + 1 }) →
      (u.inst n).run = some r → u.allEnded n (r.iters + 1) = true → it = u.iterate n (r.iters + 1) →
      best = (match r.prefixes with | b :: _ => betterIterate b it | [] => it) →
      exec (.sawEnd t) s = .next (s.beside fun _ => State.endTests (u.onRun n fun q =>
        { q with iters := q.iters + 1, latest := it, prefixes := (best :: q.prefixes).take 4 }) n)) ∧
    (∀ n w, s.sawWord t = some (n, w) → sawOp w = 0 ∨ 15 < sawOp w →
      exec (.schedFault t) s = .next (s.beside fun s => (s.wrapUp n 7).onTile t fun x => { x with halted := true })) ∧
    (∀ (n : Fin 8) r o v, (s.inst n).run = some r → r.wrap = some o → r.sent = none → v = s.waitTill ((r.wrapEnd + 5039) / 5040) →
      v.pairSync = false → exec (.wrapUpEnd n) s = .next (s.beside fun _ => v.publishOwn n o r false)) ∧
    (∀ (n : Fin 8) r o v u, (s.inst n).run = some r → r.wrap = some o → r.sent = none → v = s.waitTill ((r.wrapEnd + 5039) / 5040) →
      v.pairSync = true → u = v.out (.twin (.solve (v.get Reg.CYCLE_NUM_NUMBER 0) n r.iters o)) →
      exec (.wrapUpEnd n) s = .next (s.beside fun _ =>
        if 5 < o then u.publishOwn n o r false
        else match r.partner with
          | some p => u.publishPair n o r p.1 p.2
          | none => u.onRun n fun r => { r with sent := some u.ticks })) ∧
    (∀ (n : Fin 8) r o (k : Word16) (oc : Fin 16), (s.inst n).run = some r → r.wrap = some o → r.sent.isSome = true →
      exec (.pairExchange n k oc) s = .next (s.beside fun s => s.publishPair n o r k.toNat oc)) ∧
    (∀ (n : Fin 8) r (k : Word16) (oc : Fin 16), (s.inst n).run = some r → r.wrap = none →
      exec (.pairExchange n k oc) s = .next (s.onRun n fun r => { r with partner := some (k.toNat, oc.val) })) ∧
    (∀ (n : Fin 8) r o b, (s.inst n).run = some r → r.wrap = some o → r.sent = some b →
      exec (.pairExchangeTimeout n) s = .next (s.beside fun s => (s.waitTill (b + 2500)).publishOwn n o r true)) ∧
    (∀ (n : Fin 8) p, (s.inst n).loading = true → s.problem n = some p →
      exec (.scheduleLoadDone n) s = .next (s.beside fun s =>
        ((s.instTiles n).zipIdx).foldl (fun s e =>
          ((s.setFlag Reg.TILE_STATUS_SCHED_VALID e.1 true).set Reg.TILE_STATUS_SCHED_KIB e.1 (p.kib.getD e.2 0)).onTile e.1
            fun x => { x with sched := p.words.getD e.2 [], lists := p.lists.getD e.2 [], next := 0 })
          (s.onInst n fun i => { i with loading := false })))

/-- The delta queue is a ring that keeps its order, drops what exceeds it, and applies records one by one. Rests on
05_sawmill_structure.md. -/
def Obligations.DeltaQueue : Prop :=
  ∀ (s : State) (q : Fin 8) (m : Master) (v : Word64) (c : Instr), s.alive = true → c = .dqPush m q v ∨ c = .dqBurst m q v →
    (∀ p o, s.parked = false → s.problem q = some p → (s.inst q).level < 131072 →
      o = csramBase + 0x1800000 + q * 0x100000 + 8 * (((s.inst q).head + (s.inst q).level) % 131072) → Completes c s fun t =>
      (t.inst q).level = (s.inst q).level + 1 ∧ (t.inst q).head = (s.inst q).head ∧
        (∀ i : Fin 8, t.mem.get 0 (o + i) = BitVec.ofNat 8 (v.toNat / 256 ^ i.val)) ∧
        (∀ a, a < o ∨ o + 8 ≤ a → t.mem.get 0 a = s.mem.get 0 a) ∧ (∀ k, k ≠ q.val → t.inst k = s.inst k) ∧ t.bus = .done ∧
        t.get Reg.DQ_LEVEL_LEVEL q = ((s.inst q).level + 1) % 2 ^ Reg.DQ_LEVEL_LEVEL.width ∧ t.points = s.points) ∧
    (∀ p, s.parked = false → s.problem q = some p → 131072 ≤ (s.inst q).level → Completes c s fun t =>
      (t.inst q).level = (s.inst q).level ∧ t.mem = s.mem ∧ (t.inst q).lost = true ∧ t.flag Reg.DQ_FLAGS_DELTA_LOST q = true ∧
        t.get Reg.DQ_DROP_COUNT q = min (s.get Reg.DQ_DROP_COUNT q + 1) (2 ^ Reg.DQ_DROP_COUNT.width - 1) ∧ s.Signalled 124 t) ∧
    (s.parked = true → exec c s = .next { s with bus := .busError }) ∧
    ((s.inst q).run = none → s.parked = false → s.twin.cut = none → 0 < (s.inst q).level →
      exec (.recordApply q) s = .next (s.beside fun s =>
        ((s.onInst q fun i => { i with head := (i.head + 1) % 131072, level := i.level - 1 }).applyRecord q
          (BitVec.ofNat 64 (leNat (s.memGet (csramBase + 0x1800000 + q * 0x100000 + 8 * ((s.inst q).head % 131072)) 8)))).showDq q)) ∧
    (∀ p e new, s.problem q = some p → e = v.toNat % 2 ^ 24 → s.content.entryValid p e = true → v.getLsbD 30 = false →
      new = (if v.getLsbD 29 then (sat32 (s.sramGet (entryOff p e) + (convertRecord v.toNat (entryFrac p e)).1)).1
        else (convertRecord v.toNat (entryFrac p e)).1) →
      (s.applyRecord q v).mem = s.mem.putAll 0 (csramBase + entryOff p e) (leBytes 4 (ofS 32 new)) ∧
      ((s.applyRecord q v).inst q).applied = (s.inst q).applied + 1 ∧ (s.applyRecord q v).points = s.points) ∧
    ((s.inst q).run.isSome = true ∨ s.parked = true ∨ (s.inst q).level = 0 → exec (.recordApply q) s = .next s)

/-- The cycle start, the common instant and the frame start come at their multiples of TB0 and do what chapters 1, 4
and 17 give them. Rests on 01_cell_and_cycle.md, 04_operating_modes.md, 17_geyser.md, 09_position_feedback.md. -/
def Obligations.CycleCommands : Prop :=
  ∀ s : State, s.alive = true →
    exec .frameStart s = .next (s.beside fun s =>
      let u := State.selectBanks ((s.waitTb 0 (s.nextMultiple 1000000 s.star.frame * 1000000)).onStar fun t =>
        { t with frame := some (s.nextMultiple 1000000 s.star.frame) })
      if u.mode.mode = .run then (List.range 256).foldl (fun u x =>
          if (u.ax x).enabled && (u.ax x).traj && decide ((u.ax x).reaction = 0) && !(u.ax x).disabling && (u.ax x).homing.isNone
            && !(u.ax x).stayed
          then u.onAx x fun a => { a with following := true } else u) u
      else u) ∧
    (∀ n, n = (match s.star.last with
        | some l => if s.star.common = some l then l + 1 else l
        | none => s.nextMultiple s.cycleNs s.star.common) →
      exec .commonInstant s = .next (s.beside fun s =>
        let u := (s.waitTb 0 (n * s.cycleNs + (match s.cell with
          | some c => 8 * c.ciOffset
          | none => 0))).onStar fun t => { t with common := some n }
        let v := u.fbCommon.pwmCommon u.fbCommon.fineNow (u.fbCommon.cycleFine (u.fbCommon.get Reg.STAR_CFG_CYCLE 0))
        let w := (List.range 64).foldl (fun w i =>
            if w.bound (192 + i) then w.onAx (192 + i) fun a =>
              { a with velN := w.param (192 + i) 0x50 - 1, posN := w.param (192 + i) 0x51 - 1 } else w)
          ((List.range 32).foldl (fun w k => w.onAx (224 + k) fun a =>
            { a with snapPos := w.axisPos (224 + k), snapVel := w.axisSpeed (224 + k) }) v)
        if w.flag Reg.INST_CFG_CELL 0 && n * w.cycleNs % 1000000 == 0 then w.sampleState n else w) ∧
      (s.flag Reg.INST_CFG_CELL 0 = false → Completes .commonInstant s fun t => t.points = s.points ∧ t.mem = s.mem ∧
        t.insts = s.insts ∧ t.mode = s.mode ∧ t.tiles = s.tiles ∧ t.star.common = some n)) ∧
    (∀ n, n = s.nextMultiple s.cycleNs s.star.last → exec .cycleStart s = .next (s.beside fun s =>
      let a := s.waitTb 0 (n * s.cycleNs)
      let b := (if a.pairOn then a.onTwin fun t =>
        { t with digests := ((a.get Reg.CYCLE_NUM_NUMBER 0, a.cycleDigest) :: t.digests).take 4 } else a).starCycle
      let c := State.starJoins ((b.set Reg.CYCLE_NUM_NUMBER 0 n).onStar fun t => { t with last := some n, start := n * b.cycleNs })
      let d := State.applyWaiting (if c.pairOn then c.compareDigests.pairCycle n else c) n
      if d.alive = false then d
      else
        let e := d.resyncCheck.modeCycle.torqueCycle
        ((if e.starRuns then e.beacons else e).sendCycle n a.cycleDigest).standbyLost))

/-- The arithmetic instructions of an engine write the result and the flags of their row and go on to the next word.
Rests on 07_joint_engines.md. -/
def Obligations.JceArithmeticInstructions : Prop :=
  ∀ (s : State) (k : Fin 64) (w : Nat), s.alive = true → s.JceSound k → w = s.jword k →
    (s.jfetched k 0x10 = true → exec (.jceAdd k) s = .next (s.beside fun s =>
      ((s.jput k (jceD w) ((s.jd k (jceA w)) + (s.jd k (jceB w)))).jaddFlags k (s.jd k (jceA w)) (s.jd k (jceB w))).jnext k)) ∧
    (s.jfetched k 0x11 = true → exec (.jceSub k) s = .next (s.beside fun s =>
      ((s.jput k (jceD w) ((s.jd k (jceA w)) - (s.jd k (jceB w)))).jsubFlags k (s.jd k (jceA w)) (s.jd k (jceB w))).jnext k)) ∧
    (s.jfetched k 0x12 = true → exec (.jceAddi k) s = .next (s.beside fun s =>
      ((s.jput k (jceD w) ((s.jd k (jceA w)) + BitVec.ofInt 32 (jceK w))).jaddFlags k (s.jd k (jceA w)) (BitVec.ofInt 32 (jceK w))).jnext k)) ∧
    (s.jfetched k 0x13 = true → exec (.jceAnd k) s = .next (s.beside fun s =>
      ((s.jputZn k (jceD w) ((s.jd k (jceA w)) &&& (s.jd k (jceB w)))).jv k false).jnext k)) ∧
    (s.jfetched k 0x14 = true → exec (.jceOr k) s = .next (s.beside fun s =>
      ((s.jputZn k (jceD w) ((s.jd k (jceA w)) ||| (s.jd k (jceB w)))).jv k false).jnext k)) ∧
    (s.jfetched k 0x15 = true → exec (.jceXor k) s = .next (s.beside fun s =>
      ((s.jputZn k (jceD w) ((s.jd k (jceA w)) ^^^ (s.jd k (jceB w)))).jv k false).jnext k)) ∧
    (s.jfetched k 0x16 = true → exec (.jceShl k) s = .next (s.beside fun s =>
      (s.jputZn k (jceD w) ((s.jd k (jceA w)) <<< bitsOf w 0 5)).jnext k)) ∧
    (s.jfetched k 0x17 = true → exec (.jceShra k) s = .next (s.beside fun s =>
      (s.jputZn k (jceD w) ((s.jd k (jceA w)).sshiftRight (bitsOf w 0 5))).jnext k)) ∧
    (s.jfetched k 0x18 = true → exec (.jceShrl k) s = .next (s.beside fun s =>
      (s.jputZn k (jceD w) ((s.jd k (jceA w)) >>> bitsOf w 0 5)).jnext k)) ∧
    (s.jfetched k 0x19 = true → exec (.jceMin k) s = .next (s.beside fun s =>
      (s.jputZn k (jceD w) (if (s.jd k (jceA w)).sle (s.jd k (jceB w)) then (s.jd k (jceA w)) else (s.jd k (jceB w)))).jnext k)) ∧
    (s.jfetched k 0x1A = true → exec (.jceMax k) s = .next (s.beside fun s =>
      (s.jputZn k (jceD w) (if (s.jd k (jceA w)).sle (s.jd k (jceB w)) then (s.jd k (jceB w)) else (s.jd k (jceA w)))).jnext k)) ∧
    (s.jfetched k 0x1B = true → (s.jd k (jceA w)) ≠ 0x80000000#32 → exec (.jceAbs k) s = .next (s.beside fun s =>
      (s.jputZn k (jceD w) (if (s.jd k (jceA w)).msb then -(s.jd k (jceA w)) else (s.jd k (jceA w)))).jnext k)) ∧
    (s.jfetched k 0x1B = true → (s.jd k (jceA w)) = 0x80000000#32 → exec (.jceAbs k) s = .next (s.beside fun s =>
      ((s.jputZn k (jceD w) 0x7FFFFFFF#32).jsat k true).jnext k)) ∧
    (s.jfetched k 0x1C = true → (s.jd k (jceA w)) ≠ 0x80000000#32 → exec (.jceNeg k) s = .next (s.beside fun s =>
      (s.jputZn k (jceD w) (-(s.jd k (jceA w)))).jnext k)) ∧
    (s.jfetched k 0x1C = true → (s.jd k (jceA w)) = 0x80000000#32 → exec (.jceNeg k) s = .next (s.beside fun s =>
      ((s.jputZn k (jceD w) 0x7FFFFFFF#32).jsat k true).jnext k)) ∧
    (s.jfetched k 0x1D = true → exec (.jceCmp k) s = .next (s.beside fun s =>
      (s.jsubFlags k (s.jd k (jceA w)) (s.jd k (jceB w))).jnext k)) ∧
    (s.jfetched k 0x1E = true → exec (.jceCmpi k) s = .next (s.beside fun s =>
      (s.jsubFlags k (s.jd k (jceA w)) (BitVec.ofInt 32 (jceK w))).jnext k)) ∧
    (s.jfetched k 0x1F = true → exec (.jceMovis k) s = .next (s.beside fun s =>
      (s.jput k (jceD w) (BitVec.ofInt 32 (toS 16 w))).jnext k)) ∧
    (s.jfetched k 0x20 = true → exec (.jceMovih k) s = .next (s.beside fun s =>
      (s.jput k (jceD w) (BitVec.ofNat 32 (putBits (s.jd k (jceD w)).toNat 16 16 (bitsOf w 0 16)))).jnext k)) ∧
    (∀ v, s.jfetched k 0x21 = true → v = minS (maxS (s.jd k (jceD w)) (s.jd k (jceA w))) (s.jd k (jceB w)) → exec (.jceClamp k) s = .next (s.beside fun s =>
      ((s.jputZn k (jceD w) v).jv k (v != s.jd k (jceD w))).jnext k))

/-- The load, store and address-register instructions of an engine move the words their row names. Rests on
07_joint_engines.md. -/
def Obligations.JceMemoryInstructions : Prop :=
  ∀ (s : State) (k : Fin 64) (w : Nat), s.alive = true → s.JceSound k → w = s.jword k →
    (s.jfetched k 0x28 = true → exec (.jceLd k) s = .next (s.beside fun s =>
      ((s.jput k (jceD w) (s.jload k (s.jea k w))).jeaPost k w).jnext k)) ∧
    (s.jfetched k 0x29 = true → exec (.jceSt k) s = .next (s.beside fun s =>
      ((s.jstore k (s.jea k w) (s.jd k (jceD w))).jeaPost k w).jnext k)) ∧
    (∀ u, s.jfetched k 0x2A = true → u = (s.jput k (jceD w) (s.jload k (s.ja k (bitsOf w 15 3)))).jpost k (bitsOf w 15 3) (bitOf w 11) → exec (.jceLd2 k) s = .next (s.beside fun _ =>
      ((u.jput k (jceA w) (u.jload k (u.ja k (bitsOf w 12 3)))).jpost k (bitsOf w 12 3) (bitOf w 10)).jnext k)) ∧
    (s.jfetched k 0x2B = true → exec (.jceLdd k) s = .next (s.beside fun s =>
      (((s.jput k (jceD w) (s.jload k (s.jea k w))).jput k (jceD w + 1) (s.jload k (s.jea k w + 1))).jeaPost k w).jnext k)) ∧
    (s.jfetched k 0x2C = true → exec (.jceStd k) s = .next (s.beside fun s =>
      (((s.jstore k (s.jea k w) (s.jd k (jceD w))).jstore k (s.jea k w + 1) (s.jd k (jceD w + 1))).jeaPost k w).jnext k)) ∧
    (s.jfetched k 0x2D = true → ((arRange (bitsOf w 24 2)).1 ≤ s.setarValue k w ∧ s.setarValue k w ≤ (arRange (bitsOf w 24 2)).2) → exec (.jceSetar k) s = .next (s.beside fun s =>
      (s.putAr k (bitsOf w 24 2) (bitsOf w 21 3) (s.setarValue k w)).jnext k)) ∧
    (s.jfetched k 0x2D = true → s.setarValue k w < (arRange (bitsOf w 24 2)).1 → exec (.jceSetar k) s = .next (s.beside fun s =>
      ((s.putAr k (bitsOf w 24 2) (bitsOf w 21 3) (arRange (bitsOf w 24 2)).1).jv k true).jnext k)) ∧
    (s.jfetched k 0x2D = true → (arRange (bitsOf w 24 2)).2 < s.setarValue k w → exec (.jceSetar k) s = .next (s.beside fun s =>
      ((s.putAr k (bitsOf w 24 2) (bitsOf w 21 3) (arRange (bitsOf w 24 2)).2).jv k true).jnext k)) ∧
    (s.jfetched k 0x2E = true → exec (.jceGetar k) s = .next (s.beside fun s =>
      (s.jput k (jceD w) (BitVec.ofInt 32 (s.arField k (bitsOf w 20 2) (bitsOf w 17 3)))).jnext k))

/-- The flow instructions of an engine go where their row says, and trap where their rules say. Rests on
07_joint_engines.md, 24_boot_trust_debug.md. -/
def Obligations.JceFlowInstructions : Prop :=
  ∀ (s : State) (k : Fin 64) (w : Nat), s.alive = true → s.JceSound k → w = s.jword k →
    (s.jfetched k 0x00 = true → exec (.jceNop k) s = .next (s.beside fun s =>
      s.jnext k)) ∧
    (s.jfetched k 0x01 = true → jceCond (s.eng k) (jceD w) = true → exec (.jceBr k) s = .next (s.beside fun s =>
      s.jjump k (((s.jpc k + 1 : Nat) + toS 12 w) % 4096).toNat)) ∧
    (s.jfetched k 0x01 = true → jceCond (s.eng k) (jceD w) = false → exec (.jceBr k) s = .next (s.beside fun s =>
      s.jnext k)) ∧
    (s.jfetched k 0x02 = true → exec (.jceJmp k) s = .next (s.beside fun s =>
      s.jjump k (bitsOf w 0 12))) ∧
    (s.jfetched k 0x03 = true → (s.eng k).rets.length < 8 → exec (.jceCall k) s = .next (s.beside fun s =>
      (s.onEng k fun e => { e with rets := ((s.jpc k + 1) % 4096) :: e.rets }).jgo k (bitsOf w 0 12))) ∧
    (s.jfetched k 0x03 = true → 8 ≤ (s.eng k).rets.length → exec (.jceCall k) s = .next (s.beside fun s =>
      s.jceTrapIn k 2)) ∧
    (∀ t r, s.jfetched k 0x04 = true → (s.eng k).rets = t :: r → exec (.jceRet k) s = .next (s.beside fun s =>
      (s.onEng k fun e => { e with rets := r }).jgo k t)) ∧
    (s.jfetched k 0x04 = true → (s.eng k).rets = [] → exec (.jceRet k) s = .next (s.beside fun s =>
      s.jceTrapIn k 2)) ∧
    (s.jfetched k 0x05 = true → (s.eng k).loops.length < 2 → s.loopCount k w ≠ 0 → exec (.jceLoop k) s = .next (s.beside fun s =>
      (s.onEng k fun e => { e with loops := ⟨(s.jpc k + 1) % 4096, bitsOf w 0 12, s.loopCount k w⟩ :: e.loops }).jgo k (s.jpc k + 1))) ∧
    (s.jfetched k 0x05 = true → (s.eng k).loops.length < 2 → s.loopCount k w = 0 → exec (.jceLoop k) s = .next (s.beside fun s =>
      s.jgo k (bitsOf w 0 12 + 1))) ∧
    (s.jfetched k 0x05 = true → 2 ≤ (s.eng k).loops.length → exec (.jceLoop k) s = .next (s.beside fun s =>
      s.jceTrapIn k 3)) ∧
    (s.jfetched k 0x07 = true → ((s.set Reg.SIG_LAST_N k (bitsOf w 0 8)).raise 66).flag Reg.JCE_NOTIFY_EN k = false → exec (.jceSigev k) s = .next (s.beside fun s =>
      (((s.set Reg.SIG_LAST_N k (bitsOf w 0 8)).raise 66)).jnext k)) ∧
    (s.jfetched k 0x08 = true → exec (.jceTrap k) s = .next (s.beside fun s =>
      (s.set Reg.JCE_STATE_TRAP_CODE k (bitsOf w 0 8)).jceTrapIn k 7)) ∧
    (s.jfetched k 0x09 = true → s.dbg.jcePort = true → exec (.jceEbreak k) s = .next (s.beside fun s =>
      s.jceDebugHalt k)) ∧
    (s.jfetched k 0x09 = true → s.dbg.jcePort = false → exec (.jceEbreak k) s = .next (s.beside fun s =>
      s.jceTrapIn k 8)) ∧
    (∀ c : Word32, s.jfetched k 0x06 = true → exec (.jceWaitev k c) s = .next (s.beside fun s =>
      let u := s.onEng k fun e => { e with waiting := some (bitsOf w 0 2), period := e.period && !bitOf w 0 }
      if (bitOf w 0 && (s.eng k).period) = true then
        (u.set Reg.BUSY_LAST_CYCLES k c.toNat).set Reg.BUSY_MAX_CYCLES k (max (s.get Reg.BUSY_MAX_CYCLES k) c.toNat)
      else u))

/-- The multiply-accumulate instructions of an engine change the accumulators and registers their row names. Rests on
07_joint_engines.md. -/
def Obligations.JceAccumulatorInstructions : Prop :=
  ∀ (s : State) (k : Fin 64) (w : Nat), s.alive = true → s.JceSound k → w = s.jword k →
    (s.jfetched k 0x38 = true → exec (.jceMac1 k) s = .next (s.beside fun s =>
      (s.jmac k (bitsOf w 24 2) (s.jd k (bitsOf w 20 4)) (s.jd k (bitsOf w 16 4)) (bitOf w 15) (bitOf w 14)).jnext k)) ∧
    (s.jfetched k 0x39 = true → exec (.jceMacq k) s = .next (s.beside fun s =>
      ((s.jquad k (bitsOf w 24 2) (s.jload k (s.ja k (bitsOf w 21 3))) (bitOf w 15) (bitOf w 14)).jpost k (bitsOf w 21 3) (bitOf w 20)).jnext k)) ∧
    (s.jfetched k 0x3A = true → exec (.jceMacqr k) s = .next (s.beside fun s =>
      (s.jquad k (bitsOf w 24 2) (s.jd k (bitsOf w 20 4)) (bitOf w 15) (bitOf w 14)).jnext k)) ∧
    (∀ u, s.jfetched k 0x3B = true → u = (s.jmac k (2 * bitsOf w 25 1) (s.jload k (s.ja k (bitsOf w 14 3))) (s.jd k (bitsOf w 21 4)) (bitOf w 8) (bitOf w 7)).jpost k (bitsOf w 14 3) (bitOf w 10) → exec (.jceMacd k) s = .next (s.beside fun _ =>
      ((u.jmac k (2 * bitsOf w 25 1 + 1) (u.jload k (u.ja k (bitsOf w 11 3))) (u.jd k (bitsOf w 17 4)) (bitOf w 8) (bitOf w 7)).jpost k (bitsOf w 11 3) (bitOf w 9)).jnext k)) ∧
    (s.jfetched k 0x3C = true → exec (.jceClra k) s = .next (s.beside fun s =>
      ((List.range 4).foldl (fun s i => if bitOf w i then s.jputAcc k i 0 else s) s).jnext k)) ∧
    (s.jfetched k 0x3D = true → exec (.jceWbacc k) s = .next (s.beside fun s =>
      (s.jwriteBack k (jceD w) (bitsOf w 20 2) (jceSh w) (bitOf w 13) (bitOf w 12)).jnext k)) ∧
    (s.jfetched k 0x3E = true → bitOf w 13 = true → exec (.jceWbq k) s = .next (s.beside fun s =>
      ((List.range 4).foldl (fun s i => s.jwriteBack k (4 * bitsOf w 24 2 + i) i (jceSh w) true (bitOf w 12)) s).jnext k)) ∧
    (s.jfetched k 0x3E = true → bitOf w 13 = false → exec (.jceWbq k) s = .next (s.beside fun s =>
      (((List.range 4).foldl (fun s i => s.jwriteBack k (4 * bitsOf w 24 2 + i) i (jceSh w) false (bitOf w 12)) s).jv k
        ((List.range 4).any fun i => satS 32 (s.jacc k i / (2 ^ jceSh w : Nat)) != s.jacc k i / (2 ^ jceSh w : Nat))).jnext k)) ∧
    (s.jfetched k 0x3F = true → exec (.jceLdacc k) s = .next (s.beside fun s =>
      (s.jputAcc k (bitsOf w 24 2) ((s.jpair k (bitsOf w 20 4)).toInt * (2 ^ jceSh w : Nat))).jnext k))

/-- The instructions of an engine that use its cluster port and its peripheral bus, and the port itself. Rests on
07_joint_engines.md, 01_cell_and_cycle.md. -/
def Obligations.JceSharedInstructions : Prop :=
  ∀ (s : State) (k : Fin 64) (w : Nat), s.alive = true → s.JceSound k → w = s.jword k →
    (s.jfetched k 0x30 = true → exec (.jcePtrd k) s = .next (s.beside fun s =>
      s.onEng k fun e => { e with reading := some { d := jceD w, point := s.jpoint k w, value := none } })) ∧
    (s.jfetched k 0x31 = true → s.jownsPoint k (s.jpoint k w) = true → (s.eng k).posted.length < 8 → exec (.jcePtwr k) s = .next (s.beside fun s =>
      (s.onEng k fun e => { e with posted := e.posted ++ [.point (s.jpoint k w) (s.jpair k (jceD w))] }).jnext k)) ∧
    (s.jfetched k 0x31 = true → s.jownsPoint k (s.jpoint k w) = false → exec (.jcePtwr k) s = .next (s.beside fun s =>
      (s.ptRefused k (s.jpoint k w)).jnext k)) ∧
    (s.jfetched k 0x31 = true → s.jownsPoint k (s.jpoint k w) = true → 8 ≤ (s.eng k).posted.length → exec (.jcePtwr k) s = .next (s.beside fun s =>
      s)) ∧
    (s.jfetched k 0x32 = true → (s.eng k).posted.length < 8 → exec (.jceDqpush k) s = .next (s.beside fun s =>
      (s.onEng k fun e => { e with posted := e.posted ++ [.delta (bitsOf w 16 3) (s.jpair k (jceD w))] }).jnext k)) ∧
    (∀ u, s.jfetched k 0x33 = true → s.jperiph k (bitsOf w 0 14) = some u → bitOf w 21 = false → exec (.jcePrd k) s = .next (s.beside fun s =>
      (((s.readClears (periphAddr u (bitsOf w 0 14))).jput k (jceD w)
        (BitVec.ofNat 32 (s.regValue (periphAddr u (bitsOf w 0 14)))))).jnext k)) ∧
    (∀ u a b, s.jfetched k 0x33 = true → s.jperiph k (bitsOf w 0 14) = some u → bitOf w 21 = true →
      a = periphAddr u (bitsOf w 0 14) → b = { a with off := a.off + 4 } →
      exec (.jcePrd k) s = .next (s.beside fun s =>
        let v := if wideReg a then s.regValue a else s.regValue a % 2 ^ 32 + s.regValue b % 2 ^ 32 * 2 ^ 32
        State.jnext (((if wideReg a then s.readClears a else (s.readClears a).readClears b).jput k (jceD w)
          (BitVec.ofNat 32 v)).jput k (jceD w + 1) (BitVec.ofNat 32 (v / 2 ^ 32))) k)) ∧
    (s.jfetched k 0x33 = true → s.jperiph k (bitsOf w 0 14) = none → exec (.jcePrd k) s = .next (s.beside fun s =>
      s.jceTrapIn k 6)) ∧
    (∀ t u, s.jfetched k 0x34 = true → s.jperiph k (bitsOf w 0 14) = some u →
      wideReg (periphAddr u (bitsOf w 0 14)) = false → bitOf w 21 = false → exec (.jcePwr k t) s = .next (s.beside fun s =>
        State.jnext { (s.motionWrite (.jce (Fin.ofNat 64 k)) (periphAddr u (bitsOf w 0 14)) (s.jd k (jceD w)).toNat t) with bus := s.bus } k)) ∧
    (∀ t u a, s.jfetched k 0x34 = true → s.jperiph k (bitsOf w 0 14) = some u → bitOf w 21 = true →
      a = periphAddr u (bitsOf w 0 14) → wideReg a = true → exec (.jcePwr k t) s = .next (s.beside fun s =>
        State.jnext { (s.motionWrite (.jce (Fin.ofNat 64 k)) a (s.jpair k (jceD w)).toNat t) with bus := s.bus } k)) ∧
    (∀ t u a b, s.jfetched k 0x34 = true → s.jperiph k (bitsOf w 0 14) = some u → bitOf w 21 = true →
      a = periphAddr u (bitsOf w 0 14) → wideReg a = false → b = { a with off := a.off + 4 } → (regFields b).isEmpty = false →
      exec (.jcePwr k t) s = .next (s.beside fun s =>
        let m : Master := .jce (Fin.ofNat 64 k)
        State.jnext { ((s.motionWrite m a ((s.jpair k (jceD w)).toNat % 2 ^ 32) t).motionWrite m b
          ((s.jpair k (jceD w)).toNat / 2 ^ 32) t) with bus := s.bus } k)) ∧
    (∀ t, s.jfetched k 0x34 = true → s.jperiph k (bitsOf w 0 14) = none →
      exec (.jcePwr k t) s = .next (s.beside fun s => s.jceTrapIn k 6)) ∧
    (∀ r v, s.jceRuns k = true → (s.eng k).reading = some r → r.value = some v →
      exec (.jcePtrdComplete k) s = .next (s.beside fun s =>
        (((s.jput k r.d (BitVec.ofNat 32 v.toNat)).jput k (r.d + 1) (BitVec.ofNat 32 (v.toNat / 2 ^ 32))).onEng k fun e =>
          { e with reading := none }).jnext k)) ∧
    (∀ (c : Fin 8) i, ((List.range 8).map fun i => (s.clusterLast.get 7 c + 1 + i) % 8).find?
        (fun i => s.portWork (8 * c + i)) = some i →
      exec (.clusterPortTransaction c) s = .next (s.beside fun s =>
        { (s.portGrant (8 * c + i)) with clusterLast := s.clusterLast.put 7 c i }))

/-- Starting, stopping, ticking, trapping and halting an engine, and its memories from outside. Rests on
07_joint_engines.md, 08_servo_kernel.md, 24_boot_trust_debug.md. -/
def Obligations.JceControlCommands : Prop :=
  ∀ (s : State) (k : Fin 64) (m : Master), s.alive = true →
    (s.JceSound k → s.jissues k = true → jceLegal (s.jword k) = false →
      exec (.illegalInstruction k) s = .next (s.beside fun s => s.jceTrapIn k 1)) ∧
    ((m = .ranger ∨ m = .debug) → s.get Reg.JCE_STATE_STATE k = 0 → (s.eng k).loaded = true →
      exec (.jceStart m k) s = .next (s.beside fun s => (s.jceArm k).answer .done)) ∧
    ((m = .ranger ∨ m = .debug) → exec (.jceStop m k) s = .next (s.beside fun s => (s.jceHaltIn k 0).answer .done)) ∧
    (m ≠ .ranger → m ≠ .debug → ∀ c v, c = Instr.jceStart m k ∨ c = .jceStop m k ∨ c = .indDataWrite m k v →
      exec c s = .next { s with bus := .busError }) ∧
    (∀ v u, m = .ranger → s.jceRuns k = false → s.flag Reg.IND_ADDR_SPACE k = false → u = s.set Reg.IND_DATA_DATA k v.toNat →
      u.flag Reg.IND_ADDR_SPACE k = false → u.jceRuns k = false →
      exec (.indDataWrite m k v) s = .next (s.beside fun _ =>
        (((u.healed (jmemKey k false (u.indAddr k)) 4).onEng k fun e =>
          { e with dmem := e.dmem.put 0 (u.indAddr k) v }).indAdvance k).answer .done)) ∧
    (∀ v u, m = .ranger → u = s.set Reg.IND_DATA_DATA k v.toNat → u.jceRuns k = true →
      exec (.indDataWrite m k v) s = .next (s.beside fun _ =>
        (State.indAdvance (if !u.flag Reg.IND_ADDR_SPACE k && decide (0x3000 ≤ u.indAddr k ∧ (u.eng k).stage.length < 64)
          then u.onEng k fun e => { e with stage := e.stage ++ [(u.indAddr k, v)] }
          else u.setFlag Reg.JCE_FLAGS_IND_REFUSED k true) k).answer .done)) ∧
    (∀ i, s.jfetched k 0 = true → ((List.range 4).find? fun i => s.poisonedAt (jmemKey k true (s.jpc k) + i)) = some i →
      exec (.jceNop k) s = .next (s.beside fun s =>
        s.tookFree.readPoisoned (.jceOwn (Fin.ofNat 64 k) true) (s.free % 32) (jmemKey k true (s.jpc k) + i) 4)) ∧
    (∀ i, s.jfetched k 0x28 = true → (∀ j < 4, s.memErr.get 0 (jmemKey k true (s.jpc k) + j) = 0) →
      ((List.range 4).find? fun i => s.poisonedAt (jmemKey k false (s.jea k (s.jword k) % 16384) + i)) = some i →
      exec (.jceLd k) s = .next (s.beside fun s =>
        s.tookFree.readPoisoned (.jceOwn (Fin.ofNat 64 k) false) (s.free % 32)
          (jmemKey k false (s.jea k (s.jword k) % 16384) + i) 4)) ∧
    (s.JceSound k → exec (.indDataRead k) s = .next (s.beside fun s =>
      ((s.set Reg.IND_DATA_DATA k (s.indWord k).toNat).indAdvance k).answer (.data (s.indWord k).toNat))) ∧
    (s.get Reg.JCE_STATE_STATE k ≠ 2 → exec (.jceDebugHalt k) s = .next (s.beside fun s =>
      ((((s.jceHaltIn k 3).onEng k fun e => { e with debugHeld := true, debugReleased := false }).debugLog 3 (engineSource k)
        (s.get Reg.JCE_STATE_PC k)).raise 67).engineCause k)) ∧
    (s.tickSource k = 2 → exec (.loopTick k) s = .next (s.beside fun s => s.jceTick k)) ∧
    (∀ late ev, s.jceRuns k = true → (s.eng k).kernel = false → ev = s.waitEvents k → (ev.1 || ev.2) = true →
      exec (.waitevReturn k late) s = .next (s.beside fun s =>
        State.jnext (if ev.1
          then (s.onEng k fun e => { e with waiting := none, evTick := ev.1, evPeriph := ev.2, period := e.period || ev.1, tickPending := e.tickPending && !ev.1, periphPending := e.periphPending && !ev.2, sat := e.sat && !ev.1 }).commitStage k
          else s.onEng k fun e => { e with waiting := none, evTick := ev.1, evPeriph := ev.2, period := e.period || ev.1, tickPending := e.tickPending && !ev.1, periphPending := e.periphPending && !ev.2, sat := e.sat && !ev.1 }) k)) ∧
    (s.get Reg.JCE_STATE_STATE k = 2 ∨ s.get Reg.JCE_STATE_STATE k = 3 →
      exec (.engineStopped k) s = .next (s.beside fun s =>
        (List.range 4).foldl (fun s i => ((s.latchFault (4 * k + i) 11).axisWords (4 * k + i))) s))

/-- A tick that finds the previous one pending overruns the engine. Formalises R254. -/
def Obligations.JceTickOverruns : Prop :=
  ∀ (s : State) (k : Fin 64), s.alive = true → s.jceRuns k = true → s.tickSource k = 2 → (s.eng k).startAtTick = false →
    ((s.eng k).tickPending = true → Completes (.loopTick k) s fun t => t.flag Reg.JCE_FLAGS_LOOP_OVERRUN k = true ∧
      t.get Reg.OVERRUN_COUNT_COUNT k = min (s.get Reg.OVERRUN_COUNT_COUNT k + 1) 0xFFFFFFFF ∧
      t.get Reg.TICK_MISSED_COUNT k = min (s.get Reg.TICK_MISSED_COUNT k + 1) 0xFFFFFFFF ∧ s.Signalled 65 t ∧
      (t.eng k).tickPending = true ∧ t.jce = s.jce ∧ t.get Reg.JCE_STATE_PC k = s.get Reg.JCE_STATE_PC k) ∧
    ((s.eng k).tickPending = false → exec (.loopTick k) s = .next (s.onEng k fun e => { e with tickPending := true }))

/-- Post-modification of an address register: linear where its length is 0, circular in its buffer otherwise.
Formalises R245. -/
def Obligations.JcePostModification : Prop :=
  ∀ (s : State) (k : Fin 64) (w n : Nat) (a base md : Int) (len : Nat), s.alive = true → s.JceSound k → w = s.jword k →
    s.jfetched k 0x28 = true → bitsOf w 17 2 = 1 → n = bitsOf w 19 3 → a = (s.eng k).a.get 0 n → base = (s.eng k).base.get 0 n →
    len = (s.eng k).len.get 0 n → md = (s.eng k).modn.get 0 n →
    Completes (.jceLd k) s fun t =>
      t.jd k (jceD w) = s.jload k ((s.eng k).a.get 0 n) ∧
      ((t.ja k n : Nat) : Int) = (if len = 0 then (a + md) % 16384 else (base + (a - base + md) % (len : Int)) % 16384) ∧
      (∀ j, j ≠ n → t.ja k j = s.ja k j) ∧ (t.eng k).dmem = (s.eng k).dmem ∧ ∀ j, j ≠ k.val → t.eng j = s.eng j

/-- An engine's register instructions leave every other engine, its memories and the rest of the machine unchanged.
Rests on 07_joint_engines.md. -/
def Obligations.JceRegisterFrame : Prop :=
  ∀ (s : State) (k : Fin 64) (op : Nat) (c : Instr), s.alive = true → s.JceSound k → s.jfetched k op = true →
    (op, c) ∈ [(0x10, Instr.jceAdd k), (0x11, .jceSub k), (0x12, .jceAddi k), (0x13, .jceAnd k), (0x14, .jceOr k), (0x15, .jceXor k),
      (0x16, .jceShl k), (0x17, .jceShra k), (0x18, .jceShrl k), (0x19, .jceMin k), (0x1A, .jceMax k), (0x1B, .jceAbs k),
      (0x1C, .jceNeg k), (0x1D, .jceCmp k), (0x1E, .jceCmpi k), (0x1F, .jceMovis k), (0x20, .jceMovih k), (0x21, .jceClamp k),
      (0x2E, .jceGetar k), (0, .jceNop k)] →
    Completes c s fun t =>
      (∀ r, r ≠ jceD (s.jword k) → t.jd k r = s.jd k r) ∧
      (t.eng k).a = (s.eng k).a ∧ (t.eng k).base = (s.eng k).base ∧ (t.eng k).len = (s.eng k).len ∧
      (t.eng k).modn = (s.eng k).modn ∧ (t.eng k).acc = (s.eng k).acc ∧ (t.eng k).imem = (s.eng k).imem ∧
      (t.eng k).dmem = (s.eng k).dmem ∧ (t.eng k).posted = (s.eng k).posted ∧ (t.eng k).stage = (s.eng k).stage ∧
      (t.eng k).rets = (s.eng k).rets ∧ (∀ j, j ≠ k.val → t.eng j = s.eng j) ∧
      (∀ f i, f.id ≠ Reg.JCE_STATE_PC.id → t.get f i = s.get f i) ∧
      (∀ i, i ≠ k.val → t.get Reg.JCE_STATE_PC i = s.get Reg.JCE_STATE_PC i) ∧
      ∃ j g, t = { s with jce := j, regs := g }

/-- A counter moves within its limits, holds the limit, and counts what it drops. Rests on 09_position_feedback.md. -/
def Obligations.CountersHoldAtLimits : Prop :=
  ∀ (s : State) (ch : Fin 64), s.alive = true →
    (∀ (a b a0 b0 : Bool) (k : Fin 65) (n d : Int) (c : Instr), s.get Reg.FB_CFG_MODE ch = 1 → (s.fbk ch).restarted ≠ some s.ticks →
      clampN 1 64 (s.get Reg.FB_CFG_FILT_N ch) ≤ k.val → a0 = s.flag Reg.FB_STATUS_A ch → b0 = s.flag Reg.FB_STATUS_B ch →
      (a0 != a) ≠ (b0 != b) → n = (if a0 ≠ a then (if a ≠ b0 then 1 else -1) else (if b = a0 then 1 else -1)) →
      d = (if s.flag Reg.FB_CFG_DIR_INV ch then -n else n) → c = .fbCountEdge ch (a != s.flag Reg.FB_CFG_A_INV ch, b != s.flag Reg.FB_CFG_B_INV ch) k →
      (s.getS Reg.CNT_LO_LIMIT ch ≤ s.pos ch + d ∧ s.pos ch + d ≤ s.getS Reg.CNT_HI_LIMIT ch → Completes c s fun t =>
        t.pos ch = s.pos ch + d ∧ t.flag Reg.FB_STATUS_SAT_LO ch = false ∧ t.flag Reg.FB_STATUS_SAT_HI ch = false ∧
        t.flag Reg.FB_STATUS_DIR ch = decide (d < 0) ∧ t.flag Reg.FB_STATUS_A ch = a ∧ t.flag Reg.FB_STATUS_B ch = b ∧
        t.get Reg.SAT_DROPPED_COUNT ch = s.get Reg.SAT_DROPPED_COUNT ch ∧
        ∀ j, j ≠ ch.val → t.fbk j = s.fbk j ∧ ∀ f ∈ [Reg.POS_COUNT, Reg.CNT_LO_LIMIT, Reg.CNT_HI_LIMIT, Reg.FB_STATUS_A, Reg.FB_STATUS_B,
          Reg.FB_STATUS_SAT_LO, Reg.FB_STATUS_SAT_HI, Reg.SAT_DROPPED_COUNT], t.get f j = s.get f j) ∧
      (∀ low : Bool, (if low then s.pos ch = s.getS Reg.CNT_LO_LIMIT ch ∧ d = -1 else s.pos ch = s.getS Reg.CNT_HI_LIMIT ch ∧ d = 1) →
        s.getS Reg.CNT_LO_LIMIT ch ≤ s.getS Reg.CNT_HI_LIMIT ch → Completes c s fun t =>
        t.pos ch = s.pos ch ∧ t.flag (if low then Reg.FB_STATUS_SAT_LO else Reg.FB_STATUS_SAT_HI) ch = true ∧
        t.flag Reg.FB_FLAGS_SAT_SEEN ch = true ∧ t.flag Reg.FB_STATUS_A ch = a ∧ t.flag Reg.FB_STATUS_B ch = b ∧
        t.get Reg.SAT_DROPPED_COUNT ch = min (s.get Reg.SAT_DROPPED_COUNT ch + 1) 0xFFFFFFFF ∧
        ∀ j, j ≠ ch.val → t.fbk j = s.fbk j ∧ ∀ f ∈ [Reg.POS_COUNT, Reg.CNT_LO_LIMIT, Reg.CNT_HI_LIMIT, Reg.FB_STATUS_A, Reg.FB_STATUS_B,
          Reg.FB_STATUS_SAT_LO, Reg.FB_STATUS_SAT_HI, Reg.SAT_DROPPED_COUNT], t.get f j = s.get f j)) ∧
    (∀ (raw : BitVec 48) (word ref : Nat) (d got : Int), s.get Reg.FB_CFG_MODE ch = 5 → s.parked = false →
      (s.fbk ch).restarted ≠ some s.ticks → s.flag Reg.SSI_CFG_PARITY ch = false → s.flag Reg.SSI_CFG_GRAY ch = false → word = raw.toNat % 2 ^ s.ssiBits ch → (s.fbk ch).reference = some ref →
      d = signedMod (s.ssiBits ch) ((word : Int) - ref) → d.natAbs < 2 ^ (s.ssiBits ch - 2) → d ≠ 0 →
      s.getS Reg.CNT_LO_LIMIT ch ≤ s.getS Reg.CNT_HI_LIMIT ch → got = clampI (s.getS Reg.CNT_LO_LIMIT ch) (s.getS Reg.CNT_HI_LIMIT ch) (s.pos ch + d) →
      Completes (.ssiFrame ch true false raw) s fun t => t.pos ch = got ∧ t.get Reg.SSI_RAW_WORD ch = word ∧ (t.fbk ch).reference = some word ∧
        t.get Reg.SAT_DROPPED_COUNT ch = min (s.get Reg.SAT_DROPPED_COUNT ch + (s.pos ch + d - got).natAbs) 0xFFFFFFFF ∧
        t.flag Reg.FB_STATUS_SAT_HI ch = decide (got < s.pos ch + d) ∧ t.flag Reg.FB_STATUS_SAT_LO ch = decide (s.pos ch + d < got))

/-- What the feedback channels' events do, and writes act for Ranger and the owning engine only. Rests on
09_position_feedback.md. -/
def Obligations.FeedbackEventsAndWrites : Prop :=
  (
    ∀ (s : State) (ch : Fin 64), s.alive = true →
      (∀ (a b : Bool) (k : Fin 65) c, s.get Reg.FB_CFG_MODE ch ∈ [1, 2, 3] → clampN 1 64 (s.get Reg.FB_CFG_FILT_N ch) ≤ k.val →
        c = .fbCountEdge ch (a != s.flag Reg.FB_CFG_A_INV ch, b != s.flag Reg.FB_CFG_B_INV ch) k →
        ((s.fbk ch).restarted = some s.ticks → exec c s = .next
          ((s.setFlag Reg.FB_STATUS_A ch a).setFlag Reg.FB_STATUS_B ch b)) ∧
        ((s.fbk ch).restarted ≠ some s.ticks → s.flag Reg.FB_STATUS_A ch ≠ a → s.flag Reg.FB_STATUS_B ch ≠ b → Completes c s fun t => t.pos ch = s.pos ch ∧ t.flag Reg.FB_STATUS_A ch = a ∧ t.flag Reg.FB_STATUS_B ch = b ∧
          t.get Reg.ILLEGAL_EDGE_COUNT ch = min (s.get Reg.ILLEGAL_EDGE_COUNT ch + 1) 0xFFFFFFFF ∧ t.flag Reg.FB_FLAGS_ILLEGAL_SEEN ch = true)) ∧
      (∀ a b k, s.get Reg.FB_CFG_MODE ch ∉ [1, 2, 3] ∨ k.val < clampN 1 64 (s.get Reg.FB_CFG_FILT_N ch) →
        exec (.fbCountEdge ch (a, b) k) s = .next s) ∧
      (∀ w, (s.fbk ch).winOpen = some w → Completes (.errWinExpiry ch) s fun t =>
        t.ticks = max s.ticks (w + s.errWinTicks ch) ∧ (t.fbk ch).winOpen = none ∧ (t.fbk ch).winCount = 0 ∧ t.pos ch = s.pos ch) ∧
      ((s.fbk ch).winOpen = none → exec (.errWinExpiry ch) s = .next s) ∧
      (s.get Reg.FB_CFG_MODE ch ∈ [1, 2, 3] → Completes (.standstillTimeout ch) s fun t =>
        t.ticks = max s.ticks ((s.fbk ch).lastEdge + s.stillTicks ch) ∧ t.get Reg.SPEED_VALUE ch = 0 ∧
        t.flag Reg.FB_STATUS_SPEED_VALID ch = false ∧ t.flag Reg.FB_STATUS_STILL ch = true ∧ t.pos ch = s.pos ch) ∧
      (∀ (z : Bool) (k : Fin 65) c, c = .indexEvent ⟨ch, z != s.flag Reg.FB_CFG_Z_INV ch, k⟩ →
        (k.val < clampN 1 64 (s.get Reg.FB_CFG_FILT_N ch) → exec c s = .next s) ∧
        (clampN 1 64 (s.get Reg.FB_CFG_FILT_N ch) ≤ k.val → z = false ∨ s.flag Reg.FB_STATUS_Z ch = true →
          exec c s = .next (s.setFlag Reg.FB_STATUS_Z ch z)) ∧
        (clampN 1 64 (s.get Reg.FB_CFG_FILT_N ch) ≤ k.val → z = true → s.flag Reg.FB_STATUS_Z ch = false →
          (s.fbk ch).restarted ≠ some s.ticks → s.get Reg.FB_CFG_MODE ch ∈ [2, 3, 4] → s.get Reg.INDEX_CTRL_INDEX_MODE ch = 1 →
        (s.flag Reg.INDEX_CTRL_ARMED ch = false → exec c s = .next (s.setFlag Reg.FB_STATUS_Z ch true)) ∧
        (s.flag Reg.INDEX_CTRL_ARMED ch = true → Completes c s fun t =>
          t.getS Reg.INDEX_POS_COUNT ch = s.pos ch ∧ t.get Reg.INDEX_COUNT_COUNT ch = min (s.get Reg.INDEX_COUNT_COUNT ch + 1) 0xFFFFFFFF ∧
          t.flag Reg.FB_FLAGS_INDEX_SEEN ch = true ∧ t.flag Reg.INDEX_CTRL_ARMED ch = false ∧ (t.eng (48 + ch / 4)).periphPending = true ∧
          t.pos ch = s.pos ch ∧ s.Signalled 69 t))) ∧
      (∀ (x y : BitVec 14) (qx qy : Fin 4), s.get Reg.FB_CFG_MODE ch = 4 → s.parked = false →
        (s.fbk ch).restarted ≠ some s.ticks → (s.fbk ch).sin = some (x, qx.val) → (s.fbk ch).cos = some (y, qy.val) →
        (qx = 1 ∨ qx = 2 ∨ qy = 1 ∨ qy = 2 → Completes (.sincosSample ch x y qx qy) s fun t => t.pos ch = s.pos ch ∧
          t.get Reg.QUAL_SKIP_COUNT ch = min (s.get Reg.QUAL_SKIP_COUNT ch + 1) 0xFFFFFFFF ∧ t.flag Reg.FB_FLAGS_QUAL_SEEN ch = true ∧
          t.flag Reg.FB_STATUS_SPEED_VALID ch = false) ∧
        (∀ q : Int, qx = 0 → qy = 0 → q = x.toInt * x.toInt + y.toInt * y.toInt →
          (q < (s.get Reg.AMP_WIN_AMP_MIN ch : Int) ^ 2 ∨ (s.get Reg.AMP_WIN_AMP_MAX ch : Int) ^ 2 < q → Completes (.sincosSample ch x y qx qy) s fun t =>
            t.get Reg.AMP_ERR_COUNT ch = min (s.get Reg.AMP_ERR_COUNT ch + 1) 0xFFFFFFFF ∧ t.flag Reg.FB_STATUS_AMP_OK ch = false ∧
            t.flag Reg.FB_STATUS_COND ch = true ∧ t.pos ch = s.pos ch) ∧
          ((s.get Reg.AMP_WIN_AMP_MIN ch : Int) ^ 2 ≤ q ∧ q ≤ (s.get Reg.AMP_WIN_AMP_MAX ch : Int) ^ 2 → (s.fbk ch).reference = none →
            Completes (.sincosSample ch x y qx qy) s fun t => t.get Reg.SINCOS_RAW_SIN ch = x.toNat ∧ t.get Reg.SINCOS_RAW_COS ch = y.toNat ∧
            t.flag Reg.FB_STATUS_AMP_OK ch = true ∧ t.flag Reg.FB_STATUS_COND ch = false ∧
            (t.fbk ch).reference = some (sinCosAngle x.toInt y.toInt) ∧ t.pos ch = s.pos ch))) ∧
      (∀ (x y : BitVec 14) (qx qy : Fin 4), (s.fbk ch).sin ≠ some (x, qx.val) ∨ (s.fbk ch).cos ≠ some (y, qy.val) →
        exec (.sincosSample ch x y qx qy) s = .next s) ∧
      (∀ (ready p : Bool) (raw : BitVec 48), s.get Reg.FB_CFG_MODE ch = 5 → s.parked = false → (s.fbk ch).restarted ≠ some s.ticks →
        (ready = false ∨ (s.flag Reg.SSI_CFG_PARITY ch = true ∧ (ones (raw.toNat % 2 ^ s.ssiBits ch) 48 + b2n p) % 2 = 1) →
          Completes (.ssiFrame ch ready p raw) s fun t => t.pos ch = s.pos ch ∧ t.flag Reg.FB_FLAGS_SSI_SEEN ch = true ∧
            t.get Reg.SSI_ERR_COUNT ch = min (s.get Reg.SSI_ERR_COUNT ch + 1) 0xFFFFFFFF ∧ t.flag Reg.FB_STATUS_COND ch = true) ∧
        (∀ w : Nat, ready = true → s.flag Reg.SSI_CFG_PARITY ch = false → (s.fbk ch).reference = none → s.flag Reg.SSI_CFG_GRAY ch = false →
          w = raw.toNat % 2 ^ s.ssiBits ch → Completes (.ssiFrame ch ready p raw) s fun t => (t.fbk ch).reference = some w ∧
            t.get Reg.SSI_RAW_WORD ch = w ∧ t.flag Reg.FB_STATUS_COND ch = false ∧
            t.pos ch = clampI (s.getS Reg.CNT_LO_LIMIT ch) (s.getS Reg.CNT_HI_LIMIT ch) w))) ∧ (
    ∀ (s : State) (m : Master) (ch : Fin 64), s.alive = true →
      ((m ≠ .ranger ∧ ∀ k : Fin 64, m = .jce k → k.val ≠ 48 + ch / 4) → ∀ c, (c = .fbFaultClear m ch ∨ (∃ v, c = .posPreset m ch v) ∨
        (∃ v, c = .fbModeWrite m ch v) ∨ (∃ l h, c = .cntLimitWrite m ch l h) ∨ c = .indexArm m ch) → exec c s = .next (s.answer .busError)) ∧
      ((m = .ranger ∨ ∃ k : Fin 64, m = .jce k ∧ k.val = 48 + ch / 4) →
        (s.flag Reg.FB_STATUS_COND ch = true → exec (.fbFaultClear m ch) s = .next (s.answer .done)) ∧
        (s.flag Reg.FB_STATUS_COND ch = false → exec (.fbFaultClear m ch) s = .next ((s.setFlag Reg.FB_FLAGS_FAULT ch false).answer .done)) ∧
        (∀ v : BitVec 48, exec (.posPreset m ch v) s = .next ((((s.setS Reg.POS_COUNT ch
          (clampI (s.getS Reg.CNT_LO_LIMIT ch) (s.getS Reg.CNT_HI_LIMIT ch) v.toInt)).setFlag Reg.FB_STATUS_SAT_LO ch false).setFlag
          Reg.FB_STATUS_SAT_HI ch false).answer .done)) ∧
        (∀ md : BitVec 3, Completes (.fbModeWrite m ch md) s fun t => t.get Reg.FB_CFG_MODE ch = md.toNat ∧ t.pos ch = s.pos ch ∧
          t.flag Reg.FB_STATUS_SPEED_VALID ch = false ∧ t.flag Reg.FB_STATUS_STILL ch = true ∧ (t.fbk ch).winOpen = none ∧
          (t.fbk ch).winCount = 0 ∧ t.bus = .done ∧ ∃ g f, t = { s with regs := g, fb := f, bus := .done }) ∧
        (∀ (lo hi : BitVec 48) (g : Int), g = clampI lo.toInt hi.toInt (s.pos ch) → Completes (.cntLimitWrite m ch lo hi) s fun t =>
          t.getS Reg.CNT_LO_LIMIT ch = lo.toInt ∧ t.getS Reg.CNT_HI_LIMIT ch = hi.toInt ∧ t.pos ch = g ∧
          t.get Reg.SAT_DROPPED_COUNT ch = min (s.get Reg.SAT_DROPPED_COUNT ch + (s.pos ch - g).natAbs) 0xFFFFFFFF ∧
          ∃ r, t = { s with regs := r, bus := .done }) ∧
        exec (.indexArm m ch) s = .next ((s.setFlag Reg.INDEX_CTRL_ARMED ch true).answer .done)))

/-- No PWM command ever lets both switches of a pair be on. Rests on 10_pwm.md, R363, R365. -/
def Obligations.PairsNeverShootThrough : Prop :=
  (∀ p < 96, State.reset.PairSafe p) ∧
  ∀ (s : State) (p : Nat), s.alive = true → p < 96 → s.PairSafe p →
    ∀ (m : Master) (q : Fin 96) (v : Word64) (t : Nat) (b : Bool) (n : Fin 16) (k : Fin 1025) (y : Fin 8) (c : Instr),
      c ∈ [Instr.pwmSetWrite m q v t, .pwmPeriodStart q t, .pwmEdge q t, .deadTimeEnd q b t, .minPulseEnd q b t, .pwmForce m q b t,
        .tripActive n ⟨k, t⟩, .tripInactive (n, ⟨k, t⟩), .tripClear m q, .pwmClockLoss t, .pwmClockReturn, .clkLostClear m q, .psyncPulse y] →
      Completes c s fun u => u.PairSafe p

/-- What the timed events of a PWM pair do, and when they do nothing. Rests on 10_pwm.md. -/
def Obligations.PwmTimedCommands : Prop :=
  ∀ (s : State) (p : Fin 96) (t : Nat) (q : PwmPair), s.alive = true → q = s.pair p →
    (s.pwmClock = false → exec (.pwmPeriodStart p t) s = .next s ∧ exec (.pwmEdge p t) s = .next s) ∧
    (t < s.pairEnd p → exec (.pwmPeriodStart p t) s = .next s) ∧
    (s.pwmClock = true → q.restart = false → q.lock = false → s.pairEnd p ≤ t → Completes (.pwmPeriodStart p t) s fun u =>
      (u.pair p).start = s.pairEnd p ∧ (u.pair p).mode = s.flag Reg.PWM_CFG_MODE p ∧ (u.pair p).lock = s.flag Reg.PWM_CFG_LOCK p ∧
      (u.pair p).dtRise = s.get Reg.PWM_DEAD_DT_RISE p ∧ (u.pair p).dtFall = s.get Reg.PWM_DEAD_DT_FALL p ∧
      (u.pair p).minPulse = s.get Reg.PWM_CFG_MIN_PULSE p ∧ (u.pair p).extend = s.flag Reg.PWM_CFG_MIN_POLICY p ∧
      (u.pair p).clampLow = s.flag Reg.PWM_CFG_SAFE p ∧ (s.flag Reg.PWM_CFG_LOCK p = false → (u.pair p).trim = 0)) ∧
    (s.pwmClock = true → q.restart = false → s.pairForced p = false →
      (∀ r, r = q.start + s.pairRise p → q.rose = false → s.pairDuty p ≠ 0 → q.lDue = none →
        (t < r → exec (.pwmEdge p t) s = .next s) ∧
        (r ≤ t → s.flag Reg.PWM_STATUS_L_ON p = false → exec (.pwmEdge p t) s = .next (s.onPair p fun q =>
          { q with href := true, rose := true, lDue := none, hDue := some (r + q.dtRise) })) ∧
        (r ≤ t → s.flag Reg.PWM_STATUS_L_ON p = true → Completes (.pwmEdge p t) s fun u => (u.pair p).href = true ∧
          if q.lOnAt + 32 * q.minPulse ≤ r then u.flag Reg.PWM_STATUS_L_ON p = false ∧ (u.pair p).hDue = some (r + q.dtRise)
          else u.flag Reg.PWM_STATUS_L_ON p = true ∧ (u.pair p).lStretch = some (q.lOnAt + 32 * q.minPulse))) ∧
      (∀ f r, s.pairFall p = some f → r = q.start + f → q.rose = true → q.fell = false → q.hDue = none →
        (t < r → exec (.pwmEdge p t) s = .next s) ∧
        (r ≤ t → s.flag Reg.PWM_STATUS_H_ON p = false → exec (.pwmEdge p t) s = .next (s.onPair p fun q =>
          { q with href := false, fell := true, hDue := none, lDue := some (r + q.dtFall) })) ∧
        (r ≤ t → s.flag Reg.PWM_STATUS_H_ON p = true → Completes (.pwmEdge p t) s fun u => (u.pair p).href = false ∧
          if q.hOnAt + 32 * q.minPulse ≤ r then u.flag Reg.PWM_STATUS_H_ON p = false ∧ (u.pair p).lDue = some (r + q.dtFall) ∧ (u.pair p).hOffAt = r
          else u.flag Reg.PWM_STATUS_H_ON p = true ∧ (u.pair p).hStretch = some (q.hOnAt + 32 * q.minPulse)))) ∧
    (∀ d, q.hDue = some d → s.flag Reg.PWM_STATUS_H_ON p = false →
      (t < d → exec (.deadTimeEnd p true t) s = .next s) ∧
      (d ≤ t → q.judge d (s.nextFall p) = 0 → exec (.deadTimeEnd p true t) s =
        .next (((s.count Reg.PULSE_DROP_COUNT p 1).setFlag Reg.PWM_FLAGS_DROP_SEEN p true).onPair p fun q => { q with hDue := none })) ∧
      (d ≤ t → q.judge d (s.nextFall p) = 1 → exec (.deadTimeEnd p true t) s =
        .next ((s.setFlag Reg.PWM_STATUS_H_ON p true).onPair p fun q => { q with hOnAt := d, hDue := none, hShort := false }))) ∧
    (∀ d, q.lDue = some d → s.flag Reg.PWM_STATUS_L_ON p = false →
      (t < d → exec (.deadTimeEnd p false t) s = .next s) ∧
      (d ≤ t → s.pairForced p = true → exec (.deadTimeEnd p false t) s =
        .next ((s.setFlag Reg.PWM_STATUS_L_ON p true).onPair p fun q => { q with lOnAt := d, lDue := none }))) ∧
    (∀ e, q.hStretch = some e → q.hShort = true → q.href = false → s.flag Reg.PWM_STATUS_H_ON p = true →
      (t < e → exec (.minPulseEnd p true t) s = .next s) ∧
      (e ≤ t → Completes (.minPulseEnd p true t) s fun u => u.flag Reg.PWM_STATUS_H_ON p = false ∧ (u.pair p).lDue = some (e + q.dtFall) ∧
        u.get Reg.PULSE_EXT_COUNT p = min (s.get Reg.PULSE_EXT_COUNT p + 1) 0xFFFFFFFF ∧ (u.pair p).hOffAt = e)) ∧
    (∀ o m, q.minPulse = m → (q.judge t none = 1) ∧ (o ≤ t → q.judge t (some o) = 0) ∧
      (t < o → o - t < 32 * m → q.judge t (some o) = if q.extend then 2 else 0) ∧ (t < o → 32 * m ≤ o - t → q.judge t (some o) = 1))

/-- PWM writes, trips and clock faults force pairs, and clears act only when their condition is gone. Rests on
10_pwm.md, R372, R373. -/
def Obligations.PwmWritesAndTrips : Prop :=
  ∀ (s : State), s.alive = true →
    (∀ (m : Master) (p : Fin 96), (m ≠ .ranger ∧ ∀ k : Fin 64, m = .jce k → k.val ≠ 48 + p / 12) → ∀ c, ((∃ v t, c = .pwmSetWrite m p v t) ∨
      (∃ b t, c = .pwmForce m p b t) ∨ c = .tripClear m p ∨ c = .clkLostClear m p) → exec c s = .next (s.answer .busError)) ∧
    (∀ (m : Master) (p : Fin 96), (m = .ranger ∨ ∃ k : Fin 64, m = .jce k ∧ k.val = 48 + p / 12) →
      (∀ v t, Completes (.pwmSetWrite m p v t) s fun u => u.get Reg.PWM_SET_DUTY p = v.toNat % 2 ^ 21 ∧
        u.get Reg.PWM_SET_PER p = v.toNat / 2 ^ 32 % 2 ^ 21 ∧ u.bus = .done) ∧
      (∀ t, (s.pairForced p = true → s.flag Reg.PWM_STATUS_H_ON p = false) → Completes (.pwmForce m p true t) s fun u => u.flag Reg.PWM_CTRL_FORCE p = true ∧ u.pairForced p = true ∧
        u.flag Reg.PWM_STATUS_H_ON p = false ∧ bitOf (u.get Reg.PWM_STATUS_CAUSES p) 0 = true ∧ u.bus = .done) ∧
      (maskAnd (s.get Reg.PWM_TRIP_TRIP_MASK p) s.activeTrips = 0 → Completes (.tripClear m p) s fun u =>
        u.flag Reg.PWM_TRIP_TRIP_LATCHED p = false ∧ u.get Reg.PWM_TRIP_TRIP_SRC p = 0 ∧ u.bus = .done ∧ ∃ g, u = { s with regs := g, bus := .done }) ∧
      (maskAnd (s.get Reg.PWM_TRIP_TRIP_MASK p) s.activeTrips ≠ 0 → Completes (.tripClear m p) s fun u =>
        u.flag Reg.PWM_TRIP_TRIP_LATCHED p = s.flag Reg.PWM_TRIP_TRIP_LATCHED p ∧ u.flag Reg.PWM_FLAGS_CLEAR_REFUSED p = true ∧ s.Signalled 73 u) ∧
      (s.pwmClock = false → exec (.clkLostClear m p) s = .next (s.answer .done)) ∧
      (s.pwmClock = true → Completes (.clkLostClear m p) s fun u => u.flag Reg.PWM_FLAGS_CLK_LOST p = false ∧ u.bus = .done)) ∧
    (∀ (n : Fin 16) (k : Fin 1025) t (low : Bool) (lim : Nat), low = s.flag Reg.TRIP_CFG_ACTIVE_LOW n →
      lim = clampN 1 1024 (s.get Reg.TRIP_CFG_FILT_N n) →
      (k.val = 0 → exec (.tripActive n ⟨k, t⟩) s = .next s ∧ exec (.tripInactive (n, ⟨k, t⟩)) s = .next s) ∧
      (0 < k.val → k.val < lim → exec (.tripActive n ⟨k, t⟩) s = .next (s.setFlag Reg.TRIP_STATUS_RAW n (!low)) ∧
        exec (.tripInactive (n, ⟨k, t⟩)) s = .next (s.setFlag Reg.TRIP_STATUS_RAW n low)) ∧
      (lim ≤ k.val → exec (.tripInactive (n, ⟨k, t⟩)) s = .next
        (State.setFlag { s.setFlag Reg.TRIP_STATUS_RAW n low with tripHigh := s.tripHigh.put none n.val (some low) }
          Reg.TRIP_STATUS_ACTIVE n false)) ∧
      (lim ≤ k.val → s.flag Reg.TRIP_CFG_EN n = false → exec (.tripActive n ⟨k, t⟩) s = .next
        (State.setFlag { s.setFlag Reg.TRIP_STATUS_RAW n (!low) with tripHigh := s.tripHigh.put none n.val (some (!low)) }
          Reg.TRIP_STATUS_ACTIVE n false)) ∧
      (lim ≤ k.val → s.flag Reg.TRIP_CFG_EN n = true → s.flag Reg.TRIP_STATUS_ACTIVE n = true → exec (.tripActive n ⟨k, t⟩) s = .next
        { s.setFlag Reg.TRIP_STATUS_RAW n (!low) with tripHigh := s.tripHigh.put none n.val (some (!low)) }) ∧
      (lim ≤ k.val → s.flag Reg.TRIP_CFG_EN n = true → s.flag Reg.TRIP_STATUS_ACTIVE n = false → Completes (.tripActive n ⟨k, t⟩) s fun u =>
        u.flag Reg.TRIP_STATUS_ACTIVE n = true ∧ u.get Reg.TRIP_COUNT_COUNT n = min (s.get Reg.TRIP_COUNT_COUNT n + 1) 0xFFFFFFFF ∧ s.Signalled 72 u ∧
        ∀ p < 96, if bitOf (s.get Reg.PWM_TRIP_TRIP_MASK p) n then u.flag Reg.PWM_TRIP_TRIP_LATCHED p = true ∧ u.pairForced p = true
          else u.get Reg.PWM_TRIP_TRIP_LATCHED p = s.get Reg.PWM_TRIP_TRIP_LATCHED p ∧ u.pair p = s.pair p)) ∧
    (∀ t, (s.pwmClock = false → exec (.pwmClockLoss t) s = .next s) ∧
      (s.pwmClock = true → Completes (.pwmClockLoss t) s fun u => u.pwmClock = false ∧ s.Signalled 74 u ∧ ∀ p < 96,
        u.flag Reg.PWM_STATUS_H_ON p = false ∧ u.flag Reg.PWM_STATUS_L_ON p = false ∧ u.pairForced p = true ∧ u.flag Reg.PWM_FLAGS_CLK_LOST p = true)) ∧
    (s.pwmClock = true → exec .pwmClockReturn s = .next s) ∧
    (s.pwmClock = false → Completes .pwmClockReturn s fun u => u.pwmClock = true ∧ ∀ p < 96, (u.pair p).restart = true ∧
      u.flag Reg.PWM_FLAGS_CLK_LOST p = s.flag Reg.PWM_FLAGS_CLK_LOST p) ∧
    (∀ y : Fin 8, (s.syncFalls y = false → exec (.psyncPulse y) s = .next s) ∧
      (s.syncFalls y = true → exec (.psyncPulse y) s = .next ((s.set Reg.PSYNC_COUNT_COUNT y (s.get Reg.PSYNC_COUNT_COUNT y + 1)).out
        (.psync y (max 1 (s.get Reg.PSYNC_CFG_WIDTH y)) (!s.flag Reg.PSYNC_CFG_POL y)))))

/-- Triggers start passes or are lost, passes end, and results reach their route and its ring. Rests on 11_adc.md,
R380, R383, R384, R386, R393. -/
def Obligations.ConverterPassesAndResults : Prop :=
  ∀ (s : State) (c : Fin 16), s.alive = true → s.parked = false →
    (∀ (pin : Fin 16) (e : Bool),
      ((∀ k < 16, s.adcTakes k = false ∨ s.get Reg.ADC_CFG_REG_TRG k ≠ pin ∨ edgeNamed (s.get Reg.ADC_CFG_REG_EDGE k) e = false) → exec (.adcTrigger pin e) s = .next s) ∧
      ((∀ k < 16, s.adcTakes k = false ∨ s.get Reg.ADC_CFG_INJ_TRG k ≠ pin ∨ edgeNamed (s.get Reg.ADC_CFG_INJ_EDGE k) e = false) → exec (.adcInjectedTrigger pin e) s = .next s) ∧
      (s.adcTakes c = true → (s.adcv c).inj = none → (s.adcv c).held = none →
        s.get Reg.ADC_CFG_REG_TRG c = pin → edgeNamed (s.get Reg.ADC_CFG_REG_EDGE c) e = true → s.regEntries c ≠ [] →
        ((s.adcv c).reg = none → Completes (.adcTrigger pin e) s fun t => ∃ p, (t.adcv c).reg = some p ∧ p.entries = s.regEntries c ∧ p.next = s.ticks + 3 ∧
          p.entry = 0 ∧ p.sampled = 0 ∧ p.time = s.adcTime ∧ t.get Reg.TRG_COUNT_COUNT c = (s.get Reg.TRG_COUNT_COUNT c + 1) % 2 ^ 32 ∧
          p.pass = t.get Reg.TRG_COUNT_COUNT c % 256) ∧
        (∀ p, (s.adcv c).reg = some p → s.ticks < p.next → Completes (.adcTrigger pin e) s fun t => t.adcv c = s.adcv c ∧
          t.get Reg.REG_TRG_LOST_COUNT c = min (s.get Reg.REG_TRG_LOST_COUNT c + 1) 0xFFFFFFFF ∧ t.flag Reg.ADC_FLAGS_TRG_LOST_SEEN c = true ∧ s.Signalled 77 t)) ∧
      (s.adcTakes c = true → (s.adcv c).reg = none → s.get Reg.ADC_CFG_INJ_TRG c = pin → edgeNamed (s.get Reg.ADC_CFG_INJ_EDGE c) e = true → s.injEntries c ≠ [] →
        ((s.adcv c).inj = none → Completes (.adcInjectedTrigger pin e) s fun t => ∃ p, (t.adcv c).inj = some p ∧ p.entries = s.injEntries c ∧
          p.next = s.ticks + 3 ∧ p.entry = 0 ∧ p.sampled = 0 ∧ t.get Reg.TRG_COUNT_COUNT c = (s.get Reg.TRG_COUNT_COUNT c + 1) % 2 ^ 32) ∧
        (∀ p, (s.adcv c).inj = some p → s.ticks < p.next → Completes (.adcInjectedTrigger pin e) s fun t => t.adcv c = s.adcv c ∧
          t.get Reg.INJ_TRG_LOST_COUNT c = min (s.get Reg.INJ_TRG_LOST_COUNT c + 1) 0xFFFFFFFF ∧ s.Signalled 77 t))) ∧
    ((s.adcv c).reg = none → (s.adcv c).inj = none → exec (.adcPassEnd c) s = .next s) ∧
    (∀ p w, (s.adcv c).inj = none → (s.adcv c).reg = some p → p.entries = [w] → p.entry = 0 → p.sampled = 0 → entryDwell w = 1 → s.ticks < p.next →
      Completes (.adcPassEnd c) s fun t => (t.adcv c).reg = none ∧ t.ticks = p.next ∧ (t.adcv c).pipe.length = (s.adcv c).pipe.length + 1) ∧
    (∀ p w r, (s.adcv c).inj = some p → (s.adcv c).reg = some r → (s.adcv c).interrupted = true → (s.adcv c).held = none → p.entries = [w] → p.entry = 0 →
      p.sampled = 0 → entryDwell w = 1 → s.ticks < p.next →
      Completes (.adcPassEnd c) s fun t => (t.adcv c).inj = none ∧ (t.adcv c).reg = some { r with sampled := 0, next := p.next + 1 } ∧
        (t.adcv c).interrupted = false ∧ t.ticks = p.next) ∧
    (∀ v rest (code : BitVec 14) (raw y : Int) (r i : Nat) (x : AdcRoute), (s.adcv c).pipe = v :: rest → (s.adcv c).reg = none → (s.adcv c).inj = none →
      raw = (if entryDiff v.word = 0 then (code.toNat : Int) else code.toInt) → y = s.corrected c v.word raw → r = entryRoute v.word → i = 16 * c + r →
      x = (s.adcv c).route r →
      (raw = codeMin (entryDiff v.word) ∨ raw = codeMax (entryDiff v.word) → Completes (.adcResult c code) s fun t => (t.adcv c).pipe = rest ∧
        t.get Reg.OVER_RANGE_COUNT c = min (s.get Reg.OVER_RANGE_COUNT c + 1) 0xFFFFFFFF ∧ s.Signalled 79 t) ∧
      (∀ (q word len wr rd : Nat), codeMin (entryDiff v.word) < raw → raw < codeMax (entryDiff v.word) → codeMin (entryDiff v.word) ≤ y → y ≤ codeMax (entryDiff v.word) →
        x.filt = 1 → x.sum = 0 → x.n = 0 → x.notify = false → q = ({ x with settling := x.settling || v.settling } : AdcRoute).qual →
        word = resultWord (resultValue v.align (entryDiff v.word) y) q v.entry v.inj v.pass v.time →
        len = s.get Reg.ROUTE_RING_RING_LEN i → wr = s.get Reg.ROUTE_IDX_WR_IDX i → rd = s.get Reg.ROUTE_IDX_RD_IDX i →
        (len = 0 → Completes (.adcResult c code) s fun t => t.get Reg.ROUTE_LAST_WORD i = word ∧ (t.adcv c).pipe = rest ∧
          t.ticks = max s.ticks v.due ∧ t.get Reg.OVER_RANGE_COUNT c = s.get Reg.OVER_RANGE_COUNT c ∧ t.mem = s.mem) ∧
        (1 < len → wr < len → rd < len → s.get Reg.ROUTE_RING_RING_BASE i + 8 * wr < 0x03800000 → Completes (.adcResult c code) s fun t =>
          t.get Reg.ROUTE_LAST_WORD i = word ∧ t.mem = (s.memPut (csramBase + (s.get Reg.ROUTE_RING_RING_BASE i + 8 * wr)) (leBytes 8 word)).mem ∧
          t.get Reg.ROUTE_IDX_WR_IDX i = (wr + 1) % len ∧
          if (wr + 1) % len = rd then t.get Reg.ROUTE_IDX_RD_IDX i = (rd + 1) % len ∧ t.get Reg.OVERRUN_COUNT i = min (s.get Reg.OVERRUN_COUNT i + 1) 0xFFFFFFFF ∧
            s.Signalled 76 t
          else t.get Reg.ROUTE_IDX_RD_IDX i = rd ∧ t.get Reg.OVERRUN_COUNT i = s.get Reg.OVERRUN_COUNT i))) ∧
    ((s.adcv c).pipe = [] → (s.adcv c).reg = none → (s.adcv c).inj = none → ∀ code, exec (.adcResult c code) s = .next s) ∧
    (∀ (m : Master) (r : Fin 16) (v : Word16), (m ≠ .ranger → s.adcOwnedBy m c = false → exec (.rdIdxWrite m c r v) s = .next (s.answer .busError)) ∧
      (m = .ranger ∨ s.adcOwnedBy m c = true → ((s.adcv c).route r).wrapAt ≠ some s.ticks →
        exec (.rdIdxWrite m c r v) s = .next ((s.set Reg.ROUTE_IDX_RD_IDX (16 * c + r) v.toNat).answer .done)))

/-- Calibration steps start, end, are accepted or fail, and accepted pairs reach the flash. Rests on 11_adc.md, R397,
R398, R399. -/
def Obligations.ConverterCalibration : Prop :=
  ∀ (s : State) (c : Fin 16), s.alive = true →
    (∀ (m : Master) (i : Fin 8) (d : Bool) (g : Fin 4) (full : Bool) (x : Instr), x = (if full then .calStepFull m c i d g else .calStepZero m c i d g) →
      (m ≠ .ranger → s.adcOwnedBy m c = true → exec x s = .next (s.answer .done)) ∧
      (m ≠ .ranger → s.adcOwnedBy m c = false → exec x s = .next (s.answer .busError)) ∧
      (m = .ranger → s.flag Reg.CAL_CTRL_CAL_EN c = false ∨ s.flag Reg.CAL_CTRL_STEP_BUSY c = true → Completes x s fun t =>
        t.flag Reg.ADC_FLAGS_CAL_REFUSED c = true ∧ (t.adcv c).step = (s.adcv c).step ∧ t.bus = .done) ∧
      (m = .ranger → s.flag Reg.CAL_CTRL_CAL_EN c = true → s.flag Reg.CAL_CTRL_STEP_BUSY c = false → Completes x s fun t =>
        t.flag Reg.CAL_CTRL_STEP_BUSY c = true ∧ t.get Reg.CAL_CTRL_INPUT c = i ∧ t.flag Reg.CAL_CTRL_DIFF c = d ∧ t.get Reg.CAL_CTRL_GAIN c = g ∧
        (t.adcv c).step = some ⟨full, 16 * g + 8 * b2n d + i, s.ticks + 320⟩ ∧ t.bus = .done)) ∧
    (∀ sum : Int, (s.adcv c).step = none → exec (.calStepEnd c sum) s = .next s) ∧
    (∀ (sum : Int) (st : AdcStep), (s.adcv c).step = some st →
      (st.full = false → Completes (.calStepEnd c sum) s fun t => t.flag Reg.CAL_CTRL_STEP_BUSY c = false ∧ (t.adcv c).step = none ∧
        t.ticks = max s.ticks st.done ∧ (t.adcv c).zero.get none st.pair = some sum) ∧
      (st.full = true → (s.adcv c).zero.get none st.pair = none ∨ (s.adcv c).zero.get none st.pair = some sum → Completes (.calStepEnd c sum) s fun t =>
        t.flag Reg.CAL_CTRL_STEP_BUSY c = false ∧ t.flag Reg.ADC_FLAGS_CAL_FAIL c = true ∧ s.Signalled 78 t ∧
        t.get Reg.CAL_COEF_GAIN (64 * c + st.pair) = s.get Reg.CAL_COEF_GAIN (64 * c + st.pair)) ∧
      (∀ a0 z span gain offset : Int, st.full = true → st.pair < 64 → (s.adcv c).zero.get none st.pair = some a0 → a0 ≠ sum → z = s.getS Reg.CAL_TARGET_CAL_ZERO c →
        span = s.getS Reg.CAL_TARGET_CAL_FULL c - z → span ≠ 0 → gain = ratRound (span * 256 * 32768) (sum - a0) →
        offset = ratRound (a0 * span - z * (sum - a0)) (256 * span) → Completes (.calStepEnd c sum) s fun t => s.Signalled 78 t ∧
        if 0x4000 ≤ gain ∧ gain ≤ 0xFFFF ∧ -32768 ≤ offset ∧ offset ≤ 32767 then
          (t.get Reg.CAL_COEF_GAIN (64 * c + st.pair) : Int) = gain ∧ t.getS Reg.CAL_COEF_OFFSET (64 * c + st.pair) = offset ∧
          bitOf (t.get Reg.CAL_VALID_VALID c) st.pair = true ∧ t.flag Reg.ADC_FLAGS_CAL_DONE c = true ∧ st.pair ∈ (t.adcv c).unsaved
        else t.flag Reg.ADC_FLAGS_CAL_FAIL c = true ∧ t.get Reg.CAL_COEF_GAIN (64 * c + st.pair) = s.get Reg.CAL_COEF_GAIN (64 * c + st.pair))) ∧
    (∀ i : Fin 64, (i.val ∉ (s.adcv c).unsaved → exec (.calPairPersist c i) s = .next s) ∧
      (i.val ∈ (s.adcv c).unsaved → Completes (.calPairPersist c i) s fun t => i.val ∉ (t.adcv c).unsaved ∧
        t.flash.calPairs.get none (64 * c + i) = some (s.get Reg.CAL_COEF_OFFSET (64 * c + i), s.get Reg.CAL_COEF_GAIN (64 * c + i))))

/-- A step channel's writes act for Ranger and its engine, and a command needs an enabled driver. Rests on
12_step_axes_homing.md, R408, R413, R417. -/
def Obligations.StepCommandsAndWrites : Prop :=
  ∀ (s : State) (m : Master) (ch : Fin 32), s.alive = true →
    ((m ≠ .ranger ∧ ∀ k : Fin 64, m = .jce k → k.val ≠ 56 + ch / 4) → ∀ c, (c ∈ [Instr.stpNone m ch, .stpMove m ch, .stpVelocity m ch, .stpStop m ch,
      .stpTrack m ch, .stpAbort m ch] ∨ (∃ b, c = .stpEnable m ch b) ∨ (∃ i, c = .ustepAlign m ch i) ∨ (∃ b, c = .drvPark m ch b) ∨
      ∃ v, c = .stpPosPreset m ch v) → exec c s = .next (s.answer .busError)) ∧
    ((m = .ranger ∨ ∃ k : Fin 64, m = .jce k ∧ k.val = 56 + ch / 4) →
      (s.get Reg.STP_HALT_CAUSES ch = 0 ∨ (s.step ch).haltAt ≠ some s.ticks → exec (.stpNone m ch) s = .next ((s.onStep ch fun c => { c with cmd := some (s.stagedNone ch) }).answer .done)) ∧
      (∀ c code, (code, c) ∈ [(1, Instr.stpMove m ch), (2, .stpVelocity m ch), (3, .stpStop m ch), (4, .stpTrack m ch), (5, .stpAbort m ch)] →
        (s.driveOn ch = false → exec c s = .next ((s.setFlag Reg.STP_FLAGS_CMD_REFUSED ch true).answer .done)) ∧
        (s.driveOn ch = true → s.get Reg.STP_HALT_CAUSES ch = 0 → code ≠ 5 →
          exec c s = .next ((s.onStep ch fun c => { c with cmd := some (s.stagedCmd ch code) }).answer .done)) ∧
        (s.driveOn ch = true → s.get Reg.STP_HALT_CAUSES ch = 0 → code = 5 → Completes c s fun t =>
          t.get Reg.STP_HALT_CAUSES ch = 1 ∧ t.stepState ch = 5 ∧ t.stepPos ch = s.stepPos ch ∧ (t.step ch).cmd = some (s.stagedCmd ch 0) ∧
          (t.step ch).prof = (s.step ch).prof.rest (s.stepPos ch) ∧ (t.step ch).haltAt = some s.ticks ∧ t.bus = .done)) ∧
      (∀ b, Completes (.stpEnable m ch b) s fun t => t.flag Reg.STP_CTRL_ENABLE ch = b ∧ t.stepPos ch = s.stepPos ch ∧ t.bus = .done ∧
        (b = false → t.driveOn ch = false ∧ (t.step ch).cmd = none ∧ (t.step ch).prof = (s.step ch).prof.rest (s.stepPos ch)) ∧
        (b = true → s.flag Reg.STP_STATUS_FLT ch = false → bitOf (t.get Reg.STP_HALT_CAUSES ch) 4 = false)) ∧
      (∀ i : BitVec 13, exec (.ustepAlign m ch i) s =
        .next (((s.set Reg.STP_USTEP_USTEP_IDX ch i.toNat).setFlag Reg.STP_USTEP_IDX_VALID ch true).answer .done)) ∧
      (s.stepState ch = 0 → (s.step ch).prof.v = 0 → Completes (.drvPark m ch true) s fun t => t.flag Reg.STP_CTRL_DRV_PARK ch = true ∧
        t.stepState ch = 6 ∧ t.get Reg.STP_STATUS_STATE ch = 6 ∧ t.stepPos ch = s.stepPos ch) ∧
      (s.stepState ch ∈ [2, 3, 4, 5] → exec (.drvPark m ch true) s = .next ((s.setFlag Reg.STP_FLAGS_CMD_REFUSED ch true).answer .done)) ∧
      (Completes (.drvPark m ch false) s fun t => t.flag Reg.STP_CTRL_DRV_PARK ch = false ∧ t.bus = .done) ∧
      (∀ v : BitVec 48, (s.stepState ch ∈ [0, 1, 6] → Completes (.stpPosPreset m ch v) s fun t => t.stepPos ch = v.toInt ∧
          (t.step ch).prof = (s.step ch).prof.rest v.toInt ∧ t.bus = .done) ∧
        (s.stepState ch ∈ [2, 3, 4, 5] → exec (.stpPosPreset m ch v) s = .next ((s.setFlag Reg.STP_FLAGS_CMD_REFUSED ch true).answer .done))))

/-- What the timed events and inputs of step channels and axes do. Rests on 12_step_axes_homing.md, R411, R414, R416,
R424. -/
def Obligations.StepEventsAndInputs : Prop :=
  ∀ (s : State), s.alive = true →
    (∀ ch : Fin 32,
      (s.driveOn ch = false ∨ s.get Reg.STP_HALT_CAUSES ch ≠ 0 ∨ s.stepDue ch s.ticks = none → exec (.stepIssue ch) s = .next s) ∧
      (∀ down (d : Int), s.driveOn ch = true → s.get Reg.STP_HALT_CAUSES ch = 0 → s.stepDue ch s.ticks = some down → d = (if down then -1 else 1) →
        -(2 ^ 47) ≤ s.stepPos ch + d → s.stepPos ch + d ≤ 2 ^ 47 - 1 →
        (s.ticks < s.stepFree ch down → exec (.stepIssue ch) s = .next s) ∧
        (s.stepFree ch down ≤ s.ticks → Completes (.stepIssue ch) s fun t => t.stepPos ch = s.stepPos ch + d ∧
          t.get Reg.STP_USTEP_USTEP_IDX ch = (s.get Reg.STP_USTEP_USTEP_IDX ch + (if down then s.ustepCycle ch - 1 else 1)) % s.ustepCycle ch ∧
          t.flag Reg.STP_STATUS_DIR ch = down ∧ (t.step ch).lastStep = some s.ticks ∧ t.ticks = s.ticks ∧
          ∀ j, j ≠ ch.val → t.stepPos j = s.stepPos j ∧ t.step j = s.step j)) ∧
      (s.stepParked ch = true → exec (.stpProfileUpdate ch) s = .next s) ∧
      (s.stepParked ch = false → Completes (.stpProfileUpdate ch) s fun t => (t.step ch).cmd = none ∧ t.stepPos ch = s.stepPos ch ∧
        t.ticks = max s.ticks ((s.step ch).base + 125) ∧
        (t.step ch).base = (if (s.step ch).prof.busy then (s.step ch).base + 125 else t.ticks) ∧
        ∀ k, (s.step ch).cmd = some k → (t.step ch).vStart = k.vStart) ∧
      (∀ (high : Bool) (us : Fin 1001) (act : Bool) (lim : Nat), act = (high != s.flag Reg.STP_CFG_FLT_POL ch) →
        lim = clampN 1 1000 (s.get Reg.STP_TIMING_FLT_FILT ch) →
        (us.val < lim → exec (.drvfltAccept ⟨ch, high, us⟩) s = .next s ∧ exec (.drvfltRelease ⟨ch, high, us⟩) s = .next s) ∧
        (lim ≤ us.val → act = false → exec (.drvfltAccept ⟨ch, high, us⟩) s = .next s ∧
          exec (.drvfltRelease ⟨ch, high, us⟩) s = .next (s.setFlag Reg.STP_STATUS_FLT ch false)) ∧
        (lim ≤ us.val → act = true → exec (.drvfltRelease ⟨ch, high, us⟩) s = .next s) ∧
        (lim ≤ us.val → act = true → s.stepParked ch = true ∨ (s.step ch).settle.isSome = true →
          exec (.drvfltAccept ⟨ch, high, us⟩) s = .next (s.setFlag Reg.STP_STATUS_FLT ch true)) ∧
        (lim ≤ us.val → act = true → s.stepParked ch = false → (s.step ch).settle = none → Completes (.drvfltAccept ⟨ch, high, us⟩) s fun t =>
          t.flag Reg.STP_STATUS_FLT ch = true ∧ bitOf (t.get Reg.STP_HALT_CAUSES ch) 4 = true ∧ t.driveOn ch = false ∧
          t.flag Reg.STP_FLAGS_FLT_SEEN ch = true ∧ t.flag Reg.STP_USTEP_IDX_VALID ch = false ∧ s.Signalled 80 t)) ∧
      ((s.step ch).settle = none → exec (.parkSettleEnd ch) s = .next s) ∧
      (∀ w, (s.step ch).settle = some w → s.flag Reg.STP_STATUS_FLT ch = false → Completes (.parkSettleEnd ch) s fun t =>
        (t.step ch).settle = none ∧ t.ticks = max s.ticks w ∧ t.get Reg.STP_HALT_CAUSES ch = s.get Reg.STP_HALT_CAUSES ch)) ∧
    (∀ (x : Fin 256) (i : Fin 3) (high : Bool) (us : Fin 100001),
      (s.axisIo x = none ∨ (∃ d, s.axisIo x = some d ∧ (axisHas d i = none ∨ us.val < clampN 100 100000 d.filt ∨
          (∃ act, axisHas d i = some act ∧ (s.axisIn.get AxisIn.reset x).level i = (high == act)))) →
        exec (.axisInputEdge x i (high, us)) s = .next s) ∧
      (∀ d act (l : Bool) (a : AxisIn), s.axisIo x = some d → axisHas d i = some act → l = (high == act) →
          a = s.axisIn.get AxisIn.reset x → a.level i ≠ l → clampN 100 100000 d.filt ≤ us.val →
        Completes (.axisInputEdge x i (high, us)) s fun t =>
        (t.axisIn.get AxisIn.reset x).lastInput = i ∧ (t.axisIn.get AxisIn.reset x).edgeTime = s.tb 0 - 1000 * us.val ∧
        (t.axisIn.get AxisIn.reset x).pos = (if i = 0 then l else a.pos) ∧ (t.axisIn.get AxisIn.reset x).neg = (if i = 1 then l else a.neg) ∧
        (t.axisIn.get AxisIn.reset x).home = (if i = 2 then l else a.home) ∧
        (∀ e1 e2 e3 e4 r, i = 0 → a.posEdges = e4 :: e3 :: e2 :: e1 :: r → a.posChatter = false →
          (s.ticks ≤ e1 + msTicks 50 → (t.axisIn.get AxisIn.reset x).posChatter = true ∧ s.Signalled 84 t) ∧
          (e1 + msTicks 50 < s.ticks → (t.axisIn.get AxisIn.reset x).posChatter = false)) ∧
        ∀ y, y ≠ x.val → t.axisIn.get AxisIn.reset y = s.axisIn.get AxisIn.reset y) ∧
      (∀ (neg : Bool) (a : AxisIn), a = s.axisIn.get AxisIn.reset x → (if neg then a.negChatter else a.posChatter) = false →
        exec (.chatterClear x neg) s = .next s) ∧
      (∀ e r (a : AxisIn), a = s.axisIn.get AxisIn.reset x → a.posEdges = e :: r → a.posChatter = true →
        Completes (.chatterClear x false) s fun t => t.ticks = max s.ticks (e + msTicks 50) ∧
          t.axisIn.get AxisIn.reset x = { a with posChatter := false, posEdges := [] }) ∧
      (∀ e r (a : AxisIn), a = s.axisIn.get AxisIn.reset x → a.negEdges = e :: r → a.negChatter = true →
        Completes (.chatterClear x true) s fun t => t.ticks = max s.ticks (e + msTicks 50) ∧
          t.axisIn.get AxisIn.reset x = { a with negChatter := false, negEdges := [] }))

/-- A failed diagnostic, a watchdog trip and a debug halt leave every output off and torque nowhere. Rests on
13_caldera_io.md, R434, R439, R440, R441. -/
def Obligations.FailedDiagnosticHoldsEverythingOff : Prop :=
  ∀ (s : State), s.alive = true →
    (∀ (c : Instr) (code : Nat), ((∃ k : Fin 9, k ≠ 8 ∧ c = .diagnosticFault k ∧ code = k + 1) ∨ (c = .watchdogTrip ∧ s.get Reg.CAL_STATE_STATE 0 ≠ 2 ∧ code = 4) ∨
        (c = .diagnosticFault 8 ∧ s.get Reg.CAL_STATE_STATE 0 ≠ 2 ∧ code = 4) ∨
        (∃ d : Fin 10, d ≠ 0 ∧ c = .calderaStart d ∧ code = d ∧ s.get Reg.CAL_STATE_STATE 0 = 0 ∧ s.cal.halted = false ∧ s.boot.ranger ≠ none)) →
      Completes c s fun t => t.get Reg.CAL_STATE_STATE 0 = 2 ∧
        t.get Reg.CAL_STATE_DIAG_FIRST 0 = (if s.get Reg.CAL_STATE_DIAG_FIRST 0 = 0 then code else s.get Reg.CAL_STATE_DIAG_FIRST 0) ∧
        (∀ n < 16, t.flag Reg.SO_STATUS_OUT n = false) ∧ t.cal.tpsOut = 0 ∧ (∀ i < 4, t.get Reg.PERMIT i = 0) ∧
        (∀ a < 256, (t.calAx a).sto = true) ∧ (∀ p < 96, (t.pair p).caldera = true) ∧ (∀ ch < 32, bitOf (t.get Reg.STP_HALT_CAUSES ch) 3 = true) ∧
        (s.get Reg.CAL_STATE_STATE 0 ≠ 2 → s.Signalled 198 t)) ∧
    (s.get Reg.CAL_STATE_STATE 0 = 2 → exec .watchdogTrip s = .next s) ∧
    (s.hartHeld 17 = true → exec .calderaDebugHalt s = .next s) ∧
    (s.hartHeld 17 = false → Completes .calderaDebugHalt s fun t => t.cal.halted = true ∧ t.hartHeld 17 = true ∧ t.calRuns = false) ∧
    (∀ d, s.get Reg.CAL_STATE_STATE 0 ≠ 0 ∨ s.cal.halted = true ∨ s.boot.ranger = none → exec (.calderaStart d) s = .next s) ∧
    (s.get Reg.CAL_STATE_STATE 0 = 0 → s.cal.halted = false → s.boot.ranger ≠ none → Completes (.calderaStart 0) s fun t =>
      t.get Reg.CAL_STATE_STATE 0 = 1 ∧ t.cal.n = 0 ∧ t.cal.start = s.tb 6 ∧
      t.cal.set = (s.flash.safeSet.bind fun c => if c.computeCrc = c.crc then some c else none) ∧
      (∀ a < 256, (t.calAx a).sto = true) ∧ (∀ p < 96, (t.pair p).caldera = true) ∧ (∀ ch < 32, bitOf (t.get Reg.STP_HALT_CAUSES ch) 3 = true) ∧
      s.Signalled 200 t)

/-- Each timed command of Caldera brings its clock of samples to the instant that the manual names, and does nothing
without its condition. Rests on 13_caldera_io.md, 14_stops_and_separation.md, R435, R436, R481. -/
def Obligations.CalderaTimedCommands : Prop :=
  ∀ (s : State), s.alive = true →
    (∀ si sorb edm, s.get Reg.CAL_STATE_STATE 0 = 0 ∨ (s.cal.halted = true ∧ s.get Reg.CAL_STATE_STATE 0 ≠ 1) → exec (.safetySample si sorb edm) s =
      .next (s.onCal fun k => { k with si := si, sorb := sorb, edm := edm })) ∧
    (∀ si sorb edm, s.get Reg.CAL_STATE_STATE 0 = 1 → s.cal.halted = true → Completes (.safetySample si sorb edm) s fun t =>
      t.get Reg.CAL_STATE_STATE 0 = 2 ∧ t.cal.n = s.cal.n ∧ t.cal.si = si ∧ (∀ a < 256, (t.calAx a).sto = true) ∧ s.Signalled 199 t ∧ s.Signalled 198 t) ∧
    (∀ q : Fin 16, s.flag Reg.SIP_STATUS_DISC_RUNNING q = false → exec (.discrepancyLatch q) s = .next s) ∧
    (∀ (p : Fin 8) (si : Word32), (s.calTps p).t0 = none → exec (.testPulseCheck p si) s = .next s ∧ exec (.testWindowEnd p si) s = .next s) ∧
    (∀ p : Fin 8, (s.calTps p).due = none ∨ (s.calTps p).t0 ≠ none ∨ s.flag Reg.TPS_CFG_EN p = false → exec (.testPulseStart p) s = .next s) ∧
    (∀ o : Fin 16, s.flag Reg.SO_STATUS_OUT o = false ∨ s.flag Reg.SO_CFG_TEST_EN o = false ∨ s.flag Reg.SO_STATUS_TESTING o = true →
      exec (.outputTestPulse o) s = .next s ∧ exec (.outputRetest o) s = .next s) ∧
    (∀ (o : Fin 16) (v : BitVec 16), s.flag Reg.SO_STATUS_TESTING o = false → exec (.outputTestEnd o v) s = .next s) ∧
    (s.cal.ss1At = none → exec .ss1TmaxExpiry s = .next s ∧ ∀ a, exec (.standstillConfirm a) s = .next s) ∧
    (∀ a : Fin 256, (s.calAx a).cross = none → exec (.xchkFail a) s = .next s) ∧
    (∀ g : Fin 16, s.level g = 0 → exec (.levelRaise g) s = .next s) ∧
    (s.calRuns = true → s.cal.bound ≤ s.cal.n → s.cal.sepAt ≤ s.cal.n →
      (∀ si sorb edm, Completes (.safetySample si sorb edm) s fun t => t.cal.n = s.cal.n + 1 ∧ t.cal.si = si ∧ t.cal.sorb = sorb ∧ t.cal.edm = edm ∧
        t.calRuns = true) ∧
      (∀ pins, Completes (.safetyCycleBoundary pins) s fun t =>
        t.cal.n = (if s.boundaryDue then s.cal.n else s.cal.n + 2 - s.cal.n % 2) ∧ t.cal.bound = t.cal.n ∧ t.cal.sealPins = pins ∧
        t.get Reg.CYCLE_COUNT 0 = (s.get Reg.CYCLE_COUNT 0 + 1) % 2 ^ Reg.CYCLE_COUNT.width) ∧
      (Completes .separationCycle s fun t => t.cal.n = (if s.separationDue then s.cal.n else s.cal.n / 4 * 4 + 4) ∧ t.cal.sepAt = t.cal.n) ∧
      (∀ q : Fin 16, s.flag Reg.SIP_STATUS_DISC_RUNNING q = true → (s.calPair q).latched = false → Completes (.discrepancyLatch q) s fun t =>
        t.cal.n = max s.cal.n ((s.calPair q).tDisc + 4 * s.get Reg.SIP_CFG_T_DISC q)) ∧
      (∀ (p : Fin 8) d, (s.calTps p).due = some d → (s.calTps p).t0 = none → s.flag Reg.TPS_CFG_EN p = true → s.cal.n < d →
        Completes (.testPulseStart p) s fun t => t.cal.n = d + d % 2 ∧ t.cal.bound = t.cal.n) ∧
      (∀ (p : Fin 8) t0 si, (s.calTps p).t0 = some t0 →
        (Completes (.testPulseCheck p si) s fun t => t.cal.n = max s.cal.n (t0 + s.get Reg.TPS_CFG_TP_WIDTH p - 1)) ∧
        (Completes (.testWindowEnd p si) s fun t => t.cal.n = max s.cal.n (t0 + s.get Reg.TPS_CFG_TP_WIDTH p + s.get Reg.TPS_CFG_TP_SETTLE p))) ∧
      (∀ (o : Fin 16) m, s.flag Reg.SO_STATUS_OUT o = true → s.flag Reg.SO_CFG_TEST_EN o = true → s.flag Reg.SO_STATUS_TESTING o = false →
        m = max s.cal.n (s.calOut o).nextTest → (Completes (.outputTestPulse o) s fun t => t.cal.n = m + m % 2) ∧
        (s.flag Reg.SO_STATUS_RETEST o = true → Completes (.outputRetest o) s fun t => t.cal.n = m + m % 2)) ∧
      (∀ (o : Fin 16) v n, s.flag Reg.SO_STATUS_TESTING o = true → n = (s.calOut o).testAt + s.get Reg.SO_CFG_OTP_WIDTH o → s.cal.n < n →
        Completes (.outputTestEnd o v) s fun t => t.cal.n = n ∧ t.cal.sorb = v) ∧
      (∀ w, s.cal.ss1At = some w → (Completes .ss1TmaxExpiry s fun t => w + 4 * s.safe 0x0806 0 ≤ t.cal.n ∧ t.cal.n % 2 = 0 ∧ t.cal.bound = t.cal.n) ∧
        ∀ (a : Fin 256) v, (s.calAx a).confirm = some v → Completes (.standstillConfirm a) s fun t => v + 4 * s.safe 0x0512 a ≤ t.cal.n ∧ t.cal.n % 2 = 0) ∧
      (∀ (a : Fin 256) w m, (s.calAx a).cross = some w → (s.calAx a).crossed = false → m = max (s.cal.n + 1) (w + 4 * s.safe 0x050D a) →
        Completes (.xchkFail a) s fun t => t.cal.n = m + m % 2 ∧ t.cal.bound = t.cal.n) ∧
      (∀ (g : Fin 16) w m, s.level g = 2 → (s.calArm g).upReduced = some w → m = max (s.cal.n + 1) (w + 4 * s.safe 0x0804 0) →
        Completes (.levelRaise g) s fun t => t.cal.n = m + m % 2) ∧
      (∀ (b : Fin 4) l, Completes (.sealAccept b l) s fun t => t.cal.sealPins.getLsbD b = l ∧ (∀ j < 4, j ≠ b.val → t.cal.sealPins.getLsbD j = s.cal.sealPins.getLsbD j) ∧
        t.cal.n % 2 = 0 ∧ t.cal.bound = t.cal.n))

/-- Safety frames are accepted, rejected or counted, connections time out, and a new set applies at a boundary. Rests
on 14_stops_and_separation.md, 15_safety_parameters.md, R478, R479, R494. -/
def Obligations.CalderaConnectionsAndSets : Prop :=
  ∀ (s : State), s.alive = true →
    (∀ f eth, s.calRuns = false → s.boundaryDue = false → s.separationDue = false → exec (.safetyFrame f eth) s = .next s) ∧
    (s.calRuns = true → s.boundaryDue = false → s.separationDue = false → ∀ (f : List Byte) (eth : Bool),
      (connIndex (uAt f 0 2) = none → Completes (.safetyFrame f eth) s fun t => s.Signalled 208 t ∧ t.cal = s.cal) ∧
      (∀ c, connIndex (uAt f 0 2) = some c →
        (s.get Reg.CONN_STATE_STATE c = 0 → Completes (.safetyFrame f eth) s fun t => s.Signalled 208 t ∧ t.cal = s.cal) ∧
        (∀ n, n = 4 * uAt f 3 1 → s.get Reg.CONN_STATE_STATE c ≠ 0 →
          (f.length < 20 + n ∨ crcSafe (leBytes 4 (s.safe 0x0901 c) ++ f.take (16 + n)) ≠ uAt f (16 + n) 4 → Completes (.safetyFrame f eth) s fun t =>
            s.Signalled 208 t ∧ t.get Reg.CONN_STATE_CRC_ERR c = min (s.get Reg.CONN_STATE_CRC_ERR c + 1) (2 ^ Reg.CONN_STATE_CRC_ERR.width - 1) ∧
            (t.conn c).acceptedAt = (s.conn c).acceptedAt ∧
            ((s.conn c).crcAt = [] → t.get Reg.CONN_STATE_STATE c = s.get Reg.CONN_STATE_STATE c ∧ (t.conn c).crcAt = [s.tb 6])) ∧
          (20 + n ≤ f.length → crcSafe (leBytes 4 (s.safe 0x0901 c) ++ f.take (16 + n)) = uAt f (16 + n) 4 →
            (uAt f 2 1 ≠ (if c < 256 then 1 else 3) ∨ s.frameLenOk c f = false ∨ uAt f 12 2 ≠ s.safe 0x0902 c → Completes (.safetyFrame f eth) s fun t =>
              s.Signalled 208 t ∧ t.cal = s.cal) ∧
            (uAt f 2 1 = (if c < 256 then 1 else 3) → s.frameLenOk c f = true → uAt f 12 2 = s.safe 0x0902 c → s.get Reg.CONN_STATE_STATE c ≠ 2 → eth = true →
              Completes (.safetyFrame f eth) s fun t => t.get Reg.CONN_STATE_STATE c = 2 ∧ (t.conn c).seq = uAt f 4 4 ∧ (t.conn c).time = uAt f 8 4 ∧
                (t.conn c).acceptedAt = s.tb 6 ∧ ∀ j, j ≠ c → t.conn j = s.conn j))))) ∧
    (∀ c : Fin 272, s.get Reg.CONN_STATE_STATE c ≠ 2 ∨ s.calRuns = false → exec (.connectionTimeout c) s = .next s) ∧
    (∀ (c : Fin 272) w, s.calRuns = true → s.get Reg.CONN_STATE_STATE c = 2 → s.cal.stoNow = [] → s.cal.ss1Now = [] →
      w = (s.conn c).acceptedAt + s.connWdt c → (w - s.cal.start) / 250000 ≤ s.cal.n → Completes (.connectionTimeout c) s fun t =>
        t.get Reg.CONN_STATE_STATE c = 3 ∧ t.get Reg.CONN_STATE_TIMEOUTS c = min (s.get Reg.CONN_STATE_TIMEOUTS c + 1) (2 ^ Reg.CONN_STATE_TIMEOUTS.width - 1) ∧
        s.Signalled 207 t ∧ (t.conn c).tracks = [] ∧
        (c < 256 → t.get Reg.STOP_STATE_STOP_CAUSE 0 = 7 ∧ t.cal.stoAt.isSome = true ∧ t.flag Reg.STOP_STATE_RESTART_PEND 0 = true ∧ s.Signalled 202 t) ∧
        (256 ≤ c.val → t.cal.stoAt = s.cal.stoAt)) ∧
    (s.cal.waiting = none → exec .setApply s = .next s) ∧
    (∀ x, s.calRuns = true → s.boundaryDue = true → s.cal.waiting = some x → Completes .setApply s fun t => t.cal.set = some x ∧ t.cal.waiting = none ∧
      (∀ a < 256, (t.calAx a).sto = true) ∧ (∀ i < 16, t.flag Reg.SIP_STATUS_DEMAND i = (x.nat 0x0101 i != 0)) ∧
      (s.flag Reg.STOP_STATE_RESTART_PEND 0 = true → t.flag Reg.STOP_STATE_RESTART_PEND 0 = true))

/-- Ports find modes and agree on personalities, and the star sends, judges and takes frames. Rests on
16_ports_and_negotiation.md, 17_geyser.md, R507, R513, R521, R522, R544, R560, R562. -/
def Obligations.PortsAndStar : Prop :=
  ∀ (s : State), s.alive = true →
    (∀ r : Fin 2, Completes (.refLoss r) s fun t => s.Signalled 132 t ∧ ∀ p < 64,
      if p / 32 = r then t.flag Reg.PORT_FLAGS_REF_LOST p = true ∧ t.flag Reg.PORT_STATUS_REF_OK p = false ∧
        t.link p = 6 else t.link p = s.link p ∧ t.flag Reg.PORT_STATUS_REF_OK p = s.flag Reg.PORT_STATUS_REF_OK p) ∧
    (∀ r : Fin 2, Completes (.refRestore r) s fun t => ∀ p < 64, if p / 32 = r then t.flag Reg.PORT_STATUS_REF_OK p = true ∧
      t.link p = (if s.link p = 6 then (if s.flag Reg.PORT_CFG_EN p then 1 else 0) else s.link p) else t.link p = s.link p) ∧
    (∀ p : Fin 64,
      (s.link p ≠ 1 → (exec (.clause73Timeout p) s = .next s ∧ ∀ x y, exec (.modeTryTimeout p x) s = .next s ∧ exec (.phySettled p x y) s = .next s)) ∧
      (∀ b r, s.link p = 1 → (s.port p).c73 = true → s.parallel p = b :: r → Completes (.clause73Timeout p) s fun t => (t.port p).c73 = false ∧
        t.get Reg.PORT_STATUS_MODE p = 2 ^ b ∧ (t.port p).tries = r ∧ t.ticks = max s.ticks ((s.port p).since + msTicks 500) ∧ (t.port p).since = t.ticks) ∧
      (∀ b r x, s.link p = 1 → (s.port p).c73 = false → (s.port p).tries = b :: r → b < 8 → Completes (.modeTryTimeout p x) s fun t =>
        t.get Reg.PORT_STATUS_MODE p = 2 ^ b ∧ (t.port p).tries = r ∧ t.ticks = max s.ticks ((s.port p).since + msTicks 50)) ∧
      (∀ x y, s.link p = 1 → (s.port p).c73 = false → s.get Reg.PORT_STATUS_MODE p ≠ 0 → Completes (.phySettled p x y) s fun t => t.link p = 2 ∧
        (t.port p).session ≠ 0 ∧ (t.port p).choice = 0 ∧ t.get Reg.PORT_STATUS_MODE p = s.get Reg.PORT_STATUS_MODE p ∧ t.get Reg.PORT_STATUS_PERSONALITY p = 0) ∧
      (∀ (x : BitVec 8) y b r, s.link p = 1 → (s.port p).c73 = true → (s.advert p).filter (fun b => bitOf x.toNat b) = b :: r → Completes (.phySettled p x y) s fun t =>
        t.link p = 2 ∧ (t.port p).session ≠ 0 ∧ t.get Reg.PORT_STATUS_MODE p = 2 ^ b) ∧
      (∀ us errs frames, (s.link p ∉ [2, 3, 4] → exec (.linkDown ⟨p, us, errs, frames⟩) s = .next s) ∧
        (s.link p ∈ [2, 3, 4] → Completes (.linkDown ⟨p, us, errs, frames⟩) s fun t =>
          t.get Reg.PCS_ERR_COUNT p = min (s.get Reg.PCS_ERR_COUNT p + errs.toNat) (2 ^ Reg.PCS_ERR_COUNT.width - 1) ∧
          t.get Reg.FCS_ERR_COUNT p = min (s.get Reg.FCS_ERR_COUNT p + frames.toNat) (2 ^ Reg.FCS_ERR_COUNT.width - 1) ∧
          if s.get Reg.LINK_TIMING_LINK_DOWN_T p ≤ us then t.get Reg.LINK_DOWN_COUNT p = min (s.get Reg.LINK_DOWN_COUNT p + 1) 0xFFFF ∧
            t.flag Reg.PORT_FLAGS_LINK_LOST p = true ∧ t.get Reg.PORT_STATUS_PERSONALITY p = 0 ∧ s.Signalled 129 t ∧
            t.link p = (if s.flag Reg.PORT_CFG_EN p then (if s.refDown p then 6 else 1) else 0)
          else t.link p = s.link p ∧ t.get Reg.LINK_DOWN_COUNT p = s.get Reg.LINK_DOWN_COUNT p ∧ t.outbox = s.outbox)) ∧
      (∀ mac m, s.link p ∉ [2, 3, 4] ∨ s.negValid p m = false → exec (.negotiationMessage p mac m) s = .next s) ∧
      (∀ mac m, s.link p = 2 → s.negValid p m = true →
        (∀ c, uAt m 3 1 = 1 → c = s.choose p (uAt m 12 1) (uAt m 16 1) →
          (c ≠ 0 → Completes (.negotiationMessage p mac m) s fun t => t.link p = 2 ∧ (t.port p).choice = c ∧ (t.port p).peer = uAt m 4 4 ∧ (t.port p).heard = true) ∧
          (c = 0 → Completes (.negotiationMessage p mac m) s fun t => t.link p = 4 ∧ t.flag Reg.PORT_FLAGS_NO_COMMON_SEEN p = true ∧ s.Signalled 130 t)) ∧
        (uAt m 3 1 = 2 → (s.port p).choice ≠ 0 → (s.port p).choice < 8 → uAt m 13 1 = (s.port p).choice → uAt m 8 4 = (s.port p).session → (s.port p).sent = true →
          Completes (.negotiationMessage p mac m) s fun t => t.link p = 3 ∧ t.get Reg.PORT_STATUS_PERSONALITY p = (s.port p).choice ∧ s.Signalled 128 t)) ∧
      (s.link p ∉ [2, 4] → exec (.offerTimer p) s = .next s) ∧
      (s.link p = 2 → (s.port p).choice = 0 → Completes (.offerTimer p) s fun t => t.ticks = max s.ticks ((s.port p).last + msTicks 1) ∧ t.link p = 2 ∧
        t.outbox.head? = some (.frame p (negotiationMac ++ portMac p ++ [0x88, 0xB5] ++ s.negMessage p 1 0))) ∧
      (s.link p = 4 → Completes (.offerTimer p) s fun t => t.ticks = max s.ticks ((s.port p).last + msTicks 100) ∧ t.link p = 4 ∧
        t.outbox.head? = some (.frame p (negotiationMac ++ portMac p ++ [0x88, 0xB5] ++ s.negMessage p 1 0))) ∧
      (s.link p ≠ 2 ∨ (s.port p).heard = true → exec (.silentPartner p) s = .next s) ∧
      (s.link p = 2 → (s.port p).heard = false → Completes (.silentPartner p) s fun t => t.ticks = max s.ticks ((s.port p).since + msTicks 50) ∧
        if bitOf (s.get Reg.PORT_CFG_PERS_MASK p) 0 then t.link p = 3 ∧ t.get Reg.PORT_STATUS_PERSONALITY p = 1 ∧ t.flag Reg.PORT_STATUS_SILENT_PARTNER p = true ∧ s.Signalled 128 t
        else t.link p = 4 ∧ s.Signalled 130 t)) ∧
    (∀ m : Fin 256, (s.slotOf m = none → exec (.downlinkAssembly m) s = .next s ∧ exec (.uplinkWindowClose m) s = .next s) ∧
      (∀ i n p, s.slotOf m = some i → p = s.get Reg.NODE_CFG_PORT i → s.nodeDef (s.get Reg.NODE_CFG_NODE_ID i) = some n → n.safeWords = 0 → s.starRuns = true →
        s.geyserPorts.contains p = true → Completes (.downlinkAssembly m) s fun t => (∃ f, t.outbox.head? = some (.frame p f)) ∧
          t.get Reg.FRAMES_OUT_COUNT p = (s.get Reg.FRAMES_OUT_COUNT p + 1) % 2 ^ Reg.FRAMES_OUT_COUNT.width ∧ (t.node i).sent.isSome = true) ∧
      (∀ i, s.slotOf m = some i → s.pairSync = false → s.starRuns = true → exec (.uplinkWindowClose m) s = .next (s.beside fun s =>
        s.waitTb 0 (s.star.start + s.get Reg.NODE_CFG_ARRIVE i + s.guardNs)))) ∧
    (∀ (p : Fin 64) (st : Nat) (fcs : Bool) (f : List Byte),
      (s.geyserPorts.contains p.val = false → exec (.uplinkFrame p st fcs f) s = .next (s.beside fun s => s.waitTb 0 (s.star.start + st)) ∧
        exec (.coldstartFrame p fcs f) s = .next s) ∧
      (s.starState = 0 → Completes (.uplinkFrame p st fcs f) s (fun t => t.points = s.points ∧ ∀ i, t.node i = s.node i) ∧
        Completes (.coldstartFrame p fcs f) s fun t => t.points = s.points ∧ t.star = s.star ∧ ∀ i, t.node i = s.node i) ∧
      (s.geyserPorts.contains p.val = true → Completes (.uplinkFrame p st false f) s fun t =>
        t.get Reg.FCS_ERR_COUNT p = min (s.get Reg.FCS_ERR_COUNT p + 1) 0xFFFFFFFF ∧ t.points = s.points ∧ ∀ i, t.node i = s.node i) ∧
      (∀ g i, s.geyserPorts.contains p.val = true → s.starRuns = true → f.length + 4 ≤ clampN 1518 2048 (s.get Reg.PORT_CFG_MTU p) → beAt f 12 2 ≠ 0x8808 →
        readGeyser f = some g → g.crcOk = true → s.slotOf g.node = some i → g.type = 4 → s.lengthOk i g = true → s.nodeState i = 2 → s.pairSync = false →
        (s.inWindowOf i p st = true → Completes (.uplinkFrame p st true f) s fun t => (t.node i).acc = true ∧
          t.get Reg.NODE_STATUS_LAST_CYCLE i = s.get Reg.CYCLE_NUM_NUMBER 0 % 65536) ∧
        (s.inWindowOf i p st = false → Completes (.uplinkFrame p st true f) s fun t => (t.node i).blk = true ∧ (t.node i).acc = (s.node i).acc ∧ t.points = s.points ∧
          t.get Reg.SLOT_VIOLATION_COUNT i = min (s.get Reg.SLOT_VIOLATION_COUNT i + 1) 0xFFFFFFFF)) ∧
      (∀ g i, s.geyserPorts.contains p.val = true → s.starState = 1 → f.length + 4 ≤ clampN 1518 2048 (s.get Reg.PORT_CFG_MTU p) → beAt f 12 2 ≠ 0x8808 →
        readGeyser f = some g → g.crcOk = true → s.slotOf g.node = some i → g.type = 6 → uAt g.payload 8 4 = s.get Reg.STAR_CFG_CYCLE 0 →
        (s.star.contender = none → Completes (.coldstartFrame p true f) s fun t => t.star.contender = some ⟨g.node, p, g.raw, s.tb 0, s.ticks, false⟩) ∧
        (∀ c, s.star.contender = some c → c.node ≠ g.node → s.ticks ≤ c.tick + 250 → Completes (.coldstartFrame p true f) s fun t =>
          t.star.contender = some { c with collided := true }))) ∧
    (s.star.contender = none ∨ s.starState ≠ 1 → exec .collisionWindowEnd s = .next s) ∧
    (∀ c, s.star.contender = some c → s.starState = 1 →
      (c.collided = true → Completes .collisionWindowEnd s fun t => t.star.contender = none ∧ t.starState = 1 ∧ t.flag Reg.STAR_FLAGS_COLLISION_SEEN 0 = true ∧
        t.get Reg.STAR_COUNT_COLL_COUNT 0 = min (s.get Reg.STAR_COUNT_COLL_COUNT 0 + 1) (2 ^ Reg.STAR_COUNT_COLL_COUNT.width - 1) ∧ s.Signalled 134 t) ∧
      (c.collided = false → Completes .collisionWindowEnd s fun t => t.star.contender = none ∧ t.starState = 2 ∧ ∃ a, t.star.runAt = some a ∧ a % t.cycleNs = 0 ∧
        t.tb 0 + 10000 ≤ a)) ∧
    (s.starState ≠ 1 ∨ s.star.contender ≠ none ∨ s.star.runAt ≠ none → exec .listenTimeout s = .next s) ∧
    (s.starState = 1 → s.star.contender = none → s.star.runAt = none → Completes .listenTimeout s fun t => t.ticks = max s.ticks (s.star.since + msTicks 20) ∧
      ∃ a, t.star.runAt = some a ∧ a % t.cycleNs = 0 ∧ t.tb 0 < a)

/-- Corrections step or wait, masters change, frames cross the bridge, gates and captures keep their times. Rests on
18_time_and_tsn.md, R572, R573, R579, R583, R584, R588. -/
def Obligations.TimeBasesAndBridge : Prop :=
  ∀ (s : State), s.alive = true →
    (∀ (b : Fin 8) (d : Int),
      (steps b = false → exec (.tbCorrection b d) s = .next s) ∧
      (steps b = true → d.natAbs ≤ s.get Reg.JUMP_LIMIT_NS b → 0 ≤ ((s.advance 1).tb b : Int) + d → ((s.advance 1).tb b : Int) + d < 2 ^ 64 →
        Completes (.tbCorrection b d) s fun t => (t.tb b : Int) = ((s.advance 1).tb b : Int) + d ∧ t.flag Reg.TB_STATE_STEP_PENDING b = false ∧
          t.ticks = s.ticks + 1 ∧ ∀ j, j ≠ b.val → t.tb j = (s.advance 1).tb j) ∧
      (steps b = true → s.get Reg.JUMP_LIMIT_NS b < d.natAbs → -(2 ^ 63) ≤ d → d < 2 ^ 63 → Completes (.tbCorrection b d) s fun t =>
        t.getS Reg.PENDING_STEP_NS b = d ∧ t.flag Reg.TB_STATE_STEP_PENDING b = true ∧ (∀ j, t.tb j = s.tb j) ∧ t.ticks = s.ticks ∧
        t.get Reg.TB_COUNT_STEPS_REFUSED b = min (s.get Reg.TB_COUNT_STEPS_REFUSED b + 1) 0xFFFF ∧ t.get Reg.TB_STATE_STATE b = 3 ∧
        (s.flag Reg.TB_STATE_STEP_PENDING b = false → s.Signalled 176 t)) ∧
      (s.time.accept.get false b = false ∨ s.flag Reg.TB_STATE_STEP_PENDING b = false → exec (.stepApply b) s = .next s) ∧
      (s.time.accept.get false b = true → s.flag Reg.TB_STATE_STEP_PENDING b = true → d = s.getS Reg.PENDING_STEP_NS b →
        0 ≤ ((s.advance 1).tb b : Int) + d → ((s.advance 1).tb b : Int) + d < 2 ^ 64 → Completes (.stepApply b) s fun t =>
          (t.tb b : Int) = ((s.advance 1).tb b : Int) + d ∧ t.flag Reg.TB_STATE_STEP_PENDING b = false ∧ t.time.accept.get false b = false ∧
          t.get Reg.TB_COUNT_STEPS_APPLIED b = min (s.get Reg.TB_COUNT_STEPS_APPLIED b + 1) 0xFFFF ∧ s.Signalled 177 t) ∧
      (∀ (m : Master) (o : Fin 8), exec (.tbSnap m b o) s = .next (if m = .ranger then
        ((s.set Reg.SNAP_SELF_NS b (s.tb b)).set Reg.SNAP_OTHER_NS b (s.tb o)).answer .done else s.answer .busError))) ∧
    (∀ (p : Fin 64) (m : PtpMsg), (s.ptpHolder p m.domain = none → exec (.ptpMessage p m) s = .next s) ∧
      (∀ n i, s.ptpHolder p m.domain = some (n, i) → i.uses m.kind = false → exec (.ptpMessage p m) s = .next (s.count Reg.PTP_DISCARD_COUNT 0 1)) ∧
      (∀ n i, s.ptpHolder p m.domain = some (n, i) → m.kind = 11 → i.gm = none → PtpMsg.rank m < ownRank → Completes (.ptpMessage p m) s fun t =>
        s.Signalled 179 t ∧ t.ptpOf n = some { i with gm := some m.gm, rank := PtpMsg.rank m, slave := p, heard := s.ticks, good := 0, offs := [], settling := true })) ∧
    (∀ (b : Fin 4) (p : Fin 64) (k : Fin 3),
      (s.ptpOf (b + 1) = none → exec (.ptpMessageTimer b p k) s = .next s ∧ exec (.announceTimeout b) s = .next s) ∧
      (∀ i, s.ptpOf (b + 1) = some i → i.ports.getLsbD p = true → i.gm = none → k = 0 → Completes (.ptpMessageTimer b p k) s fun t =>
        t.outbox.take 2 = [.ptp (b + 1) p 8, .ptp (b + 1) p 0] ∧ t.ticks = max s.ticks (i.sent.get 0 (4 * p) + msTicks (if i.profile = 0 then 125 else 1000))) ∧
      (∀ i, s.ptpOf (b + 1) = some i → i.gm = none → exec (.announceTimeout b) s = .next s) ∧
      (∀ i g, s.ptpOf (b + 1) = some i → i.gm = some g → Completes (.announceTimeout b) s fun t => s.Signalled 180 t ∧ s.Signalled 179 t ∧
        t.ptpOf (b + 1) = some { i with gm := none, good := 0, offs := [], settling := false } ∧
        t.ticks = max s.ticks (i.heard + msTicks (if i.profile = 0 then 3000 else 6000)))) ∧
    (∀ (p : Fin 64) (fcs : Bool) (f : List Byte),
      (s.bridgeDomain p = 0 → exec (.bridgeFrame p fcs f) s = .next s) ∧
      (s.bridgeDomain p ≠ 0 → exec (.bridgeFrame p false f) s = .next (s.count Reg.FCS_ERR_COUNT p 1)) ∧
      (s.bridgeDomain p ≠ 0 → f.length + 4 ≤ clampN 1518 2048 (s.get Reg.PORT_CFG_MTU p) → beAt f 12 2 ≠ 0x8808 → beAt f 12 2 ≠ 0x8100 → ptpIn f = none →
        f.take 6 ≠ negotiationMac → (s.bridgeDomain p = 2 → beAt f 12 2 ≠ 0x88B6) → bitOf (uAt f 0 1) 0 = true → (∀ q, (s.gate q).run = none) → Completes (.bridgeFrame p true f) s fun t => ∀ q < 64,
          t.queue q 0 = (if q ≠ p.val ∧ s.bridgeDomain q = s.bridgeDomain p then s.queue q 0 ++ [⟨f, none, none, none⟩] else s.queue q 0) ∧
          ∀ k, 0 < k → k < 8 → t.queue q k = s.queue q k)) ∧
    (∀ p : Fin 64, (s.nextQueue p = none → exec (.frameLaunch p) s = .next s) ∧
      (∀ q w f r, s.nextQueue p = some (q, w) → s.queue p q = f :: r → f.stamp = none → Completes (.frameLaunch p) s fun t =>
        Out.frame p f.bytes ∈ t.outbox ∧ t.get Reg.FRAMES_OUT_COUNT p = (s.get Reg.FRAMES_OUT_COUNT p + 1) % 2 ^ 64) ∧
      ((s.gate p).run = none → exec (.gateIntervalEnd p) s = .next s) ∧
      (∀ l m d r, (s.gate p).run = some l → (s.gate p).waiting = none → l.entries.drop (s.gate p).next = (m, d) :: r → m < 256 → (s.gate p).next < 256 →
        Completes (.gateIntervalEnd p) s fun t => t.get Reg.GATE_STATUS_GATES p = m ∧ t.get Reg.GATE_STATUS_ENTRY p = (s.gate p).next % 2 ^ Reg.GATE_STATUS_ENTRY.width ∧
          (t.gate p).next = ((s.gate p).next + 1) % l.entries.length ∧ (t.gate p).nextAt = (s.gate p).nextAt + d ∧ (t.gate p).run = some l) ∧
      ((s.gate p).waiting = none → exec (.gclSwitch p) s = .next s) ∧
      (∀ l, (s.gate p).waiting = some l → Completes (.gclSwitch p) s fun t => (t.gate p).run = some l ∧ (t.gate p).waiting = none ∧
        t.flag Reg.GATE_STATUS_LIST_PENDING p = false ∧ s.Signalled 181 t)) ∧
    (∀ (m : Master) (r : Fin 8) (v : BitVec 12), (m = .pcie ∨ (∃ k, m = .jce k) → exec (.txrTailWrite m r v) s = .next (s.answer .busError)) ∧
      (m = .ranger ∨ (∃ k, m = .core k) → s.get Reg.TXR_IDX_TXR_HEAD r = v.toNat % clampN 16 4096 (s.get Reg.TXR_CTRL_TXR_SIZE r) →
        exec (.txrTailWrite m r v) s = .next ((s.set Reg.TXR_IDX_TXR_TAIL r (v.toNat % clampN 16 4096 (s.get Reg.TXR_CTRL_TXR_SIZE r))).answer .done))) ∧
    (∀ (g : Fin 64) (up : Bool),
      (s.get Reg.TIME_CFG_FUNC g ≠ 1 ∨ s.gpioTimed g = false → exec (.captureEdge g up) s = .next s) ∧
      (s.get Reg.TIME_CFG_FUNC g = 1 → s.gpioTimed g = true → s.get Reg.TIME_CFG_EDGE g = (if up then 0 else 1) ∨ s.get Reg.TIME_CFG_EDGE g = 2 →
        Completes (.captureEdge g up) s fun t => t.get Reg.CAP_TIME_NS g = s.tb (s.get Reg.TIME_CFG_BASE g) % 2 ^ 64 ∧
          t.get Reg.CAP_STATUS_CAP_COUNT g = min (s.get Reg.CAP_STATUS_CAP_COUNT g + 1) 0xFFFF ∧ t.time.capUnread.getLsbD g = true ∧ s.Signalled 184 t ∧
          (s.time.capUnread.getLsbD g = true → t.flag Reg.CAP_STATUS_CAP_OVERRUN g = true ∧ s.Signalled 185 t)) ∧
      (s.get Reg.TIME_CFG_FUNC g ≠ 2 ∨ s.gpioTimed g = false ∨ s.trigNext g = none → exec (.triggerPulse g) s = .next s) ∧
      (∀ w, s.get Reg.TIME_CFG_FUNC g = 2 → s.gpioTimed g = true → s.trigNext g = some w → Completes (.triggerPulse g) s fun t =>
        t.outbox.head? = some (.pulse g (s.get Reg.TRIG_PERIOD_TRIG_WIDTH g) (!s.flag Reg.TIME_CFG_POL g)) ∧ t.time.trig.get none g = some w))

/-- Lanes, token, heartbeat and messages of the twin link. Rests on 19_redundant_pair.md, R594, R595, R596, R597,
R601, R603, R607. -/
def Obligations.RedundantPair : Prop :=
  ∀ (s : State), s.alive = true →
    (∀ l : Fin 2, Completes (.twinLaneUp l) s fun t => t.flag Reg.TWIN_STATE_LINK_UP 0 = true ∧
      t.flag Reg.TWIN_LANES_LANE0_UP 0 = (decide (l = 0) || s.flag Reg.TWIN_LANES_LANE0_UP 0) ∧ t.flag Reg.TWIN_LANES_LANE1_UP 0 = (decide (l = 1) || s.flag Reg.TWIN_LANES_LANE1_UP 0) ∧
      t.get Reg.TWIN_STATE_SYNC 0 = s.get Reg.TWIN_STATE_SYNC 0) ∧
    (∀ (l : Fin 2) other, other = s.flag (if l = 0 then Reg.TWIN_LANES_LANE1_UP else Reg.TWIN_LANES_LANE0_UP) 0 → other = true → ∀ e, Completes (.twinLaneDown ⟨l, e⟩) s fun t =>
      t.get (if l = 0 then Reg.TWIN_LANE_ERR_LANE0 else Reg.TWIN_LANE_ERR_LANE1) 0 =
        min (s.get (if l = 0 then Reg.TWIN_LANE_ERR_LANE0 else Reg.TWIN_LANE_ERR_LANE1) 0 + e.toNat) (2 ^ Reg.TWIN_LANE_ERR_LANE0.width - 1) ∧
      t.flag Reg.TWIN_STATE_LINK_UP 0 = true ∧ t.flag Reg.TWIN_LANES_DEGRADED 0 = true ∧ (s.flag Reg.TWIN_LANES_DEGRADED 0 = false → s.Signalled 232 t)) ∧
    (∀ (l : Fin 2), s.flag (if l = 0 then Reg.TWIN_LANES_LANE1_UP else Reg.TWIN_LANES_LANE0_UP) 0 = false → s.pairOn = false → s.get Reg.TWIN_STATE_SYNC 0 ≠ 2 →
      ∀ e, Completes (.twinLaneDown ⟨l, e⟩) s fun t => t.flag Reg.TWIN_STATE_LINK_UP 0 = false ∧ t.flag Reg.TWIN_LANES_DEGRADED 0 = false) ∧
    (s.pairOn = false → (∀ l, exec (.tokenSample l) s = .next s) ∧ (∀ b, exec (.heartbeatPulse b) s = .next s) ∧ exec .heartbeatFail s = .next s ∧
      (∀ a b c d e f, exec (.cycleMessage a b c d e f) s = .next s) ∧ (∀ i n o, exec (.solveMessage i n o) s = .next s) ∧
      (∀ n, exec (.handoverMessage n) s = .next s) ∧ ∀ a b c, exec (.resyncMessage a b c) s = .next s) ∧
    (s.pairOn = true →
      (s.twin.handMb = none → Completes (.tokenSample true) s fun t => t.token = s.token ∧ t.flag Reg.TWIN_STATE_PARTNER_TOKEN 0 = true ∧ t.twin.free = 0 ∧ t.twin.partnerHeld = true) ∧
      (s.token = true ∨ s.mayTake = false → Completes (.tokenSample false) s fun t => t.token = s.token ∧ t.flag Reg.TWIN_STATE_PARTNER_TOKEN 0 = false ∧
        t.twin.partnerHeld = false ∧ t.twin.free = (if s.token then 0 else s.twin.free + 1)) ∧
      (s.token = false → s.mayTake = true → Completes (.tokenSample false) s fun t => t.token = true ∧ t.get Reg.TWIN_STATE_ROLE 0 = 1 ∧ t.twin.confirmed = false ∧
        t.twin.takeAt = some t.ticks ∧ t.get Reg.TAKEOVERS_COUNT 0 = min (s.get Reg.TAKEOVERS_COUNT 0 + 1) (2 ^ Reg.TAKEOVERS_COUNT.width - 1)) ∧
      (Completes (.heartbeatPulse true) s fun t => t.flag Reg.TWIN_STATE_HB_OK 0 = true ∧ t.twin.hbSeen = true ∧ t.outbox = s.outbox) ∧
      (Completes (.heartbeatPulse false) s fun t => t.outbox.head? = some .heartbeat ∧ t.points = s.points ∧ t.token = s.token) ∧
      (s.flag Reg.TWIN_STATE_HB_OK 0 = false ∨ s.twin.misses < 2 → exec .heartbeatFail s = .next s) ∧
      (s.flag Reg.TWIN_STATE_HB_OK 0 = true → 2 ≤ s.twin.misses → s.get Reg.TWIN_STATE_SYNC 0 ≠ 2 → s.get Reg.TWIN_STATE_ROLE 0 ≠ 2 → Completes .heartbeatFail s fun t =>
        t.flag Reg.TWIN_STATE_HB_OK 0 = false ∧ s.Signalled 226 t ∧ t.token = s.token) ∧
      (∀ n mode role tk sy d, s.twin.digests = [] → s.twin.theirs = none → Completes (.cycleMessage n mode role tk sy d) s fun t =>
        t.twin.partner = some ⟨mode, role, tk, sy⟩ ∧ t.twin.theirs = some (n - 1, d) ∧ t.flag Reg.TWIN_STATE_HB_OK 0 = true) ∧
      (∀ n mode role tk sy d own r, s.twin.digests = (n - 1, own) :: r → own ≠ d → s.get Reg.TWIN_STATE_SYNC 0 = 2 → s.twin.compare = false → s.get Reg.TWIN_STATE_ROLE 0 = 1 →
        Completes (.cycleMessage n mode role tk sy d) s fun t => t.flag Reg.TWIN_FLAGS_DIVERGED 0 = true ∧ s.Signalled 228 t ∧ s.Signalled 229 t ∧ t.get Reg.TWIN_STATE_SYNC 0 = 0 ∧
          t.get Reg.DIGEST_MISMATCH_COUNT 0 = min (s.get Reg.DIGEST_MISMATCH_COUNT 0 + 1) (2 ^ Reg.DIGEST_MISMATCH_COUNT.width - 1)) ∧
      (∀ (i : Fin 8) n o, (s.inst i).run = none → exec (.solveMessage i n o) s = .next s) ∧
      (∀ (i : Fin 8) (n : Word16) (o : Fin 16) r, (s.inst i).run = some r → r.wrap = none → Completes (.solveMessage i n o) s fun t =>
        (t.inst i).run = some { r with partner := some (n.toNat, o.val) }) ∧
      (∀ n, exec (.handoverMessage n) s = .next (s.beside fun s => s.onTwin fun t => { t with handover := some n })) ∧
      (s.flag Reg.TWIN_STATE_LINK_UP 0 = false ∨ s.get Reg.TWIN_STATE_SYNC 0 = 2 → ∀ a b c, exec (.resyncMessage a b c) s = .next s) ∧
      (∀ d, s.flag Reg.TWIN_STATE_LINK_UP 0 = true → s.get Reg.TWIN_STATE_SYNC 0 ≠ 2 → s.get Reg.TWIN_STATE_ROLE 0 = 1 → Completes (.resyncMessage 1 d []) s fun t =>
        t.get Reg.TWIN_STATE_SYNC 0 = 1 ∧ t.get Reg.RESYNC_PROGRESS_PHASE 0 = 1 ∧ t.get Reg.RESYNC_PROGRESS_MIB_DIRTY 0 = d % 2 ^ Reg.RESYNC_PROGRESS_MIB_DIRTY.width ∧
          t.mem = s.mem ∧ t.points = s.points)) ∧
    (s.twin.takeAt = none → ∀ l, exec (.arbitrationCheck l) s = .next s) ∧
    (∀ w l, s.twin.takeAt = some w → s.token = true → Completes (.arbitrationCheck l) s fun t => t.twin.takeAt = none ∧ t.ticks = max s.ticks (w + 125) ∧ s.Signalled 224 t ∧
      t.token = !(l && !s.prio) ∧ t.twin.confirmed = !(l && !s.prio) ∧ ((l && !s.prio) = true → t.flag Reg.TWIN_FLAGS_ARB_LOST 0 = true ∧ s.Signalled 231 t ∧ s.Signalled 225 t)) ∧
    (s.token = false → exec .tokenRelease s = .next s) ∧
    (s.token = true → Completes .tokenRelease s fun t => t.token = false ∧ t.get Reg.TWIN_STATE_ROLE 0 = (if s.pairOn then 2 else 0) ∧ t.twin.confirmed = false ∧ s.Signalled 225 t) ∧
    (s.pairSync = false → ∀ (m : Fin 256), (∀ o c, exec (.acceptMessage m o c) s = .next s) ∧ exec (.acceptTimeout m) s = .next s ∧ (∀ z p, exec (.inputMessage m z p) s = .next s) ∧
      ∀ n p v, exec (.commandMessage (.window n p v)) s = .next s) ∧
    (∀ n c mb b, s.pairOn = false ∨ s.flag Reg.TWIN_STATE_LINK_UP 0 = false → exec (.commandMessage (.command n c mb b)) s = .next s) ∧
    (∀ n c mb b, s.pairOn = true → s.flag Reg.TWIN_STATE_LINK_UP 0 = true → exec (.commandMessage (.command n c mb b)) s = .next (s.beside fun s => s.onTwin fun t =>
      { t with waiting := t.waiting ++ [.command n c 32 b] })) ∧
    (s.pairSync = true →
      (∀ n p v, exec (.commandMessage (.window n p v)) s = .next (s.beside fun s => s.onTwin fun t => { t with waiting := t.waiting ++ [.window n p v] })) ∧
      (∀ (m : Fin 256), s.slotOf m = none → (∀ o c, exec (.acceptMessage m o c) s = .next s) ∧ exec (.acceptTimeout m) s = .next s ∧ ∀ z p, exec (.inputMessage m z p) s = .next s) ∧
      (∀ (m : Fin 256) i o c, s.slotOf m = some i → (s.node i).closed = false → Completes (.acceptMessage m o c) s fun t => (t.node i).record = some (o, c) ∧ (t.node i).up = (s.node i).up) ∧
      (∀ (m : Fin 256) i, s.slotOf m = some i → (s.node i).closed = false → exec (.acceptTimeout m) s = .next s) ∧
      (∀ (m : Fin 256) i, s.slotOf m = some i → (s.node i).closed = true → (s.node i).record = none → (s.node i).up = none → s.get Reg.TWIN_STATE_ROLE 0 = 1 →
        Completes (.acceptTimeout m) s fun t => t.get Reg.TWIN_STATE_SYNC 0 = 0 ∧ (t.node i).closed = false ∧ (t.node i).up = none ∧ s.Signalled 229 t) ∧
      (∀ (m : Fin 256) i z p, s.slotOf m = some i → 8 ≤ (s.star.ingress.get [] (s.slotPort i)).length → s.portHeld (s.slotPort i) = true → Completes (.inputMessage m z p) s fun t =>
        (t.node i).up = none ∧ (t.node i).record = none ∧ (t.node i).closed = false ∧ s.Signalled 140 t))

/-- Reads, scrubs, remaps and records of the memories. Rests on 20_memory_integrity.md, R614, R622, R624, R625, R628,
R629, R632. -/
def Obligations.MemoryErrorsAndRepair : Prop :=
  ∀ (s : State), s.alive = true →
    (∀ r p (n : Fin 65) clean, (∀ o, p ≠ .safety o) → s.parked = false → (∀ i < n.val, s.memErr.get 0 (MemPlace.key p + i) = 0) →
      exec (.codeWordRead r p n clean []) s = .next (s.answer (if MemPlace.key p < 2 ^ 48 then
        .data (leNat ((List.range n.val).map fun i => s.dataByte (MemPlace.key p + i))) else .done))) ∧
    (∀ r o (n : Fin 65) clean, (r ≠ .caldera → ∀ errs, exec (.codeWordRead r (.safety o) n clean errs) s = .next (s.answer .busError)) ∧
      exec (.codeWordRead .caldera (.safety o) n clean []) s = .next (s.answer (.data (leNat (s.cal.sram.getAll 0 o n.val))))) ∧
    (∀ r a clean e, a < 2 ^ 33 → s.parked = false → e.off = 0 → e.kind = 1 → s.sapwood a = false → s.memErr.get 0 a = 0 → s.memory.lastRead = none →
      s.memory.prio = [] → Completes (.codeWordRead r (.dram a) 1 clean [e]) s fun t =>
        t.bus = .data (s.mem.get 0 a).toNat ∧ t.mem = s.mem ∧ t.memErr.get 0 a = 1 ∧ s.Signalled 16 t ∧ t.memory.corrected = min (s.memory.corrected + 1) 0xFFFFFFFF ∧
        t.get Reg.CE_COUNT_COUNT (bitsOf a 8 3) = min (s.get Reg.CE_COUNT_COUNT (bitsOf a 8 3) + 1) (2 ^ Reg.CE_COUNT_COUNT.width - 1) ∧
        t.memory.poisoned = s.memory.poisoned ∧ t.memory.prio = (if r = .scrubber then [] else [a / 64]) ∧
        t.memory.lastRead = (if 64 ≤ s.memory.fifo.length then none else some (a / 64, s.ticks))) ∧
    (∀ r a e, a < 2 ^ 33 → s.parked = false → e.off = 0 → s.memErr.get 0 a = 0 →
      (e.kind = 1 ∧ s.sapwood a = true ∨ e.kind = 2 ∧ s.sapwood a = false ∨ e.kind = 3) → Completes (.codeWordRead r (.dram a) 1 false [e]) s fun t =>
        s.Signalled 17 t ∧ t.memory.poisoned = min (s.memory.poisoned + 1) 0xFFFFFFFF ∧ t.memory.corrected = s.memory.corrected ∧ t.memErr.get 0 a = e.kind ∧
        t.get Reg.UE_COUNT_COUNT (bitsOf a 8 3) = min (s.get Reg.UE_COUNT_COUNT (bitsOf a 8 3) + 1) (2 ^ Reg.UE_COUNT_COUNT.width - 1) ∧
        (r = .ranger ∨ (∃ c, r = .core c) → t.bus = .busError) ∧ (r = .pcie → t.bus = .data (2 ^ 8 - 1))) ∧
    (∀ r a e clean, a < 2 ^ 33 → s.parked = false → e.off = 0 → e.kind = 2 → s.sapwood a = true → s.memErr.get 0 a = 0 →
      Completes (.codeWordRead r (.dram a) 1 clean [e]) s fun t => t.bus = .data (s.mem.get 0 a ^^^ e.flip).toNat ∧ t.memory = s.memory ∧ t.regs = s.regs) ∧
    (∀ r a e, a < 2 ^ 33 → s.parked = false → e.off = 0 → e.kind = 3 → Completes (.codeWordRead r (.dram a) 1 true [e]) s fun t =>
      t.memErr.get 0 a = 0 ∧ t.memory.poisoned = s.memory.poisoned ∧ t.memory.corrected = min (s.memory.corrected + 1) 0xFFFFFFFF ∧ t.bus = .data (s.mem.get 0 a).toNat) ∧
    (∀ r a n clean errs, a < 2 ^ 33 → s.parked = true → Completes (.codeWordRead r (.dram a) n clean errs) s fun t =>
      t.bus = .busError ∧ s.Signalled 27 t ∧ t.mem = s.mem ∧ t.memErr = s.memErr) ∧
    (∀ errs, s.get Reg.SCRUB_RATE_KIB_S 0 = 0 → exec (.scrubBlock errs) s = .next s) ∧
    (∀ k n, s.get Reg.SCRUB_RATE_KIB_S 0 ≠ 0 → s.heartFrom (s.get Reg.SCRUB_POS_ADDR 0) 200 = some k → s.heartFrom (k + 64) 200 = some n → n < 2 ^ 48 →
      (∀ i < 64, s.memErr.get 0 (64 * (k / 64) + i) = 0) → Completes (.scrubBlock []) s fun t => t.get Reg.SCRUB_POS_ADDR 0 = n ∧ t.memErr = s.memErr ∧ t.mem = s.mem ∧
        t.ticks = max s.ticks (s.memory.walked + 62500000 / min 1048576 (s.get Reg.SCRUB_RATE_KIB_S 0) / 8) ∧ t.memory.walked = t.ticks) ∧
    (∀ errs, s.memory.prio = [] → exec (.priorityScrub errs) s = .next s) ∧
    (∀ b r, s.memory.prio = b :: r → (∀ i < 64, s.memErr.get 0 (64 * b + i) = 0) → Completes (.priorityScrub []) s fun t =>
      t.memory.prio = r ∧ t.get Reg.PRIO_STATUS_LEVEL 0 = r.length % 2 ^ Reg.PRIO_STATUS_LEVEL.width ∧ t.memErr = s.memErr ∧ t.memory.fifo = s.memory.fifo) ∧
    (∀ (g : Fin 169) blk errs, g.val < 88 ∨ (g.val < 168 ∧ s.parked = true) → exec (.localScrub g blk errs) s = .next s) ∧
    (∀ (g : Fin 169) blk e, 88 ≤ g.val → s.parked = false → e.off = 0 → e.kind = 1 → blk < 32768 → (∀ i < 64, s.memErr.get 0 (groupKey g.val (64 * blk) + i) = 0) →
      (∀ i < 64, s.sapwood (groupKey g.val (64 * blk) + i) = false) → Completes (.localScrub g blk [e]) s fun t =>
        (∀ k, t.memErr.get 0 k = s.memErr.get 0 k) ∧ s.Signalled 18 t ∧ t.memory.corrected = min (s.memory.corrected + 1) 0xFFFFFFFF ∧
          t.get Reg.SCRUB_CE_COUNT 0 = min (s.get Reg.SCRUB_CE_COUNT 0 + 1) (2 ^ Reg.SCRUB_CE_COUNT.width - 1)) ∧
    (∀ p, s.blockCount (MemPlace.key p / 64) < 3 ∨ s.sapwood (64 * (MemPlace.key p / 64)) = true ∨ (s.remapOf (MemPlace.key p / 64)).isSome = true →
      exec (.remapAuto p) s = .next s) ∧
    (∀ a e, a < 2 ^ 33 → 3 ≤ s.blockCount (a / 64) → s.sapwood (64 * (a / 64)) = false → s.remapOf (a / 64) = none → s.remapFree (a / 64) = some e →
      Completes (.remapAuto (.dram a)) s fun t => t.memory.copying = s.memory.copying ++ [(true, e)] ∧ t.get Reg.REMAP_DRAM_BLOCK e = a / 64 ∧
        t.flag Reg.REMAP_DRAM_VALID e = false) ∧
    (∀ m dram w v b, m ≠ .ranger → exec (.remapValidWrite m dram w v b) s = .next (s.answer .busError)) ∧
    (∀ w v, w < 256 → s.flag Reg.REMAP_DRAM_VALID w = true → exec (.remapValidWrite .ranger true w v false) s = .next (s.answer .done)) ∧
    (∀ w v, w < 256 → v < 2 ^ 27 → s.flag Reg.REMAP_DRAM_VALID w = false → s.memory.copying.contains (true, w) = false →
      Completes (.remapValidWrite .ranger true w v false) s fun t => t.bus = .done ∧ t.get Reg.REMAP_DRAM_BLOCK w = v ∧ t.memory = s.memory ∧
        t.flag Reg.REMAP_DRAM_VALID w = false) ∧
    (∀ w v, w < 256 → s.flag Reg.REMAP_DRAM_VALID w = true → exec (.remapValidWrite .ranger true w v true) s = .next (s.answer .done)) ∧
    (∀ w v, w < 256 → v < 2 ^ 27 → s.flag Reg.REMAP_DRAM_VALID w = false → s.memory.copying = [] → Completes (.remapValidWrite .ranger true w v true) s fun t =>
      t.bus = .done ∧ t.get Reg.REMAP_DRAM_BLOCK w = v ∧ t.memory.copying = [(true, w)] ∧ t.flag Reg.REMAP_DRAM_VALID w = false) ∧
    (s.memory.copying = [] → exec .remapCopyEnd s = .next s) ∧
    (∀ e, s.memory.copying = [(true, e)] → Completes .remapCopyEnd s fun t => t.flag Reg.REMAP_DRAM_VALID e = true ∧ t.memory.copying = [] ∧
      t.memory.unsaved = s.memory.unsaved ++ [(true, e)] ∧ s.Signalled 20 t ∧ t.mem = s.mem) ∧
    (s.memory.unsaved = [] → exec .remapFlashWrite s = .next s) ∧
    (∀ e, s.memory.unsaved = [(true, e)] → Completes .remapFlashWrite s fun t => t.memory.unsaved = [] ∧
      t.flash.remapDram.get none e = some (s.get Reg.REMAP_DRAM_BLOCK e) ∧ (s.memory.adding = [] → t.regs = s.regs)) ∧
    (∀ m, m ≠ .ranger → exec (.errPop m) s = .next (s.answer .busError)) ∧
    (Completes (.errPop .ranger) s fun t => t.bus = .done ∧ t.memory.fifo = s.memory.fifo.drop 1 ∧
      t.get Reg.ERR_LEVEL_LEVEL 0 = (s.memory.fifo.drop 1).length % 2 ^ Reg.ERR_LEVEL_LEVEL.width) ∧
    (s.memory.fifo = [] → exec .errorDrain s = .next s) ∧
    (∀ r l, s.memory.fifo = r :: l → Completes .errorDrain s fun t => t.memory.fifo = l ∧ ∃ e, (t.logs.get LogRing.empty 3).entries.head? = some e ∧ e.code = r.getD 0 0 % 65536 ∧
      e.source = r.getD 0 0 / 65536 % 65536 ∧ e.data = leBytes 8 (r.getD 2 0) ++ leBytes 8 (r.getD 3 0)) ∧
    (∀ (page : Fin 2097152) syn, Completes (.flashCorrection page syn true) s fun t => s.Signalled 24 t ∧ t.flash = s.flash) ∧
    (∀ (k : Fin 2) syn, Completes (.flashCorrection ⟨0x53000 + 0xC0000 * k.val, by omega⟩ syn false) s fun t => s.Signalled 25 t ∧
      (t.flash.slots.get CellSlot.empty k.val).state ≠ .valid ∧
      (t.flash.slots.get CellSlot.empty (1 - k.val)) = s.flash.slots.get CellSlot.empty (1 - k.val))

/-- Events reach the targets of their routes; cores are halted, timed and watched. Rests on 21_cores_and_events.md,
27_event_index.md, R647, R648, R654, R655, R657, R658. -/
def Obligations.EventsAndCores : Prop :=
  ∀ (s : State), s.alive = true →
    (∀ (n : Fin 256), eventReserved n.val = true ∨ 240 ≤ n.val → exec (.eventRaise n) s = .next s) ∧
    (∀ (n : Fin 256), eventReserved n.val = false → n.val < 240 → Completes (.eventRaise n) s fun t => s.Signalled n.val t ∧ t.mem = s.mem ∧ t.points = s.points ∧
      ∀ f i, f.id ≠ Reg.HOST_PEND_PEND.id → f.id ≠ Reg.AC_PEND_PEND.id → f.id ≠ Reg.EV_MERGED_COUNT.id → t.get f i = s.get f i) ∧
    (∀ (n : Fin 16) m, m = .ranger ∨ (∃ c, m = .core c) → Completes (.evRaise m n) s fun t => t.bus = .done ∧ s.Signalled (240 + n.val) t ∧ t.mem = s.mem ∧ t.points = s.points) ∧
    (∀ (n : Fin 16) m, m ≠ .ranger → (∀ c, m ≠ .core c) → exec (.evRaise m n) s = .next (s.answer .busError)) ∧
    (∀ (c : Fin 16) (w : Fin 4) m v, m = .ranger ∨ m = .core c → Completes (.acPendClear m c w v) s fun t => t.bus = .done ∧
      (∀ b < 64, bitOf (t.get Reg.AC_PEND_PEND (4 * c.val + w.val)) b = (bitOf (s.get Reg.AC_PEND_PEND (4 * c.val + w.val)) b && !v.getLsbD b)) ∧
      (∀ j, j ≠ 4 * c.val + w.val → t.get Reg.AC_PEND_PEND j = s.get Reg.AC_PEND_PEND j) ∧ t.outbox = s.outbox) ∧
    (∀ (c : Fin 16) m (w : Fin 4) v k, m ≠ .ranger → m ≠ .core c → exec (.acPendClear m c w v) s = .next (s.answer .busError) ∧
      exec (.wdtKick m c k) s = .next (s.answer .busError)) ∧
    (∀ (c : Fin 16), s.get Reg.AC_WDT_WDT_US c.val = 0 ∨ s.get Reg.AC_STATE_STATE c.val = 2 → exec (.coreWatchdogExpiry c) s = .next s) ∧
    (∀ (c : Fin 16), s.get Reg.AC_WDT_WDT_US c.val ≠ 0 → s.get Reg.AC_STATE_STATE c.val ≠ 2 → Completes (.coreWatchdogExpiry c) s fun t =>
      t.ticks = max s.ticks ((s.core c.val).wdtAt + 125 * s.get Reg.AC_WDT_WDT_US c.val) ∧ t.flag Reg.AC_WDT_WDT_FIRED c.val = true ∧ s.Signalled 33 t ∧
        (t.core c.val).wdtAt = t.ticks ∧ ∀ j, j ≠ c.val → t.core j = s.core j) ∧
    (∀ (c : Fin 16) m, m = .ranger ∨ m = .core c → exec (.wdtKick m c false) s = .next (s.answer .done) ∧ Completes (.wdtKick m c true) s fun t =>
      t.bus = .done ∧ (t.core c.val).wdtAt = s.ticks ∧ (∀ j, j ≠ c.val → t.core j = s.core j) ∧ t.regs = s.regs) ∧
    (∀ (c : Fin 16) pc, s.get Reg.AC_STATE_STATE c.val = 2 → exec (.coreDebugHalt c pc) s = .next s) ∧
    (∀ (c : Fin 16) pc, s.get Reg.AC_STATE_STATE c.val = 0 → Completes (.coreDebugHalt c pc) s fun t => t.hartHeld c.val = true ∧ t.regs = s.regs ∧ t.logs = s.logs) ∧
    (∀ (c : Fin 16) pc, s.get Reg.AC_STATE_STATE c.val ≠ 0 → s.get Reg.AC_STATE_STATE c.val ≠ 2 → Completes (.coreDebugHalt c pc) s fun t =>
      t.hartHeld c.val = true ∧ t.get Reg.AC_STATE_STATE c.val = 2 ∧ (∀ j, j ≠ c.val → t.get Reg.AC_STATE_STATE j = s.get Reg.AC_STATE_STATE j) ∧ s.Signalled 32 t ∧
        ∃ e, (t.logs.get LogRing.empty 2).entries.head? = some e ∧ e.code = 3 ∧ e.source = c.val) ∧
    (∀ pc, s.rangerHalted = true → exec (.rangerDebugHalt pc) s = .next s) ∧
    (∀ pc, s.rangerHalted = false → Completes (.rangerDebugHalt pc) s fun t => t.rangerHalted = true ∧ t.boot.rangerPc = pc.toNat ∧
      (∀ n, ¬ t.Served n 0x0101) ∧ t.regs = s.regs ∧ t.logs = s.logs) ∧
    (∀ (c : Fin 16) cmp, Completes (.machineTimer c cmp) s fun t => (t.core c.val).mtimecmp = cmp ∧ (t.core c.val).mtip = decide (cmp.toNat ≤ t.tb 5 / 8) ∧
      (∀ j, j ≠ c.val → t.core j = s.core j) ∧ s.ticks ≤ t.ticks)

/-- The Yarder's ports post, take, end and time items, and its queues move as chapter 22 says. Rests on 22_yarder.md,
R663, R664, R665, R669, R670, R674, R675, R676, R677, R679, R681. -/
def Obligations.YarderOrdersWork : Prop :=
  ∀ (s : State), s.alive = true →
    (∀ m (p : Fin 17), ownsPort m p.val = false → exec (.yardPost m p) s = .next (s.answer (.data 0)) ∧ exec (.yardTake m p) s = .next (s.answer (.data 0)) ∧
      (∀ k r, exec (.yardDone m p k r) s = .next (s.answer .busError)) ∧ (∀ h f q d, exec (.tmrArm m p h f q d) s = .next (s.answer .busError)) ∧
      (∀ h, exec (.tmrCancel m p h) s = .next (s.answer .busError)) ∧ ∀ v, exec (.flowCfgWrite m p v) s = .next (s.answer .busError)) ∧
    (∀ m (p : Fin 17), ownsPort m p.val = true →
      ((s.flowCfg (s.get Reg.POST_HDR_FLOW p.val)).usable = false → exec (.yardPost m p) s = .next (s.answer (.data 0x000E))) ∧
      ((s.flowCfg (s.get Reg.POST_HDR_FLOW p.val)).usable = true →
        (s.hwReserve < s.yardFree → s.yard.landing = [] → Completes (.yardPost m p) s fun t => t.bus = .data (s.yard.next % 2 ^ 32 * 2 ^ 32) ∧
          ∃ it, t.yard.store = s.yard.store ++ [it] ∧ it.seq = s.yard.next ∧ it.prio = s.get Reg.POST_HDR_PRIO p.val ∧ it.flow = s.get Reg.POST_HDR_FLOW p.val ∧
            it.arg0.toNat = s.get Reg.ARG0 p.val % 2 ^ 64 ∧ it.arg1.toNat = s.get Reg.ARG1 p.val % 2 ^ 64 ∧ it.count = 1 ∧ t.yard.landing = [] ∧ t.regs = s.regs) ∧
        (s.yardFree ≤ s.hwReserve → s.parked = false → s.yard.landing.length < s.yard.landingSlots → Completes (.yardPost m p) s fun t =>
          t.bus = .data (0x10000 + s.yard.next % 2 ^ 32 * 2 ^ 32) ∧ t.yard.store = s.yard.store ∧ (∃ it, t.yard.landing = s.yard.landing ++ [it] ∧ it.seq = s.yard.next) ∧
            (s.yard.landing = [] → s.Signalled 42 t)) ∧
        (s.yardFree ≤ s.hwReserve → s.parked = false → s.yard.landingSlots ≤ s.yard.landing.length → Completes (.yardPost m p) s fun t =>
          t.bus = .data 0x000F ∧ s.Signalled 41 t ∧ t.yard = s.yard ∧
            t.get Reg.YD_COUNT0_FULL_REFUSED 0 = min (s.get Reg.YD_COUNT0_FULL_REFUSED 0 + 1) (2 ^ Reg.YD_COUNT0_FULL_REFUSED.width - 1))) ∧
      (p.val = 16 ∨ s.twin.cut ≠ none ∨ s.offer p.val = none → exec (.yardTake m p) s = .next (s.answer (.data 0))) ∧
      (∀ it, p.val < 16 → s.twin.cut = none → s.offer p.val = some it → Completes (.yardTake m p) s fun t =>
        t.yard.store = s.yard.store.erase it ∧ t.get Reg.ITEM_ARG0_ARG0 p.val = it.arg0.toNat ∧ t.get Reg.ITEM_ARG1_ARG1 p.val = it.arg1.toNat ∧
          ∃ k, t.yard.progress.get [] p.val = { it with ticket := k, waited := true } :: s.yard.progress.get [] p.val ∧ t.bus = .data (takeHeader it k)) ∧
      (∀ k r, (∀ top, (s.yard.progress.get [] p.val).head? = some top → top.ticket ≠ k.toNat) → Completes (.yardDone m p k r) s fun t =>
        t.bus = .done ∧ t.flag Reg.PORT_CTRL_DONE_ERR p.val = true ∧ s.Signalled 46 t ∧ t.yard = s.yard) ∧
      (∀ (k : BitVec 15) r top rest, s.yard.progress.get [] p.val = top :: rest → top.ticket = k.toNat → (s.flowCfg top.flow).ordered = false → Completes (.yardDone m p k r) s fun t =>
        t.bus = .done ∧ t.yard.progress.get [] p.val = rest ∧ t.yard.store = s.yard.store ∧ t.regs = s.regs) ∧
      (∀ h f q d, (s.flowCfg f.toNat).usable = false → Completes (.tmrArm m p h f q d) s fun t => t.bus = .done ∧ t.get Reg.TMR_RESULT_CODE p.val = 6 ∧ t.yard = s.yard) ∧
      (∀ (h : Word16) f q d, (s.flowCfg f.toNat).usable = true → Completes (.tmrArm m p h f q d) s fun t => t.bus = .done ∧
        t.get Reg.TMR_RESULT_CODE p.val = (if s.get Reg.TMR_DEADLINE_US p.val ≤ s.nowUs then 2 else if (s.yard.timers.get none h.toNat).isSome then 1 else 0) ∧
        ∃ x, t.yard.timers.get none h.toNat = some x ∧ x.deadline = s.get Reg.TMR_DEADLINE_US p.val ∧ x.period = d.toNat ∧ x.prio = q.val ∧ x.flow = f.toNat) ∧
      (∀ (h : Word16), s.yard.timers.get none h.toNat = none → s.yard.expiredAt.get 0 h.toNat ≠ s.nowUs + 1 → Completes (.tmrCancel m p h) s fun t =>
        t.bus = .done ∧ t.get Reg.TMR_RESULT_CODE p.val = 4 ∧ t.yard = s.yard) ∧
      (∀ (h : Word16) x, s.yard.timers.get none h.toNat = some x → s.nowUs < x.deadline → Completes (.tmrCancel m p h) s fun t =>
        t.bus = .done ∧ t.get Reg.TMR_RESULT_CODE p.val = (if s.yard.expiredAt.get 0 h.toNat = s.nowUs + 1 then 5 else 3) ∧ t.yard.timers.get none h.toNat = none ∧ t.yard.store = s.yard.store ∧
          ∀ j, j ≠ h.toNat → t.yard.timers.get none j = s.yard.timers.get none j) ∧
      (∀ v flow, flow = s.get Reg.FLOW_SEL_FLOW p.val → (flowCfgOf v.toNat).ordered ≠ (s.flowCfg flow).ordered → s.yard.flowBusy flow = true → Completes (.flowCfgWrite m p v) s fun t =>
        t.bus = .done ∧ t.flag Reg.PORT_CTRL_CFG_REFUSED p.val = true ∧ t.yard = s.yard) ∧
      (∀ v flow, flow = s.get Reg.FLOW_SEL_FLOW p.val → ((flowCfgOf v.toNat).ordered = (s.flowCfg flow).ordered ∨ s.yard.flowBusy flow = false) → Completes (.flowCfgWrite m p v) s fun t =>
        t.bus = .done ∧ t.flowCfg flow = flowCfgOf v.toNat ∧ (∀ j, j ≠ flow → t.flowCfg j = s.flowCfg j) ∧ t.regs = s.regs)) ∧
    (s.yard.timers.entries = [] → exec .timerExpiry s = .next (s.beside fun s => s.withYard fun y => { y with stepFrom := none })) ∧
    (∀ h x w, s.yard.timers.entries = [(h, some x)] → w = s.waitTb 0 (1000 * max x.deadline ((s.tb 0 + 999) / 1000)) → x.deadline ≤ w.nowUs → x.period = 0 → s.yard.stepFrom = none → s.yard.held = [] →
      0 < s.yardFree → (s.flowCfg x.flow).usable = true → Completes .timerExpiry s fun t => t.yard.timers.get none h = none ∧ t.ticks = w.ticks ∧
        ∃ it, t.yard.store = s.yard.store ++ [it] ∧ it.prio = x.prio ∧ it.flow = x.flow ∧ it.arg0 = x.arg0 ∧ it.arg1 = x.arg1 ∧ it.src = 3 ∧ it.count = 1) ∧
    (s.parked = true ∨ s.yard.landing = [] → exec .landingRefill s = .next s) ∧
    (∀ it, s.parked = false → s.yard.landing = [it] → s.hwReserve + 64 < s.yardFree → Completes .landingRefill s fun t =>
      t.yard.landing = [] ∧ t.yard.store = s.yard.store ++ [it] ∧ t.yard.progress = s.yard.progress) ∧
    (s.yardFree = 0 ∨ (s.yard.held = [] ∧ s.yard.finished = []) → exec .heldItemEntry s = .next s) ∧
    (∀ h r, 0 < s.yardFree → s.yard.held = h :: r → Completes .heldItemEntry s fun t => t.yard.held = r ∧
      ∃ it, t.yard.store = s.yard.store ++ [it] ∧ it.seq = s.yard.next ∧ it.flow = h.item.flow ∧ it.arg0 = h.item.arg0 ∧ it.count = min h.item.count 65535) ∧
    (∀ w, w = s.waitTill (s.yard.loadAt + s.loadWindow) → Completes .loadWindowEnd s fun t => (∀ c < 16, t.get Reg.CORE_STAT_LOAD c = w.coreLoad c) ∧
      t.yard.busyTicks = Tab.empty ∧ t.yard.store = s.yard.store ∧ t.ticks = w.ticks ∧ t.yard.loadAt = t.ticks)

/-- The TAP loads its instructions and logs attachments; debug resumes what it halted; OTP keys are enrolled and
revoked. Rests on 24_boot_trust_debug.md, R719, R720, R725, R726, R727, R728, R729. -/
def Obligations.TapDebugAndKeys : Prop :=
  ∀ (s : State),
    (∀ c, c ∈ [(Instr.samplePreload, 0x02), (.dtmcs, 0x10), (.dmi, 0x11), (.jceDebugPort, 0x12), (.bypass, 0xFF)] →
      exec c.1 s = .next { s with dbg := { s.dbg with insn := c.2 } }) ∧
    exec .idcode s = .next { s with dbg := { s.dbg with insn := 1 }, outbox := .tap idcodeWord :: s.outbox } ∧ idcodeWord.toNat % 2 = 1 ∧ idcodeWord.toNat / 2 ^ 12 = 0x11690 ∧
    (∀ c, c ∈ [(Instr.extest, 0x00), (.clampInstruction, 0x03), (.highz, 0x04)] → Completes c.1 s fun t =>
      t.dbg = { s.dbg with insn := c.2, attached := s.dbg.attached + 1 } ∧ t.flash = { s.flash with debugCount := s.dbg.attached + 1 } ∧
        t.mem = s.mem ∧ t.points = s.points ∧ t.regs = s.regs ∧ t.pending = s.pending ∧
        ∃ e, (t.logs.get LogRing.empty 2).entries.head? = some e ∧ e.code = 1 ∧ e.source = 0x200 ∧ e.data.take 1 = [BitVec.ofNat 8 (Mode.code s.mode.mode)]) ∧
    (Completes .tapReset s fun t => t.dbg = { s.dbg with insn := 1, dm := false, jcePort := false, heldHarts := s.dbg.heldHarts.filter fun h => decide (16 ≤ h) } ∧ t.mem = s.mem ∧ t.points = s.points ∧ t.regs = s.regs ∧
      ∃ e, (t.logs.get LogRing.empty 2).entries.head? = some e ∧ e.code = 2 ∧ e.source = 0x200) ∧
    (s.dbg.dm = true → exec (.debugAttach false) s = .next s) ∧ (s.dbg.jcePort = true → exec (.debugAttach true) s = .next s) ∧
    (s.dbg.dm = false → exec (.debugRelease false) s = .next s) ∧ (s.dbg.jcePort = false → exec (.debugRelease true) s = .next s) ∧
    (s.dbg.dm = false → Completes (.debugAttach false) s fun t => t.dbg = { s.dbg with dm := true, attached := s.dbg.attached + 1 } ∧ t.regs = s.regs ∧
      ∃ e, (t.logs.get LogRing.empty 2).entries.head? = some e ∧ e.code = 1) ∧
    (s.dbg.jcePort = false → Completes (.debugAttach true) s fun t => t.dbg = { s.dbg with jcePort := true, attached := s.dbg.attached + 1 } ∧ t.regs = s.regs) ∧
    (s.dbg.dm = true → Completes (.debugRelease false) s fun t => t.dbg = { s.dbg with dm := false } ∧ t.regs = s.regs ∧
      ∃ e, (t.logs.get LogRing.empty 2).entries.head? = some e ∧ e.code = 2) ∧
    (s.dbg.jcePort = true → Completes (.debugRelease true) s fun t => t.dbg = { s.dbg with jcePort := false } ∧ t.regs = s.regs) ∧
    (s.alive = true →
      (∀ (c : Fin 16) pc, s.get Reg.AC_STATE_STATE c.val = 2 → Completes (.debugResume false ⟨c.val, by omega⟩ pc) s fun t => t.get Reg.AC_STATE_STATE c.val = 1 ∧
        t.hartHeld c.val = false ∧ (∀ j, j ≠ c.val → t.get Reg.AC_STATE_STATE j = s.get Reg.AC_STATE_STATE j ∧ t.hartHeld j = s.hartHeld j) ∧
        ∃ e, (t.logs.get LogRing.empty 2).entries.head? = some e ∧ e.code = 4 ∧ e.source = c.val) ∧
      (∀ (c : Fin 16) pc, s.get Reg.AC_STATE_STATE c.val ≠ 2 → Completes (.debugResume false ⟨c.val, by omega⟩ pc) s fun t => t.hartHeld c.val = false ∧ t.regs = s.regs ∧ t.logs = s.logs) ∧
      (∀ pc, s.rangerHalted = false → exec (.debugResume false 16 pc) s = .next s) ∧
      (∀ pc, s.rangerHalted = true → Completes (.debugResume false 16 pc) s fun t => t.rangerHalted = false ∧ t.boot.rangerUnlogged = false ∧ t.regs = s.regs ∧
        ∃ e, (t.logs.get LogRing.empty 2).entries.head? = some e ∧ e.code = 4 ∧ e.source = 0x10) ∧
      (∀ pc, s.hartHeld 17 = false → exec (.debugResume false 17 pc) s = .next s) ∧
      (∀ (n : Fin 64) pc, 18 ≤ n.val → exec (.debugResume false n pc) s = .next s) ∧
      (∀ (n : Fin 64) pc, (s.eng n.val).debugHeld = false → exec (.debugResume true n pc) s = .next s) ∧
      (∀ (n : Fin 64) pc, (s.eng n.val).debugHeld = true → Completes (.debugResume true n pc) s fun t => (t.eng n.val).debugHeld = false ∧
        t.get Reg.JCE_STATE_STATE n.val = 1 ∧ t.get Reg.JCE_STATE_PC n.val = s.get Reg.JCE_STATE_PC n.val ∧ ∀ j, j ≠ n.val → t.eng j = s.eng j) ∧
      (∀ (k : Fin 8) (c : Word16) r, (s.mode.mode ≠ .service ∨ c ≠ 0x5A4B) ∧ r = 3 ∨ s.mode.mode = .service ∧ c = 0x5A4B ∧ (k = 0 ∧ r = 4 ∨ 4 < k.val ∧ r = 2) →
        exec (.otpEnrol k c) s = .next (s.set Reg.OTP_STATUS_PROG_RESULT 0 r) ∧ exec (.otpRevoke k c) s = .next (s.set Reg.OTP_STATUS_PROG_RESULT 0 r)) ∧
      (∀ (k : Fin 8), s.mode.mode = .service → 1 ≤ k.val → k.val ≤ 4 →
        (((s.flash.otpHash.get none k.val).isSome ∨ s.flash.otpRevoked.getLsbD (k.val - 1) = true) → exec (.otpEnrol k 0x5A4B) s = .next (s.set Reg.OTP_STATUS_PROG_RESULT 0 2)) ∧
        (s.flash.otpHash.get none k.val = none → s.flash.otpRevoked.getLsbD (k.val - 1) = false → Completes (.otpEnrol k 0x5A4B) s fun t =>
          t.get Reg.OTP_STATUS_PROG_RESULT 0 = 1 ∧ t.flash.otpRevoked = s.flash.otpRevoked ∧ (∀ j, j ≠ k.val → t.flash.otpHash.get none j = s.flash.otpHash.get none j) ∧
          ∃ h, t.flash.otpHash.get none k.val = some h ∧ t.flash.keyStore.get none k.val = some h ∧
            h = BitVec.ofNat 256 (leNat (sha3 ((List.range 328).flatMap fun i => leBytes 4 (s.get Reg.KEY_BUF_WORD i))))) ∧
        (Completes (.otpRevoke k 0x5A4B) s fun t => t.get Reg.OTP_STATUS_PROG_RESULT 0 = 1 ∧ t.flash.otpHash = s.flash.otpHash ∧
          ∀ j < 4, t.flash.otpRevoked.getLsbD j = (s.flash.otpRevoked.getLsbD j || decide (j = k.val - 1)))))

/-- A step runs the command at the front of the queue. Rests on 00_scope.md, 01_cell_and_cycle.md. -/
def Obligations.StepRunsFront : Prop :=
  (∀ (c : Instr) (r : List Instr) (s : State), s.pending = c :: r → step s = exec c { s with pending := r }) ∧
  (∀ s : State, s.pending = [] → step s = .next (s.beside fun s => s.advance 1)) ∧
  (∀ (s : State) n w c, decodeTableWord n w = some c → (s.withFetchWord n w).pending = c :: s.pending) ∧
  (∀ (s : State) n w, decodeTableWord n w = none → s.withFetchWord n w = s)

/-- Every step of every state answers a next state, and the queue drains first in, first out. Rests on 00_scope.md,
01_cell_and_cycle.md, 02_host_and_mailboxes.md. -/
def Obligations.QueueDrainsInOrder : Prop :=
  (∀ (s : State) (n : Nat), ∃ t, stepsFrom n s = some t ∧ t.pending = s.pending.drop n) ∧
  (∀ (a b : Nat) (s : State), stepsFrom (a + b) s = (stepsFrom a s).bind (stepsFrom b)) ∧
  (∀ (c : Instr) (s : State), ∃ t, exec c s = .next t ∧ t.pending = s.pending)

/-- While a reset holds the device or it is DORMANT, only the TAP, power and the end of the hold act. Rests on
23_clocks_power_reset.md, 24_boot_trust_debug.md, 00_scope.md. -/
def Obligations.HoldIgnoresCommands : Prop :=
  ∀ (s : State), s.alive = false →
    (∀ c : Instr, actsInHold c = false → exec c s = .next s) ∧
    (∀ x, s.power.dormant = true → exec (.brownout x) s = .next s ∧ exec .clockLoss s = .next s) ∧
    (s.pending = [] → ∃ t, step s = .next t ∧ t.ticks = s.ticks + 1 ∧ t.alive = false ∧ t.mem = s.mem ∧ t.points = s.points ∧ t.yard = s.yard)

/-- What reset leaves. Rests on 23_clocks_power_reset.md, 02_host_and_mailboxes.md, 04_operating_modes.md, 10_pwm.md,
20_memory_integrity.md, 22_yarder.md, 07_joint_engines.md, 18_time_and_tsn.md. -/
def Obligations.ResetState : Prop :=
  State.reset.pending = [] ∧ State.reset.alive = true ∧ State.reset.mode.mode = .init ∧ State.reset.cell = none ∧
  State.reset.get Reg.EPOCH 0 = 1 ∧ (∀ n < 32, State.reset.mbState n = 0) ∧ (∀ k < 64, State.reset.get Reg.JCE_STATE_STATE k = 0) ∧
  (∀ c < 16, State.reset.get Reg.AC_STATE_STATE c = 0) ∧ (∀ p < 96, State.reset.flag Reg.PWM_STATUS_FORCED p = true) ∧
  (∀ b < 8, State.reset.tb b = 0) ∧ State.reset.get Reg.SCRUB_RATE_KIB_S 0 = 65536 ∧ State.reset.get Reg.YD_CFG_HW_RESERVE 0 = 4096 ∧
  State.reset.get Reg.YD_CFG_LOAD_WIN 0 = 1000 ∧ State.reset.yard.timers.entries = [] ∧ State.reset.yard.store = [] ∧ State.reset.memory.fifo = [] ∧
  (∀ (f : Field) i, State.reset.get f i = f.resetAt i) ∧
  Memory.wf State.reset = true ∧ (∀ a, State.reset.mem.get 0 a = 0) ∧ (∀ a, State.reset.memErr.get 0 a = 0) ∧ (∀ p, State.reset.point p = 0)

/-- The commands of the memories keep memory, its damage and the points in canonical form. Rests on
20_memory_integrity.md, R614, R616, R624, R629, R632. -/
def Obligations.MemoryKeepsCanonicalForm : Prop :=
  ∀ (s : State), Memory.wf s = true →
    (∀ c, (∃ r p n cl e, c = .codeWordRead r p n cl e) ∨ (∃ e, c = .scrubBlock e) ∨ (∃ e, c = .priorityScrub e) ∨ (∃ g b e, c = .localScrub g b e) ∨
      (∃ p, c = .remapAuto p) ∨ (∃ m d w b v, c = .remapValidWrite m d w b v) ∨ c = .remapCopyEnd ∨ c = .remapFlashWrite ∨ (∃ m, c = .errPop m) ∨
      c = .errorDrain ∨ (∃ p y k, c = .flashCorrection p y k) → Completes c s fun t => Memory.wf t = true) ∧
    (∀ e : List MemErr, (∀ x ∈ e, x.kind ≠ 2) → ∀ c, (∃ r p n cl, c = .codeWordRead r p n cl e) ∨ c = .scrubBlock e ∨ c = .priorityScrub e ∨ (∃ g b, c = .localScrub g b e) →
      Completes c s fun t => t.mem = s.mem) ∧
    (∀ c, (∃ p, c = .remapAuto p) ∨ (∃ m d w b v, c = .remapValidWrite m d w b v) ∨ c = .remapCopyEnd ∨ c = .remapFlashWrite ∨ (∃ m, c = .errPop m) ∨
      c = .errorDrain ∨ (∃ p y k, c = .flashCorrection p y k) → Completes c s fun t => t.mem = s.mem)
end

