-- ==== Sys2Proof/Laws/Tab.lean ====
section
/-!
SUPPORT. Laws of the sparse tables: a key reads what was last written to it, other keys are left alone, and every
operation keeps the canonical form. The reading laws hold of any table, canonical or not.
-/
namespace Sys2Proof

variable {α : Type}

/-- Dropping the keys up to `k` does not change what a larger key reads. -/
theorem Tab.find_dropTo (d : α) {k j : Nat} (h : k < j) (l : List (Nat × α)) :
    Tab.find d j (Tab.dropTo k l) = Tab.find d j l := by
  induction l with
  | nil => rfl
  | cons e r ih =>
    obtain ⟨a, v⟩ := e
    simp only [Tab.dropTo]
    split
    · rw [ih, Tab.find, if_neg (by omega), if_neg (by omega)]
    · rfl

/-- After the keys up to `k` are dropped, a key up to `k` reads as unlisted. -/
theorem Tab.find_dropTo_le (d : α) {k j : Nat} (h : j ≤ k) (l : List (Nat × α)) :
    Tab.find d j (Tab.dropTo k l) = d := by
  induction l with
  | nil => rfl
  | cons e r ih =>
    obtain ⟨a, v⟩ := e
    simp only [Tab.dropTo]
    split
    · exact ih
    · rw [Tab.find, if_pos (by omega)]

theorem Tab.find_place_same [DecidableEq α] (d : α) (k : Nat) (v : α) (l : List (Nat × α)) :
    Tab.find d k (Tab.place d k v l) = v := by
  induction l with
  | nil => by_cases hv : v = d <;> simp [Tab.place, Tab.find, hv]
  | cons e r ih =>
    obtain ⟨a, w⟩ := e
    simp only [Tab.place]
    by_cases h1 : k < a
    · by_cases hv : v = d <;> simp [h1, hv, Tab.find]
    · by_cases h2 : k = a
      · by_cases hv : v = d
        · rw [if_neg h1, if_pos h2, if_pos hv, Tab.find_dropTo_le d (Nat.le_refl k), hv]
        · simp [h2, hv, Tab.find]
      · simp [h1, h2, Tab.find, ih]

theorem Tab.find_place_other [DecidableEq α] (d : α) {k j : Nat} (h : k ≠ j) (v : α) (l : List (Nat × α)) :
    Tab.find d j (Tab.place d k v l) = Tab.find d j l := by
  induction l with
  | nil =>
    by_cases hv : v = d
    · simp [Tab.place, hv]
    · simp [Tab.place, Tab.find, hv, Ne.symm h]
  | cons e r ih =>
    obtain ⟨a, w⟩ := e
    simp only [Tab.place]
    by_cases h1 : k < a
    · by_cases hv : v = d
      · simp [h1, hv]
      · simp only [h1, hv, if_true, if_false, Tab.find, Ne.symm h]
        split
        · rw [if_pos (by omega)]
        · rfl
    · by_cases h2 : k = a
      · subst h2
        have hd : Tab.find d j (Tab.dropTo k r) = Tab.find d j ((k, w) :: r) := by
          rw [Tab.find]
          by_cases h3 : j < k
          · rw [if_pos h3, Tab.find_dropTo_le d (by omega)]
          · rw [if_neg h3, if_neg (by omega), Tab.find_dropTo d (by omega)]
        by_cases hv : v = d
        · simp [hv, hd]
        · rw [if_neg h1, if_pos rfl, if_neg hv, ← hd, Tab.find]
          by_cases h3 : j < k
          · rw [if_pos h3, Tab.find_dropTo_le d (by omega)]
          · rw [if_neg h3, if_neg (by omega)]
      · simp [h1, h2, Tab.find, ih]

/-- A key reads what was written to it. -/
@[simp] theorem Tab.get_put_same [DecidableEq α] (t : Tab α) (d : α) (k : Nat) (v : α) :
    (t.put d k v).get d k = v := Tab.find_place_same d k v t.entries

/-- A write leaves every other key alone. -/
theorem Tab.get_put_other [DecidableEq α] (t : Tab α) (d : α) {k j : Nat} (h : k ≠ j) (v : α) :
    (t.put d k v).get d j = t.get d j := Tab.find_place_other d h v t.entries

/-- Reading any key after a write. -/
theorem Tab.get_put [DecidableEq α] (t : Tab α) (d : α) (k j : Nat) (v : α) :
    (t.put d k v).get d j = if k = j then v else t.get d j := by
  split
  · next h => subst h; exact t.get_put_same d k v
  · next h => exact t.get_put_other d h v

/-- The table that lists nothing reads as unlisted everywhere. -/
@[simp] theorem Tab.get_empty (d : α) (k : Nat) : (Tab.empty : Tab α).get d k = d := rfl

/-- A list of pairs is canonical above `lo`: its keys rise strictly from above `lo` and no value is `d`. -/
def Tab.Above [DecidableEq α] (d : α) (lo : Option Nat) : List (Nat × α) → Prop
  | [] => True
  | (k, v) :: r => (∀ n, lo = some n → n < k) ∧ v ≠ d ∧ Tab.Above d (some k) r

theorem Tab.wfFrom_iff_above [DecidableEq α] (d : α) (l : List (Nat × α)) :
    Tab.wfFrom d l = true ↔ Tab.Above d none l := by
  have key : ∀ (r : List (Nat × α)) (k : Nat) (v : α),
      Tab.wfFrom d ((k, v) :: r) = true ↔ v ≠ d ∧ Tab.Above d (some k) r := by
    intro r
    induction r with
    | nil => intro k v; simp [Tab.wfFrom, Tab.Above]
    | cons e r ih =>
      obtain ⟨a, w⟩ := e
      intro k v
      rw [Tab.wfFrom, Bool.and_eq_true, Bool.and_eq_true, ih a w]
      simp [Tab.Above, and_assoc]
  cases l with
  | nil => simp [Tab.wfFrom, Tab.Above]
  | cons e r =>
    obtain ⟨a, w⟩ := e
    rw [key]
    simp [Tab.Above]

theorem Tab.Above.mono [DecidableEq α] {d : α} {lo lo' : Option Nat} {l : List (Nat × α)}
    (h : Tab.Above d lo l) (hl : ∀ n, lo' = some n → ∃ m, lo = some m ∧ n ≤ m) : Tab.Above d lo' l := by
  cases l with
  | nil => trivial
  | cons e r =>
    refine ⟨fun n hn => ?_, h.2⟩
    obtain ⟨m, hm, hle⟩ := hl n hn
    exact Nat.lt_of_le_of_lt hle (h.1 m hm)

theorem Tab.Above.dropTo_eq [DecidableEq α] {d : α} {k : Nat} {l : List (Nat × α)} (h : Tab.Above d (some k) l) :
    Tab.dropTo k l = l := by
  cases l with
  | nil => rfl
  | cons e r =>
    obtain ⟨a, w⟩ := e
    have := h.1 k rfl
    rw [Tab.dropTo, if_neg (by omega)]

theorem Tab.Above.place [DecidableEq α] {d : α} {k : Nat} {v : α} {lo : Option Nat} {l : List (Nat × α)}
    (h : Tab.Above d lo l) (hk : ∀ n, lo = some n → n < k) : Tab.Above d lo (Tab.place d k v l) := by
  induction l generalizing lo with
  | nil =>
    by_cases hv : v = d
    · simp [Tab.place, hv, Tab.Above]
    · rw [Tab.place, if_neg hv]; exact ⟨hk, hv, trivial⟩
  | cons e r ih =>
    obtain ⟨a, w⟩ := e
    obtain ⟨ha, hw, hr⟩ := h
    rw [Tab.place]
    split
    · next hlt =>
      split
      · exact ⟨ha, hw, hr⟩
      · next hv => exact ⟨hk, hv, fun n hn => by cases hn; exact hlt, hw, hr⟩
    · split
      · next heq =>
        subst heq
        rw [hr.dropTo_eq]
        split
        · exact hr.mono fun n hn => ⟨k, rfl, Nat.le_of_lt (ha n hn)⟩
        · next hv => exact ⟨hk, hv, hr⟩
      · exact ⟨ha, hw, ih hr fun n hn => by cases hn; omega⟩

theorem Tab.Above.filter [DecidableEq α] {d : α} {p : Nat → Bool} {lo : Option Nat} {l : List (Nat × α)}
    (h : Tab.Above d lo l) : Tab.Above d lo (l.filter fun e => p e.1) := by
  induction l generalizing lo with
  | nil => trivial
  | cons e r ih =>
    obtain ⟨a, w⟩ := e
    obtain ⟨ha, hw, hr⟩ := h
    rw [List.filter_cons]
    split
    · exact ⟨ha, hw, ih hr⟩
    · exact ih (hr.mono fun n hn => ⟨a, rfl, Nat.le_of_lt (ha n hn)⟩)

/-- The empty table is canonical. -/
@[simp] theorem Tab.wf_empty [DecidableEq α] (d : α) : (Tab.empty : Tab α).wf d = true := rfl

/-- A write keeps the canonical form. -/
theorem Tab.wf_put [DecidableEq α] {t : Tab α} {d : α} (k : Nat) (v : α) (h : t.wf d = true) :
    (t.put d k v).wf d = true :=
  (Tab.wfFrom_iff_above d _).2 (((Tab.wfFrom_iff_above d _).1 h).place fun _ hn => by cases hn)

/-- Dropping entries keeps the canonical form. -/
theorem Tab.wf_keep [DecidableEq α] {t : Tab α} {d : α} (p : Nat → Bool) (h : t.wf d = true) :
    (t.keep p).wf d = true :=
  (Tab.wfFrom_iff_above d _).2 ((Tab.wfFrom_iff_above d _).1 h).filter

/-- Writing several keys keeps the canonical form. -/
theorem Tab.wf_putAll [DecidableEq α] {t : Tab α} {d : α} (k : Nat) (vs : List α) (h : t.wf d = true) :
    (t.putAll d k vs).wf d = true := by
  induction vs generalizing t k with
  | nil => exact h
  | cons v vs ih => exact ih (k + 1) (Tab.wf_put k v h)

/-- Writing `vs` from `k` on leaves the keys outside alone. -/
theorem Tab.get_putAll_other [DecidableEq α] (d : α) (vs : List α) (t : Tab α) (k : Nat) {j : Nat}
    (h : j < k ∨ k + vs.length ≤ j) : (t.putAll d k vs).get d j = t.get d j := by
  induction vs generalizing t k with
  | nil => rfl
  | cons v vs ih =>
    simp only [List.length_cons] at h
    rw [Tab.putAll, ih _ _ (by omega), Tab.get_put_other _ _ (by omega)]

/-- Writing `vs` from `k` on, key `k + n` reads the `n`-th of them. -/
theorem Tab.get_putAll [DecidableEq α] (d : α) (vs : List α) (t : Tab α) (k n : Nat) (h : n < vs.length) :
    (t.putAll d k vs).get d (k + n) = vs[n] := by
  induction vs generalizing t k n with
  | nil => exact absurd h (Nat.not_lt_zero _)
  | cons v vs ih =>
    rw [Tab.putAll]
    cases n with
    | zero => rw [Nat.add_zero, Tab.get_putAll_other _ _ _ _ (by omega)]; simp
    | succ n =>
      have := ih (t.put d k v) (k + 1) n (by simpa using h)
      rw [show k + (n + 1) = k + 1 + n by omega, this]; simp

/-- Reading back what was written from `k` on. -/
theorem Tab.getAll_putAll [DecidableEq α] (d : α) (vs : List α) (t : Tab α) (k : Nat) :
    (t.putAll d k vs).getAll d k vs.length = vs := by
  induction vs generalizing t k with
  | nil => rfl
  | cons v vs ih =>
    rw [Tab.putAll, List.length_cons, Tab.getAll, ih, Tab.get_putAll_other _ _ _ _ (by omega)]
    simp

end Sys2Proof
end

