-- ==== Sys2Proof/Laws/State.lean ====
section
/-!
SUPPORT. What the named updates of State.lean and Ops.lean do to each field of the state: one lemma a field and update, so
that no later proof unfolds a record update, and the reading laws of register fields.
-/
namespace Sys2Proof.Machine

variable (s : State)


@[simp] theorem State.set_ticks (f : Field) (i v : Nat) : (s.set f i v).ticks = s.ticks := rfl
@[simp] theorem State.set_freeCtr (f : Field) (i v : Nat) : (s.set f i v).freeCtr = s.freeCtr := rfl
@[simp] theorem State.set_points (f : Field) (i v : Nat) : (s.set f i v).points = s.points := rfl
@[simp] theorem State.set_mem (f : Field) (i v : Nat) : (s.set f i v).mem = s.mem := rfl
@[simp] theorem State.set_readShadow (f : Field) (i v : Nat) : (s.set f i v).readShadow = s.readShadow := rfl
@[simp] theorem State.set_writeHeld (f : Field) (i v : Nat) : (s.set f i v).writeHeld = s.writeHeld := rfl
@[simp] theorem State.set_bus (f : Field) (i v : Nat) : (s.set f i v).bus = s.bus := rfl
@[simp] theorem State.set_outbox (f : Field) (i v : Nat) : (s.set f i v).outbox = s.outbox := rfl
@[simp] theorem State.set_alive (f : Field) (i v : Nat) : (s.set f i v).alive = s.alive := rfl
@[simp] theorem State.set_host (f : Field) (i v : Nat) : (s.set f i v).host = s.host := rfl
@[simp] theorem State.set_mode (f : Field) (i v : Nat) : (s.set f i v).mode = s.mode := rfl
@[simp] theorem State.set_logs (f : Field) (i v : Nat) : (s.set f i v).logs = s.logs := rfl
@[simp] theorem State.set_cell (f : Field) (i v : Nat) : (s.set f i v).cell = s.cell := rfl
@[simp] theorem State.set_flash (f : Field) (i v : Nat) : (s.set f i v).flash = s.flash := rfl
@[simp] theorem State.set_yard (f : Field) (i v : Nat) : (s.set f i v).yard = s.yard := rfl
@[simp] theorem State.set_jce (f : Field) (i v : Nat) : (s.set f i v).jce = s.jce := rfl
@[simp] theorem State.set_clusterLast (f : Field) (i v : Nat) : (s.set f i v).clusterLast = s.clusterLast := rfl
@[simp] theorem State.set_pwm (f : Field) (i v : Nat) : (s.set f i v).pwm = s.pwm := rfl
@[simp] theorem State.set_pwmClock (f : Field) (i v : Nat) : (s.set f i v).pwmClock = s.pwmClock := rfl
@[simp] theorem State.set_fb (f : Field) (i v : Nat) : (s.set f i v).fb = s.fb := rfl
@[simp] theorem State.set_adc (f : Field) (i v : Nat) : (s.set f i v).adc = s.adc := rfl
@[simp] theorem State.set_stp (f : Field) (i v : Nat) : (s.set f i v).stp = s.stp := rfl
@[simp] theorem State.set_axisIn (f : Field) (i v : Nat) : (s.set f i v).axisIn = s.axisIn := rfl
@[simp] theorem State.set_axes (f : Field) (i v : Nat) : (s.set f i v).axes = s.axes := rfl
@[simp] theorem State.set_kernelOverruns (f : Field) (i v : Nat) : (s.set f i v).kernelOverruns = s.kernelOverruns := rfl
@[simp] theorem State.set_tiles (f : Field) (i v : Nat) : (s.set f i v).tiles = s.tiles := rfl
@[simp] theorem State.set_insts (f : Field) (i v : Nat) : (s.set f i v).insts = s.insts := rfl
@[simp] theorem State.set_published (f : Field) (i v : Nat) : (s.set f i v).published = s.published := rfl
@[simp] theorem State.set_dbg (f : Field) (i v : Nat) : (s.set f i v).dbg = s.dbg := rfl
@[simp] theorem State.set_power (f : Field) (i v : Nat) : (s.set f i v).power = s.power := rfl
@[simp] theorem State.set_cal (f : Field) (i v : Nat) : (s.set f i v).cal = s.cal := rfl
@[simp] theorem State.set_ports (f : Field) (i v : Nat) : (s.set f i v).ports = s.ports := rfl
@[simp] theorem State.set_refLost (f : Field) (i v : Nat) : (s.set f i v).refLost = s.refLost := rfl
@[simp] theorem State.set_time (f : Field) (i v : Nat) : (s.set f i v).time = s.time := rfl
@[simp] theorem State.set_star (f : Field) (i v : Nat) : (s.set f i v).star = s.star := rfl
@[simp] theorem State.set_twin (f : Field) (i v : Nat) : (s.set f i v).twin = s.twin := rfl
@[simp] theorem State.set_memErr (f : Field) (i v : Nat) : (s.set f i v).memErr = s.memErr := rfl
@[simp] theorem State.set_memory (f : Field) (i v : Nat) : (s.set f i v).memory = s.memory := rfl
@[simp] theorem State.set_cores (f : Field) (i v : Nat) : (s.set f i v).cores = s.cores := rfl
@[simp] theorem State.set_boot (f : Field) (i v : Nat) : (s.set f i v).boot = s.boot := rfl
@[simp] theorem State.set_pending (f : Field) (i v : Nat) : (s.set f i v).pending = s.pending := rfl

@[simp] theorem State.setFlag_ticks (f : Field) (i : Nat) (b : Bool) : (s.setFlag f i b).ticks = s.ticks := rfl
@[simp] theorem State.setFlag_freeCtr (f : Field) (i : Nat) (b : Bool) : (s.setFlag f i b).freeCtr = s.freeCtr := rfl
@[simp] theorem State.setFlag_points (f : Field) (i : Nat) (b : Bool) : (s.setFlag f i b).points = s.points := rfl
@[simp] theorem State.setFlag_mem (f : Field) (i : Nat) (b : Bool) : (s.setFlag f i b).mem = s.mem := rfl
@[simp] theorem State.setFlag_readShadow (f : Field) (i : Nat) (b : Bool) : (s.setFlag f i b).readShadow = s.readShadow := rfl
@[simp] theorem State.setFlag_writeHeld (f : Field) (i : Nat) (b : Bool) : (s.setFlag f i b).writeHeld = s.writeHeld := rfl
@[simp] theorem State.setFlag_bus (f : Field) (i : Nat) (b : Bool) : (s.setFlag f i b).bus = s.bus := rfl
@[simp] theorem State.setFlag_outbox (f : Field) (i : Nat) (b : Bool) : (s.setFlag f i b).outbox = s.outbox := rfl
@[simp] theorem State.setFlag_alive (f : Field) (i : Nat) (b : Bool) : (s.setFlag f i b).alive = s.alive := rfl
@[simp] theorem State.setFlag_host (f : Field) (i : Nat) (b : Bool) : (s.setFlag f i b).host = s.host := rfl
@[simp] theorem State.setFlag_mode (f : Field) (i : Nat) (b : Bool) : (s.setFlag f i b).mode = s.mode := rfl
@[simp] theorem State.setFlag_logs (f : Field) (i : Nat) (b : Bool) : (s.setFlag f i b).logs = s.logs := rfl
@[simp] theorem State.setFlag_cell (f : Field) (i : Nat) (b : Bool) : (s.setFlag f i b).cell = s.cell := rfl
@[simp] theorem State.setFlag_flash (f : Field) (i : Nat) (b : Bool) : (s.setFlag f i b).flash = s.flash := rfl
@[simp] theorem State.setFlag_yard (f : Field) (i : Nat) (b : Bool) : (s.setFlag f i b).yard = s.yard := rfl
@[simp] theorem State.setFlag_jce (f : Field) (i : Nat) (b : Bool) : (s.setFlag f i b).jce = s.jce := rfl
@[simp] theorem State.setFlag_clusterLast (f : Field) (i : Nat) (b : Bool) : (s.setFlag f i b).clusterLast = s.clusterLast := rfl
@[simp] theorem State.setFlag_pwm (f : Field) (i : Nat) (b : Bool) : (s.setFlag f i b).pwm = s.pwm := rfl
@[simp] theorem State.setFlag_pwmClock (f : Field) (i : Nat) (b : Bool) : (s.setFlag f i b).pwmClock = s.pwmClock := rfl
@[simp] theorem State.setFlag_fb (f : Field) (i : Nat) (b : Bool) : (s.setFlag f i b).fb = s.fb := rfl
@[simp] theorem State.setFlag_adc (f : Field) (i : Nat) (b : Bool) : (s.setFlag f i b).adc = s.adc := rfl
@[simp] theorem State.setFlag_stp (f : Field) (i : Nat) (b : Bool) : (s.setFlag f i b).stp = s.stp := rfl
@[simp] theorem State.setFlag_axisIn (f : Field) (i : Nat) (b : Bool) : (s.setFlag f i b).axisIn = s.axisIn := rfl
@[simp] theorem State.setFlag_axes (f : Field) (i : Nat) (b : Bool) : (s.setFlag f i b).axes = s.axes := rfl
@[simp] theorem State.setFlag_kernelOverruns (f : Field) (i : Nat) (b : Bool) : (s.setFlag f i b).kernelOverruns = s.kernelOverruns := rfl
@[simp] theorem State.setFlag_tiles (f : Field) (i : Nat) (b : Bool) : (s.setFlag f i b).tiles = s.tiles := rfl
@[simp] theorem State.setFlag_insts (f : Field) (i : Nat) (b : Bool) : (s.setFlag f i b).insts = s.insts := rfl
@[simp] theorem State.setFlag_published (f : Field) (i : Nat) (b : Bool) : (s.setFlag f i b).published = s.published := rfl
@[simp] theorem State.setFlag_dbg (f : Field) (i : Nat) (b : Bool) : (s.setFlag f i b).dbg = s.dbg := rfl
@[simp] theorem State.setFlag_power (f : Field) (i : Nat) (b : Bool) : (s.setFlag f i b).power = s.power := rfl
@[simp] theorem State.setFlag_cal (f : Field) (i : Nat) (b : Bool) : (s.setFlag f i b).cal = s.cal := rfl
@[simp] theorem State.setFlag_ports (f : Field) (i : Nat) (b : Bool) : (s.setFlag f i b).ports = s.ports := rfl
@[simp] theorem State.setFlag_refLost (f : Field) (i : Nat) (b : Bool) : (s.setFlag f i b).refLost = s.refLost := rfl
@[simp] theorem State.setFlag_time (f : Field) (i : Nat) (b : Bool) : (s.setFlag f i b).time = s.time := rfl
@[simp] theorem State.setFlag_star (f : Field) (i : Nat) (b : Bool) : (s.setFlag f i b).star = s.star := rfl
@[simp] theorem State.setFlag_twin (f : Field) (i : Nat) (b : Bool) : (s.setFlag f i b).twin = s.twin := rfl
@[simp] theorem State.setFlag_memErr (f : Field) (i : Nat) (b : Bool) : (s.setFlag f i b).memErr = s.memErr := rfl
@[simp] theorem State.setFlag_memory (f : Field) (i : Nat) (b : Bool) : (s.setFlag f i b).memory = s.memory := rfl
@[simp] theorem State.setFlag_cores (f : Field) (i : Nat) (b : Bool) : (s.setFlag f i b).cores = s.cores := rfl
@[simp] theorem State.setFlag_boot (f : Field) (i : Nat) (b : Bool) : (s.setFlag f i b).boot = s.boot := rfl
@[simp] theorem State.setFlag_pending (f : Field) (i : Nat) (b : Bool) : (s.setFlag f i b).pending = s.pending := rfl

@[simp] theorem State.setS_ticks (f : Field) (i : Nat) (x : Int) : (s.setS f i x).ticks = s.ticks := rfl
@[simp] theorem State.setS_freeCtr (f : Field) (i : Nat) (x : Int) : (s.setS f i x).freeCtr = s.freeCtr := rfl
@[simp] theorem State.setS_points (f : Field) (i : Nat) (x : Int) : (s.setS f i x).points = s.points := rfl
@[simp] theorem State.setS_mem (f : Field) (i : Nat) (x : Int) : (s.setS f i x).mem = s.mem := rfl
@[simp] theorem State.setS_readShadow (f : Field) (i : Nat) (x : Int) : (s.setS f i x).readShadow = s.readShadow := rfl
@[simp] theorem State.setS_writeHeld (f : Field) (i : Nat) (x : Int) : (s.setS f i x).writeHeld = s.writeHeld := rfl
@[simp] theorem State.setS_bus (f : Field) (i : Nat) (x : Int) : (s.setS f i x).bus = s.bus := rfl
@[simp] theorem State.setS_outbox (f : Field) (i : Nat) (x : Int) : (s.setS f i x).outbox = s.outbox := rfl
@[simp] theorem State.setS_alive (f : Field) (i : Nat) (x : Int) : (s.setS f i x).alive = s.alive := rfl
@[simp] theorem State.setS_host (f : Field) (i : Nat) (x : Int) : (s.setS f i x).host = s.host := rfl
@[simp] theorem State.setS_mode (f : Field) (i : Nat) (x : Int) : (s.setS f i x).mode = s.mode := rfl
@[simp] theorem State.setS_logs (f : Field) (i : Nat) (x : Int) : (s.setS f i x).logs = s.logs := rfl
@[simp] theorem State.setS_cell (f : Field) (i : Nat) (x : Int) : (s.setS f i x).cell = s.cell := rfl
@[simp] theorem State.setS_flash (f : Field) (i : Nat) (x : Int) : (s.setS f i x).flash = s.flash := rfl
@[simp] theorem State.setS_yard (f : Field) (i : Nat) (x : Int) : (s.setS f i x).yard = s.yard := rfl
@[simp] theorem State.setS_jce (f : Field) (i : Nat) (x : Int) : (s.setS f i x).jce = s.jce := rfl
@[simp] theorem State.setS_clusterLast (f : Field) (i : Nat) (x : Int) : (s.setS f i x).clusterLast = s.clusterLast := rfl
@[simp] theorem State.setS_pwm (f : Field) (i : Nat) (x : Int) : (s.setS f i x).pwm = s.pwm := rfl
@[simp] theorem State.setS_pwmClock (f : Field) (i : Nat) (x : Int) : (s.setS f i x).pwmClock = s.pwmClock := rfl
@[simp] theorem State.setS_fb (f : Field) (i : Nat) (x : Int) : (s.setS f i x).fb = s.fb := rfl
@[simp] theorem State.setS_adc (f : Field) (i : Nat) (x : Int) : (s.setS f i x).adc = s.adc := rfl
@[simp] theorem State.setS_stp (f : Field) (i : Nat) (x : Int) : (s.setS f i x).stp = s.stp := rfl
@[simp] theorem State.setS_axisIn (f : Field) (i : Nat) (x : Int) : (s.setS f i x).axisIn = s.axisIn := rfl
@[simp] theorem State.setS_axes (f : Field) (i : Nat) (x : Int) : (s.setS f i x).axes = s.axes := rfl
@[simp] theorem State.setS_kernelOverruns (f : Field) (i : Nat) (x : Int) : (s.setS f i x).kernelOverruns = s.kernelOverruns := rfl
@[simp] theorem State.setS_tiles (f : Field) (i : Nat) (x : Int) : (s.setS f i x).tiles = s.tiles := rfl
@[simp] theorem State.setS_insts (f : Field) (i : Nat) (x : Int) : (s.setS f i x).insts = s.insts := rfl
@[simp] theorem State.setS_published (f : Field) (i : Nat) (x : Int) : (s.setS f i x).published = s.published := rfl
@[simp] theorem State.setS_dbg (f : Field) (i : Nat) (x : Int) : (s.setS f i x).dbg = s.dbg := rfl
@[simp] theorem State.setS_power (f : Field) (i : Nat) (x : Int) : (s.setS f i x).power = s.power := rfl
@[simp] theorem State.setS_cal (f : Field) (i : Nat) (x : Int) : (s.setS f i x).cal = s.cal := rfl
@[simp] theorem State.setS_ports (f : Field) (i : Nat) (x : Int) : (s.setS f i x).ports = s.ports := rfl
@[simp] theorem State.setS_refLost (f : Field) (i : Nat) (x : Int) : (s.setS f i x).refLost = s.refLost := rfl
@[simp] theorem State.setS_time (f : Field) (i : Nat) (x : Int) : (s.setS f i x).time = s.time := rfl
@[simp] theorem State.setS_star (f : Field) (i : Nat) (x : Int) : (s.setS f i x).star = s.star := rfl
@[simp] theorem State.setS_twin (f : Field) (i : Nat) (x : Int) : (s.setS f i x).twin = s.twin := rfl
@[simp] theorem State.setS_memErr (f : Field) (i : Nat) (x : Int) : (s.setS f i x).memErr = s.memErr := rfl
@[simp] theorem State.setS_memory (f : Field) (i : Nat) (x : Int) : (s.setS f i x).memory = s.memory := rfl
@[simp] theorem State.setS_cores (f : Field) (i : Nat) (x : Int) : (s.setS f i x).cores = s.cores := rfl
@[simp] theorem State.setS_boot (f : Field) (i : Nat) (x : Int) : (s.setS f i x).boot = s.boot := rfl
@[simp] theorem State.setS_pending (f : Field) (i : Nat) (x : Int) : (s.setS f i x).pending = s.pending := rfl

@[simp] theorem State.count_ticks (f : Field) (i n : Nat) : (s.count f i n).ticks = s.ticks := rfl
@[simp] theorem State.count_freeCtr (f : Field) (i n : Nat) : (s.count f i n).freeCtr = s.freeCtr := rfl
@[simp] theorem State.count_points (f : Field) (i n : Nat) : (s.count f i n).points = s.points := rfl
@[simp] theorem State.count_mem (f : Field) (i n : Nat) : (s.count f i n).mem = s.mem := rfl
@[simp] theorem State.count_readShadow (f : Field) (i n : Nat) : (s.count f i n).readShadow = s.readShadow := rfl
@[simp] theorem State.count_writeHeld (f : Field) (i n : Nat) : (s.count f i n).writeHeld = s.writeHeld := rfl
@[simp] theorem State.count_bus (f : Field) (i n : Nat) : (s.count f i n).bus = s.bus := rfl
@[simp] theorem State.count_outbox (f : Field) (i n : Nat) : (s.count f i n).outbox = s.outbox := rfl
@[simp] theorem State.count_alive (f : Field) (i n : Nat) : (s.count f i n).alive = s.alive := rfl
@[simp] theorem State.count_host (f : Field) (i n : Nat) : (s.count f i n).host = s.host := rfl
@[simp] theorem State.count_mode (f : Field) (i n : Nat) : (s.count f i n).mode = s.mode := rfl
@[simp] theorem State.count_logs (f : Field) (i n : Nat) : (s.count f i n).logs = s.logs := rfl
@[simp] theorem State.count_cell (f : Field) (i n : Nat) : (s.count f i n).cell = s.cell := rfl
@[simp] theorem State.count_flash (f : Field) (i n : Nat) : (s.count f i n).flash = s.flash := rfl
@[simp] theorem State.count_yard (f : Field) (i n : Nat) : (s.count f i n).yard = s.yard := rfl
@[simp] theorem State.count_jce (f : Field) (i n : Nat) : (s.count f i n).jce = s.jce := rfl
@[simp] theorem State.count_clusterLast (f : Field) (i n : Nat) : (s.count f i n).clusterLast = s.clusterLast := rfl
@[simp] theorem State.count_pwm (f : Field) (i n : Nat) : (s.count f i n).pwm = s.pwm := rfl
@[simp] theorem State.count_pwmClock (f : Field) (i n : Nat) : (s.count f i n).pwmClock = s.pwmClock := rfl
@[simp] theorem State.count_fb (f : Field) (i n : Nat) : (s.count f i n).fb = s.fb := rfl
@[simp] theorem State.count_adc (f : Field) (i n : Nat) : (s.count f i n).adc = s.adc := rfl
@[simp] theorem State.count_stp (f : Field) (i n : Nat) : (s.count f i n).stp = s.stp := rfl
@[simp] theorem State.count_axisIn (f : Field) (i n : Nat) : (s.count f i n).axisIn = s.axisIn := rfl
@[simp] theorem State.count_axes (f : Field) (i n : Nat) : (s.count f i n).axes = s.axes := rfl
@[simp] theorem State.count_kernelOverruns (f : Field) (i n : Nat) : (s.count f i n).kernelOverruns = s.kernelOverruns := rfl
@[simp] theorem State.count_tiles (f : Field) (i n : Nat) : (s.count f i n).tiles = s.tiles := rfl
@[simp] theorem State.count_insts (f : Field) (i n : Nat) : (s.count f i n).insts = s.insts := rfl
@[simp] theorem State.count_published (f : Field) (i n : Nat) : (s.count f i n).published = s.published := rfl
@[simp] theorem State.count_dbg (f : Field) (i n : Nat) : (s.count f i n).dbg = s.dbg := rfl
@[simp] theorem State.count_power (f : Field) (i n : Nat) : (s.count f i n).power = s.power := rfl
@[simp] theorem State.count_cal (f : Field) (i n : Nat) : (s.count f i n).cal = s.cal := rfl
@[simp] theorem State.count_ports (f : Field) (i n : Nat) : (s.count f i n).ports = s.ports := rfl
@[simp] theorem State.count_refLost (f : Field) (i n : Nat) : (s.count f i n).refLost = s.refLost := rfl
@[simp] theorem State.count_time (f : Field) (i n : Nat) : (s.count f i n).time = s.time := rfl
@[simp] theorem State.count_star (f : Field) (i n : Nat) : (s.count f i n).star = s.star := rfl
@[simp] theorem State.count_twin (f : Field) (i n : Nat) : (s.count f i n).twin = s.twin := rfl
@[simp] theorem State.count_memErr (f : Field) (i n : Nat) : (s.count f i n).memErr = s.memErr := rfl
@[simp] theorem State.count_memory (f : Field) (i n : Nat) : (s.count f i n).memory = s.memory := rfl
@[simp] theorem State.count_cores (f : Field) (i n : Nat) : (s.count f i n).cores = s.cores := rfl
@[simp] theorem State.count_boot (f : Field) (i n : Nat) : (s.count f i n).boot = s.boot := rfl
@[simp] theorem State.count_pending (f : Field) (i n : Nat) : (s.count f i n).pending = s.pending := rfl

@[simp] theorem State.tookFree_regs : s.tookFree.regs = s.regs := rfl
@[simp] theorem State.tookFree_ticks : s.tookFree.ticks = s.ticks := rfl
@[simp] theorem State.tookFree_points : s.tookFree.points = s.points := rfl
@[simp] theorem State.tookFree_mem : s.tookFree.mem = s.mem := rfl
@[simp] theorem State.tookFree_readShadow : s.tookFree.readShadow = s.readShadow := rfl
@[simp] theorem State.tookFree_writeHeld : s.tookFree.writeHeld = s.writeHeld := rfl
@[simp] theorem State.tookFree_bus : s.tookFree.bus = s.bus := rfl
@[simp] theorem State.tookFree_outbox : s.tookFree.outbox = s.outbox := rfl
@[simp] theorem State.tookFree_alive : s.tookFree.alive = s.alive := rfl
@[simp] theorem State.tookFree_host : s.tookFree.host = s.host := rfl
@[simp] theorem State.tookFree_mode : s.tookFree.mode = s.mode := rfl
@[simp] theorem State.tookFree_logs : s.tookFree.logs = s.logs := rfl
@[simp] theorem State.tookFree_cell : s.tookFree.cell = s.cell := rfl
@[simp] theorem State.tookFree_flash : s.tookFree.flash = s.flash := rfl
@[simp] theorem State.tookFree_yard : s.tookFree.yard = s.yard := rfl
@[simp] theorem State.tookFree_jce : s.tookFree.jce = s.jce := rfl
@[simp] theorem State.tookFree_clusterLast : s.tookFree.clusterLast = s.clusterLast := rfl
@[simp] theorem State.tookFree_pwm : s.tookFree.pwm = s.pwm := rfl
@[simp] theorem State.tookFree_pwmClock : s.tookFree.pwmClock = s.pwmClock := rfl
@[simp] theorem State.tookFree_fb : s.tookFree.fb = s.fb := rfl
@[simp] theorem State.tookFree_adc : s.tookFree.adc = s.adc := rfl
@[simp] theorem State.tookFree_stp : s.tookFree.stp = s.stp := rfl
@[simp] theorem State.tookFree_axisIn : s.tookFree.axisIn = s.axisIn := rfl
@[simp] theorem State.tookFree_axes : s.tookFree.axes = s.axes := rfl
@[simp] theorem State.tookFree_kernelOverruns : s.tookFree.kernelOverruns = s.kernelOverruns := rfl
@[simp] theorem State.tookFree_tiles : s.tookFree.tiles = s.tiles := rfl
@[simp] theorem State.tookFree_insts : s.tookFree.insts = s.insts := rfl
@[simp] theorem State.tookFree_published : s.tookFree.published = s.published := rfl
@[simp] theorem State.tookFree_dbg : s.tookFree.dbg = s.dbg := rfl
@[simp] theorem State.tookFree_power : s.tookFree.power = s.power := rfl
@[simp] theorem State.tookFree_cal : s.tookFree.cal = s.cal := rfl
@[simp] theorem State.tookFree_ports : s.tookFree.ports = s.ports := rfl
@[simp] theorem State.tookFree_refLost : s.tookFree.refLost = s.refLost := rfl
@[simp] theorem State.tookFree_time : s.tookFree.time = s.time := rfl
@[simp] theorem State.tookFree_star : s.tookFree.star = s.star := rfl
@[simp] theorem State.tookFree_twin : s.tookFree.twin = s.twin := rfl
@[simp] theorem State.tookFree_memErr : s.tookFree.memErr = s.memErr := rfl
@[simp] theorem State.tookFree_memory : s.tookFree.memory = s.memory := rfl
@[simp] theorem State.tookFree_cores : s.tookFree.cores = s.cores := rfl
@[simp] theorem State.tookFree_boot : s.tookFree.boot = s.boot := rfl
@[simp] theorem State.tookFree_pending : s.tookFree.pending = s.pending := rfl

@[simp] theorem State.out_regs (o : Out) : (s.out o).regs = s.regs := rfl
@[simp] theorem State.out_ticks (o : Out) : (s.out o).ticks = s.ticks := rfl
@[simp] theorem State.out_freeCtr (o : Out) : (s.out o).freeCtr = s.freeCtr := rfl
@[simp] theorem State.out_points (o : Out) : (s.out o).points = s.points := rfl
@[simp] theorem State.out_mem (o : Out) : (s.out o).mem = s.mem := rfl
@[simp] theorem State.out_readShadow (o : Out) : (s.out o).readShadow = s.readShadow := rfl
@[simp] theorem State.out_writeHeld (o : Out) : (s.out o).writeHeld = s.writeHeld := rfl
@[simp] theorem State.out_bus (o : Out) : (s.out o).bus = s.bus := rfl
@[simp] theorem State.out_alive (o : Out) : (s.out o).alive = s.alive := rfl
@[simp] theorem State.out_host (o : Out) : (s.out o).host = s.host := rfl
@[simp] theorem State.out_mode (o : Out) : (s.out o).mode = s.mode := rfl
@[simp] theorem State.out_logs (o : Out) : (s.out o).logs = s.logs := rfl
@[simp] theorem State.out_cell (o : Out) : (s.out o).cell = s.cell := rfl
@[simp] theorem State.out_flash (o : Out) : (s.out o).flash = s.flash := rfl
@[simp] theorem State.out_yard (o : Out) : (s.out o).yard = s.yard := rfl
@[simp] theorem State.out_jce (o : Out) : (s.out o).jce = s.jce := rfl
@[simp] theorem State.out_clusterLast (o : Out) : (s.out o).clusterLast = s.clusterLast := rfl
@[simp] theorem State.out_pwm (o : Out) : (s.out o).pwm = s.pwm := rfl
@[simp] theorem State.out_pwmClock (o : Out) : (s.out o).pwmClock = s.pwmClock := rfl
@[simp] theorem State.out_fb (o : Out) : (s.out o).fb = s.fb := rfl
@[simp] theorem State.out_adc (o : Out) : (s.out o).adc = s.adc := rfl
@[simp] theorem State.out_stp (o : Out) : (s.out o).stp = s.stp := rfl
@[simp] theorem State.out_axisIn (o : Out) : (s.out o).axisIn = s.axisIn := rfl
@[simp] theorem State.out_axes (o : Out) : (s.out o).axes = s.axes := rfl
@[simp] theorem State.out_kernelOverruns (o : Out) : (s.out o).kernelOverruns = s.kernelOverruns := rfl
@[simp] theorem State.out_tiles (o : Out) : (s.out o).tiles = s.tiles := rfl
@[simp] theorem State.out_insts (o : Out) : (s.out o).insts = s.insts := rfl
@[simp] theorem State.out_published (o : Out) : (s.out o).published = s.published := rfl
@[simp] theorem State.out_dbg (o : Out) : (s.out o).dbg = s.dbg := rfl
@[simp] theorem State.out_power (o : Out) : (s.out o).power = s.power := rfl
@[simp] theorem State.out_cal (o : Out) : (s.out o).cal = s.cal := rfl
@[simp] theorem State.out_ports (o : Out) : (s.out o).ports = s.ports := rfl
@[simp] theorem State.out_refLost (o : Out) : (s.out o).refLost = s.refLost := rfl
@[simp] theorem State.out_time (o : Out) : (s.out o).time = s.time := rfl
@[simp] theorem State.out_star (o : Out) : (s.out o).star = s.star := rfl
@[simp] theorem State.out_twin (o : Out) : (s.out o).twin = s.twin := rfl
@[simp] theorem State.out_memErr (o : Out) : (s.out o).memErr = s.memErr := rfl
@[simp] theorem State.out_memory (o : Out) : (s.out o).memory = s.memory := rfl
@[simp] theorem State.out_cores (o : Out) : (s.out o).cores = s.cores := rfl
@[simp] theorem State.out_boot (o : Out) : (s.out o).boot = s.boot := rfl
@[simp] theorem State.out_pending (o : Out) : (s.out o).pending = s.pending := rfl

@[simp] theorem State.answer_regs (b : BusResp) : (s.answer b).regs = s.regs := rfl
@[simp] theorem State.answer_ticks (b : BusResp) : (s.answer b).ticks = s.ticks := rfl
@[simp] theorem State.answer_freeCtr (b : BusResp) : (s.answer b).freeCtr = s.freeCtr := rfl
@[simp] theorem State.answer_points (b : BusResp) : (s.answer b).points = s.points := rfl
@[simp] theorem State.answer_mem (b : BusResp) : (s.answer b).mem = s.mem := rfl
@[simp] theorem State.answer_readShadow (b : BusResp) : (s.answer b).readShadow = s.readShadow := rfl
@[simp] theorem State.answer_writeHeld (b : BusResp) : (s.answer b).writeHeld = s.writeHeld := rfl
@[simp] theorem State.answer_outbox (b : BusResp) : (s.answer b).outbox = s.outbox := rfl
@[simp] theorem State.answer_alive (b : BusResp) : (s.answer b).alive = s.alive := rfl
@[simp] theorem State.answer_host (b : BusResp) : (s.answer b).host = s.host := rfl
@[simp] theorem State.answer_mode (b : BusResp) : (s.answer b).mode = s.mode := rfl
@[simp] theorem State.answer_logs (b : BusResp) : (s.answer b).logs = s.logs := rfl
@[simp] theorem State.answer_cell (b : BusResp) : (s.answer b).cell = s.cell := rfl
@[simp] theorem State.answer_flash (b : BusResp) : (s.answer b).flash = s.flash := rfl
@[simp] theorem State.answer_yard (b : BusResp) : (s.answer b).yard = s.yard := rfl
@[simp] theorem State.answer_jce (b : BusResp) : (s.answer b).jce = s.jce := rfl
@[simp] theorem State.answer_clusterLast (b : BusResp) : (s.answer b).clusterLast = s.clusterLast := rfl
@[simp] theorem State.answer_pwm (b : BusResp) : (s.answer b).pwm = s.pwm := rfl
@[simp] theorem State.answer_pwmClock (b : BusResp) : (s.answer b).pwmClock = s.pwmClock := rfl
@[simp] theorem State.answer_fb (b : BusResp) : (s.answer b).fb = s.fb := rfl
@[simp] theorem State.answer_adc (b : BusResp) : (s.answer b).adc = s.adc := rfl
@[simp] theorem State.answer_stp (b : BusResp) : (s.answer b).stp = s.stp := rfl
@[simp] theorem State.answer_axisIn (b : BusResp) : (s.answer b).axisIn = s.axisIn := rfl
@[simp] theorem State.answer_axes (b : BusResp) : (s.answer b).axes = s.axes := rfl
@[simp] theorem State.answer_kernelOverruns (b : BusResp) : (s.answer b).kernelOverruns = s.kernelOverruns := rfl
@[simp] theorem State.answer_tiles (b : BusResp) : (s.answer b).tiles = s.tiles := rfl
@[simp] theorem State.answer_insts (b : BusResp) : (s.answer b).insts = s.insts := rfl
@[simp] theorem State.answer_published (b : BusResp) : (s.answer b).published = s.published := rfl
@[simp] theorem State.answer_dbg (b : BusResp) : (s.answer b).dbg = s.dbg := rfl
@[simp] theorem State.answer_power (b : BusResp) : (s.answer b).power = s.power := rfl
@[simp] theorem State.answer_cal (b : BusResp) : (s.answer b).cal = s.cal := rfl
@[simp] theorem State.answer_ports (b : BusResp) : (s.answer b).ports = s.ports := rfl
@[simp] theorem State.answer_refLost (b : BusResp) : (s.answer b).refLost = s.refLost := rfl
@[simp] theorem State.answer_time (b : BusResp) : (s.answer b).time = s.time := rfl
@[simp] theorem State.answer_star (b : BusResp) : (s.answer b).star = s.star := rfl
@[simp] theorem State.answer_twin (b : BusResp) : (s.answer b).twin = s.twin := rfl
@[simp] theorem State.answer_memErr (b : BusResp) : (s.answer b).memErr = s.memErr := rfl
@[simp] theorem State.answer_memory (b : BusResp) : (s.answer b).memory = s.memory := rfl
@[simp] theorem State.answer_cores (b : BusResp) : (s.answer b).cores = s.cores := rfl
@[simp] theorem State.answer_boot (b : BusResp) : (s.answer b).boot = s.boot := rfl
@[simp] theorem State.answer_pending (b : BusResp) : (s.answer b).pending = s.pending := rfl

@[simp] theorem State.log_regs (k code source : Nat) (data : List Byte) : (s.log k code source data).regs = s.regs := rfl
@[simp] theorem State.log_ticks (k code source : Nat) (data : List Byte) : (s.log k code source data).ticks = s.ticks := rfl
@[simp] theorem State.log_freeCtr (k code source : Nat) (data : List Byte) : (s.log k code source data).freeCtr = s.freeCtr := rfl
@[simp] theorem State.log_points (k code source : Nat) (data : List Byte) : (s.log k code source data).points = s.points := rfl
@[simp] theorem State.log_mem (k code source : Nat) (data : List Byte) : (s.log k code source data).mem = s.mem := rfl
@[simp] theorem State.log_readShadow (k code source : Nat) (data : List Byte) : (s.log k code source data).readShadow = s.readShadow := rfl
@[simp] theorem State.log_writeHeld (k code source : Nat) (data : List Byte) : (s.log k code source data).writeHeld = s.writeHeld := rfl
@[simp] theorem State.log_bus (k code source : Nat) (data : List Byte) : (s.log k code source data).bus = s.bus := rfl
@[simp] theorem State.log_outbox (k code source : Nat) (data : List Byte) : (s.log k code source data).outbox = s.outbox := rfl
@[simp] theorem State.log_alive (k code source : Nat) (data : List Byte) : (s.log k code source data).alive = s.alive := rfl
@[simp] theorem State.log_host (k code source : Nat) (data : List Byte) : (s.log k code source data).host = s.host := rfl
@[simp] theorem State.log_mode (k code source : Nat) (data : List Byte) : (s.log k code source data).mode = s.mode := rfl
@[simp] theorem State.log_cell (k code source : Nat) (data : List Byte) : (s.log k code source data).cell = s.cell := rfl
@[simp] theorem State.log_flash (k code source : Nat) (data : List Byte) : (s.log k code source data).flash = s.flash := rfl
@[simp] theorem State.log_yard (k code source : Nat) (data : List Byte) : (s.log k code source data).yard = s.yard := rfl
@[simp] theorem State.log_jce (k code source : Nat) (data : List Byte) : (s.log k code source data).jce = s.jce := rfl
@[simp] theorem State.log_clusterLast (k code source : Nat) (data : List Byte) : (s.log k code source data).clusterLast = s.clusterLast := rfl
@[simp] theorem State.log_pwm (k code source : Nat) (data : List Byte) : (s.log k code source data).pwm = s.pwm := rfl
@[simp] theorem State.log_pwmClock (k code source : Nat) (data : List Byte) : (s.log k code source data).pwmClock = s.pwmClock := rfl
@[simp] theorem State.log_fb (k code source : Nat) (data : List Byte) : (s.log k code source data).fb = s.fb := rfl
@[simp] theorem State.log_adc (k code source : Nat) (data : List Byte) : (s.log k code source data).adc = s.adc := rfl
@[simp] theorem State.log_stp (k code source : Nat) (data : List Byte) : (s.log k code source data).stp = s.stp := rfl
@[simp] theorem State.log_axisIn (k code source : Nat) (data : List Byte) : (s.log k code source data).axisIn = s.axisIn := rfl
@[simp] theorem State.log_axes (k code source : Nat) (data : List Byte) : (s.log k code source data).axes = s.axes := rfl
@[simp] theorem State.log_kernelOverruns (k code source : Nat) (data : List Byte) : (s.log k code source data).kernelOverruns = s.kernelOverruns := rfl
@[simp] theorem State.log_tiles (k code source : Nat) (data : List Byte) : (s.log k code source data).tiles = s.tiles := rfl
@[simp] theorem State.log_insts (k code source : Nat) (data : List Byte) : (s.log k code source data).insts = s.insts := rfl
@[simp] theorem State.log_published (k code source : Nat) (data : List Byte) : (s.log k code source data).published = s.published := rfl
@[simp] theorem State.log_dbg (k code source : Nat) (data : List Byte) : (s.log k code source data).dbg = s.dbg := rfl
@[simp] theorem State.log_power (k code source : Nat) (data : List Byte) : (s.log k code source data).power = s.power := rfl
@[simp] theorem State.log_cal (k code source : Nat) (data : List Byte) : (s.log k code source data).cal = s.cal := rfl
@[simp] theorem State.log_ports (k code source : Nat) (data : List Byte) : (s.log k code source data).ports = s.ports := rfl
@[simp] theorem State.log_refLost (k code source : Nat) (data : List Byte) : (s.log k code source data).refLost = s.refLost := rfl
@[simp] theorem State.log_time (k code source : Nat) (data : List Byte) : (s.log k code source data).time = s.time := rfl
@[simp] theorem State.log_star (k code source : Nat) (data : List Byte) : (s.log k code source data).star = s.star := rfl
@[simp] theorem State.log_twin (k code source : Nat) (data : List Byte) : (s.log k code source data).twin = s.twin := rfl
@[simp] theorem State.log_memErr (k code source : Nat) (data : List Byte) : (s.log k code source data).memErr = s.memErr := rfl
@[simp] theorem State.log_memory (k code source : Nat) (data : List Byte) : (s.log k code source data).memory = s.memory := rfl
@[simp] theorem State.log_cores (k code source : Nat) (data : List Byte) : (s.log k code source data).cores = s.cores := rfl
@[simp] theorem State.log_boot (k code source : Nat) (data : List Byte) : (s.log k code source data).boot = s.boot := rfl
@[simp] theorem State.log_pending (k code source : Nat) (data : List Byte) : (s.log k code source data).pending = s.pending := rfl

@[simp] theorem State.healed_regs (a n : Nat) : (s.healed a n).regs = s.regs := rfl
@[simp] theorem State.healed_ticks (a n : Nat) : (s.healed a n).ticks = s.ticks := rfl
@[simp] theorem State.healed_freeCtr (a n : Nat) : (s.healed a n).freeCtr = s.freeCtr := rfl
@[simp] theorem State.healed_points (a n : Nat) : (s.healed a n).points = s.points := rfl
@[simp] theorem State.healed_mem (a n : Nat) : (s.healed a n).mem = s.mem := rfl
@[simp] theorem State.healed_readShadow (a n : Nat) : (s.healed a n).readShadow = s.readShadow := rfl
@[simp] theorem State.healed_writeHeld (a n : Nat) : (s.healed a n).writeHeld = s.writeHeld := rfl
@[simp] theorem State.healed_bus (a n : Nat) : (s.healed a n).bus = s.bus := rfl
@[simp] theorem State.healed_outbox (a n : Nat) : (s.healed a n).outbox = s.outbox := rfl
@[simp] theorem State.healed_alive (a n : Nat) : (s.healed a n).alive = s.alive := rfl
@[simp] theorem State.healed_host (a n : Nat) : (s.healed a n).host = s.host := rfl
@[simp] theorem State.healed_mode (a n : Nat) : (s.healed a n).mode = s.mode := rfl
@[simp] theorem State.healed_logs (a n : Nat) : (s.healed a n).logs = s.logs := rfl
@[simp] theorem State.healed_cell (a n : Nat) : (s.healed a n).cell = s.cell := rfl
@[simp] theorem State.healed_flash (a n : Nat) : (s.healed a n).flash = s.flash := rfl
@[simp] theorem State.healed_yard (a n : Nat) : (s.healed a n).yard = s.yard := rfl
@[simp] theorem State.healed_jce (a n : Nat) : (s.healed a n).jce = s.jce := rfl
@[simp] theorem State.healed_clusterLast (a n : Nat) : (s.healed a n).clusterLast = s.clusterLast := rfl
@[simp] theorem State.healed_pwm (a n : Nat) : (s.healed a n).pwm = s.pwm := rfl
@[simp] theorem State.healed_pwmClock (a n : Nat) : (s.healed a n).pwmClock = s.pwmClock := rfl
@[simp] theorem State.healed_fb (a n : Nat) : (s.healed a n).fb = s.fb := rfl
@[simp] theorem State.healed_adc (a n : Nat) : (s.healed a n).adc = s.adc := rfl
@[simp] theorem State.healed_stp (a n : Nat) : (s.healed a n).stp = s.stp := rfl
@[simp] theorem State.healed_axisIn (a n : Nat) : (s.healed a n).axisIn = s.axisIn := rfl
@[simp] theorem State.healed_axes (a n : Nat) : (s.healed a n).axes = s.axes := rfl
@[simp] theorem State.healed_kernelOverruns (a n : Nat) : (s.healed a n).kernelOverruns = s.kernelOverruns := rfl
@[simp] theorem State.healed_tiles (a n : Nat) : (s.healed a n).tiles = s.tiles := rfl
@[simp] theorem State.healed_insts (a n : Nat) : (s.healed a n).insts = s.insts := rfl
@[simp] theorem State.healed_published (a n : Nat) : (s.healed a n).published = s.published := rfl
@[simp] theorem State.healed_dbg (a n : Nat) : (s.healed a n).dbg = s.dbg := rfl
@[simp] theorem State.healed_power (a n : Nat) : (s.healed a n).power = s.power := rfl
@[simp] theorem State.healed_cal (a n : Nat) : (s.healed a n).cal = s.cal := rfl
@[simp] theorem State.healed_ports (a n : Nat) : (s.healed a n).ports = s.ports := rfl
@[simp] theorem State.healed_refLost (a n : Nat) : (s.healed a n).refLost = s.refLost := rfl
@[simp] theorem State.healed_time (a n : Nat) : (s.healed a n).time = s.time := rfl
@[simp] theorem State.healed_star (a n : Nat) : (s.healed a n).star = s.star := rfl
@[simp] theorem State.healed_twin (a n : Nat) : (s.healed a n).twin = s.twin := rfl
@[simp] theorem State.healed_memory (a n : Nat) : (s.healed a n).memory = s.memory := rfl
@[simp] theorem State.healed_cores (a n : Nat) : (s.healed a n).cores = s.cores := rfl
@[simp] theorem State.healed_boot (a n : Nat) : (s.healed a n).boot = s.boot := rfl
@[simp] theorem State.healed_pending (a n : Nat) : (s.healed a n).pending = s.pending := rfl

@[simp] theorem State.memPut_regs (a : Nat) (bs : List Byte) : (s.memPut a bs).regs = s.regs := rfl
@[simp] theorem State.memPut_ticks (a : Nat) (bs : List Byte) : (s.memPut a bs).ticks = s.ticks := rfl
@[simp] theorem State.memPut_freeCtr (a : Nat) (bs : List Byte) : (s.memPut a bs).freeCtr = s.freeCtr := rfl
@[simp] theorem State.memPut_points (a : Nat) (bs : List Byte) : (s.memPut a bs).points = s.points := rfl
@[simp] theorem State.memPut_readShadow (a : Nat) (bs : List Byte) : (s.memPut a bs).readShadow = s.readShadow := rfl
@[simp] theorem State.memPut_writeHeld (a : Nat) (bs : List Byte) : (s.memPut a bs).writeHeld = s.writeHeld := rfl
@[simp] theorem State.memPut_bus (a : Nat) (bs : List Byte) : (s.memPut a bs).bus = s.bus := rfl
@[simp] theorem State.memPut_outbox (a : Nat) (bs : List Byte) : (s.memPut a bs).outbox = s.outbox := rfl
@[simp] theorem State.memPut_alive (a : Nat) (bs : List Byte) : (s.memPut a bs).alive = s.alive := rfl
@[simp] theorem State.memPut_host (a : Nat) (bs : List Byte) : (s.memPut a bs).host = s.host := rfl
@[simp] theorem State.memPut_mode (a : Nat) (bs : List Byte) : (s.memPut a bs).mode = s.mode := rfl
@[simp] theorem State.memPut_logs (a : Nat) (bs : List Byte) : (s.memPut a bs).logs = s.logs := rfl
@[simp] theorem State.memPut_cell (a : Nat) (bs : List Byte) : (s.memPut a bs).cell = s.cell := rfl
@[simp] theorem State.memPut_flash (a : Nat) (bs : List Byte) : (s.memPut a bs).flash = s.flash := rfl
@[simp] theorem State.memPut_yard (a : Nat) (bs : List Byte) : (s.memPut a bs).yard = s.yard := rfl
@[simp] theorem State.memPut_jce (a : Nat) (bs : List Byte) : (s.memPut a bs).jce = s.jce := rfl
@[simp] theorem State.memPut_clusterLast (a : Nat) (bs : List Byte) : (s.memPut a bs).clusterLast = s.clusterLast := rfl
@[simp] theorem State.memPut_pwm (a : Nat) (bs : List Byte) : (s.memPut a bs).pwm = s.pwm := rfl
@[simp] theorem State.memPut_pwmClock (a : Nat) (bs : List Byte) : (s.memPut a bs).pwmClock = s.pwmClock := rfl
@[simp] theorem State.memPut_fb (a : Nat) (bs : List Byte) : (s.memPut a bs).fb = s.fb := rfl
@[simp] theorem State.memPut_adc (a : Nat) (bs : List Byte) : (s.memPut a bs).adc = s.adc := rfl
@[simp] theorem State.memPut_stp (a : Nat) (bs : List Byte) : (s.memPut a bs).stp = s.stp := rfl
@[simp] theorem State.memPut_axisIn (a : Nat) (bs : List Byte) : (s.memPut a bs).axisIn = s.axisIn := rfl
@[simp] theorem State.memPut_axes (a : Nat) (bs : List Byte) : (s.memPut a bs).axes = s.axes := rfl
@[simp] theorem State.memPut_kernelOverruns (a : Nat) (bs : List Byte) : (s.memPut a bs).kernelOverruns = s.kernelOverruns := rfl
@[simp] theorem State.memPut_tiles (a : Nat) (bs : List Byte) : (s.memPut a bs).tiles = s.tiles := rfl
@[simp] theorem State.memPut_insts (a : Nat) (bs : List Byte) : (s.memPut a bs).insts = s.insts := rfl
@[simp] theorem State.memPut_published (a : Nat) (bs : List Byte) : (s.memPut a bs).published = s.published := rfl
@[simp] theorem State.memPut_dbg (a : Nat) (bs : List Byte) : (s.memPut a bs).dbg = s.dbg := rfl
@[simp] theorem State.memPut_power (a : Nat) (bs : List Byte) : (s.memPut a bs).power = s.power := rfl
@[simp] theorem State.memPut_cal (a : Nat) (bs : List Byte) : (s.memPut a bs).cal = s.cal := rfl
@[simp] theorem State.memPut_ports (a : Nat) (bs : List Byte) : (s.memPut a bs).ports = s.ports := rfl
@[simp] theorem State.memPut_refLost (a : Nat) (bs : List Byte) : (s.memPut a bs).refLost = s.refLost := rfl
@[simp] theorem State.memPut_time (a : Nat) (bs : List Byte) : (s.memPut a bs).time = s.time := rfl
@[simp] theorem State.memPut_star (a : Nat) (bs : List Byte) : (s.memPut a bs).star = s.star := rfl
@[simp] theorem State.memPut_twin (a : Nat) (bs : List Byte) : (s.memPut a bs).twin = s.twin := rfl
@[simp] theorem State.memPut_memory (a : Nat) (bs : List Byte) : (s.memPut a bs).memory = s.memory := rfl
@[simp] theorem State.memPut_cores (a : Nat) (bs : List Byte) : (s.memPut a bs).cores = s.cores := rfl
@[simp] theorem State.memPut_boot (a : Nat) (bs : List Byte) : (s.memPut a bs).boot = s.boot := rfl
@[simp] theorem State.memPut_pending (a : Nat) (bs : List Byte) : (s.memPut a bs).pending = s.pending := rfl

@[simp] theorem State.putPoint_regs (p v : Nat) : (s.putPoint p v).regs = s.regs := rfl
@[simp] theorem State.putPoint_ticks (p v : Nat) : (s.putPoint p v).ticks = s.ticks := rfl
@[simp] theorem State.putPoint_freeCtr (p v : Nat) : (s.putPoint p v).freeCtr = s.freeCtr := rfl
@[simp] theorem State.putPoint_mem (p v : Nat) : (s.putPoint p v).mem = s.mem := rfl
@[simp] theorem State.putPoint_readShadow (p v : Nat) : (s.putPoint p v).readShadow = s.readShadow := rfl
@[simp] theorem State.putPoint_writeHeld (p v : Nat) : (s.putPoint p v).writeHeld = s.writeHeld := rfl
@[simp] theorem State.putPoint_bus (p v : Nat) : (s.putPoint p v).bus = s.bus := rfl
@[simp] theorem State.putPoint_outbox (p v : Nat) : (s.putPoint p v).outbox = s.outbox := rfl
@[simp] theorem State.putPoint_alive (p v : Nat) : (s.putPoint p v).alive = s.alive := rfl
@[simp] theorem State.putPoint_host (p v : Nat) : (s.putPoint p v).host = s.host := rfl
@[simp] theorem State.putPoint_mode (p v : Nat) : (s.putPoint p v).mode = s.mode := rfl
@[simp] theorem State.putPoint_logs (p v : Nat) : (s.putPoint p v).logs = s.logs := rfl
@[simp] theorem State.putPoint_cell (p v : Nat) : (s.putPoint p v).cell = s.cell := rfl
@[simp] theorem State.putPoint_flash (p v : Nat) : (s.putPoint p v).flash = s.flash := rfl
@[simp] theorem State.putPoint_yard (p v : Nat) : (s.putPoint p v).yard = s.yard := rfl
@[simp] theorem State.putPoint_jce (p v : Nat) : (s.putPoint p v).jce = s.jce := rfl
@[simp] theorem State.putPoint_clusterLast (p v : Nat) : (s.putPoint p v).clusterLast = s.clusterLast := rfl
@[simp] theorem State.putPoint_pwm (p v : Nat) : (s.putPoint p v).pwm = s.pwm := rfl
@[simp] theorem State.putPoint_pwmClock (p v : Nat) : (s.putPoint p v).pwmClock = s.pwmClock := rfl
@[simp] theorem State.putPoint_fb (p v : Nat) : (s.putPoint p v).fb = s.fb := rfl
@[simp] theorem State.putPoint_adc (p v : Nat) : (s.putPoint p v).adc = s.adc := rfl
@[simp] theorem State.putPoint_stp (p v : Nat) : (s.putPoint p v).stp = s.stp := rfl
@[simp] theorem State.putPoint_axisIn (p v : Nat) : (s.putPoint p v).axisIn = s.axisIn := rfl
@[simp] theorem State.putPoint_axes (p v : Nat) : (s.putPoint p v).axes = s.axes := rfl
@[simp] theorem State.putPoint_kernelOverruns (p v : Nat) : (s.putPoint p v).kernelOverruns = s.kernelOverruns := rfl
@[simp] theorem State.putPoint_tiles (p v : Nat) : (s.putPoint p v).tiles = s.tiles := rfl
@[simp] theorem State.putPoint_insts (p v : Nat) : (s.putPoint p v).insts = s.insts := rfl
@[simp] theorem State.putPoint_published (p v : Nat) : (s.putPoint p v).published = s.published := rfl
@[simp] theorem State.putPoint_dbg (p v : Nat) : (s.putPoint p v).dbg = s.dbg := rfl
@[simp] theorem State.putPoint_power (p v : Nat) : (s.putPoint p v).power = s.power := rfl
@[simp] theorem State.putPoint_cal (p v : Nat) : (s.putPoint p v).cal = s.cal := rfl
@[simp] theorem State.putPoint_ports (p v : Nat) : (s.putPoint p v).ports = s.ports := rfl
@[simp] theorem State.putPoint_refLost (p v : Nat) : (s.putPoint p v).refLost = s.refLost := rfl
@[simp] theorem State.putPoint_time (p v : Nat) : (s.putPoint p v).time = s.time := rfl
@[simp] theorem State.putPoint_star (p v : Nat) : (s.putPoint p v).star = s.star := rfl
@[simp] theorem State.putPoint_twin (p v : Nat) : (s.putPoint p v).twin = s.twin := rfl
@[simp] theorem State.putPoint_memory (p v : Nat) : (s.putPoint p v).memory = s.memory := rfl
@[simp] theorem State.putPoint_cores (p v : Nat) : (s.putPoint p v).cores = s.cores := rfl
@[simp] theorem State.putPoint_boot (p v : Nat) : (s.putPoint p v).boot = s.boot := rfl
@[simp] theorem State.putPoint_pending (p v : Nat) : (s.putPoint p v).pending = s.pending := rfl

@[simp] theorem State.tookFree_freeCtr : s.tookFree.freeCtr = s.freeCtr + 1 := rfl
@[simp] theorem State.out_outbox (o : Out) : (s.out o).outbox = o :: s.outbox := rfl
@[simp] theorem State.answer_bus (b : BusResp) : (s.answer b).bus = b := rfl

/-- `beside` keeps the queue. -/
@[simp] theorem State.beside_pending (f : State → State) : (s.beside f).pending = s.pending := rfl

@[simp] theorem State.beside_regs (f : State → State) : (s.beside f).regs = (f s).regs := rfl
@[simp] theorem State.beside_ticks (f : State → State) : (s.beside f).ticks = (f s).ticks := rfl
@[simp] theorem State.beside_freeCtr (f : State → State) : (s.beside f).freeCtr = (f s).freeCtr := rfl
@[simp] theorem State.beside_points (f : State → State) : (s.beside f).points = (f s).points := rfl
@[simp] theorem State.beside_mem (f : State → State) : (s.beside f).mem = (f s).mem := rfl
@[simp] theorem State.beside_readShadow (f : State → State) : (s.beside f).readShadow = (f s).readShadow := rfl
@[simp] theorem State.beside_writeHeld (f : State → State) : (s.beside f).writeHeld = (f s).writeHeld := rfl
@[simp] theorem State.beside_bus (f : State → State) : (s.beside f).bus = (f s).bus := rfl
@[simp] theorem State.beside_outbox (f : State → State) : (s.beside f).outbox = (f s).outbox := rfl
@[simp] theorem State.beside_alive (f : State → State) : (s.beside f).alive = (f s).alive := rfl
@[simp] theorem State.beside_host (f : State → State) : (s.beside f).host = (f s).host := rfl
@[simp] theorem State.beside_mode (f : State → State) : (s.beside f).mode = (f s).mode := rfl
@[simp] theorem State.beside_logs (f : State → State) : (s.beside f).logs = (f s).logs := rfl
@[simp] theorem State.beside_cell (f : State → State) : (s.beside f).cell = (f s).cell := rfl
@[simp] theorem State.beside_flash (f : State → State) : (s.beside f).flash = (f s).flash := rfl
@[simp] theorem State.beside_yard (f : State → State) : (s.beside f).yard = (f s).yard := rfl
@[simp] theorem State.beside_jce (f : State → State) : (s.beside f).jce = (f s).jce := rfl
@[simp] theorem State.beside_clusterLast (f : State → State) : (s.beside f).clusterLast = (f s).clusterLast := rfl
@[simp] theorem State.beside_pwm (f : State → State) : (s.beside f).pwm = (f s).pwm := rfl
@[simp] theorem State.beside_pwmClock (f : State → State) : (s.beside f).pwmClock = (f s).pwmClock := rfl
@[simp] theorem State.beside_fb (f : State → State) : (s.beside f).fb = (f s).fb := rfl
@[simp] theorem State.beside_adc (f : State → State) : (s.beside f).adc = (f s).adc := rfl
@[simp] theorem State.beside_stp (f : State → State) : (s.beside f).stp = (f s).stp := rfl
@[simp] theorem State.beside_axisIn (f : State → State) : (s.beside f).axisIn = (f s).axisIn := rfl
@[simp] theorem State.beside_axes (f : State → State) : (s.beside f).axes = (f s).axes := rfl
@[simp] theorem State.beside_kernelOverruns (f : State → State) : (s.beside f).kernelOverruns = (f s).kernelOverruns := rfl
@[simp] theorem State.beside_tiles (f : State → State) : (s.beside f).tiles = (f s).tiles := rfl
@[simp] theorem State.beside_insts (f : State → State) : (s.beside f).insts = (f s).insts := rfl
@[simp] theorem State.beside_published (f : State → State) : (s.beside f).published = (f s).published := rfl
@[simp] theorem State.beside_dbg (f : State → State) : (s.beside f).dbg = (f s).dbg := rfl
@[simp] theorem State.beside_power (f : State → State) : (s.beside f).power = (f s).power := rfl
@[simp] theorem State.beside_cal (f : State → State) : (s.beside f).cal = (f s).cal := rfl
@[simp] theorem State.beside_ports (f : State → State) : (s.beside f).ports = (f s).ports := rfl
@[simp] theorem State.beside_refLost (f : State → State) : (s.beside f).refLost = (f s).refLost := rfl
@[simp] theorem State.beside_time (f : State → State) : (s.beside f).time = (f s).time := rfl
@[simp] theorem State.beside_star (f : State → State) : (s.beside f).star = (f s).star := rfl
@[simp] theorem State.beside_twin (f : State → State) : (s.beside f).twin = (f s).twin := rfl
@[simp] theorem State.beside_memErr (f : State → State) : (s.beside f).memErr = (f s).memErr := rfl
@[simp] theorem State.beside_memory (f : State → State) : (s.beside f).memory = (f s).memory := rfl
@[simp] theorem State.beside_cores (f : State → State) : (s.beside f).cores = (f s).cores := rfl
@[simp] theorem State.beside_boot (f : State → State) : (s.beside f).boot = (f s).boot := rfl

@[simp] theorem State.beside_get (g : State → State) (f : Field) (i : Nat) : (s.beside g).get f i = (g s).get f i := rfl

/-- A field reads what was written to it, cut to its width. -/
@[simp] theorem State.get_set_same (f : Field) (i v : Nat) : (s.set f i v).get f i = v % 2 ^ f.width := by
  simp [State.get, State.set]

/-- Writing an element of a field leaves the field's other elements alone. -/
theorem State.get_set_index (f : Field) {i j : Nat} (h : i ≠ j) (v : Nat) : (s.set f i v).get f j = s.get f j := by
  have hr : ∀ (t : Tab Nat), (t.put (f.resetAt i) i (v % 2 ^ f.width)).get (f.resetAt j) j = t.get (f.resetAt j) j := by
    intro t
    simp only [Tab.get, Tab.put]
    have go : ∀ l : List (Nat × Nat), Tab.find (f.resetAt j) j (Tab.place (f.resetAt i) i (v % 2 ^ f.width) l) =
        Tab.find (f.resetAt j) j l := by
      intro l
      induction l with
      | nil =>
        simp only [Tab.place]
        split
        · rfl
        · simp [Tab.find, Ne.symm h]
      | cons e r ih =>
        obtain ⟨a, w⟩ := e
        simp only [Tab.place]
        split
        · split
          · rfl
          · simp only [Tab.find, Ne.symm h, if_false]
            split
            · rw [if_pos (by omega)]
            · rfl
        · split
          · next h2 =>
            subst h2
            have hd : Tab.find (f.resetAt j) j (Tab.dropTo i r) = Tab.find (f.resetAt j) j ((i, w) :: r) := by
              rw [Tab.find]
              by_cases h3 : j < i
              · rw [if_pos h3, Tab.find_dropTo_le _ (by omega)]
              · rw [if_neg h3, if_neg (by omega), Tab.find_dropTo _ (by omega)]
            split
            · exact hd
            · rw [← hd, Tab.find]
              by_cases h3 : j < i
              · rw [if_pos h3, Tab.find_dropTo_le _ (by omega)]
              · rw [if_neg h3, if_neg (by omega)]
          · simp only [Tab.find, ih]
    exact go t.entries
  simp [State.get, State.set, hr]

/-- Writing a field leaves every other field alone. -/
theorem State.get_set_other {f g : Field} (h : f.id ≠ g.id) (i j v : Nat) : (s.set f i v).get g j = s.get g j := by
  simp [State.get, State.set, Tab.get_put_other _ _ h]

@[simp] theorem State.get_tookFree (f : Field) (i : Nat) : s.tookFree.get f i = s.get f i := rfl
@[simp] theorem State.get_out (o : Out) (f : Field) (i : Nat) : (s.out o).get f i = s.get f i := rfl
@[simp] theorem State.get_answer (b : BusResp) (f : Field) (i : Nat) : (s.answer b).get f i = s.get f i := rfl
@[simp] theorem State.get_log (k c o : Nat) (d : List Byte) (f : Field) (i : Nat) :
    (s.log k c o d).get f i = s.get f i := rfl
@[simp] theorem State.get_memPut (a : Nat) (bs : List Byte) (f : Field) (i : Nat) :
    (s.memPut a bs).get f i = s.get f i := rfl
@[simp] theorem State.get_putPoint (p v : Nat) (f : Field) (i : Nat) : (s.putPoint p v).get f i = s.get f i := rfl

/-- A counter reads its old value plus what was added, saturated (R9). -/
@[simp] theorem State.get_count_same (f : Field) (i n : Nat) :
    (s.count f i n).get f i = min (s.get f i + n) (2 ^ f.width - 1) := by
  rw [State.count, State.get_set_same, Nat.mod_eq_of_lt]
  have : 0 < 2 ^ f.width := Nat.two_pow_pos _
  omega

theorem State.get_count_other {f g : Field} (h : f.id ≠ g.id) (i j n : Nat) :
    (s.count f i n).get g j = s.get g j := State.get_set_other s h i j _

@[simp] theorem State.get_setFlag_same (f : Field) (i : Nat) (b : Bool) (h : f.width ≠ 0) :
    (s.setFlag f i b).get f i = b2n b := by
  rw [State.setFlag, State.get_set_same, Nat.mod_eq_of_lt]
  have : 2 ≤ 2 ^ f.width := by
    calc 2 = 2 ^ 1 := rfl
      _ ≤ 2 ^ f.width := Nat.pow_le_pow_right (by omega) (by omega)
  cases b <;> simp [b2n] <;> omega

theorem State.get_setFlag_other {f g : Field} (h : f.id ≠ g.id) (i j : Nat) (b : Bool) :
    (s.setFlag f i b).get g j = s.get g j := State.get_set_other s h i j _

/-- A point reads what was put there. -/
@[simp] theorem State.putPoint_points_get (p q v : Nat) :
    (s.putPoint p v).points.get 0 q = if p = q then BitVec.ofNat 64 v else s.points.get 0 q := by
  simp [State.putPoint, Tab.get_put]

end Sys2Proof.Machine
end

