-- ==== Sys2Proof/Laws/Ops.lean ====
section
/-!
SUPPORT. What the shared operations of Ops.lean can do, said once: raising an event changes pending bits, the count of
merged signals, MSI-X pending bits and what is sent out, nothing else (R648, R652).
-/
namespace Sys2Proof.Machine

variable (s : State)

/-- The register fields that raising an event may write. -/
def Reg.raised (f : Field) : Bool :=
  f.id == Reg.HOST_PEND_PEND.id || f.id == Reg.EV_MERGED_COUNT.id || f.id == Reg.AC_PEND_PEND.id

/-- `t` differs from `s` at most in what raising events writes: pending bits and the merge count among the registers, the
MSI-X pending bits, what is sent out. -/
def State.RaiseFrame (s t : State) : Prop :=
  (∀ f i, Reg.raised f = false → t.get f i = s.get f i) ∧
    ∃ r m o, t = { s with regs := r, host := { s.host with msixPending := m }, outbox := o }

theorem State.RaiseFrame.refl : s.RaiseFrame s := ⟨fun _ _ _ => rfl, s.regs, s.host.msixPending, s.outbox, rfl⟩

theorem State.RaiseFrame.trans {s t u : State} (h : s.RaiseFrame t) (h' : t.RaiseFrame u) : s.RaiseFrame u := by
  refine ⟨fun f i hf => (h'.1 f i hf).trans (h.1 f i hf), ?_⟩
  obtain ⟨-, r, m, o, rfl⟩ := h
  obtain ⟨-, r', m', o', rfl⟩ := h'
  exact ⟨r', m', o', rfl⟩

theorem State.RaiseFrame.setRaised {f : Field} (hf : Reg.raised f = true) (i v : Nat) :
    s.RaiseFrame (s.set f i v) := by
  refine ⟨fun g j hg => State.get_set_other s (fun he => ?_) i j v, (s.set f i v).regs, s.host.msixPending, s.outbox, rfl⟩
  rw [Reg.raised, ← he] at hg
  rw [Reg.raised] at hf
  rw [hf] at hg
  cases hg

theorem State.RaiseFrame.ofOut (o : Out) : s.RaiseFrame (s.out o) :=
  ⟨fun _ _ _ => rfl, s.regs, s.host.msixPending, o :: s.outbox, rfl⟩

theorem State.raiseFrame_msix (v : Nat) : s.RaiseFrame (s.msix v) := by
  rw [State.msix]
  split
  · split
    · exact ⟨fun _ _ _ => rfl, s.regs, _, s.outbox, rfl⟩
    · exact .ofOut s _
  · exact .refl s

theorem State.raiseFrame_raiseHost (n : Nat) : s.RaiseFrame (s.raiseHost n) := by
  rw [State.raiseHost]
  split
  · split
    · exact .setRaised s rfl _ _
    · exact .trans (.setRaised s rfl _ _) (State.raiseFrame_msix _ _)
  · exact .refl s

theorem State.raiseFrame_raiseCore (n c : Nat) : s.RaiseFrame (s.raiseCore n c) := by
  rw [State.raiseCore]
  split
  · split
    · exact .setRaised s rfl _ _
    · exact .trans (.setRaised s rfl _ _) (.ofOut _ _)
  · exact .refl s

/-- Raising an event touches nothing but pending bits, the merge count and what is sent out. -/
theorem State.raiseFrame_raise (n : Nat) : s.RaiseFrame (s.raise n) := by
  have fold : ∀ (l : List Nat) (t : State), s.RaiseFrame t → s.RaiseFrame (l.foldl (fun s c => s.raiseCore n c) t) := by
    intro l
    induction l with
    | nil => intro t h; exact h
    | cons c l ih => intro t h; exact ih _ (h.trans (State.raiseFrame_raiseCore t n c))
  have h1 := fold (List.range 16) _ (State.raiseFrame_raiseHost s n)
  rw [State.raise]
  split <;> split
  · exact (h1.trans (.ofOut _ _)).trans (.ofOut _ _)
  · exact h1.trans (.ofOut _ _)
  · exact h1.trans (.ofOut _ _)
  · exact h1

theorem State.raiseFrame_raiseIf (b : Bool) (n : Nat) : s.RaiseFrame (s.raiseIf b n) := by
  rw [State.raiseIf]
  split
  · exact State.raiseFrame_raise s n
  · exact .refl s

/-- A register field that raising does not write keeps its value. -/
theorem State.get_raise {f : Field} (h : Reg.raised f = false) (n i : Nat) : (s.raise n).get f i = s.get f i :=
  (State.raiseFrame_raise s n).1 f i h

theorem State.get_raiseIf {f : Field} (h : Reg.raised f = false) (b : Bool) (n i : Nat) :
    (s.raiseIf b n).get f i = s.get f i :=
  (State.raiseFrame_raiseIf s b n).1 f i h

theorem State.flag_raise {f : Field} (h : Reg.raised f = false) (n i : Nat) : (s.raise n).flag f i = s.flag f i := by
  simp only [State.flag, State.get_raise s h]

theorem State.RaiseFrame.ticks {s t : State} (h : s.RaiseFrame t) : t.ticks = s.ticks := by
  obtain ⟨-, r, m, o, rfl⟩ := h; rfl
theorem State.RaiseFrame.freeCtr {s t : State} (h : s.RaiseFrame t) : t.freeCtr = s.freeCtr := by
  obtain ⟨-, r, m, o, rfl⟩ := h; rfl
theorem State.RaiseFrame.points {s t : State} (h : s.RaiseFrame t) : t.points = s.points := by
  obtain ⟨-, r, m, o, rfl⟩ := h; rfl
theorem State.RaiseFrame.mem {s t : State} (h : s.RaiseFrame t) : t.mem = s.mem := by
  obtain ⟨-, r, m, o, rfl⟩ := h; rfl
theorem State.RaiseFrame.readShadow {s t : State} (h : s.RaiseFrame t) : t.readShadow = s.readShadow := by
  obtain ⟨-, r, m, o, rfl⟩ := h; rfl
theorem State.RaiseFrame.writeHeld {s t : State} (h : s.RaiseFrame t) : t.writeHeld = s.writeHeld := by
  obtain ⟨-, r, m, o, rfl⟩ := h; rfl
theorem State.RaiseFrame.bus {s t : State} (h : s.RaiseFrame t) : t.bus = s.bus := by
  obtain ⟨-, r, m, o, rfl⟩ := h; rfl
theorem State.RaiseFrame.alive {s t : State} (h : s.RaiseFrame t) : t.alive = s.alive := by
  obtain ⟨-, r, m, o, rfl⟩ := h; rfl
theorem State.RaiseFrame.mode {s t : State} (h : s.RaiseFrame t) : t.mode = s.mode := by
  obtain ⟨-, r, m, o, rfl⟩ := h; rfl
theorem State.RaiseFrame.logs {s t : State} (h : s.RaiseFrame t) : t.logs = s.logs := by
  obtain ⟨-, r, m, o, rfl⟩ := h; rfl
theorem State.RaiseFrame.cell {s t : State} (h : s.RaiseFrame t) : t.cell = s.cell := by
  obtain ⟨-, r, m, o, rfl⟩ := h; rfl
theorem State.RaiseFrame.flash {s t : State} (h : s.RaiseFrame t) : t.flash = s.flash := by
  obtain ⟨-, r, m, o, rfl⟩ := h; rfl
theorem State.RaiseFrame.yard {s t : State} (h : s.RaiseFrame t) : t.yard = s.yard := by
  obtain ⟨-, r, m, o, rfl⟩ := h; rfl
theorem State.RaiseFrame.jce {s t : State} (h : s.RaiseFrame t) : t.jce = s.jce := by
  obtain ⟨-, r, m, o, rfl⟩ := h; rfl
theorem State.RaiseFrame.clusterLast {s t : State} (h : s.RaiseFrame t) : t.clusterLast = s.clusterLast := by
  obtain ⟨-, r, m, o, rfl⟩ := h; rfl
theorem State.RaiseFrame.pwm {s t : State} (h : s.RaiseFrame t) : t.pwm = s.pwm := by
  obtain ⟨-, r, m, o, rfl⟩ := h; rfl
theorem State.RaiseFrame.pwmClock {s t : State} (h : s.RaiseFrame t) : t.pwmClock = s.pwmClock := by
  obtain ⟨-, r, m, o, rfl⟩ := h; rfl
theorem State.RaiseFrame.fb {s t : State} (h : s.RaiseFrame t) : t.fb = s.fb := by
  obtain ⟨-, r, m, o, rfl⟩ := h; rfl
theorem State.RaiseFrame.adc {s t : State} (h : s.RaiseFrame t) : t.adc = s.adc := by
  obtain ⟨-, r, m, o, rfl⟩ := h; rfl
theorem State.RaiseFrame.stp {s t : State} (h : s.RaiseFrame t) : t.stp = s.stp := by
  obtain ⟨-, r, m, o, rfl⟩ := h; rfl
theorem State.RaiseFrame.axisIn {s t : State} (h : s.RaiseFrame t) : t.axisIn = s.axisIn := by
  obtain ⟨-, r, m, o, rfl⟩ := h; rfl
theorem State.RaiseFrame.axes {s t : State} (h : s.RaiseFrame t) : t.axes = s.axes := by
  obtain ⟨-, r, m, o, rfl⟩ := h; rfl
theorem State.RaiseFrame.kernelOverruns {s t : State} (h : s.RaiseFrame t) : t.kernelOverruns = s.kernelOverruns := by
  obtain ⟨-, r, m, o, rfl⟩ := h; rfl
theorem State.RaiseFrame.tiles {s t : State} (h : s.RaiseFrame t) : t.tiles = s.tiles := by
  obtain ⟨-, r, m, o, rfl⟩ := h; rfl
theorem State.RaiseFrame.insts {s t : State} (h : s.RaiseFrame t) : t.insts = s.insts := by
  obtain ⟨-, r, m, o, rfl⟩ := h; rfl
theorem State.RaiseFrame.published {s t : State} (h : s.RaiseFrame t) : t.published = s.published := by
  obtain ⟨-, r, m, o, rfl⟩ := h; rfl
theorem State.RaiseFrame.dbg {s t : State} (h : s.RaiseFrame t) : t.dbg = s.dbg := by
  obtain ⟨-, r, m, o, rfl⟩ := h; rfl
theorem State.RaiseFrame.power {s t : State} (h : s.RaiseFrame t) : t.power = s.power := by
  obtain ⟨-, r, m, o, rfl⟩ := h; rfl
theorem State.RaiseFrame.cal {s t : State} (h : s.RaiseFrame t) : t.cal = s.cal := by
  obtain ⟨-, r, m, o, rfl⟩ := h; rfl
theorem State.RaiseFrame.ports {s t : State} (h : s.RaiseFrame t) : t.ports = s.ports := by
  obtain ⟨-, r, m, o, rfl⟩ := h; rfl
theorem State.RaiseFrame.refLost {s t : State} (h : s.RaiseFrame t) : t.refLost = s.refLost := by
  obtain ⟨-, r, m, o, rfl⟩ := h; rfl
theorem State.RaiseFrame.time {s t : State} (h : s.RaiseFrame t) : t.time = s.time := by
  obtain ⟨-, r, m, o, rfl⟩ := h; rfl
theorem State.RaiseFrame.star {s t : State} (h : s.RaiseFrame t) : t.star = s.star := by
  obtain ⟨-, r, m, o, rfl⟩ := h; rfl
theorem State.RaiseFrame.twin {s t : State} (h : s.RaiseFrame t) : t.twin = s.twin := by
  obtain ⟨-, r, m, o, rfl⟩ := h; rfl
theorem State.RaiseFrame.memErr {s t : State} (h : s.RaiseFrame t) : t.memErr = s.memErr := by
  obtain ⟨-, r, m, o, rfl⟩ := h; rfl
theorem State.RaiseFrame.memory {s t : State} (h : s.RaiseFrame t) : t.memory = s.memory := by
  obtain ⟨-, r, m, o, rfl⟩ := h; rfl
theorem State.RaiseFrame.cores {s t : State} (h : s.RaiseFrame t) : t.cores = s.cores := by
  obtain ⟨-, r, m, o, rfl⟩ := h; rfl
theorem State.RaiseFrame.boot {s t : State} (h : s.RaiseFrame t) : t.boot = s.boot := by
  obtain ⟨-, r, m, o, rfl⟩ := h; rfl
theorem State.RaiseFrame.pending {s t : State} (h : s.RaiseFrame t) : t.pending = s.pending := by
  obtain ⟨-, r, m, o, rfl⟩ := h; rfl
@[simp] theorem State.raise_ticks (n : Nat) : (s.raise n).ticks = s.ticks := (State.raiseFrame_raise s n).ticks
@[simp] theorem State.raise_freeCtr (n : Nat) : (s.raise n).freeCtr = s.freeCtr := (State.raiseFrame_raise s n).freeCtr
@[simp] theorem State.raise_points (n : Nat) : (s.raise n).points = s.points := (State.raiseFrame_raise s n).points
@[simp] theorem State.raise_mem (n : Nat) : (s.raise n).mem = s.mem := (State.raiseFrame_raise s n).mem
@[simp] theorem State.raise_readShadow (n : Nat) : (s.raise n).readShadow = s.readShadow := (State.raiseFrame_raise s n).readShadow
@[simp] theorem State.raise_writeHeld (n : Nat) : (s.raise n).writeHeld = s.writeHeld := (State.raiseFrame_raise s n).writeHeld
@[simp] theorem State.raise_bus (n : Nat) : (s.raise n).bus = s.bus := (State.raiseFrame_raise s n).bus
@[simp] theorem State.raise_alive (n : Nat) : (s.raise n).alive = s.alive := (State.raiseFrame_raise s n).alive
@[simp] theorem State.raise_mode (n : Nat) : (s.raise n).mode = s.mode := (State.raiseFrame_raise s n).mode
@[simp] theorem State.raise_logs (n : Nat) : (s.raise n).logs = s.logs := (State.raiseFrame_raise s n).logs
@[simp] theorem State.raise_cell (n : Nat) : (s.raise n).cell = s.cell := (State.raiseFrame_raise s n).cell
@[simp] theorem State.raise_flash (n : Nat) : (s.raise n).flash = s.flash := (State.raiseFrame_raise s n).flash
@[simp] theorem State.raise_yard (n : Nat) : (s.raise n).yard = s.yard := (State.raiseFrame_raise s n).yard
@[simp] theorem State.raise_jce (n : Nat) : (s.raise n).jce = s.jce := (State.raiseFrame_raise s n).jce
@[simp] theorem State.raise_clusterLast (n : Nat) : (s.raise n).clusterLast = s.clusterLast := (State.raiseFrame_raise s n).clusterLast
@[simp] theorem State.raise_pwm (n : Nat) : (s.raise n).pwm = s.pwm := (State.raiseFrame_raise s n).pwm
@[simp] theorem State.raise_pwmClock (n : Nat) : (s.raise n).pwmClock = s.pwmClock := (State.raiseFrame_raise s n).pwmClock
@[simp] theorem State.raise_fb (n : Nat) : (s.raise n).fb = s.fb := (State.raiseFrame_raise s n).fb
@[simp] theorem State.raise_adc (n : Nat) : (s.raise n).adc = s.adc := (State.raiseFrame_raise s n).adc
@[simp] theorem State.raise_stp (n : Nat) : (s.raise n).stp = s.stp := (State.raiseFrame_raise s n).stp
@[simp] theorem State.raise_axisIn (n : Nat) : (s.raise n).axisIn = s.axisIn := (State.raiseFrame_raise s n).axisIn
@[simp] theorem State.raise_axes (n : Nat) : (s.raise n).axes = s.axes := (State.raiseFrame_raise s n).axes
@[simp] theorem State.raise_kernelOverruns (n : Nat) : (s.raise n).kernelOverruns = s.kernelOverruns := (State.raiseFrame_raise s n).kernelOverruns
@[simp] theorem State.raise_tiles (n : Nat) : (s.raise n).tiles = s.tiles := (State.raiseFrame_raise s n).tiles
@[simp] theorem State.raise_insts (n : Nat) : (s.raise n).insts = s.insts := (State.raiseFrame_raise s n).insts
@[simp] theorem State.raise_published (n : Nat) : (s.raise n).published = s.published := (State.raiseFrame_raise s n).published
@[simp] theorem State.raise_dbg (n : Nat) : (s.raise n).dbg = s.dbg := (State.raiseFrame_raise s n).dbg
@[simp] theorem State.raise_power (n : Nat) : (s.raise n).power = s.power := (State.raiseFrame_raise s n).power
@[simp] theorem State.raise_cal (n : Nat) : (s.raise n).cal = s.cal := (State.raiseFrame_raise s n).cal
@[simp] theorem State.raise_ports (n : Nat) : (s.raise n).ports = s.ports := (State.raiseFrame_raise s n).ports
@[simp] theorem State.raise_refLost (n : Nat) : (s.raise n).refLost = s.refLost := (State.raiseFrame_raise s n).refLost
@[simp] theorem State.raise_time (n : Nat) : (s.raise n).time = s.time := (State.raiseFrame_raise s n).time
@[simp] theorem State.raise_star (n : Nat) : (s.raise n).star = s.star := (State.raiseFrame_raise s n).star
@[simp] theorem State.raise_twin (n : Nat) : (s.raise n).twin = s.twin := (State.raiseFrame_raise s n).twin
@[simp] theorem State.raise_memErr (n : Nat) : (s.raise n).memErr = s.memErr := (State.raiseFrame_raise s n).memErr
@[simp] theorem State.raise_memory (n : Nat) : (s.raise n).memory = s.memory := (State.raiseFrame_raise s n).memory
@[simp] theorem State.raise_cores (n : Nat) : (s.raise n).cores = s.cores := (State.raiseFrame_raise s n).cores
@[simp] theorem State.raise_boot (n : Nat) : (s.raise n).boot = s.boot := (State.raiseFrame_raise s n).boot
@[simp] theorem State.raise_pending (n : Nat) : (s.raise n).pending = s.pending := (State.raiseFrame_raise s n).pending
@[simp] theorem State.raiseIf_ticks (b : Bool) (n : Nat) : (s.raiseIf b n).ticks = s.ticks :=
  (State.raiseFrame_raiseIf s b n).ticks
@[simp] theorem State.raiseIf_freeCtr (b : Bool) (n : Nat) : (s.raiseIf b n).freeCtr = s.freeCtr :=
  (State.raiseFrame_raiseIf s b n).freeCtr
@[simp] theorem State.raiseIf_points (b : Bool) (n : Nat) : (s.raiseIf b n).points = s.points :=
  (State.raiseFrame_raiseIf s b n).points
@[simp] theorem State.raiseIf_mem (b : Bool) (n : Nat) : (s.raiseIf b n).mem = s.mem :=
  (State.raiseFrame_raiseIf s b n).mem
@[simp] theorem State.raiseIf_readShadow (b : Bool) (n : Nat) : (s.raiseIf b n).readShadow = s.readShadow :=
  (State.raiseFrame_raiseIf s b n).readShadow
@[simp] theorem State.raiseIf_writeHeld (b : Bool) (n : Nat) : (s.raiseIf b n).writeHeld = s.writeHeld :=
  (State.raiseFrame_raiseIf s b n).writeHeld
@[simp] theorem State.raiseIf_bus (b : Bool) (n : Nat) : (s.raiseIf b n).bus = s.bus :=
  (State.raiseFrame_raiseIf s b n).bus
@[simp] theorem State.raiseIf_alive (b : Bool) (n : Nat) : (s.raiseIf b n).alive = s.alive :=
  (State.raiseFrame_raiseIf s b n).alive
@[simp] theorem State.raiseIf_mode (b : Bool) (n : Nat) : (s.raiseIf b n).mode = s.mode :=
  (State.raiseFrame_raiseIf s b n).mode
@[simp] theorem State.raiseIf_logs (b : Bool) (n : Nat) : (s.raiseIf b n).logs = s.logs :=
  (State.raiseFrame_raiseIf s b n).logs
@[simp] theorem State.raiseIf_cell (b : Bool) (n : Nat) : (s.raiseIf b n).cell = s.cell :=
  (State.raiseFrame_raiseIf s b n).cell
@[simp] theorem State.raiseIf_flash (b : Bool) (n : Nat) : (s.raiseIf b n).flash = s.flash :=
  (State.raiseFrame_raiseIf s b n).flash
@[simp] theorem State.raiseIf_yard (b : Bool) (n : Nat) : (s.raiseIf b n).yard = s.yard :=
  (State.raiseFrame_raiseIf s b n).yard
@[simp] theorem State.raiseIf_jce (b : Bool) (n : Nat) : (s.raiseIf b n).jce = s.jce :=
  (State.raiseFrame_raiseIf s b n).jce
@[simp] theorem State.raiseIf_clusterLast (b : Bool) (n : Nat) : (s.raiseIf b n).clusterLast = s.clusterLast :=
  (State.raiseFrame_raiseIf s b n).clusterLast
@[simp] theorem State.raiseIf_pwm (b : Bool) (n : Nat) : (s.raiseIf b n).pwm = s.pwm :=
  (State.raiseFrame_raiseIf s b n).pwm
@[simp] theorem State.raiseIf_pwmClock (b : Bool) (n : Nat) : (s.raiseIf b n).pwmClock = s.pwmClock :=
  (State.raiseFrame_raiseIf s b n).pwmClock
@[simp] theorem State.raiseIf_fb (b : Bool) (n : Nat) : (s.raiseIf b n).fb = s.fb :=
  (State.raiseFrame_raiseIf s b n).fb
@[simp] theorem State.raiseIf_adc (b : Bool) (n : Nat) : (s.raiseIf b n).adc = s.adc :=
  (State.raiseFrame_raiseIf s b n).adc
@[simp] theorem State.raiseIf_stp (b : Bool) (n : Nat) : (s.raiseIf b n).stp = s.stp :=
  (State.raiseFrame_raiseIf s b n).stp
@[simp] theorem State.raiseIf_axisIn (b : Bool) (n : Nat) : (s.raiseIf b n).axisIn = s.axisIn :=
  (State.raiseFrame_raiseIf s b n).axisIn
@[simp] theorem State.raiseIf_axes (b : Bool) (n : Nat) : (s.raiseIf b n).axes = s.axes :=
  (State.raiseFrame_raiseIf s b n).axes
@[simp] theorem State.raiseIf_kernelOverruns (b : Bool) (n : Nat) : (s.raiseIf b n).kernelOverruns = s.kernelOverruns :=
  (State.raiseFrame_raiseIf s b n).kernelOverruns
@[simp] theorem State.raiseIf_tiles (b : Bool) (n : Nat) : (s.raiseIf b n).tiles = s.tiles :=
  (State.raiseFrame_raiseIf s b n).tiles
@[simp] theorem State.raiseIf_insts (b : Bool) (n : Nat) : (s.raiseIf b n).insts = s.insts :=
  (State.raiseFrame_raiseIf s b n).insts
@[simp] theorem State.raiseIf_published (b : Bool) (n : Nat) : (s.raiseIf b n).published = s.published :=
  (State.raiseFrame_raiseIf s b n).published
@[simp] theorem State.raiseIf_dbg (b : Bool) (n : Nat) : (s.raiseIf b n).dbg = s.dbg :=
  (State.raiseFrame_raiseIf s b n).dbg
@[simp] theorem State.raiseIf_power (b : Bool) (n : Nat) : (s.raiseIf b n).power = s.power :=
  (State.raiseFrame_raiseIf s b n).power
@[simp] theorem State.raiseIf_cal (b : Bool) (n : Nat) : (s.raiseIf b n).cal = s.cal :=
  (State.raiseFrame_raiseIf s b n).cal
@[simp] theorem State.raiseIf_ports (b : Bool) (n : Nat) : (s.raiseIf b n).ports = s.ports :=
  (State.raiseFrame_raiseIf s b n).ports
@[simp] theorem State.raiseIf_refLost (b : Bool) (n : Nat) : (s.raiseIf b n).refLost = s.refLost :=
  (State.raiseFrame_raiseIf s b n).refLost
@[simp] theorem State.raiseIf_time (b : Bool) (n : Nat) : (s.raiseIf b n).time = s.time :=
  (State.raiseFrame_raiseIf s b n).time
@[simp] theorem State.raiseIf_star (b : Bool) (n : Nat) : (s.raiseIf b n).star = s.star :=
  (State.raiseFrame_raiseIf s b n).star
@[simp] theorem State.raiseIf_twin (b : Bool) (n : Nat) : (s.raiseIf b n).twin = s.twin :=
  (State.raiseFrame_raiseIf s b n).twin
@[simp] theorem State.raiseIf_memErr (b : Bool) (n : Nat) : (s.raiseIf b n).memErr = s.memErr :=
  (State.raiseFrame_raiseIf s b n).memErr
@[simp] theorem State.raiseIf_memory (b : Bool) (n : Nat) : (s.raiseIf b n).memory = s.memory :=
  (State.raiseFrame_raiseIf s b n).memory
@[simp] theorem State.raiseIf_cores (b : Bool) (n : Nat) : (s.raiseIf b n).cores = s.cores :=
  (State.raiseFrame_raiseIf s b n).cores
@[simp] theorem State.raiseIf_boot (b : Bool) (n : Nat) : (s.raiseIf b n).boot = s.boot :=
  (State.raiseFrame_raiseIf s b n).boot
@[simp] theorem State.raiseIf_pending (b : Bool) (n : Nat) : (s.raiseIf b n).pending = s.pending :=
  (State.raiseFrame_raiseIf s b n).pending

/-- A command that acts answers a next state: its effect with the queue kept (log entry 6). -/
theorem State.run_alive {s : State} (h : s.alive = true) (f : State → State) :
    s.run f = .next (s.beside f) := by rw [State.run, if_pos h]

theorem State.run_held {s : State} (h : s.alive = false) (f : State → State) : s.run f = .next s := by
  rw [State.run, h]; rfl

/-- A command that acts answers a next state and keeps the queue. -/
theorem State.run_next (f : State → State) : ∃ t, s.run f = .next t ∧ t.pending = s.pending := by
  rw [State.run]
  split
  · exact ⟨_, rfl, rfl⟩
  · exact ⟨_, rfl, rfl⟩

end Sys2Proof.Machine
end

