-- ==== Sys2Proof/Laws/Mbox.lean ====
section
/-!
SUPPORT. What running a mailbox command does, said once: a served command that answers stores its result, one that is
finished later leaves the mailbox BUSY (R72, R74).
-/
namespace Sys2Proof.Machine

/-- `beside` of an operation that keeps the queue is the operation. -/
theorem State.beside_eq {s : State} {f : State → State} (h : (f s).pending = s.pending) : s.beside f = f s := by
  simp only [State.beside, ← h]

theorem State.onHost_pending (s : State) (f : HostState → HostState) : (s.onHost f).pending = s.pending := rfl
theorem State.onMb_pending (s : State) (n : Nat) (f : Mailbox → Mailbox) : (s.onMb n f).pending = s.pending := rfl

/-- The mailbox that was changed. -/
theorem State.mb_onMb_same (s : State) (n : Nat) (f : Mailbox → Mailbox) : (s.onMb n f).mb n = f (s.mb n) := by
  simp [State.mb, State.onMb, State.onHost]

/-- Every other mailbox. -/
theorem State.mb_onMb_other (s : State) {n k : Nat} (h : n ≠ k) (f : Mailbox → Mailbox) : (s.onMb n f).mb k = s.mb k := by
  simp [State.mb, State.onMb, State.onHost, Tab.get_put_other _ _ h]

theorem State.get_onMb (s : State) (n : Nat) (f : Mailbox → Mailbox) (g : Field) (i : Nat) :
    (s.onMb n f).get g i = s.get g i := rfl

theorem State.mb_begins (s : State) (n : Nat) : (s.begins n).mb n = { s.mb n with begun := true } := s.mb_onMb_same n _

/-- The result of a command is stored in its BUSY mailbox. -/
theorem State.setResult_busy {u : State} {n : Nat} (hn : n < 32) (hb : u.mbState n = 2) (hr : (u.mb n).result = none)
    (status : Nat) (p : List Byte) : u.setResult n ⟨status, p⟩ = u.answered n status p := by
  rw [State.setResult, if_pos ⟨hn, hb, hr⟩]; rfl

/-- A served command runs on the state in which it has begun, with its whole payload. -/
theorem State.command_served {s : State} {n code : Nat} (h : s.Served n code) (f : State → Nat → List Byte → CmdOut) :
    s.command n code f =
      match f (s.begins n) n (s.cmdPayload n) with
      | (u, some r) => u.setResult n r
      | (u, none) => u := by
  obtain ⟨-, h2, h3, h4, h5, h6, h7, h8⟩ := h
  have hc : (s.begins n).commonCheck code (s.cmdPayload n) = Status.OK := h8
  rw [State.command, if_pos ⟨h2, h3, h4, h5, h6⟩]
  simp only [h7, Bool.false_eq_true, if_false]
  rw [State.applyCommand]
  simp only [State.begins] at hc ⊢
  rw [hc, if_neg (fun h => h rfl)]
  try rfl

/-- A served command that answers at once, its mailbox untouched, completes with its result. -/
theorem exec_answered {s u : State} {n code status : Nat} {p : List Byte} (hn : n < 32) (h : s.Served n code)
    {f : State → Nat → List Byte → CmdOut} (hf : f (s.begins n) n (s.cmdPayload n) = (u, some ⟨status, p⟩))
    (hm : u.mb n = (s.begins n).mb n) (hs : u.mbState n = s.mbState n) (hp : u.pending = s.pending) :
    s.run (fun s => s.command n code f) = .next (u.answered n status p) := by
  have hr : s.command n code f = u.answered n status p := by
    rw [State.command_served h, hf]
    refine State.setResult_busy hn (hs.trans h.2.1) ?_ status p
    rw [hm, State.mb_begins]; exact h.2.2.2.1
  rw [State.run_alive h.1, State.beside_eq (by rw [hr]; exact hp), hr]

/-- A served command that is finished later completes with the state it leaves. -/
theorem exec_later {s u : State} {n code : Nat} (h : s.Served n code) {f : State → Nat → List Byte → CmdOut}
    (hf : f (s.begins n) n (s.cmdPayload n) = (u, none)) (hp : u.pending = s.pending) :
    s.run (fun s => s.command n code f) = .next u := by
  have hr : s.command n code f = u := by rw [State.command_served h, hf]
  rw [State.run_alive h.1, State.beside_eq (by rw [hr]; exact hp), hr]

/-- A served command, whatever it does: the state it leaves, with its result where it has one, and the queue kept. -/
theorem exec_result {s u : State} {n code : Nat} (h : s.Served n code) {f : State → Nat → List Byte → CmdOut}
    {r : MbResult} (hf : f (s.begins n) n (s.cmdPayload n) = (u, some r)) :
    s.run (fun s => s.command n code f) = .next (s.beside fun _ => u.setResult n r) := by
  rw [State.run_alive h.1, State.beside, State.beside, State.command_served h, hf]

/-- A served command that is finished later, whatever it does. -/
theorem exec_unfinished {s u : State} {n code : Nat} (h : s.Served n code) {f : State → Nat → List Byte → CmdOut}
    (hf : f (s.begins n) n (s.cmdPayload n) = (u, none)) :
    s.run (fun s => s.command n code f) = .next (s.beside fun _ => u) := by
  rw [State.run_alive h.1, State.beside, State.beside, State.command_served h, hf]

end Sys2Proof.Machine
end

