-- ==== Sys2Proof/Laws/Memory.lean ====
section
/-!
SUPPORT. The operations that write memory, its damage and the points keep their canonical form, and reset has it.
-/
namespace Sys2Proof.Machine

theorem Memory.wf_iff (s : State) : Memory.wf s = true ↔ s.mem.wf 0 = true ∧ s.memErr.wf 0 = true ∧ s.points.wf 0 = true := by
  simp [Memory.wf, and_assoc]

theorem Memory.wf_reset : Memory.wf State.reset = true := by decide

theorem Memory.wf_healed {s : State} (a n : Nat) (h : Memory.wf s = true) : Memory.wf (s.healed a n) = true :=
  (Memory.wf_iff _).2 ⟨((Memory.wf_iff _).1 h).1, Tab.wf_keep _ ((Memory.wf_iff _).1 h).2.1, ((Memory.wf_iff _).1 h).2.2⟩

theorem Memory.wf_memPut {s : State} (a : Nat) (bs : List Byte) (h : Memory.wf s = true) : Memory.wf (s.memPut a bs) = true := by
  have := (Memory.wf_iff _).1 (Memory.wf_healed a bs.length h)
  exact (Memory.wf_iff _).2 ⟨Tab.wf_putAll a bs this.1, this.2⟩

theorem Memory.wf_putPoint {s : State} (p v : Nat) (h : Memory.wf s = true) : Memory.wf (s.putPoint p v) = true := by
  have := (Memory.wf_iff _).1 (Memory.wf_healed (pointAddr p) 8 h)
  exact (Memory.wf_iff _).2 ⟨this.1, this.2.1, Tab.wf_put p _ this.2.2⟩

theorem Memory.wf_inject {s : State} (k : Nat) (e : MemErr) (h : Memory.wf s = true) : Memory.wf (s.inject k e) = true := by
  obtain ⟨h1, h2, h3⟩ := (Memory.wf_iff _).1 h
  rw [State.inject]
  dsimp only
  split
  · exact (Memory.wf_iff _).2 ⟨Tab.wf_put _ _ h1, Tab.wf_put _ _ h2, h3⟩
  · exact (Memory.wf_iff _).2 ⟨h1, Tab.wf_put _ _ h2, h3⟩

end Sys2Proof.Machine
end

