-- ==== Sys2Proof/WellFormed.lean ====
section
/-!
DEFINITION. Well-formed commands. Operand types already bound what they can; these are the limits that the manual gives
operands which are numbers or byte strings. The meanings are total: they do not rely on them.
-/
namespace Sys2Proof

/-- The place exists (R612; the largest SRAM group has 2 MiB). -/
def MemPlace.wf : MemPlace → Bool
  | .dram a => decide (a < 2 ^ 33)
  | .csram off => decide (off < 0x4000000)
  | .group g off => decide (g ≤ 168 ∧ off < 0x200000)
  | .l1 c off => decide (c < 16 ∧ off < 0x20000)
  | .safety off => decide (off < 0x40000)

/-- A code word's damage: an offset within 64 bytes, one of the three kinds, a syndrome of 5 bits (R614, R633). -/
def MemErr.wf (e : MemErr) : Bool := decide (e.off < 64 ∧ 1 ≤ e.kind ∧ e.kind ≤ 3 ∧ e.syn < 32)

/-- A PTP message has the field widths of IEEE 1588: a domain below 128 (R577), one-byte priorities. -/
def PtpMsg.wf (m : PtpMsg) : Bool :=
  decide (m.domain ≤ 127 ∧ m.prio1 ≤ 255 ∧ m.clockClass ≤ 255 ∧ m.accuracy ≤ 255 ∧ m.variance ≤ 65535 ∧ m.prio2 ≤ 255)

/-- A message that applies at a cycle start: a command of 16 bits, a window write of a point's 64 bits (R96, R606). -/
def TwinMsg.wf : TwinMsg → Bool
  | .command _ code _ _ => decide (code < 65536)
  | .window _ p v => decide (p < 2 ^ 20 ∧ v < 2 ^ 64)
  | _ => false

/-- The command's operands lie within the limits that the manual gives them. -/
def Instr.wf : Instr → Bool
  | .powerOnReset => true
  | .warmReset => true
  | .brownout .. => true
  | .clockLoss => true
  | .pllUnlock .. => true
  | .pcieRefclkLoss => true
  | .railFault .. => true
  | .tempUpdate .. => true
  | .sagWarning .. => true
  | .sagClear => true
  | .sagHoldEnd => true
  | .sagRateStep => true
  | .dormantWake .. => true
  | .initEnd .. => true
  | .rangerWatchdog => true
  | .pcieLinkReset .. => true
  | .doorbell .. => true
  | .mailboxAbort .. => true
  | .mbDoneClear .. => true
  | .spiWrite .. => true
  | .spiRead .. => true
  | .spiStatus .. => true
  | .spiRing .. => true
  | .spiClear .. => true
  | .spiMalformed .. => true
  | .managementDatagram _ p => decide (p.payload.length ≤ 9000)
  | .commandStart => true
  | .commandComplete .. => true
  | .transferTimeout => true
  | .sessionExpired => true
  | .safeSessionExpired => true
  | .lockoutEnd => true
  | .windowRead .. => true
  | .windowWrite .. => true
  | .pointWrite .. => true
  | .pointHalfWriteLow .. => true
  | .pointHalfWriteHigh .. => true
  | .splitReadLow .. => true
  | .splitReadHigh .. => true
  | .rcRead .. => true
  | .registerWrite .. => true
  | .sysInfo .. => true
  | .sysSessionOpen .. => true
  | .sysSessionClose .. => true
  | .sysStatus .. => true
  | .sysReset .. => true
  | .sysMboxOwner .. => true
  | .sysPower .. => true
  | .sysEventRoute .. => true
  | .modeGet .. => true
  | .modeRequest .. => true
  | .modeHalt .. => true
  | .modeFaultAck .. => true
  | .cellLoad .. => true
  | .cellInfo .. => true
  | .cellActivate .. => true
  | .cellErase .. => true
  | .cellWindowGrant .. => true
  | .cellWindowRevoke .. => true
  | .cellPointRead .. => true
  | .axisStatus .. => true
  | .axisParamGet .. => true
  | .axisParamSet .. => true
  | .axisEnable .. => true
  | .axisMove .. => true
  | .axisJog .. => true
  | .axisStop .. => true
  | .axisHome .. => true
  | .axisFaultClear .. => true
  | .axisSource .. => true
  | .solvStatus .. => true
  | .solvInstances .. => true
  | .solvCellEnable .. => true
  | .solvParamGet .. => true
  | .solvParamSet .. => true
  | .netPortStatus .. => true
  | .netPortConfig .. => true
  | .netGeyserStatus .. => true
  | .netGeyserStart .. => true
  | .netGeyserStop .. => true
  | .netNodeStatus .. => true
  | .netBridgeGcl .. => true
  | .netMgmtEnable .. => true
  | .netMgmtKey .. => true
  | .timeGet .. => true
  | .timePtpConfig .. => true
  | .timeStepAccept .. => true
  | .timeTb7Set .. => true
  | .timeJumpLimit .. => true
  | .safeLogin .. => true
  | .safeLogout .. => true
  | .safePasswordSet .. => true
  | .safeStatus .. => true
  | .safeParamRead .. => true
  | .safeParamWrite .. => true
  | .safeParamCommit .. => true
  | .safeImportEckin .. => true
  | .safeSealMode .. => true
  | .safeResetAck .. => true
  | .safeChangelogRead .. => true
  | .safeAccept .. => true
  | .safeProofTest .. => true
  | .safeIslandReset .. => true
  | .logInfo .. => true
  | .logRead .. => true
  | .logClear .. => true
  | .fwInfo .. => true
  | .fwWrite .. => true
  | .fwActivate .. => true
  | .fwRollbackSet .. => true
  | .diagSelftest .. => true
  | .diagRegRead .. => true
  | .diagRegWrite .. => true
  | .diagAttest .. => true
  | .diagLoopback .. => true
  | .twinStatus .. => true
  | .twinConfig .. => true
  | .twinResync .. => true
  | .twinHandover .. => true
  | .memStatus .. => true
  | .memRegionSet .. => true
  | .memScrubRate .. => true
  | .memRemapList .. => true
  | .memRemapAdd .. => true
  | .memLanding .. => true
  | .cycleStart => true
  | .commonInstant => true
  | .frameStart => true
  | .wholeCellRunStart => true
  | .runStart .. => true
  | .timedStart .. => true
  | .runAbort .. => true
  | .coldNext .. => true
  | .sawGather .. => true
  | .sawFactor .. => true
  | .sawPanel .. => true
  | .sawUpdate .. => true
  | .sawScatter .. => true
  | .sawSend .. => true
  | .sawWait .. => true
  | .sawWaitComplete .. => true
  | .sawFsolve .. => true
  | .sawBsolve .. => true
  | .sawVec .. => true
  | .sawVdiv .. => true
  | .sawStep .. => true
  | .sawReduce .. => true
  | .sawBarrier .. => true
  | .sawBarrierComplete .. => true
  | .sawEnd .. => true
  | .schedFault .. => true
  | .wrapUpEnd .. => true
  | .pairExchange .. => true
  | .pairExchangeTimeout .. => true
  | .scheduleLoadDone .. => true
  | .dqPush .. => true
  | .dqBurst .. => true
  | .recordApply .. => true
  | .loopTick .. => true
  | .waitevReturn .. => true
  | .jceNop .. => true
  | .jceBr .. => true
  | .jceJmp .. => true
  | .jceCall .. => true
  | .jceRet .. => true
  | .jceLoop .. => true
  | .jceWaitev .. => true
  | .jceSigev .. => true
  | .jceTrap .. => true
  | .jceEbreak .. => true
  | .jceAdd .. => true
  | .jceSub .. => true
  | .jceAddi .. => true
  | .jceAnd .. => true
  | .jceOr .. => true
  | .jceXor .. => true
  | .jceShl .. => true
  | .jceShra .. => true
  | .jceShrl .. => true
  | .jceMin .. => true
  | .jceMax .. => true
  | .jceAbs .. => true
  | .jceNeg .. => true
  | .jceCmp .. => true
  | .jceCmpi .. => true
  | .jceMovis .. => true
  | .jceMovih .. => true
  | .jceClamp .. => true
  | .jceLd .. => true
  | .jceSt .. => true
  | .jceLd2 .. => true
  | .jceLdd .. => true
  | .jceStd .. => true
  | .jceSetar .. => true
  | .jceGetar .. => true
  | .jcePtrd .. => true
  | .jcePtrdComplete .. => true
  | .jcePtwr .. => true
  | .jceDqpush .. => true
  | .clusterPortTransaction .. => true
  | .jcePrd .. => true
  | .jcePwr .. => true
  | .jceMac1 .. => true
  | .jceMacq .. => true
  | .jceMacqr .. => true
  | .jceMacd .. => true
  | .jceClra .. => true
  | .jceWbacc .. => true
  | .jceWbq .. => true
  | .jceLdacc .. => true
  | .illegalInstruction .. => true
  | .engineStopped .. => true
  | .jceStart .. => true
  | .jceStop .. => true
  | .indDataWrite .. => true
  | .indDataRead .. => true
  | .jceDebugHalt .. => true
  | .fbCountEdge .. => true
  | .errWinExpiry .. => true
  | .standstillTimeout .. => true
  | .indexEvent .. => true
  | .sincosSample .. => true
  | .ssiFrame .. => true
  | .fbFaultClear .. => true
  | .posPreset .. => true
  | .fbModeWrite .. => true
  | .cntLimitWrite .. => true
  | .indexArm .. => true
  | .pwmSetWrite .. => true
  | .pwmPeriodStart .. => true
  | .pwmEdge .. => true
  | .deadTimeEnd .. => true
  | .minPulseEnd .. => true
  | .pwmForce .. => true
  | .tripActive .. => true
  | .tripClear .. => true
  | .pwmClockLoss .. => true
  | .clkLostClear .. => true
  | .psyncPulse .. => true
  | .adcTrigger .. => true
  | .adcInjectedTrigger .. => true
  | .adcPassEnd .. => true
  | .adcResult .. => true
  | .rdIdxWrite .. => true
  | .calStepZero .. => true
  | .calStepFull .. => true
  | .calStepEnd _ sum => decide (-(2 ^ 26) ≤ sum ∧ sum < 2 ^ 26)
  | .calPairPersist .. => true
  | .stpNone .. => true
  | .stpMove .. => true
  | .stpVelocity .. => true
  | .stpStop .. => true
  | .stpTrack .. => true
  | .stpAbort .. => true
  | .stpProfileUpdate .. => true
  | .stepIssue .. => true
  | .drvfltAccept .. => true
  | .stpEnable .. => true
  | .ustepAlign .. => true
  | .drvPark .. => true
  | .parkSettleEnd .. => true
  | .stpPosPreset .. => true
  | .axisInputEdge .. => true
  | .chatterClear .. => true
  | .calderaStart .. => true
  | .diagnosticFault .. => true
  | .watchdogTrip => true
  | .safetySample .. => true
  | .discrepancyLatch .. => true
  | .safetyCycleBoundary .. => true
  | .separationCycle => true
  | .standstillConfirm .. => true
  | .ss1TmaxExpiry => true
  | .xchkFail .. => true
  | .levelRaise .. => true
  | .testPulseStart .. => true
  | .testPulseCheck .. => true
  | .testWindowEnd .. => true
  | .outputTestPulse .. => true
  | .outputTestEnd .. => true
  | .outputRetest .. => true
  | .safetyFrame frame _ => decide (frame.length ≤ 2048)
  | .connectionTimeout .. => true
  | .sealAccept .. => true
  | .setApply => true
  | .refLoss .. => true
  | .refRestore .. => true
  | .clause73Timeout .. => true
  | .modeTryTimeout .. => true
  | .phySettled .. => true
  | .linkDown .. => true
  | .negotiationMessage _ _ payload => decide (payload.length ≤ 1500)
  | .offerTimer .. => true
  | .silentPartner .. => true
  | .twinLaneUp .. => true
  | .twinLaneDown .. => true
  | .downlinkAssembly .. => true
  | .uplinkFrame _ _ _ frame => decide (frame.length ≤ 2048)
  | .uplinkWindowClose .. => true
  | .coldstartFrame _ _ frame => decide (frame.length ≤ 2048)
  | .collisionWindowEnd => true
  | .listenTimeout => true
  | .tbCorrection _ d => decide (-(2 ^ 63) ≤ d ∧ d < 2 ^ 63)
  | .stepApply .. => true
  | .tbSnap .. => true
  | .ptpMessage _ msg => msg.wf
  | .ptpMessageTimer .. => true
  | .announceTimeout .. => true
  | .bridgeFrame _ _ frame => decide (frame.length ≤ 9018)
  | .frameLaunch .. => true
  | .gateIntervalEnd .. => true
  | .gclSwitch .. => true
  | .txrTailWrite .. => true
  | .captureEdge .. => true
  | .triggerPulse .. => true
  | .tokenSample .. => true
  | .arbitrationCheck .. => true
  | .tokenRelease => true
  | .heartbeatPulse .. => true
  | .heartbeatFail => true
  | .cycleMessage _ mode role _ _ digest => decide (mode ≤ 7 ∧ role ≤ 2 ∧ digest.length = 32)
  | .acceptMessage _ _ crc => decide (crc < 2 ^ 32)
  | .acceptTimeout .. => true
  | .inputMessage _ _ payload => decide (payload.length ≤ 2048)
  | .commandMessage m => m.wf
  | .solveMessage .. => true
  | .handoverMessage .. => true
  | .resyncMessage _ dirty _ => decide (dirty < 2 ^ 32)
  | .codeWordRead _ p n _ errs => p.wf && decide (0 < n.val) && errs.all MemErr.wf
  | .scrubBlock errs => errs.all MemErr.wf
  | .priorityScrub errs => errs.all MemErr.wf
  | .remapAuto p => p.wf
  | .remapValidWrite _ dram word block _ => decide (word < (if dram then 256 else 1352) ∧ block < 2 ^ 27)
  | .remapCopyEnd => true
  | .errPop .. => true
  | .errorDrain => true
  | .flashCorrection .. => true
  | .eventRaise .. => true
  | .evRaise .. => true
  | .acPendClear .. => true
  | .coreWatchdogExpiry .. => true
  | .wdtKick .. => true
  | .coreDebugHalt .. => true
  | .rangerDebugHalt .. => true
  | .yardPost .. => true
  | .yardTake .. => true
  | .yardDone .. => true
  | .tmrArm .. => true
  | .tmrCancel .. => true
  | .timerExpiry => true
  | .flowCfgWrite .. => true
  | .landingRefill => true
  | .heldItemEntry => true
  | .otpEnrol .. => true
  | .otpRevoke .. => true
  | .extest => true
  | .idcode => true
  | .samplePreload => true
  | .clampInstruction => true
  | .highz => true
  | .dtmcs => true
  | .dmi => true
  | .jceDebugPort => true
  | .bypass => true
  | .debugAttach .. => true
  | .debugResume .. => true
  | .tapReset => true
  | .pcieLinkUp .. => true
  | .resetRelease .. => true
  | .pwmClockReturn => true
  | .tripInactive .. => true
  | .drvfltRelease .. => true
  | .debugRelease .. => true
  | .calderaDebugHalt => true
  | .machineTimer .. => true
  | .loadWindowEnd => true
  | .remapFlashWrite => true
  | .localScrub _ block errs => decide (64 * block < 0x200000) && errs.all MemErr.wf

end Sys2Proof
end

