-- ==== Sys2Proof/Tests/Slice0.lean ====
section
/-!
SUPPORT. Tests: what the well-formedness checks refuse, words of the manual's tables, one step each, and for each statement
with hypotheses a state and operands that meet them.
-/
namespace Sys2Proof.Machine.Tests

set_option Elab.async false

open Sys2Proof Sys2Proof.Machine

/-- The device in IDLE after INIT. -/
def idle : State := { State.reset with mode := { ModeState.reset with mode := .idle } }

/-- A request with a command code and a payload lies in mailbox `n`, which is BUSY with it. -/
def serve (s : State) (n code : Nat) (p : List Byte) : State :=
  (s.set Reg.MB_STATE_STATE n 2).onMb n fun m =>
    { m with bytes := m.bytes.putAll 0 0 (leBytes 2 0x4F44 ++ leBytes 1 1 ++ leBytes 1 0 ++ leBytes 2 code ++ leBytes 2 7
        ++ leBytes 4 p.length ++ zeros 20 ++ p) }

/-- A payload of bytes. -/
def bs (l : List Nat) : List Byte := l.map fun n => BitVec.ofNat 8 n

/-- IDLE with an image that binds some axes. -/
def bound0 : State := { idle with cell := some { (default : CellContent) with axes := [0, 192, 224, 255] } }

/-- IDLE with node 255 in slot 0. -/
def node255 : State := (idle.set Reg.NODE_CFG_NODE_ID 0 255).setFlag Reg.NODE_CFG_USED 0 true

/-- Mailbox 4 of `s` is served with a command and a payload, and `q` holds of the state in which it has begun and of the
payload. -/
def meets (s : State) (code : Nat) (p : List Nat) (q : State → List Byte → Bool) : Bool :=
  let t := serve s 4 code (bs p)
  decide (t.Served 4 code) && q (t.begins 4) (t.cmdPayload 4)

/-- IDLE with a booted firmware of security version 64. -/
def booted64 : State :=
  { idle with flash := { FlashState.reset with fwSlots := ⟨[(0, { FwSlot.delivered with secVersion := 64 })]⟩ } }

/-- The device in a mode. -/
def inMode (m : Mode) : State := { State.reset with mode := { ModeState.reset with mode := m } }

/-- IDLE with a VALID image in slot 1 that refers to the committed safety set. -/
def image1 : State :=
  { idle with flash := { FlashState.reset with
      slots := ⟨[(1, { state := .valid, failed := 0, image := some default })]⟩, safeSet := some default } }

/-- IDLE with a password whose salt is empty. -/
def withPassword (digest : List Byte) : State := { idle with flash := { FlashState.reset with password := some ([], digest) } }

/-- A set without records is staged and, with the same CRC field, committed. -/
def staged0 (s : State) : State :=
  { s with host := { s.host with staged := some ⟨1, 0, [], 0⟩ }, flash := { s.flash with safeSet := some ⟨1, 0, [], 0⟩ } }

/-- IDLE with a seal that reads unbroken. -/
def sealed0 : State :=
  idle.onCal fun k => { k with seals := ⟨[(0, { CalSeal.reset with level := some true }), (1, { CalSeal.reset with level := some false })]⟩ }

/-- The bytes of a set of one record, with its CRC. -/
def setBytes1 : List Byte :=
  SafetySet.bytes ⟨1, 0, [⟨0x080D, 0, 1000⟩], SafetySet.computeCrc ⟨1, 0, [⟨0x080D, 0, 1000⟩], 0⟩⟩

/-- JOG with the engines of axes 0 and 192 running. -/
def running0 : State :=
  { (bound0.set Reg.JCE_STATE_STATE (axisEngine 0) 1).set Reg.JCE_STATE_STATE (axisEngine 192) 1 with
    mode := { ModeState.reset with mode := .jog } }

/-- Axis 192 is enabled and homed, and has a homing set with every switch. -/
def enabled192 : State :=
  { (running0.onAx 192 fun a => { a with enabled := true, homed := true }).set Reg.FB_CFG_MODE 0 1 with
    cell := some { (default : CellContent) with axes := [192], axisIo := [⟨192, true, true, true, true, true, true, 1, 1, 1, 0, 100, true⟩] } }

/-- IDLE with the default instance of eight tiles and a whole-cell problem. -/
def cell8 : State :=
  { (idle.set Reg.INST_CFG_SIZE 0 8).setFlag Reg.INST_CFG_NO_PROBLEM 0 false with cell := some { (default : CellContent) with problems := [{ (default : ProblemDef) with number := 0, tiles := 8 }] } }

/-- A unit of a configured pair in IDLE with its link up, in a role, without or with synchronisation (2). -/
def pair (role sync : Nat) : State :=
  { (((idle.setFlag Reg.TWIN_CFG_PAIR_EN 0 true).setFlag Reg.TWIN_STATE_LINK_UP 0 true).set Reg.TWIN_STATE_ROLE 0 role).set
      Reg.TWIN_STATE_SYNC 0 sync with
    twin := { TwinState.reset with partner := some { mode := 2, role := 1, token := true, sync := false } } }

/-- The ACTIVE unit of a synchronised pair. -/
def active : State := (pair 1 2).setFlag Reg.TWIN_STATE_TOKEN 0 true

/-- IDLE with a verified image of the application cores in slot 1. -/
def cores1 : State :=
  { idle with flash := { FlashState.reset with coreSlots := ⟨[(1, { FwSlot.empty with state := 2 })]⟩ } }

/-- Instance 1 is bound to a small problem of one tile, tile 0, with a valid schedule of the words `ws`. -/
def sawWith (tiles : Nat) (ws : List (BitVec 128)) : State :=
  let s := { idle with cell := some { (default : CellContent) with problems := [{ (default : ProblemDef) with number := 1, tiles := 1 }] } }
  let s := (((s.set Reg.INST_CFG_TILES 0 0).set Reg.INST_CFG_TILES 1 tiles).set Reg.INST_CFG_PROBLEM 1 1).setFlag Reg.INST_CFG_NO_PROBLEM 1 false
  ((s.setFlag Reg.TILE_STATUS_SCHED_VALID 0 true).setFlag Reg.TILE_STATUS_SCHED_VALID 1 true).onTile 0 fun x => { x with sched := ws }

/-- That instance, nothing running. -/
def saw1 : State := sawWith 1 []

/-- That instance in a run, at the word `w`. -/
def sawRun (w : BitVec 128) : State := (sawWith 1 [w]).startRun 1 0 1000

/-- The same over two tiles. -/
def sawRun2 (w : BitVec 128) : State := (sawWith 3 [w]).startRun 1 0 1000

/-- IDLE with engine 5 running at the word `w`. -/
def jceAt (w : Nat) : State :=
  (idle.set Reg.JCE_STATE_STATE 5 1).onEng 5 fun e => { e with imem := e.imem.put emptyInstr 0 (BitVec.ofNat 32 w) }



/-- Queries are served in IDLE. -/
theorem witness_QueriesAnswer : ([0x0101, 0x0104, 0x0201, 0x0302, 0x0603, 0x0804, 0x0A01, 0x0C01, 0x0D01].all fun code =>
    meets idle code [] fun _ _ => true) = true ∧ meets idle 0x0805 [] (fun _ _ => true) = true ∧
    meets idle 0x0B04 (List.replicate 32 1) (fun _ _ => true) = true := by decide
/-- Operands at the ends of their ranges: base 7, port 63, 508 points, 126 entries, instance 7. -/
theorem witness_QueriesAnswer_2 :
    meets bound0 0x0401 [0] (fun u p => u.bound (uAt p 0 1)) = true ∧
    meets bound0 0x0402 [255, 1, 0] (fun u p => u.bound (uAt p 0 1) && (paramDef (uAt p 1 2)).isSome) = true ∧
    meets idle 0x0501 [7] (fun _ p => uAt p 0 1 == 7) = true ∧
    meets idle 0x0504 [0, 13, 0] (fun _ p => uAt p 1 2 == 13) = true ∧
    meets idle 0x0601 [63] (fun _ p => uAt p 0 1 == 63) = true ∧
    meets node255 0x0606 [255, 0] (fun u p => u.slotOf (uAt p 0 2) == some 0) = true ∧
    meets idle 0x0701 [7] (fun _ p => uAt p 0 1 == 7) = true ∧
    meets idle 0x0307 [0, 0, 0, 0, 0xFC, 1] (fun _ p => uAt p 4 2 == 508) = true ∧
    meets idle 0x0901 [3] (fun _ p => uAt p 0 1 == 3) = true ∧
    meets idle 0x0902 [0, 0, 0, 0, 0, 0, 0, 0, 126, 0]
      (fun u p => uAt p 8 2 == 126 && decide ((u.logRing (uAt p 0 1)).oldest ≤ uAt p 4 4)) = true ∧
    meets idle 0x080B [0, 0, 0, 0, 42, 0] (fun _ p => uAt p 4 2 == 42) = true ∧
    meets idle 0x0D04 [1, 7] (fun _ p => remapIndexOk (uAt p 0 1) (uAt p 1 1)) = true := by decide


/-- Operands at the ends of their ranges: mailbox 31, timeout 3600 s, the last point, grant 15, 1,000,000 ns, 1024 MiB. -/
theorem witness_SettingsTakeEffect :
    meets idle 0x0106 [31, 3] (fun u p => uAt p 0 1 == 31 && uAt p 1 1 == 3 && u.mbState (uAt p 0 1) == 0) = true ∧
    meets idle 0x0102 [0x10, 0x0E] (fun u p => uAt p 0 2 == 3600 && u.host.sessions.isEmpty) = true ∧
    meets idle 0x0103 [] (fun _ _ => true) = true ∧
    meets idle 0x0304 [1] (fun u p => uAt p 0 1 == 1 && u.flash.activeSlot == none && (u.slotAt 1).state != .loading) = true ∧
    meets idle 0x0305 [0xFF, 0xFF, 0x0F, 0, 0xFF, 0xFF, 0x0F, 0, 1]
      (fun u p => uAt p 0 4 == 0xFFFFF && uAt p 4 4 == 0xFFFFF && uAt p 8 1 == 1 && u.freeGrant == some 0) = true ∧
    meets idle 0x0306 [15] (fun u p => uAt p 0 1 == 15 && u.lastWindow == none) = true ∧
    meets { active with twin := { active.twin with waiting := [.window 7 0 0] } } 0x0306 [15] (fun u p => uAt p 0 1 == 15 && u.lastWindow == some 7) = true ∧
    meets idle 0x0505 [7, 1, 0, 1, 0, 0, 0] (fun u p => uAt p 0 1 == 7 && u.runParamOk (uAt p 0 1) (uAt p 1 2) (uAt p 3 4)) = true ∧
    meets idle 0x0608 (1 :: List.replicate 15 0) (fun _ p => uAt p 0 1 == 1) = true ∧
    meets idle 0x0609 (1 :: List.replicate 32 7) (fun _ p => uAt p 0 1 == 1) = true ∧
    meets (idle.set Reg.PORT_STATUS_PERSONALITY 63 1) 0x0607
      [63, 1, 0, 0, 0, 0, 0, 0, 0, 0, 0, 0, 100, 0, 0, 0, 100, 0, 0, 0, 255, 0, 0, 0] (fun u p => uAt p 0 1 == 63 &&
        p.length == 16 + 8 * uAt p 1 1 && u.get Reg.PORT_STATUS_PERSONALITY 63 == 1 &&
        GateList.cycle ⟨uAt p 4 8, gateEntries p (uAt p 1 1)⟩ == 100) = true ∧
    meets idle 0x0705 [1, 0x40, 0x42, 0x0F, 0] (fun _ p => steps (uAt p 0 1) && uAt p 1 4 == 1000000) = true ∧
    meets idle 0x0903 [3] (fun _ p => uAt p 0 1 == 3) = true ∧
    meets booted64 0x0A04 [64] (fun u p => uAt p 0 1 == 64 && decide (uAt p 0 1 ≤ u.bootedFw.1)) = true ∧
    meets idle 0x0D03 [0, 0, 0x10, 0] (fun _ p => uAt p 0 4 == 1048576) = true ∧
    meets idle 0x0D06 [0, 4, 0, 0] (fun _ p => uAt p 0 4 == 1024) = true := by decide


/-- From IDLE to SERVICE; IDLE in IDLE; HALT in JOG; an acknowledgement in FAULT; activation of slot 1. -/
theorem witness_ModeCommands :
    meets idle 0x0202 [7] (fun u p => Mode.ofCode (uAt p 0 1) == some .service && u.requestCheck .service == Status.OK) = true ∧
    meets idle 0x0202 [2] (fun u p => Mode.ofCode (uAt p 0 1) == some u.mode.mode) = true ∧
    meets (inMode .jog) 0x0203 [] (fun u _ => u.mode.mode == .jog) = true ∧
    meets (inMode .halting) 0x0203 [] (fun u _ => u.mode.mode == .halting) = true ∧
    meets (inMode .fault) 0x0204 [] (fun u _ => u.mode.causes.any u.causePresent == false) = true ∧
    meets image1 0x0303 [1] (fun u p => uAt p 0 1 == 1 && (u.slotAt 1).state == .valid && u.pairOn == false &&
      match (u.slotAt 1).image, u.flash.safeSet with
      | some i, some c => imageFits i c
      | _, _ => false) = true := by decide


/-- Each kind of reset and each power request; routes at event 255 with vector 63. -/
theorem witness_ResetAndPowerCommands :
    meets idle 0x0105 [0, 0] (fun _ p => uAt p 0 1 == 0) = true ∧
    meets idle 0x0105 [1, 1] (fun _ p => uAt p 0 1 == 1 && uAt p 1 1 == 1) = true ∧
    meets idle 0x0105 [1, 6] (fun _ p => uAt p 0 1 == 1 && uAt p 1 1 == 6) = true ∧
    meets idle 0x0107 [1, 0, 0] (fun u p => uAt p 0 1 == 1 && !u.pairSync && !u.parked) = true ∧
    meets (idle.set Reg.PWR_STATE_STATE 0 2) 0x0107 [0, 0, 0] (fun u p => uAt p 0 1 == 0 && u.parked) = true ∧
    meets idle 0x0107 [2, 63, 1] (fun u p => uAt p 0 1 == 2 && uAt p 1 1 == 63 && u.owner 8 63 == none) = true ∧
    meets idle 0x0108 [239, 0, 63, 1] (fun _ p => uAt p 1 1 == 0 && uAt p 2 1 == 63 && uAt p 3 1 == 1) = true := by decide


/-- The SHA3-256 digest of "Abcdefg1", computed outside the model. -/
def digest1 : List Byte := bs [67, 43, 186, 31, 135, 240, 179, 41, 17, 122, 203, 247, 219, 224, 130, 209, 75, 10, 60, 9, 26, 160, 106, 168, 255, 42, 75, 0, 141, 83, 240, 170]

theorem test_sha3 : sha3 (bs [65, 98, 99, 100, 101, 102, 103, 49]) = digest1 := by decide +kernel

/-- The password "Abcdefg1" where none is set, where it is set, and where another one is; a password of 64 characters. -/
theorem witness_SafetySessionCommands :
    meets idle 0x0801 [8, 65, 98, 99, 100, 101, 102, 103, 49] (fun u p => lengthFits p 0 && uAt p 0 1 == 8 && u.host.safe == none &&
      u.flash.password == none && decide (u.host.lockedTill ≤ u.ticks)) = true ∧
    meets (withPassword digest1) 0x0801 [8, 65, 98, 99, 100, 101, 102, 103, 49] (fun u p => lengthFits p 0 && uAt p 0 1 == 8 &&
      u.host.safe == none && decide (u.host.lockedTill ≤ u.ticks) && !u.recovery &&
      p.drop 1 == bs [65, 98, 99, 100, 101, 102, 103, 49]) = true ∧
    meets (withPassword []) 0x0801 [8, 65, 98, 99, 100, 101, 102, 103, 49] (fun u p => lengthFits p 0 && uAt p 0 1 == 8 &&
      u.host.safe == none && !u.recovery && p.drop 1 == bs [65, 98, 99, 100, 101, 102, 103, 49]) = true ∧ digest1 ≠ [] ∧
    meets idle 0x0802 [] (fun _ p => p == []) = true ∧
    meets idle 0x0803 (64 :: 65 :: 98 :: List.replicate 62 49) (fun u p => lengthFits p 0 && uAt p 0 1 == 64 &&
      !u.weak (p.drop 1) && !u.flash.sealMode) = true := by decide +kernel


/-- A staged set without records; mask 0x1FF, pair 15, a name of one letter. -/
theorem witness_SafetySetCommands :
    meets idle 0x0806 (setBytes1.map BitVec.toNat) (fun u p => !u.host.restricted && (SafetySet.parse p).any fun c =>
      c.computeCrc == c.crc) = true ∧
    meets (staged0 (idle)) 0x0807 [0, 0, 0, 0] (fun u p => u.host.staged.any fun c => c.crc == uAt p 0 4 && c.invalid == none &&
      !u.flash.sealMode && p.length == 4) = true ∧
    meets idle 0x0808 [] (fun _ _ => true) = true ∧
    meets sealed0 0x0809 [1] (fun u p => u.sealState 0 == 0 && uAt p 0 1 == 1 && p.length == 1) = true ∧
    meets idle 0x080A [0, 15] (fun _ p => uAt p 0 1 == 0 && uAt p 1 1 == 15 && p.length == 2) = true ∧
    meets idle 0x080A [1, 0] (fun _ p => uAt p 0 1 == 1 && p.length == 2) = true ∧
    meets idle 0x080A [2, 15] (fun _ p => uAt p 0 1 == 2 && p.length == 2) = true ∧
    meets (staged0 idle) 0x080C [0, 0, 0, 0, 1, 65] (fun u p => lengthFits p 4 && p.drop 5 == bs [65] && utf8 (p.drop 5) &&
      u.flash.safeSet.map SafetySet.crc == some (uAt p 0 4)) = true ∧
    meets idle 0x080D [0xFF, 1, 0, 0] (fun _ p => uAt p 0 4 == 0x1FF && p.length == 4) = true ∧
    meets idle 0x080E [] (fun _ p => p == []) = true := by decide +kernel


/-- Axis 0 stopped and running, axis 192 enabled and homed with wide limits, axis 224 with a home switch. -/
theorem witness_AxisCommands :
    meets (bound0.loadParams 0) 0x0403 ([0, 0xA0, 0, 255] ++ List.replicate 7 0) (fun u p => u.bound 0 &&
      (u.commitStage 0).paramCheck 0 (uAt p 1 2) (uAt p 3 8) == Status.OK && !u.jceRuns (axisEngine 0)) = true ∧
    meets (running0.loadParams 0) 0x0403 ([0, 0xA0, 0, 255] ++ List.replicate 7 0) (fun u p => u.bound 0 &&
      (u.commitStage (axisEngine 0)).paramCheck 0 (uAt p 1 2) (uAt p 3 8) == Status.OK && u.jceRuns (axisEngine 0)) = true ∧
    meets running0 0x0404 [192, 1] (fun u _ => u.bound 192 && !u.axisFaulted 192 && u.nodeReady 192 && !(u.ax 192).enabled) = true ∧
    meets running0 0x0404 [192, 0] (fun u _ => u.bound 192 && !(u.ax 192).enabled) = true ∧
    meets enabled192 0x0405 ([192, 0] ++ List.replicate 20 0) (fun u _ => u.bound 192 && u.motionCheck 192 == Status.OK &&
      (u.ax 192).homed && decide ((u.softLimits 192).1 ≤ 0) && decide (0 ≤ (u.softLimits 192).2) &&
      !u.limitTowards 192 (0 - u.axisPos 192)) = true ∧
    meets enabled192 0x0406 [192, 1, 0, 0, 0] (fun u p => u.bound 192 && u.motionCheck 192 == Status.OK &&
      !u.limitTowards 192 (sAt p 1 4)) = true ∧
    meets enabled192 0x0407 [192] (fun u _ => (u.ax 192).enabled && !(u.ax 192).disabling && (u.ax 192).reaction == 0) = true ∧
    meets enabled192 0x0408 [192, 10] (fun u p => (u.homingSet 192).any (u.homingFits 192 (uAt p 1 1)) && !u.axisFaulted 192) = true ∧
    meets running0 0x0409 [0] (fun u _ => axisKind 0 == 0 && !(u.eng 0).debugHeld && !u.faultStays 0 && !(u.ax 0).enabled) = true ∧
    meets bound0 0x040A [255, 0] (fun u p => u.bound 255 && uAt p 1 1 == 0) = true := by decide +kernel


/-- Eight one-tile instances; port 63; base 4; base 1; one second. -/
theorem witness_SolverNetworkTimeCommands :
    meets idle 0x0502 [8, 1, 2, 4, 8, 16, 32, 64, 128] (fun _ p => p.length == 1 + uAt p 0 1 && uAt p 0 1 == 8 &&
      tileMasks ((p.drop 1).map BitVec.toNat)) = true ∧
    meets cell8 0x0503 [1] (fun u p => uAt p 0 1 == 1 && u.get Reg.INST_CFG_SIZE 0 == 8 && !u.wholeProblem.isNone) = true ∧
    meets idle 0x0503 [0] (fun _ p => uAt p 0 1 == 0) = true ∧
    meets idle 0x0602 [63, 1, 3, 0, 255, 0, 0, 0] (fun u p => uAt p 0 1 == 63 && uAt p 1 1 == 1 && !u.schedulePort 63 &&
      uAt p 2 1 == 3 && uAt p 4 4 == 255 && u.get Reg.PORT_CFG_EN 63 == 0) = true ∧
    meets idle 0x0604 [] (fun u _ => u.starState == 0 && u.star.runAt == none) = true ∧
    meets (idle.set Reg.STAR_STATUS_STATE 0 3) 0x0605 [] (fun u _ => u.starState != 0) = true ∧
    meets idle 0x0702 (4 :: List.replicate 11 0) (fun _ p => uAt p 0 1 == 4 && uAt p 4 8 == 0) = true ∧
    meets (idle.set Reg.TB_STATE_STEP_PENDING 1 1) 0x0703 [1] (fun u p => steps (uAt p 0 1) &&
      u.flag Reg.TB_STATE_STEP_PENDING (uAt p 0 1)) = true ∧
    meets idle 0x0704 [0, 0xCA, 0x9A, 0x3B, 0, 0, 0, 0, 0, 0, 0, 0] (fun _ p => sAt p 0 8 == 1000000000) = true := by decide +kernel


/-- A pair in IDLE, STANDBY and ACTIVE; region 59 at the last 64 bytes of DRAM; the last block of bank 7 of DRAM. -/
theorem witness_PairAndMemoryCommands :
    meets idle 0x0C02 [0] (fun _ p => uAt p 0 1 == 0) = true ∧
    meets idle 0x0C02 [1] (fun u p => uAt p 0 1 == 1 && !u.imageLocal) = true ∧
    meets (pair 2 0) 0x0C03 [] (fun u _ => u.pairOn && u.get Reg.TWIN_STATE_ROLE 0 == 2 && u.flag Reg.TWIN_STATE_LINK_UP 0 &&
      u.inMode resyncModes && u.twin.partner.any fun q => q.mode == Mode.code u.mode.mode) = true ∧
    (serve active 4 0x0C04 []).passes 0x0C04 = true ∧ (serve active 4 0x0C04 []).mbState 4 = 2 ∧
    (serve active 4 0x0C04 []).mbCode 4 = 0x0C04 ∧ (serve active 4 0x0C04 []).alive = true ∧
    (serve active 4 0x0C04 []).rangerHalted = false ∧ ((serve active 4 0x0C04 []).mb 4).result = none ∧
    ((serve active 4 0x0C04 []).mb 4).begun = false ∧
    meets idle 0x0D02 (59 :: List.replicate 19 0) (fun _ p => uAt p 0 1 == 59 && uAt p 12 8 == 0 && uAt p 4 8 == 0) = true ∧
    meets idle 0x0D02 ([59, 1, 0, 0] ++ [0xC0, 0xFF, 0xFF, 0xFF, 1, 0, 0, 0] ++ [64, 0, 0, 0, 0, 0, 0, 0]) (fun u p =>
      uAt p 0 1 == 59 && uAt p 4 8 == 2 ^ 33 - 64 && uAt p 12 8 == 64 && regionInside (uAt p 4 8) (uAt p 12 8) &&
      !u.regionOverlaps 59 (uAt p 4 8) (uAt p 12 8)) = true ∧
    meets (idle.remapStart true 224 (remapName (0x1FFFFF7C0 / 64))) 0x0D05 ([1, 7] ++ List.replicate 6 0 ++ [0xC0, 0xF7, 0xFF, 0xFF, 1, 0, 0, 0])
      (fun u p => remapIndexOk 1 7 && remapAddressOk true 7 (uAt p 8 8) && (u.remapOf (uAt p 8 8 / 64)).isSome) = true ∧
    meets idle 0x0D05 ([1, 7] ++ List.replicate 6 0 ++ [0xC0, 0xFF, 0xFF, 0xFF, 1, 0, 0, 0]) (fun u p =>
      remapIndexOk 1 7 && remapAddressOk true 7 (uAt p 8 8) && u.remapOf (uAt p 8 8 / 64) == none &&
      (u.remapFree (uAt p 8 8 / 64)).isSome) = true := by decide +kernel


/-- Slot 1, an application-core image in slot 1 on 16 cores, the servo kernel on engine 0, 1000 words, port 63 for 10 s. -/
theorem witness_ImageAndDiagnosticCommands :
    meets idle 0x0301 [1, 0, 0, 0, 0, 0, 0, 0] (fun _ p => (p.drop 8).length == uAt p 4 4) = true ∧
    (∃ s : State, s.Served 1 0x0A02 ∧ ((s.cmdPayload 1).drop 8).length = uAt (s.cmdPayload 1) 4 4 ∧ uAt (s.cmdPayload 1) 0 1 = 2) ∧
    meets idle 0x0A03 ([1, 0, 0, 0, 0, 0, 0, 0] ++ List.replicate 8 255) (fun u p => uAt p 0 1 == 1 && !u.inMode [.init] &&
      (u.goodProgram 0).any fun x => (List.range 64).all fun k => ownsNeeds k x.needs) = true ∧
    meets cores1 0x0A03 ([2, 1, 0, 0, 0, 0, 0, 0] ++ [255, 255, 0, 0, 0, 0, 0, 0]) (fun u p => uAt p 0 1 == 2 && uAt p 1 1 == 1 &&
      !u.inMode [.init] && (u.coreSlot 1).state == 2 && uAt p 8 8 == 65535) = true ∧
    meets (inMode .service) 0x0A03 (List.replicate 16 0) (fun u p => uAt p 0 1 == 0 && !u.boot.qspi && u.inMode [.init, .service] &&
      decide (2 ≤ (u.fwSlot 0).state) && !u.pairSync) = true ∧
    meets idle 0x0B01 [255, 255, 255, 255] (fun _ _ => true) = true ∧
    meets idle 0x0B02 [0, 0, 0x40, 0, 0xF0, 0, 0, 0, 0xE8, 3] (fun _ p => uAt p 8 2 == 1000) = true ∧
    meets idle 0x0B03 ([0, 0, 0x80, 0, 0xF0, 0, 0, 0] ++ [255, 255, 255, 255] ++ [50, 0, 0, 0]) (fun u p => uAt p 0 8 / 2 ^ 28 != 0xF07 &&
      (u.busWrite .ranger (uAt p 0 8) 4 ((u.keptWord (uAt p 0 8) &&& (2 ^ 32 - 1 - uAt p 8 4)) ||| (uAt p 12 4 &&& uAt p 8 4))).bus
        != .busError) = true ∧
    meets idle 0x0B05 [63, 3, 0x10, 0x27] (fun u p => uAt p 0 1 == 63 && uAt p 1 1 == 3 && uAt p 2 2 == 10000 && !u.schedulePort 63) =
      true := by
  refine ⟨by decide +kernel, ⟨serve idle 1 0x0A02 (bs [2, 1, 0, 0, 0, 0, 0, 0]), by decide +kernel, by decide +kernel, by decide +kernel⟩,
    by decide +kernel, by decide +kernel, by decide +kernel, by decide +kernel, by decide +kernel, by decide +kernel, by decide +kernel⟩


/-- A doorbell on the idle mailbox 0, one on a mailbox of another link, aborts of a PENDING and a BUSY mailbox, the ends of
the SPI offset space, both values of bit 7. -/
theorem witness_HostLinkCommands :
    (idle.alive && idle.mayRing .spi 0 && idle.mbState 0 == 0 && !(idle.mayRing .spi 4)) = true ∧
    (let t := idle.ring .pcie 4; t.mayRing .pcie 4 && t.mbState 4 == 1) = true ∧
    (let t := serve idle 4 0x0301 []; t.mayRing .pcie 4 && t.mbState 4 == 2 && (t.mb 4).result == none &&
      (stopCode (t.mbCode 4)).isSome) = true ∧
    (let t := idle.ring .cores 0; t.mbState 0 == 1 && (t.mb 0).rung == some t.ticks && t.get Reg.MB_STATE_OWNER 0 == 3) = true ∧
    uAt [0x00#8, 0x02#8, 0x02#8] 0 3 + (3 - 4) ≤ 0x20200 ∧ uAt [0xFF#8, 0x01#8, 0x02#8, 0x00#8, 0x00#8] 0 3 + (5 - 4) ≤ 0x20200 ∧
    (0x00#8) ∉ [0x02#8, 0x0B#8, 0x05#8, 0x4D#8, 0x4E#8] ∧
    ((0x1F#8).getLsbD 7 = false ∧ (0x9F#8).getLsbD 7 = true ∧ (0x9F#8).toNat % 32 = 31) := by decide
/-- A DONE mailbox and one that is not. -/
theorem witness_HostLinkCommands_2 : ((idle.set Reg.MB_STATE_STATE 31 3).alive = true) ∧ (0x80000001#32).getLsbD 31 = true ∧
    (0x80000001#32) = BitVec.ofNat 32 (uAt [0x01#8, 0#8, 0#8, 0x80#8] 0 4) ∧
    (idle.set Reg.MB_STATE_STATE 31 3).mbState 31 = 3 := by decide


/-- A SYS_INFO request with its CRC, rung by PCIe, starts; a BUSY mailbox with a result completes; sessions that end. -/
theorem witness_MailboxProtocol_start :
    (let s := (idle.onMb 4 fun m => { m with bytes := m.bytes.putAll 0 0 (sealMessage (leBytes 2 0x4F44 ++ leBytes 1 1 ++
        leBytes 1 0 ++ leBytes 2 0x0101 ++ leBytes 2 7 ++ leBytes 4 0 ++ zeros 16) []) }).ring .pcie 4
     let v := ((s.onHost fun h => { h with doorbells := h.doorbells.filter (· != 4) }).set Reg.MB_STATE_STATE 4 2).onMb 4
        (fun m => { m with started := s.ticks, begun := false, result := none })
     s.alive && !s.rangerHalted && !s.rangerBusy && s.twin.cut.isNone && s.nextDoorbell == some 4 && v.segmentOk 4 &&
      (match v.earlyChecks 4 with
       | (0, some r) => v.sessionCheck r 4 == 0 && (v.touchSession 4).roleCheck r 4 == 0
       | _ => false) && ((v.touchSession 4).mb 4).transfer.isNone && (v.touchSession 4).mbCode 4 == 0x0101 &&
      (v.touchSession 4).firstSegment 0x0101 ((v.touchSession 4).mbPayload 4) == 0 &&
      !(bitOf ((v.touchSession 4).mbAt 4 3 1) 1)) = true := by decide +kernel

/-- Nothing waits; a result waits; a transfer, a session, a safety session and a function with its link down. -/
theorem witness_MailboxProtocol :
    (idle.alive && idle.nextDoorbell == none && !idle.host.linkUp) = true ∧
    (let t := (serve idle 4 0x0101 []).setDone 4
     t.alive && t.mbState 4 == 2 && (t.mb 4).result.isSome && !(t.mb 4).begun && (t.mb 4).datagram.isNone) = true ∧
    (earlierOf (idle.onMb 4 fun m => { m with transfer := some ⟨0x0301, 7, [], 0, none, 5⟩ }).openTransfers).isSome = true ∧
    (idle.onHost fun h => { h with sessions := [⟨9, .pcie, 60, 0⟩] }).firstSession.isSome = true ∧
    ((idle.onHost fun h => { h with safe := some ⟨9, .pcie, 60, 0⟩ }).host.safe).isSome = true := by decide +kernel

/-- A state in which mailbox 4 takes management datagrams under key 1. -/
def mgmt0 : State :=
  let s : State := (((idle.onHost fun h => { h with mgmtOn := true, mgmtPorts := 1 }).set Reg.PORT_STATUS_LINK_STATE 0 linkUp).set
    Reg.PORT_STATUS_PERSONALITY 0 1).set Reg.MB_STATE_OWNER 4 2
  { s with flash := { s.flash with mgmtKeys := s.flash.mgmtKeys.put none 1 (some 5) } }

/-- The first 48 bytes of a datagram for mailbox 4 under key 1. -/
def mgmtBody : List Byte := leBytes 2 0x4F45 ++ leBytes 1 1 ++ leBytes 1 4 ++ leBytes 8 (2 ^ 32 * mgmt0.flash.bootEpoch) ++ zeros 4 ++ zeros 32

theorem mgmt_tag_length : (mgmt0.mgmtTag 1 mgmtBody).length = 32 := by
  have h : mgmt0.flash.mgmtKeys.get none 1 = some 5 := by decide +kernel
  rw [State.mgmtTag, h]
  show (kmac256 _ _ _).length = 32
  rw [kmac256, keccakHash]
  simp [leBytes] <;> rfl

/-- A management datagram of 80 bytes for mailbox 4 with the tag of its key. -/
theorem witness_MailboxProtocol_datagram :
    let d := mgmtBody ++ mgmt0.mgmtTag 1 mgmtBody
    mgmt0.datagramAuth d = true ∧ uAt d 3 1 = 4 ∧ uAt d 4 8 / 2 ^ 32 = mgmt0.flash.bootEpoch % 2 ^ 32 ∧
      mgmt0.host.lastNumber.get 0 (uAt d 2 1) ≤ uAt d 4 8 % 2 ^ 32 ∧ mgmt0.host.mgmtOn = true ∧ mgmt0.host.mgmtPorts.getLsbD 0 = true ∧
      mgmt0.link 0 = linkUp ∧ mgmt0.get Reg.PORT_STATUS_PERSONALITY 0 = 1 ∧ mgmt0.mbState 4 = 0 ∧ mgmt0.mayRing .mgmtnet 4 = true := by
  have hb : mgmtBody.length = 48 := by decide +kernel
  have key : ∀ o n, o + n ≤ 48 → uAt (mgmtBody ++ mgmt0.mgmtTag 1 mgmtBody) o n = uAt mgmtBody o n := by
    intro o n h
    rw [uAt, uAt, List.drop_append_of_le_length (by omega), List.take_append_of_le_length (by rw [List.length_drop]; omega)]
  have hl : (mgmtBody ++ mgmt0.mgmtTag 1 mgmtBody).length = 80 := by rw [List.length_append, hb, mgmt_tag_length]
  dsimp only
  rw [key _ _ (by omega), key _ _ (by omega), key _ _ (by omega)]
  refine ⟨?_, by decide +kernel⟩
  rw [State.datagramAuth]
  rw [hl, key _ _ (by omega), key _ _ (by omega), List.take_left' (by rw [hb]), List.drop_left' (by rw [hb])]
  have h1 : uAt mgmtBody 2 1 = 1 := by decide +kernel
  have h2 : uAt mgmtBody 0 2 = 0x4F45 := by decide +kernel
  have h3 : (mgmt0.flash.mgmtKeys.get none 1).isSome = true := by decide +kernel
  rw [h1, h2, h3]
  simp


/-- The last point, for a core, and point 0 for the host with a read grant; with and without a shadow. -/
theorem witness_SplitReadIsTearless :
    (idle.alive = true ∧ (2 ^ 20 - 1) < 2 ^ 20 ∧ (0xE3807FFFF8#40).toNat = 0xE380000000 + 8 * (2 ^ 20 - 1)) ∧
    (idle.onHost fun h => { h with grants := h.grants.put none 15 (some ⟨0, 5, 1⟩) }).grantRight 0 ≠ 0 ∧
    idle.readShadow.get none (Master.num (.core 0)) = none := by decide


/-- The host with a write grant on point 0, a core on the last point; nothing held, the same point held, another held. -/
theorem witness_HalvesCommitTogether :
    (idle.onHost fun h => { h with grants := h.grants.put none 0 (some ⟨0, 5, 2⟩) }).windowMay 0 = true ∧
    idle.writeHeld.get none (Master.num (.core 0)) = none ∧
    ({ idle with writeHeld := idle.writeHeld.put none (Master.num (.core 0)) (some (pointKey 7, 5)) } : State).writeHeld.get
      none (Master.num (.core 0)) = some (pointKey 7, 5) ∧ pointKey 7 ≠ pointKey 8 := by decide


/-- No grant, a read grant, a write grant. -/
theorem witness_WindowAccessRules : idle.alive = true ∧ idle.grantRight (0#20).toNat = 0 ∧
    idle.windowMay (0#20).toNat = false ∧ idle.pairSync = false ∧
    (let t := idle.onHost fun h => { h with grants := h.grants.put none 0 (some ⟨0, 0xFFFFF, 2⟩) }
     t.grantRight (0xFFFFF#20).toNat ≠ 0 ∧ t.pointPoisoned (0xFFFFF#20).toNat = false ∧
      t.windowMay (0xFFFFF#20).toNat = true) := by decide


/-- A core reads PT_DENIED_TOTAL. -/
theorem witness_RegisterReadsClear : mgmtAddr (0xF041C00008#40).toNat = some ⟨4, 7, 0, 8⟩ ∧ mboxBytes ⟨4, 7, 0, 8⟩ = false ∧
    halfOf ⟨4, 7, 0, 8⟩ = none ∧ regFields (RegAddr.home ⟨4, 7, 0, 8⟩) = [(Reg.PT_DENIED_TOTAL_COUNT, 0)] := by decide +kernel


/-- The last safety point and the first, a point without a writer, a point of Ranger, a point of the installed content. -/
theorem witness_PointsHaveOneWriter : safetyPoint (0x21FFF#20).toNat = true ∧ safetyPoint (0x20FFF#20).toNat = false ∧
    idle.pointWriter (0x10#20).toNat = .nobody ∧ idle.pointWriter (0x20000#20).toNat ≠ .nobody ∧
    idle.pointWriter (0x21000#20).toNat ≠ .nobody ∧ idle.jownsPoint (0 : Fin 64) (0x8#20).toNat = true := by decide


/-- A core may write a feedback register and not a register of Caldera. -/
theorem witness_RegisterWriteRules : mgmtAddr (0xF040400038#40).toNat = some ⟨4, 1, 0, 0x38⟩ ∧
    mboxBytes ⟨4, 1, 0, 0x38⟩ = false ∧ halfOf ⟨4, 1, 0, 0x38⟩ = none ∧ idle.unpowered ⟨4, 1, 0, 0x38⟩ = false ∧
    idle.mayWrite (.core 0) ⟨4, 1, 0, 0x38⟩ = true ∧ idle.mayWrite (.core 0) ⟨7, 0, 0, 0⟩ = false ∧
    mgmtAddr (0xF0010007F8#40).toNat = some ⟨0, 4, 0, 8 * 255⟩ ∧ (0xF0010007F8#40).toNat = 0xF001000000 + 8 * 255 ∧
    halfOf ⟨0, 4, 0, 8 * 255⟩ = none := by decide +kernel


/-- A running device, one held by a warm reset, a DORMANT one, a served SYS_RESET of HOST. -/
theorem witness_EpochCountsDeviceResets :
    (∀ h, idle.power.held = some h → h ≠ .p ∧ h ≠ .w) ∧ idle.Runs ∧
    ({ idle with boot := { idle.boot with ranger := some 0 } } : State).boot.ranger.isSome = true ∧
    (idle.onPower fun p => { p with dormant := true }).power.dormant = true ∧
    meets idle 0x0105 [1, 1] (fun _ p => uAt p 0 1 == 1 && uAt p 1 1 == 1) = true := by decide


/-- Readings of exactly 125 °C; PLL 0; rail 1; a device held by P, one held by W, a DORMANT one. -/
theorem witness_ResetsHoldTheDevice : idle.Runs ∧ (16 * 125 ≤ max (max (2000#16).toInt (0#16).toInt) (max (0#16).toInt (0#16).toInt)) ∧
    ((0 : Fin 11) ≠ 5 ∧ (0 : Fin 11) ≠ 8 ∧ (0 : Fin 11) ≠ 10) ∧ ((1 : Fin 8) < 2) ∧
    (idle.onPower fun p => { p with held := some .p }).power.held = some .p ∧
    (idle.onPower fun p => { p with dormant := true }).power.dormant = true := by decide


/-- No sag; a sag; its hold; a step; the last step. -/
theorem witness_SagGovernor : idle.alive = true ∧ idle.power.sagFrom = none ∧
    (idle.sagWarning true).power.sagFrom.isSome = true ∧ (idle.sagWarning true).power.sagHold = none ∧
    (let t := (idle.sagWarning true).sagClear
     t.power.sagHold.isSome && t.flag Reg.SAG_STATUS_HOLDING 0) = true ∧
    (let t := (idle.sagWarning true).sagClear.sagHoldEnd
     t.alive && t.power.sagHold.isSome && t.power.sagFrom.isSome && !(t.flag Reg.SAG_STATUS_HOLDING 0) &&
      t.get Reg.SAG_STATUS_RATE 0 == 4 && t.sagStep.sagStep.sagStep.get Reg.SAG_STATUS_RATE 0 == 7) = true := by decide +kernel


/-- Readings just below 125 °C; rail 3; a hot reset. -/
theorem witness_PowerEventsAndInit : idle.alive = true ∧
    (max (max (1999#16).toInt (0#16).toInt) (max (0x8000#16).toInt (0#16).toInt) < 16 * 125) ∧ ((1 : Fin 3) ≠ 2) ∧
    3 ≤ (3 : Fin 8).val ∧ idle.getS Reg.TEMP_JUNCTION 0 < 16 * 105 := by decide
/-- INIT after reset, with firmware in slot 0. -/
theorem witness_PowerEventsAndInit_2 : State.reset.alive = true ∧ State.reset.mode.mode = .init ∧
    ({ State.reset with boot := { State.reset.boot with ranger := some 0 } } : State).boot.ranger.isSome = true ∧
    State.reset.rangerHalted = false := by decide


/-- An instance of one tile with a schedule, a small problem and the mode IDLE; the whole-cell instance; a timed start. -/
theorem witness_RunsStartAndEnd :
    (saw1.alive && !(saw1.cellRuns 1) && !(saw1.startBlocked 1) && saw1.startBlocked 2) = true ∧
    ((saw1.setFlag Reg.RUN_CTRL_TIMED 1 true).flag Reg.RUN_CTRL_TIMED 1 = true) ∧
    (saw1.setFlag Reg.INST_CFG_CELL 0 true).cellRuns 0 = true := by decide +kernel


/-- A run of one tile whose next word is each of the operations. -/
theorem witness_SawmillArithmeticOperations : ([1, 2, 3, 4, 5, 8, 9, 10, 11, 12].all fun k =>
    (sawRun (BitVec.ofNat 128 k)).alive && (match (sawRun (BitVec.ofNat 128 k)).sawWord 0 with
      | some (1, w) => sawOp w == k
      | _ => false)) = true := by decide +kernel


/-- The next word is each of the operations; a tile waits; the run is in wrap-up, alone and on a pair; a schedule loads. -/
theorem witness_SawmillControlOperations :
    ([6, 7, 13, 14, 15, 0, 16].all fun k => (match (sawRun (BitVec.ofNat 128 k)).sawWord 0 with
      | some (1, w) => sawOp w == k
      | _ => false)) = true ∧
    ((sawRun 7).blockHere 0 7 = none ∧
      ((sawRun 7).onTile 0 fun x => { x with buffer := [⟨0, 0, 0, ⟨[], 0, 0, []⟩⟩] }).blockHere 0 7 = some ⟨0, 0, 0, ⟨[], 0, 0, []⟩⟩) ∧
    ((sawRun 7).onTile 0 fun x => { x with wait := .block 0 0, buffer := [⟨0, 0, 0, ⟨[], 0, 0, []⟩⟩] }).alive = true ∧
    ((sawRun 14).onTile 0 fun x => { x with wait := .barrier }).allWait 1 .barrier = true ∧
    (((sawRun 14).wrapUp 1 7).inst 1).run.isSome = true ∧ (sawRun 14).pairSync = false ∧
    ((saw1.onInst 1 fun i => { i with loading := true }).problem 1).isSome = true ∧
    ((sawRun2 13).onTile 0 fun x => { x with wait := .reduce }).allWait 1 .reduce = false ∧
    ((sawRun 13).onTile 0 fun x => { x with wait := .reduce }).allWait 1 .reduce = true ∧
    (sawRun2 15).allEnded 1 1 = false ∧ ((sawRun 15).onTile 0 fun x => { x with ends := 1 }).allEnded 1 1 = true := by decide +kernel


/-- An empty ring, one record, a full ring of an instance with a problem; PARK. -/
theorem witness_DeltaQueue : saw1.alive = true ∧ saw1.parked = false ∧ (saw1.problem 1).isSome = true ∧ saw1.twin.cut = none ∧
    (saw1.inst 1).level < 131072 ∧ (saw1.inst 1).level = 0 ∧ (saw1.inst 1).run = none ∧
    ((saw1.onInst 1 fun i => { i with level := 131072 }).inst 1).level = 131072 ∧ (saw1.set Reg.PWR_STATE_STATE 0 2).parked = true := by
  decide +kernel

/-- A record of the one entry of a matrix. -/
theorem witness_DeltaQueue_entry : (fun (s : State) (v : Word64) => s.alive && (match s.problem 1 with
      | some p => s.content.entryValid p (v.toNat % 2 ^ 24)
      | none => false) && !v.getLsbD 30)
    { saw1 with cell := some { (default : CellContent) with
        problems := [{ (default : ProblemDef) with number := 1, tiles := 1, matrix := [.h 0] }] } } 0 = true := by decide +kernel


/-- A unit that is no part of a pair. -/
theorem witness_CycleCommands : idle.alive = true ∧ idle.flag Reg.INST_CFG_CELL 0 = false := by decide +kernel


/-- A word of each operation code at the program counter of a running engine; 0x8000_0000 in a register. -/
theorem witness_JceArithmeticInstructions : (((List.range 18).map (0x10 + ·)).all fun o =>
    (jceAt (o * 2 ^ 26)).alive && (jceAt (o * 2 ^ 26)).jfetched (5 : Fin 64) o) = true ∧
    ((jceAt (0x1B * 2 ^ 26)).jput 5 0 0x80000000#32).jd 5 (jceA (0x1B * 2 ^ 26)) = 0x80000000#32 ∧
    (jceAt (0x1B * 2 ^ 26)).jd 5 (jceA (0x1B * 2 ^ 26)) ≠ 0x80000000#32 := by decide +kernel


/-- A word of each operation code; SETAR of a constant in range, of register contents below and above the range. -/
theorem witness_JceMemoryInstructions : ([0x28, 0x29, 0x2A, 0x2B, 0x2C, 0x2D, 0x2E].all fun o =>
    (jceAt (o * 2 ^ 26)).alive && (jceAt (o * 2 ^ 26)).jfetched (5 : Fin 64) o) = true ∧
    (let w := 0x2D * 2 ^ 26 + 2 ^ 20
     (jceAt w).jfetched 5 0x2D && decide ((arRange (bitsOf w 24 2)).1 ≤ (jceAt w).setarValue 5 w) &&
      decide (((jceAt w).jput 5 0 0x80000000#32).setarValue 5 w < (arRange (bitsOf w 24 2)).1) &&
      decide ((arRange (bitsOf w 24 2)).2 < ((jceAt w).jput 5 0 0x7FFFFFFF#32).setarValue 5 w)) = true := by decide +kernel


/-- A word of each operation code; a condition that holds and one that does not; full and empty stacks. -/
theorem witness_JceFlowInstructions : (((List.range 10)).all fun o =>
    (jceAt (o * 2 ^ 26)).alive && (jceAt (o * 2 ^ 26)).jfetched (5 : Fin 64) o) = true ∧
    jceCond ((jceAt 0).eng 5) 0 = true ∧ jceCond ((jceAt 0).eng 5) 1 = false ∧
    ((jceAt (3 * 2 ^ 26)).eng 5).rets = [] ∧ (((jceAt 0).onEng 5 fun e => { e with rets := List.replicate 8 0 }).eng 5).rets.length = 8 ∧
    ((jceAt (5 * 2 ^ 26)).eng 5).loops.length < 2 ∧ (jceAt (5 * 2 ^ 26)).loopCount 5 (5 * 2 ^ 26) = 0 ∧
    (jceAt (5 * 2 ^ 26 + 511 * 2 ^ 12)).loopCount 5 (5 * 2 ^ 26 + 511 * 2 ^ 12) ≠ 0 ∧
    (((jceAt 0).onEng 5 fun e => { e with loops := [⟨0, 1, 2⟩, ⟨0, 3, 4⟩] }).eng 5).loops.length = 2 ∧
    (jceAt 0).dbg.jcePort = false ∧ (((jceAt (7 * 2 ^ 26)).set Reg.SIG_LAST_N 5 0).raise 66).flag Reg.JCE_NOTIFY_EN 5 = false := by
  decide +kernel


/-- A word of each operation code; WBQ with and without saturation. -/
theorem witness_JceAccumulatorInstructions : (((List.range 8).map (0x38 + ·)).all fun o =>
    (jceAt (o * 2 ^ 26)).alive && (jceAt (o * 2 ^ 26)).jfetched (5 : Fin 64) o) = true ∧
    bitOf (0x3E * 2 ^ 26) 13 = false ∧ (bitOf (0x3E * 2 ^ 26 + 2 ^ 13) 13 && (jceAt (0x3E * 2 ^ 26 + 2 ^ 13)).jfetched 5 0x3E) = true := by
  decide +kernel


/-- A word of each operation code; a point of engine 5 and one of no engine; selectors of engine 48; work for a port. -/
theorem witness_JceSharedInstructions : ([0x30, 0x31, 0x32, 0x33, 0x34].all fun o =>
    (jceAt (o * 2 ^ 26)).alive && (jceAt (o * 2 ^ 26)).jfetched (5 : Fin 64) o) = true ∧
    (jceAt 0).jownsPoint 5 (256 * 20) = true ∧ (jceAt 0).jownsPoint 5 0 = false ∧ ((jceAt 0).eng 5).posted.length < 8 ∧
    (jceAt 0).jperiph 5 0 = none ∧ (jceAt 0).jperiph 48 0 = some (2, 0) ∧ wideReg (periphAddr (2, 0) 0) = false ∧
    (((jceAt 0).onEng 5 fun e => { e with reading := some ⟨0, 7, some 9⟩ }).jceRuns 5 = true) ∧
    (((List.range 8).map fun i => ((jceAt 0).clusterLast.get 7 0 + 1 + i) % 8).find? fun i =>
      ((jceAt 0).onEng 5 fun e => { e with posted := [.point 5 6] }).portWork (8 * 0 + i)) = some 5 := by decide +kernel


/-- An illegal word; a stopped engine with a program; a running, a waiting, a halted engine; a core as writer. -/
theorem witness_JceControlCommands :
    ((jceAt 0x20000000).alive && !jceLegal 0xFFFFFFFF && (jceAt 0xFFFFFFFF).jissues 5 &&
      (jceAt 0xFFFFFFFF).jword 5 == 0xFFFFFFFF) = true ∧
    (idle.get Reg.JCE_STATE_STATE 5 = 0 ∧ (idle.onEng 5 fun e => { e with loaded := true }).alive = true) ∧
    (idle.jceRuns 5 = false ∧ idle.flag Reg.IND_ADDR_SPACE 5 = false ∧ (jceAt 0).jceRuns 5 = true) ∧
    (idle.set Reg.JCE_TICK_SRC 5 2).tickSource 5 = 2 ∧
    (let t := (jceAt 0).onEng 5 fun e => { e with waiting := some 3, tickPending := true }
     t.jceRuns 5 && !(t.eng 5).kernel && (t.waitEvents 5).1) = true ∧
    (idle.set Reg.JCE_STATE_STATE 5 3).get Reg.JCE_STATE_STATE 5 = 3 := by decide +kernel


/-- A running engine with cycle division, without and with a pending tick. -/
theorem witness_JceTickOverruns :
    (let t := (jceAt 0).set Reg.JCE_TICK_SRC 5 2
     t.alive && t.jceRuns 5 && t.tickSource 5 == 2 && !(t.eng 5).startAtTick && !(t.eng 5).tickPending &&
      ((t.onEng 5 fun e => { e with tickPending := true }).eng 5).tickPending) = true := by decide


/-- LD D1 with (A2)+, and the manual's circular cases. -/
theorem witness_JcePostModification :
    (let w := 0x28 * 2 ^ 26 + 2 ^ 22 + 2 * 2 ^ 19 + 2 ^ 17
     (jceAt w).alive && (jceAt w).jfetched 5 0x28 && bitsOf w 17 2 == 1 && bitsOf w 19 3 == 2) = true := by decide +kernel

/-- The rows of the manual's table of post-modification (chapter 7, other post-modification cases). -/
theorem test_postModification : postModify 0x0414 0x0400 24 5 = 0x0401 ∧ postModify 0x0401 0x0400 24 (-7) = 0x0412 ∧
    postModify 0x0400 0x0400 24 30 = 0x0406 ∧ postModify 0x0500 0x0400 24 5 = 0x0415 ∧ postModify 0x3FFE 0 0 4 = 2 := by decide


/-- Each of the operation codes is fetched. -/
theorem witness_JceRegisterFrame : ((0 :: 0x2E :: (List.range 18).map (0x10 + ·)).all fun o =>
    (jceAt (o * 2 ^ 26)).alive && (jceAt (o * 2 ^ 26)).jfetched (5 : Fin 64) o) = true := by decide +kernel


/-- Channel 3 in quadrature at its upper and at its lower limit, one sample that counts up and one that counts down; a
channel of mode 5 with a word before. -/
theorem witness_CountersHoldAtLimits :
    (let s := ((idle.set Reg.FB_CFG_MODE 3 1).setS Reg.CNT_HI_LIMIT 3 100).setS Reg.POS_COUNT 3 100
     s.pos 3 = s.getS Reg.CNT_HI_LIMIT 3 ∧ s.getS Reg.CNT_LO_LIMIT 3 ≤ s.getS Reg.CNT_HI_LIMIT 3 ∧
       clampN 1 64 (s.get Reg.FB_CFG_FILT_N 3) ≤ (64 : Fin 65).val ∧ (s.fbk 3).restarted ≠ some s.ticks ∧
       s.getS Reg.CNT_LO_LIMIT 3 ≤ s.pos 3 + -1 ∧ s.pos 3 + -1 ≤ s.getS Reg.CNT_HI_LIMIT 3) ∧
    (let s := ((idle.set Reg.FB_CFG_MODE 3 1).setS Reg.CNT_LO_LIMIT 3 (-100)).setS Reg.POS_COUNT 3 (-100)
     s.pos 3 = s.getS Reg.CNT_LO_LIMIT 3 ∧ s.getS Reg.CNT_LO_LIMIT 3 ≤ s.getS Reg.CNT_HI_LIMIT 3) ∧
    (let s := (idle.set Reg.FB_CFG_MODE 3 5).onFb 3 fun c => { c with reference := some 10 }
     s.parked = false ∧ s.flag Reg.SSI_CFG_PARITY 3 = false ∧ s.flag Reg.SSI_CFG_GRAY 3 = false ∧
       (signedMod (s.ssiBits 3) (12 - 10)).natAbs < 2 ^ (s.ssiBits 3 - 2)) := by decide +kernel


/-- A channel of each mode; an open window; an armed latch; pairs inside and outside the default amplitude window; words. -/
theorem witness_FeedbackEventsAndWrites :
    ((idle.set Reg.FB_CFG_MODE 3 2).get Reg.FB_CFG_MODE 3 ∈ [1, 2, 3]) ∧ (idle.get Reg.FB_CFG_MODE 3 ∉ [1, 2, 3]) ∧
    ((idle.onFb 3 fun c => { c with winOpen := some 5 }).fbk 3).winOpen = some 5 ∧ (idle.fbk 3).winOpen = none ∧
    ((idle.set Reg.INDEX_CTRL_INDEX_MODE 3 1).setFlag Reg.INDEX_CTRL_ARMED 3 true).flag Reg.INDEX_CTRL_ARMED 3 = true ∧
    ((idle.set Reg.INDEX_CTRL_INDEX_MODE 3 1).get Reg.INDEX_CTRL_INDEX_MODE 3 = 1 ∧
      (idle.set Reg.INDEX_CTRL_INDEX_MODE 3 1).flag Reg.INDEX_CTRL_ARMED 3 = false) ∧
    clampN 1 64 (idle.get Reg.FB_CFG_FILT_N 3) ≤ (64 : Fin 65).val ∧ (0 : Fin 65).val < clampN 1 64 (idle.get Reg.FB_CFG_FILT_N 3) ∧
    (idle.fbk 3).restarted ≠ some idle.ticks ∧ ((idle.onFb 3 fun c => { c with restarted := some idle.ticks }).fbk 3).restarted = some idle.ticks ∧
    idle.flag Reg.FB_STATUS_Z 3 = false ∧ (idle.fbk 3).sin = none ∧
    ((idle.onFb 3 fun c => { c with sin := some (4000, 0), cos := some (0, 0) }).fbk 3).sin = some (4000, (0 : Fin 4).val) ∧
    (idle.fbk 3).reference = none ∧ idle.flag Reg.SSI_CFG_PARITY 3 = false ∧ idle.flag Reg.SSI_CFG_GRAY 3 = false ∧
    (idle.setFlag Reg.SSI_CFG_PARITY 3 true).flag Reg.SSI_CFG_PARITY 3 = true ∧ ones 7 48 % 2 = 1 ∧
    (let s := (idle.set Reg.AMP_WIN_AMP_MIN 3 5).set Reg.AMP_WIN_AMP_MAX 3 8191
     (s.get Reg.AMP_WIN_AMP_MIN 3 : Int) ^ 2 ≤ (4000#14).toInt * (4000#14).toInt ∧
       (4000#14).toInt * (4000#14).toInt ≤ (s.get Reg.AMP_WIN_AMP_MAX 3 : Int) ^ 2 ∧
       (3#14).toInt * (0#14).toInt < (s.get Reg.AMP_WIN_AMP_MIN 3 : Int) ^ 2) := by decide +kernel
/-- A foreign engine and the owning one. -/
theorem witness_FeedbackEventsAndWrites_2 : (Master.jce 3 ≠ .ranger ∧ ∀ k : Fin 64, Master.jce 3 = .jce k → k.val ≠ 48 + (7 : Fin 64).val / 4) ∧
    (∃ k : Fin 64, Master.jce 49 = .jce k ∧ k.val = 48 + (7 : Fin 64).val / 4) := by
  refine ⟨⟨by decide, fun k h => ?_⟩, 49, rfl, by decide⟩
  cases h; decide


/-- A pair whose high side is on while its low side waits for nothing. -/
theorem witness_PairsNeverShootThrough :
    (idle.setFlag Reg.PWM_STATUS_FORCED 3 false).PairSafe 3 ∧
    (((idle.setFlag Reg.PWM_STATUS_FORCED 3 false).setFlag Reg.PWM_STATUS_H_ON 3 true).onPair 3 fun q => { q with href := true }).PairSafe 3 ∧
    ¬ ((idle.setFlag Reg.PWM_STATUS_L_ON 3 true).setFlag Reg.PWM_STATUS_H_ON 3 true).PairSafe 3 := by decide +kernel


/-- A pair in its period, before its rise, before its fall, in each dead time, with a postponed turn-off; with and without the
clock. -/
theorem witness_PwmTimedCommands :
    (let s := { (idle.setFlag Reg.PWM_STATUS_FORCED 3 false).set Reg.PWM_SET_DUTY 3 500 with pwmClock := true }
     (s.pair 3).restart = false ∧ (s.pair 3).lock = false ∧ s.pairForced 3 = false ∧ (s.pair 3).rose = false ∧ s.pairDuty 3 ≠ 0 ∧
       (s.pair 3).lDue = none ∧ s.flag Reg.PWM_STATUS_L_ON 3 = false ∧ s.pairFall 3 = some 500 ∧ s.pairEnd 3 = 2048) ∧
    ({ idle with pwmClock := false } : State).pwmClock = false ∧
    ((idle.onPair 3 fun q => { q with hDue := some 7 }).pair 3).judge 7 ((idle.onPair 3 fun q => { q with hDue := some 7 }).nextFall 3) = 0 ∧
    (let s := (idle.set Reg.PWM_SET_DUTY 3 500).onPair 3 fun q => { q with hDue := some 7, rose := true }
     (s.pair 3).judge 7 (s.nextFall 3) = 1 ∧ s.flag Reg.PWM_STATUS_H_ON 3 = false) ∧
    ((idle.onPair 3 fun q => { q with lDue := some 7 }).pair 3).lDue = some 7 ∧ idle.pairForced 3 = true := by decide +kernel


/-- A foreign and the owning engine; a group with and without an active trip; an enabled trip; both states of the clock; a
sync output on a period start. -/
theorem witness_PwmWritesAndTrips : (Master.jce 3 ≠ .ranger ∧ ∀ k : Fin 64, Master.jce 3 = .jce k → k.val ≠ 48 + (95 : Fin 96).val / 12) ∧
    (∃ k : Fin 64, Master.jce 55 = .jce k ∧ k.val = 48 + (95 : Fin 96).val / 12) ∧
    maskAnd (idle.get Reg.PWM_TRIP_TRIP_MASK 95) idle.activeTrips = 0 ∧
    (let s := (idle.set Reg.PWM_TRIP_TRIP_MASK 95 0x8001).setFlag Reg.TRIP_STATUS_ACTIVE 15 true
     maskAnd (s.get Reg.PWM_TRIP_TRIP_MASK 95) s.activeTrips ≠ 0) ∧
    ((idle.setFlag Reg.TRIP_CFG_EN 15 true).flag Reg.TRIP_CFG_EN 15 = true ∧ (idle.setFlag Reg.TRIP_CFG_EN 15 true).flag Reg.TRIP_STATUS_ACTIVE 15 = false) ∧
    clampN 1 1024 (idle.get Reg.TRIP_CFG_FILT_N 15) ≤ (1024 : Fin 1025).val ∧ (2 : Fin 1025).val <
      clampN 1 1024 ((idle.set Reg.TRIP_CFG_FILT_N 15 3).get Reg.TRIP_CFG_FILT_N 15) ∧
    ({ idle.setFlag Reg.PSYNC_CFG_EN 7 true with pwmClock := true } : State).syncFalls 7 = true ∧ idle.syncFalls 7 = false ∧
    ({ idle with pwmClock := false } : State).pwmClock = false := by
  refine ⟨⟨by decide, fun k h => ?_⟩, ⟨55, rfl, by decide⟩, by decide +kernel⟩
  cases h; decide


/-- Converter 5 with a regular and an injected entry on pin 3; the pass that starts; a pass waiting; a pipeline. -/
def conv5 : State :=
  (((((idle.setFlag Reg.ADC_CFG_EN 5 true).set Reg.ADC_CFG_REG_TRG 5 3).set Reg.ADC_CFG_INJ_TRG 5 3).set Reg.ADC_CFG_REG_LEN 5 1).set
    Reg.ADC_CFG_INJ_LEN 5 1).set Reg.CAL_COEF_GAIN 320 0x8000
/-- A pass of the entry 0 of `conv5`, its sample 3 clocks ahead. -/
def pass5 : AdcPass := { entries := [0], align := false, next := conv5.ticks + 3, entry := 0, sampled := 0, pass := 1, time := 0 }
/-- A conversion of the entry 0. -/
def conversion5 : AdcConv := { due := 0, word := 0, entry := 0, inj := false, align := false, settling := false, last := true, pass := 1, time := 0 }
theorem witness_ConverterPassesAndResults :
    (∀ k < 16, idle.adcTakes k = false) ∧
    conv5.parked = false ∧ conv5.adcTakes 5 = true ∧ edgeNamed (conv5.get Reg.ADC_CFG_REG_EDGE 5) true = true ∧
    edgeNamed (conv5.get Reg.ADC_CFG_INJ_EDGE 5) true = true ∧ conv5.regEntries 5 = [0] ∧ conv5.injEntries 5 = [0] ∧ (conv5.adcv 5).reg = none ∧
    (conv5.adcv 5).inj = none ∧ (conv5.adcv 5).held = none ∧ entryDwell 0 = 1 ∧ conv5.ticks < pass5.next ∧
    (let s := conv5.onAdc 5 fun a => { a with pipe := [conversion5] }
     (s.adcv 5).pipe = [conversion5] ∧ codeMin (entryDiff 0) < 100 ∧ 100 < codeMax (entryDiff 0) ∧ codeMin (entryDiff 0) ≤ s.corrected 5 0 100 ∧
       s.corrected 5 0 100 ≤ codeMax (entryDiff 0) ∧ ((s.adcv 5).route (entryRoute 0)).filt = 1 ∧ ((s.adcv 5).route (entryRoute 0)).notify = false ∧
       s.get Reg.ROUTE_RING_RING_LEN 80 = 0) ∧
    ((conv5.set Reg.ROUTE_RING_RING_LEN 80 2).get Reg.ROUTE_RING_RING_LEN 80 = 2) ∧
    conv5.adcOwnedBy (.jce 3) 5 = false ∧ ((conv5.adcv 5).route 2).wrapAt ≠ some conv5.ticks := by decide +kernel


/-- A converter that calibrates, with a ZERO mean and a FULL step whose coefficients fit, and one whose gain does not. -/
theorem witness_ConverterCalibration :
    (let s := ((((idle.setFlag Reg.CAL_CTRL_CAL_EN 5 true).setS Reg.CAL_TARGET_CAL_ZERO 5 100).setS Reg.CAL_TARGET_CAL_FULL 5 16100).onAdc 5
       fun a => { a with step := some ⟨true, 63, 9⟩, zero := a.zero.put none 63 (some 25600), unsaved := [63] })
     (s.adcv 5).zero.get none 63 = some 25600 ∧ (25600 : Int) ≠ 4121600 ∧ ratRound (16000 * 256 * 32768) (4121600 - 25600) = 0x8000 ∧
       ratRound (25600 * 16000 - 100 * (4121600 - 25600)) (256 * 16000) = 0 ∧ s.getS Reg.CAL_TARGET_CAL_FULL 5 - 100 = 16000 ∧
       ratRound (16000 * 256 * 32768) (25601 - 25600) = 134217728000 ∧ s.flag Reg.CAL_CTRL_STEP_BUSY 5 = false ∧ 63 ∈ (s.adcv 5).unsaved) ∧
    idle.flag Reg.CAL_CTRL_CAL_EN 5 = false ∧ idle.adcOwnedBy .pcie 5 = false := by decide +kernel


/-- Channel 6 with its driver on, in IDLE, moving and halted; switched off; a foreign and its own engine. -/
def step6 : State := (idle.setFlag Reg.STP_CTRL_ENABLE 6 true).set Reg.STP_HALT_CAUSES 6 0
theorem witness_StepCommandsAndWrites : (Master.jce 3 ≠ .ranger ∧ ∀ k : Fin 64, Master.jce 3 = .jce k → k.val ≠ 56 + (6 : Fin 32).val / 4) ∧
    (∃ k : Fin 64, Master.jce 57 = .jce k ∧ k.val = 56 + (6 : Fin 32).val / 4) ∧
    step6.driveOn 6 = true ∧ step6.get Reg.STP_HALT_CAUSES 6 = 0 ∧ step6.stepState 6 = 1 ∧ idle.driveOn 6 = false ∧ idle.stepState 6 = 0 ∧
    (idle.step 6).prof.v = 0 ∧ (step6.set Reg.STP_HALT_CAUSES 6 1).stepState 6 = 5 ∧
    (step6.onStep 6 fun c => { c with prof := { c.prof with kind := .velocity 100 } }).stepState 6 = 2 := by
  refine ⟨⟨by decide, fun k h => ?_⟩, ⟨57, rfl, by decide⟩, by decide +kernel⟩
  cases h; decide


/-- Channel 6 with a step due, without one, and with one whose interval has not run; axis 192 with its inputs and four edges. -/
def step6Due : State :=
  { step6.onStep 6 fun c => { c with prof := { c.prof with kind := .velocity 100, p := 2 } } with ticks := 1000 }
theorem witness_StepEventsAndInputs :
    step6Due.driveOn 6 = true ∧ step6Due.get Reg.STP_HALT_CAUSES 6 = 0 ∧ step6Due.stepDue 6 step6Due.ticks = some false ∧
    step6Due.stepFree 6 false ≤ step6Due.ticks ∧ step6.stepDue 6 step6.ticks = none ∧ step6.stepParked 6 = false ∧
    (let s := step6Due.onStep 6 fun c => { c with lastStep := some 990 }; s.ticks < s.stepFree 6 false) ∧
    (step6.setFlag Reg.STP_CTRL_DRV_PARK 6 true).stepParked 6 = true ∧ (step6.step 6).settle = none ∧
    ((step6.onStep 6 fun c => { c with settle := some 5 }).step 6).settle = some 5 ∧
    (enabled192.axisIo 192).any (fun d => axisHas d 0 == some true && decide (clampN 100 100000 d.filt ≤ 100000)) = true ∧
    (enabled192.axisIn.get AxisIn.reset 192).level 0 = false ∧ clampN 1 1000 (step6.get Reg.STP_TIMING_FLT_FILT 6) ≤ (1000 : Fin 1001).val ∧
    (0 : Fin 1001).val < clampN 1 1000 (step6.get Reg.STP_TIMING_FLT_FILT 6) ∧ idle.axisIo 192 = none ∧
    (let s := { enabled192 with axisIn := enabled192.axisIn.put AxisIn.reset 192 { AxisIn.reset with posEdges := [4, 3, 2, 1], posChatter := true, negEdges := [1], negChatter := true } }
     (s.axisIn.get AxisIn.reset 192).posEdges = [4, 3, 2, 1] ∧ (s.axisIn.get AxisIn.reset 192).negChatter = true ∧ 4 + msTicks 50 ≤ 6250004 ∧
       s.ticks < 4 + msTicks 50) := by decide +kernel


/-- Caldera in STARTUP after the boot ROM has run, OPERATIONAL, in SAFE_FAULT; a held core. -/
def started : State := { idle with boot := { idle.boot with ranger := some 0 } }
theorem witness_FailedDiagnosticHoldsEverythingOff : started.get Reg.CAL_STATE_STATE 0 = 0 ∧ started.cal.halted = false ∧ started.boot.ranger ≠ none ∧
    (started.set Reg.CAL_STATE_STATE 0 1).get Reg.CAL_STATE_STATE 0 ≠ 2 ∧ (started.set Reg.CAL_STATE_STATE 0 2).get Reg.CAL_STATE_STATE 0 = 2 ∧
    started.hartHeld 17 = false ∧ (started.holdHart 17 true).hartHeld 17 = true ∧ (2 : Fin 9) ≠ 8 := by decide


/-- Caldera OPERATIONAL after sample 6, whose boundary is made, without a set; and each condition in it. -/
def operating : State := (idle.set Reg.CAL_STATE_STATE 0 1).onCal fun k => { k with n := 6, bound := 6, sepAt := 4 }
theorem witness_CalderaTimedCommands : (operating.onCal fun k => { k with halted := true }).get Reg.CAL_STATE_STATE 0 = 1 ∧
    (operating.onCal fun k => { k with halted := true }).cal.halted = true ∧ operating.calRuns = true ∧ operating.cal.bound ≤ operating.cal.n ∧ operating.cal.sepAt ≤ operating.cal.n ∧
    operating.boundaryDue = false ∧ operating.separationDue = false ∧ (operating.onCal fun k => { k with bound := 4 }).boundaryDue = true ∧
    (operating.setFlag Reg.SIP_STATUS_DISC_RUNNING 15 true).flag Reg.SIP_STATUS_DISC_RUNNING 15 = true ∧ (operating.calPair 15).latched = false ∧
    (let s := (operating.onTps 7 fun k => { k with due := some 9 }).setFlag Reg.TPS_CFG_EN 7 true
     (s.calTps 7).due = some 9 ∧ (s.calTps 7).t0 = none ∧ s.cal.n < 9 ∧ s.flag Reg.TPS_CFG_EN 7 = true) ∧
    ((operating.onTps 7 fun k => { k with t0 := some 6 }).calTps 7).t0 = some 6 ∧
    (let s := ((operating.setFlag Reg.SO_STATUS_OUT 15 true).setFlag Reg.SO_CFG_TEST_EN 15 true).setFlag Reg.SO_STATUS_RETEST 15 true
     s.flag Reg.SO_STATUS_OUT 15 = true ∧ s.flag Reg.SO_STATUS_TESTING 15 = false ∧ s.flag Reg.SO_STATUS_RETEST 15 = true) ∧
    (operating.onCal fun k => { k with ss1At := some 5 }).cal.ss1At = some 5 ∧
    ((operating.onCalAx 255 fun x => { x with cross := some 5, confirm := some 6 }).calAx 255).cross = some 5 ∧
    (let s := (operating.set Reg.LEVELS_LEVEL 0 (2 ^ 31)).onArm 15 fun a => { a with upReduced := some 5 }
     s.level 15 = 2 ∧ (s.calArm 15).upReduced = some 5) ∧ (operating.set Reg.LEVELS_LEVEL 0 0).level 3 = 0 := by decide +kernel


/-- A set of one drive connection without records; a frame of that connection with its CRC, and the same with another CRC. -/
def conn0 : State :=
  (operating.set Reg.CONN_STATE_STATE 0 1).onCal fun k => { k with sepAt := 6, set := some ⟨1, 0, [⟨0x0901, 0, 77⟩, ⟨0x0902, 0, 300⟩], 0⟩ }
def frame0 : List Byte := bs [0, 1, 1, 0, 5, 0, 0, 0, 9, 0, 0, 0, 44, 1, 0, 0]
theorem witness_CalderaConnectionsAndSets : operating.boundaryDue = false ∧ operating.separationDue = false ∧ operating.calRuns = true ∧ idle.calRuns = false ∧
    connIndex (uAt frame0 0 2) = some 0 ∧ connIndex 0x300 = none ∧ conn0.get Reg.CONN_STATE_STATE 0 = 1 ∧ conn0.get Reg.CONN_STATE_STATE 1 = 0 ∧
    (let f := frame0 ++ leBytes 4 (crcSafe (leBytes 4 77 ++ frame0))
     f.length = 20 ∧ uAt f 3 1 = 0 ∧ crcSafe (leBytes 4 (conn0.safe 0x0901 0) ++ f.take 16) = uAt f 16 4 ∧ uAt f 2 1 = 1 ∧ conn0.frameLenOk 0 f = true ∧
       uAt f 12 2 = conn0.safe 0x0902 0) ∧
    (let s := conn0.set Reg.CONN_STATE_STATE 0 2
     s.get Reg.CONN_STATE_STATE 0 = 2 ∧ s.cal.stoNow = [] ∧ ((s.conn 0).acceptedAt + s.connWdt 0 - s.cal.start) / 250000 = 120) ∧
    (let s := operating.onCal fun k => { k with bound := 4, waiting := some ⟨1, 0, [], 0⟩ }
     s.boundaryDue = true ∧ s.calRuns = true ∧ s.cal.waiting.isSome = true) := by decide +kernel


/-- Port 5 in a link state, with a mask of personalities and a mode; with GEYSER in UP, a node and the star RUNNING. -/
def portIn (st : Nat) : State :=
  (((idle.set Reg.PORT_STATUS_LINK_STATE 5 st).set Reg.PORT_CFG_PERS_MASK 5 3).set Reg.PORT_STATUS_MODE 5 2).setFlag Reg.PORT_CFG_EN 5 true
/-- A negotiation message with its CRC. -/
def neg (type chosen session mode : Nat) : List Byte :=
  let b := leBytes 2 0x4E47 ++ leBytes 1 1 ++ leBytes 1 type ++ leBytes 4 9 ++ leBytes 4 session ++ leBytes 1 1 ++ leBytes 1 chosen ++ leBytes 2 mode ++ zeros 44
  b ++ leBytes 4 (crc32c b)
/-- A frame of node 7. -/
def upFrame (type : Nat) (payload : List Byte) : List Byte :=
  let b := leBytes 2 0x4759 ++ leBytes 1 type ++ leBytes 1 0 ++ leBytes 2 7 ++ leBytes 2 payload.length ++ zeros 8 ++ payload
  nodeMac ++ zeros 6 ++ [0x88, 0xB5] ++ b ++ leBytes 4 (crc32c b)
def starIn (st : Nat) : State :=
  let s := ((((portIn 3).set Reg.PORT_STATUS_PERSONALITY 5 4).set Reg.STAR_STATUS_STATE 0 st).set Reg.NODE_CFG_NODE_ID 0 7).set Reg.NODE_CFG_PORT 0 5
  { (((s.setFlag Reg.NODE_CFG_USED 0 true).set Reg.NODE_STATUS_STATE 0 2).set Reg.NODE_SLOT_UP_LEN 0 8).set Reg.STAR_CFG_GUARD 0 1 with
    cell := some { (default : CellContent) with nodes := [{ (default : NodeDef) with node := 7, safeWords := 0 }] } }
theorem witness_PortsAndStar :
    (portIn 2).negValid 5 (neg 1 0 0 2) = true ∧ (portIn 2).choose 5 (uAt (neg 1 0 0 2) 12 1) (uAt (neg 1 0 0 2) 16 1) = 1 ∧
    ((portIn 2).set Reg.PORT_CFG_PERS_MASK 5 2).choose 5 1 0 = 0 ∧ uAt (neg 2 1 77 2) 3 1 = 2 ∧ uAt (neg 2 1 77 2) 13 1 = 1 ∧ uAt (neg 2 1 77 2) 8 4 = 77 ∧
    (portIn 2).negValid 5 (neg 2 1 77 2) = true ∧
    ((portIn 2).onPort 5 fun q => { q with choice := 1, session := 77, sent := true }).link 5 = 2 ∧ (portIn 1).link 5 = 1 ∧ (portIn 4).link 5 = 4 ∧
    (starIn 3).starRuns = true ∧ (starIn 3).slotOf 7 = some 0 ∧ (starIn 3).slotOf 8 = none ∧ (starIn 3).geyserPorts.contains 5 = true ∧
    (starIn 3).geyserPorts.contains 6 = false ∧ (starIn 3).pairSync = false ∧ (starIn 3).nodeState 0 = 2 ∧
    ((starIn 3).nodeDef 7).any (fun n => n.safeWords == 0) = true ∧
    (let f := upFrame 4 (zeros 8)
     (readGeyser f).any (fun g => g.crcOk && g.node == 7 && g.type == 4 && (starIn 3).lengthOk 0 g) = true ∧ f.length + 4 ≤ clampN 1518 2048 ((starIn 3).get Reg.PORT_CFG_MTU 5) ∧
       beAt f 12 2 ≠ 0x8808) ∧
    (starIn 3).inWindowOf 0 5 8 = true ∧ (starIn 3).inWindowOf 0 5 9 = false ∧
    (let f := upFrame 6 (zeros 8 ++ leBytes 4 ((starIn 1).get Reg.STAR_CFG_CYCLE 0) ++ zeros 4)
     (readGeyser f).any (fun g => g.crcOk && g.type == 6 && uAt g.payload 8 4 == (starIn 1).get Reg.STAR_CFG_CYCLE 0) = true) ∧
    (starIn 1).star.contender = none ∧ (starIn 1).star.runAt = none ∧ (starIn 1).starState = 1 := by decide +kernel


/-- Corrections within and beyond the limit of TB1; an accepted step; an instance on port 3 with and without a master; two
ETHERNET ports; a gate list; GPIOs that capture and trigger. -/
def inst1 : PtpInst := ⟨5, 1, 8, none, 0, 0, 0, 0, [], false, Tab.empty⟩
def announce5 : PtpMsg := ⟨11, 5, 1, 6, 0x21, 0, 1, 99, none⟩
def bridge : State :=
  [3, 4].foldl (fun s p => (s.set Reg.PORT_STATUS_LINK_STATE p 3).set Reg.PORT_STATUS_PERSONALITY p 1) (idle.setPtp 1 (some inst1))
theorem clockRank_le (a b c d e i : Nat) : ((((a * 256 + b) * 256 + c) * 65536 + d) * 256 + e) * 2 ^ 64 ≤ clockRank a b c d e i :=
  Nat.le_add_right _ _
theorem witness_TimeBasesAndBridge_2 : PtpMsg.rank announce5 < ownRank := by
  rw [ownRank]
  exact Nat.lt_of_lt_of_le (by decide +kernel) (clockRank_le 248 248 0xFE 0xFFFF 248 ownIdentity)
theorem witness_TimeBasesAndBridge :
    steps 1 = true ∧ steps 0 = false ∧ (1000 : Int).natAbs ≤ bridge.get Reg.JUMP_LIMIT_NS 1 ∧ bridge.get Reg.JUMP_LIMIT_NS 1 < (1001 : Int).natAbs ∧
    (let s := (bridge.acceptStep 1).setFlag Reg.TB_STATE_STEP_PENDING 1 true
     s.time.accept.get false 1 = true ∧ s.flag Reg.TB_STATE_STEP_PENDING 1 = true ∧ 0 ≤ ((s.advance 1).tb 1 : Int) + s.getS Reg.PENDING_STEP_NS 1) ∧
    bridge.ptpHolder 3 5 = some (1, inst1) ∧ bridge.ptpHolder 3 6 = none ∧ inst1.uses 2 = false ∧
    inst1.ports.getLsbD 3 = true ∧ bridge.ptpOf 2 = none ∧
    bridge.bridgeDomain 3 = 1 ∧ bridge.bridgeDomain 5 = 0 ∧
    (let f := List.replicate 60 (0xFF : Byte)
     f.length + 4 ≤ clampN 1518 2048 (bridge.get Reg.PORT_CFG_MTU 3) ∧ beAt f 12 2 ≠ 0x8808 ∧ beAt f 12 2 ≠ 0x8100 ∧ ptpIn f = none ∧ f.take 6 ≠ negotiationMac ∧ bitOf (uAt f 0 1) 0 = true ∧
       (bridge.setQueue 3 2 [⟨f, none, none, none⟩]).nextQueue 3 = some (2, bridge.tb 0)) ∧
    bridge.nextQueue 3 = none ∧
    (let s := bridge.onGate 3 fun g => { g with run := some ⟨0, [(1, 500), (2, 500)]⟩, next := 1 }
     (s.gate 3).run.isSome = true ∧ (s.gate 3).waiting = none) ∧
    (let s := (bridge.set Reg.TIME_CFG_FUNC 63 1).set Reg.TIME_CFG_FUNC 62 2
     s.gpioTimed 63 = true ∧ s.get Reg.TIME_CFG_EDGE 63 = 0 ∧ s.trigNext 62 = some 0 ∧ s.gpioTimed 62 = true) ∧
    bridge.get Reg.TXR_IDX_TXR_HEAD 7 = (0#12).toNat % clampN 16 4096 (bridge.get Reg.TXR_CTRL_TXR_SIZE 7) := by decide +kernel


/-- The units of a pair; a unit whose turn to take the token has come; a take; a missed heartbeat; digests of cycle 4. -/
theorem witness_RedundantPair : idle.pairOn = false ∧ active.pairOn = true ∧ active.token = true ∧ (pair 2 2).token = false ∧ (pair 2 2).mayTake = false ∧
    ((pair 2 2).onTwin fun t => { t with partnerHeld := true }).mayTake = true ∧ active.twin.handMb = none ∧
    (active.onTwin fun t => { t with takeAt := some 0 }).twin.takeAt = some 0 ∧ active.prio = false ∧
    (((pair 1 0).setFlag Reg.TWIN_STATE_HB_OK 0 true).onTwin fun t => { t with misses := 2 }).twin.misses = 2 ∧ (pair 1 0).get Reg.TWIN_STATE_ROLE 0 = 1 ∧
    (active.onTwin fun t => { t with digests := [(4, [1])] }).twin.digests = [(4, [1])] ∧ active.get Reg.TWIN_STATE_SYNC 0 = 2 ∧ active.twin.compare = false ∧
    active.pairSync = true ∧ idle.pairSync = false ∧ active.slotOf 7 = none ∧ active.twin.digests = [] ∧ active.twin.theirs = none ∧
    (idle.flag Reg.TWIN_LANES_LANE1_UP 0 = false) ∧ (idle.setFlag Reg.TWIN_LANES_LANE1_UP 0 true).flag Reg.TWIN_LANES_LANE1_UP 0 = true ∧
    (let s := ((active.set Reg.NODE_CFG_NODE_ID 0 7).setFlag Reg.NODE_CFG_USED 0 true)
     s.slotOf 7 = some 0 ∧ (s.node 0).closed = false ∧ (let u := s.onNode 0 fun x => { x with closed := true }
       (u.node 0).closed = true ∧ (u.node 0).record = none ∧ (u.node 0).up = none ∧ u.pairSync = true)) ∧ (pair 1 0).flag Reg.TWIN_STATE_LINK_UP 0 = true := by decide +kernel


/-- A working DRAM without damage, a sapwood region, a queue, a tracked block, remap words, a record. -/
theorem witness_MemoryErrorsAndRepair : idle.alive = true ∧ idle.parked = false ∧ idle.memErr.get 0 5 = 0 ∧ idle.sapwood 5 = false ∧
    idle.memory.lastRead = none ∧ idle.memory.prio = [] ∧
    (((idle.setFlag Reg.REGION_CFG_VALID 0 true).setFlag Reg.REGION_CFG_CLASS 0 true).set Reg.REGION_SIZE_SIZE 0 64).sapwood 5 = true ∧
    (idle.set Reg.PWR_STATE_STATE 0 2).parked = true ∧ (idle.set Reg.SCRUB_RATE_KIB_S 0 0).get Reg.SCRUB_RATE_KIB_S 0 = 0 ∧
    idle.get Reg.SCRUB_RATE_KIB_S 0 ≠ 0 ∧ idle.heartFrom (idle.get Reg.SCRUB_POS_ADDR 0) 200 = some 0 ∧ idle.heartFrom 64 200 = some 64 ∧
    (idle.onMem fun m => { m with prio := [3, 4] }).memory.prio = [3, 4] ∧ 
    (let s := idle.onMem fun m => { m with tracker := [(0, 3)] }
     3 ≤ s.blockCount 0 ∧ s.remapOf 0 = none ∧ s.remapFree 0 = some 0 ∧ s.sapwood 0 = false) ∧ idle.blockCount 7 < 3 ∧
    idle.flag Reg.REMAP_DRAM_VALID 9 = false ∧ (idle.setFlag Reg.REMAP_DRAM_VALID 9 true).flag Reg.REMAP_DRAM_VALID 9 = true ∧
    idle.memory.copying = [] ∧ (idle.onMem fun m => { m with copying := [(true, 9)] }).memory.copying = [(true, 9)] ∧ idle.memory.unsaved = [] ∧ idle.memory.adding = [] ∧ MemReader.pcie ≠ .caldera ∧
    (idle.onMem fun m => { m with unsaved := [(true, 9)] }).memory.unsaved = [(true, 9)] ∧ idle.memory.fifo = [] ∧
    (idle.onMem fun m => { m with fifo := [[1, 2, 3, 4]] }).memory.fifo = [[1, 2, 3, 4]] := by decide +kernel
theorem witness_MemoryErrorsAndRepair_2 : ∀ o, MemPlace.dram 5 ≠ .safety o := fun _ h => by cases h


/-- A listed event, a reserved one; watchdogs off and on; cores stopped, running and halted; Ranger running and halted. -/
theorem witness_EventsAndCores : idle.alive = true ∧ eventReserved 17 = false ∧ eventReserved 11 = true ∧ idle.get Reg.AC_WDT_WDT_US 3 = 0 ∧
    (idle.set Reg.AC_WDT_WDT_US 3 100).get Reg.AC_WDT_WDT_US 3 ≠ 0 ∧ idle.get Reg.AC_STATE_STATE 3 = 0 ∧
    (idle.set Reg.AC_STATE_STATE 3 2).get Reg.AC_STATE_STATE 3 = 2 ∧ (idle.set Reg.AC_STATE_STATE 3 1).get Reg.AC_STATE_STATE 3 = 1 ∧
    idle.rangerHalted = false ∧ (idle.holdHart 16 true).rangerHalted = true ∧
    (idle.setFlag Reg.EV_ROUTE_MSIX_EN 17 true).flag Reg.EV_ROUTE_MSIX_EN 17 = true ∧
    Master.geyser ≠ .ranger ∧ (∀ c, Master.geyser ≠ .core c) := by decide +kernel


/-- IDLE with flow 0 open to core 0, which runs. -/
def yard0 : State := (idle.withYard fun y => { y with flows := y.flows.put FlowCfg.off 0 ⟨true, false, 1, 0, false⟩ }).set Reg.AC_STATE_STATE 0 1

/-- An item of priority 2 of flow 0. -/
def item0 : Item := { seq := 5, pos := 0, prio := 2, flow := 0, src := 0, count := 1, arg0 := 7, arg1 := 8, born := 0, ticket := 3, waited := false }

/-- A one-shot timer at 9 µs. -/
def timer0 : Timer := { deadline := 9, period := 0, prio := 1, flow := 0, arg0 := 1, arg1 := 2, past := false }

/-- Owners, open and closed flows, a store with room and a full one, an offered item, one in progress, timers, a refill. -/
theorem witness_YarderOrdersWork : idle.alive = true ∧ ownsPort (.core 0) 0 = true ∧ ownsPort .pcie 0 = false ∧ (idle.flowCfg 0).usable = false ∧
    (yard0.flowCfg (yard0.get Reg.POST_HDR_FLOW 0)).usable = true ∧ yard0.hwReserve < yard0.yardFree ∧ yard0.yard.landing = [] ∧ yard0.twin.cut = none ∧
    (yard0.withYard fun y => { y with store := [item0] }).offer 0 = some item0 ∧ yard0.offer 0 = none ∧
    (yard0.withYard fun y => { y with progress := y.progress.put [] 0 [item0] }).yard.progress.get [] 0 = [item0] ∧ (yard0.flowCfg item0.flow).ordered = false ∧
    (let s := yard0.withYard fun y => { y with timers := ⟨[(4, some timer0)]⟩ }
     s.yard.timers.get none 4 = some timer0 ∧ s.nowUs < timer0.deadline ∧ timer0.deadline ≤ (s.waitTb 0 (1000 * max timer0.deadline ((s.tb 0 + 999) / 1000))).nowUs ∧ timer0.period = 0 ∧
     s.yard.stepFrom = none ∧ s.yard.held = [] ∧ 0 < s.yardFree) ∧ yard0.yard.timers.get none 4 = none ∧ yard0.yard.expiredAt.get 0 4 ≠ yard0.nowUs + 1 ∧
    (yard0.withYard fun y => { y with landing := [item0] }).yard.landing = [item0] ∧ yard0.parked = false ∧ yard0.hwReserve + 64 < yard0.yardFree ∧
    (yard0.withYard fun y => { y with held := [⟨1, item0, none⟩] }).yard.held = [⟨1, item0, none⟩] ∧
    (let s := yard0.withYard fun y => { y with progress := y.progress.put [] 0 [item0] }
     (flowCfgOf 2).ordered ≠ (s.flowCfg 0).ordered ∧ s.yard.flowBusy 0 = true ∧ (flowCfgOf 1).ordered = (s.flowCfg 0).ordered) := by decide +kernel

/-- The store of `yard0` with `n` items. -/
theorem yard_free (n : Nat) : (yard0.withYard fun y => { y with store := List.replicate n item0 }).yardFree = 32768 - n := by
  have h : yard0.yard.inProgress.length = 0 := by decide +kernel
  show 32768 - ((List.replicate n item0).length + yard0.yard.inProgress.length) = _
  rw [h, List.length_replicate]; rfl

/-- A store with more than half its slots in use: the reserve keeps spill-class posts out, and the Landing has room or none;
a full store. -/
theorem witness_YarderFull :
    (let s := yard0.withYard fun y => { y with store := List.replicate 30000 item0 }
     s.yardFree ≤ s.hwReserve) ∧ yard0.yard.landing.length < yard0.yard.landingSlots ∧
    (yard0.withYard fun y => { y with landingSlots := 0 }).yard.landingSlots ≤ 0 ∧
    (yard0.withYard fun y => { y with store := List.replicate 32768 item0 }).yardFree = 0 := by
  refine ⟨?_, by decide +kernel, by decide +kernel, by rw [yard_free]⟩
  show (yard0.withYard fun y => { y with store := List.replicate 30000 item0 }).yardFree ≤ yard0.hwReserve
  rw [yard_free]; decide +kernel


/-- Nothing attached, a debug module and a port attached; a halted core, Ranger, engine; SERVICE with a free slot and an enrolled one. -/
theorem witness_TapDebugAndKeys : idle.alive = true ∧ idle.dbg.dm = false ∧ idle.dbg.jcePort = false ∧ (idle.onDbg fun d => { d with dm := true }).dbg.dm = true ∧
    (idle.onDbg fun d => { d with jcePort := true }).dbg.jcePort = true ∧ (idle.set Reg.AC_STATE_STATE 3 2).get Reg.AC_STATE_STATE 3 = 2 ∧
    idle.get Reg.AC_STATE_STATE 3 ≠ 2 ∧ idle.rangerHalted = false ∧ (idle.holdHart 16 true).rangerHalted = true ∧ idle.hartHeld 17 = false ∧
    (idle.eng 5).debugHeld = false ∧ ((idle.onEng 5 fun e => { e with debugHeld := true }).eng 5).debugHeld = true ∧
    (inMode .service).mode.mode = .service ∧ (inMode .service).flash.otpHash.get none 2 = none ∧ (inMode .service).flash.otpRevoked.getLsbD 1 = false ∧
    (((inMode .service).onFlash fun f => { f with otpHash := ⟨[(2, some 7)]⟩ }).flash.otpHash.get none 2).isSome = true ∧ idle.mode.mode ≠ .service := by decide +kernel


/-- A queue of one command, an empty one; no row of the table has bits. -/
theorem witness_StepRunsFront : { idle with pending := [Instr.tapReset] }.pending = [.tapReset] ∧ idle.pending = [] ∧ decodeTableWord 32 5 = none := by decide +kernel


/-- A queue of three commands of different kinds. -/
theorem witness_QueueDrainsInOrder : ((stepsFrom 2 { idle with pending := [.tapReset, .remapCopyEnd, .loadWindowEnd] }).map fun t => t.pending) = some [.loadWindowEnd] := by decide +kernel


/-- A held device; a command that it ignores; DORMANT. -/
theorem witness_HoldIgnoresCommands : { idle with alive := false }.alive = false ∧ actsInHold .remapCopyEnd = false ∧ actsInHold .tapReset = true ∧
    { idle with power := { idle.power with dormant := true } }.power.dormant = true := by decide +kernel


/-- One element of each range of the statement. -/
theorem witness_ResetState : State.reset.get Reg.PWM_STATUS_FORCED 95 = 1 ∧ State.reset.get Reg.EPOCH 0 = 1 ∧ State.reset.tb 7 = 0 := by decide +kernel


/-- A memory in canonical form that lists a byte, damage and a point; errors of one bit. -/
theorem witness_MemoryKeepsCanonicalForm : Memory.wf { idle with mem := ⟨[(5, 7)]⟩, memErr := ⟨[(9, 1)]⟩, points := ⟨[(3, 1)]⟩ } = true ∧
    (∀ x ∈ [(⟨0, 1, 0, 3⟩ : MemErr)], x.kind ≠ 2) := by decide +kernel


/-- A PTP message with every field 0. -/
def ptp0 : PtpMsg := { kind := 0, domain := 0, prio1 := 0, clockClass := 0, accuracy := 0, variance := 0, prio2 := 0, gm := 0, offset := none }

/-- What the well-formedness checks refuse: one byte string too long for each of them. -/
theorem test_wf_refuses_lengths :
    Instr.wf (.managementDatagram 0 ⟨false, false, 0, 41690, List.replicate 9001 0⟩) = false ∧
    Instr.wf (.safetyFrame (List.replicate 2049 0) true) = false ∧ Instr.wf (.negotiationMessage 0 0 (List.replicate 1501 0)) = false ∧
    Instr.wf (.uplinkFrame 0 0 true (List.replicate 2049 0)) = false ∧ Instr.wf (.coldstartFrame 0 true (List.replicate 2049 0)) = false ∧
    Instr.wf (.bridgeFrame 0 true (List.replicate 9019 0)) = false ∧ Instr.wf (.inputMessage 0 false (List.replicate 2049 0)) = false := by
  simp only [Instr.wf, List.length_replicate]; decide

/-- One ill-formed command for each check of a range. -/
theorem test_wf_refuses :
    [Instr.codeWordRead .caldera (.safety 0x40000) 1 false [], .calStepEnd 0 (2 ^ 26), .calStepEnd 0 (-(2 ^ 26) - 1), .tbCorrection 0 (2 ^ 63),
     .ptpMessage 0 { ptp0 with domain := 128 }, .ptpMessage 0 { ptp0 with prio1 := 256 }, .ptpMessage 0 { ptp0 with clockClass := 256 },
     .ptpMessage 0 { ptp0 with accuracy := 256 }, .ptpMessage 0 { ptp0 with variance := 65536 }, .ptpMessage 0 { ptp0 with prio2 := 256 }].map
      Instr.wf = List.replicate 10 false := by
  decide +kernel

/-- The same for the twin link and the memories. -/
theorem test_wf_refuses_2 :
    [Instr.cycleMessage 0 8 0 false false (List.replicate 32 0), .cycleMessage 0 0 3 false false (List.replicate 32 0),
     .cycleMessage 0 0 0 false false [], .acceptMessage 0 true (2 ^ 32), .commandMessage (.command 0 65536 0 []), .commandMessage (.window 0 (2 ^ 20) 0),
     .commandMessage (.window 0 0 (2 ^ 64)), .commandMessage (.handover 0), .resyncMessage 0 (2 ^ 32) [], .codeWordRead .ranger (.dram (2 ^ 33)) 1 false [],
     .codeWordRead .ranger (.csram 0x4000000) 1 false [], .codeWordRead .ranger (.group 169 0) 1 false [], .codeWordRead .ranger (.l1 16 0) 1 false [],
     .codeWordRead .ranger (.dram 0) 0 false [], .codeWordRead .ranger (.dram 0) 1 false [⟨64, 1, 0, 0⟩], .scrubBlock [⟨0, 0, 0, 0⟩],
     .priorityScrub [⟨0, 4, 0, 0⟩], .localScrub 88 0 [⟨0, 1, 0, 32⟩], .localScrub 88 0x8000 [], .remapAuto (.group 0 0x200000),
     .remapValidWrite .ranger true 256 0 true, .remapValidWrite .ranger false 1352 0 true, .remapValidWrite .ranger true 0 (2 ^ 27) true].map Instr.wf =
      List.replicate 23 false := by
  decide +kernel

/-- Commands at the limits are well formed. -/
theorem test_wf_accepts :
    [Instr.codeWordRead .caldera (.safety 0x3FFFF) 1 false [], .calStepEnd 0 (-(2 ^ 26)), .ptpMessage 0 { ptp0 with domain := 127 }, .cycleMessage 0 7 2 true true (List.replicate 32 0),
     .acceptMessage 255 true (2 ^ 32 - 1), .codeWordRead .ranger (.l1 15 0x1FFFF) 64 true [⟨63, 3, 0, 31⟩], .remapValidWrite .ranger false 1351 0 true,
     .tapReset, .jceAdd 63].all Instr.wf = true := by
  decide +kernel

/-- `IDCODE` and `BYPASS` load 0x01 and 0xFF (R725), a TAP reset the identity. -/
theorem test_tap : (match exec .bypass idle with | .next t => t.dbg.insn | _ => 0) = 0xFF ∧ (match exec .tapReset idle with | .next t => t.dbg.insn | _ => 0) = 1 := by
  decide +kernel

/-- On an empty queue one tick passes. -/
theorem test_step_idle_ticks : (match step idle with | .next t => t.ticks | _ => 0) = 1 := by decide +kernel

/-- The queue is first in, first out. -/
theorem test_queue_order : (match step { idle with pending := [.bypass, .tapReset] } with | .next t => (t.dbg.insn, t.pending) | _ => (0, [])) = (0xFF, [.tapReset]) := by
  decide +kernel

/-- R413, R417: a write of `ENABLE` acknowledges a driver fault whose input is inactive, and one that is active stays. -/
theorem test_enable_acknowledges_drvflt :
    ((step6.set Reg.STP_HALT_CAUSES 6 16).writeEnable 6 true).get Reg.STP_HALT_CAUSES 6 = 0 ∧
    (((step6.set Reg.STP_HALT_CAUSES 6 16).setFlag Reg.STP_STATUS_FLT 6 true).writeEnable 6 true).get Reg.STP_HALT_CAUSES 6 = 16 := by
  decide

end Sys2Proof.Machine.Tests
end

section
/-!
What raising an event leaves at its targets (R648).
-/
namespace Sys2Proof.Machine

theorem bitOf_eq_testBit (x k : Nat) : bitOf x k = x.testBit k := by
  rw [Nat.testBit_eq_decide_div_mod_eq]; rfl

/-- Adding the power of a bit that is clear sets the bit, also in a field that is wide enough to hold it. -/
theorem bitOf_add_two_pow {x k w : Nat} (hk : k < w) (h : bitOf x k = false) : bitOf ((x + 2 ^ k) % 2 ^ w) k = true := by
  rw [bitOf_eq_testBit] at h ⊢
  rw [Nat.testBit_mod_two_pow, Nat.add_comm, Nat.testBit_two_pow_add_eq, h]
  simp [hk]

variable (s : State)

@[simp] theorem State.get_msix (v : Nat) (f : Field) (i : Nat) : (s.msix v).get f i = s.get f i := by
  unfold State.msix
  split
  · split <;> rfl
  · rfl

/-- After the host's part of raising an event, the event is pending for the host where its route has MSI-X. -/
theorem State.hostPend_raiseHost {n : Nat} (h : s.flag Reg.EV_ROUTE_MSIX_EN n = true) :
    bitOf ((s.raiseHost n).get Reg.HOST_PEND_PEND (n / 64)) (n % 64) = true := by
  unfold State.raiseHost
  rw [if_pos h]
  split
  · next hp => rwa [State.get_count_other _ (by decide)]
  · next hp =>
    rw [State.get_msix, State.get_set_same]
    exact bitOf_add_two_pow (Nat.mod_lt _ (by decide)) (Bool.eq_false_iff.mpr hp)

/-- After a core's part of raising an event, the event is pending for the core where its route names it. -/
theorem State.acPend_raiseCore {n c : Nat} (h : bitOf (s.get Reg.EV_ROUTE_CORE_MASK n) c = true) :
    bitOf ((s.raiseCore n c).get Reg.AC_PEND_PEND (4 * c + n / 64)) (n % 64) = true := by
  unfold State.raiseCore
  rw [if_pos h]
  split
  · next hp => rwa [State.get_count_other _ (by decide)]
  · next hp =>
    rw [State.get_out, State.get_set_same]
    exact bitOf_add_two_pow (Nat.mod_lt _ (by decide)) (Bool.eq_false_iff.mpr hp)

/-- A core's part of raising an event leaves the pending bits of the host and of the other cores alone. -/
theorem State.get_raiseCore {f : Field} {i n c : Nat} (hm : Reg.EV_MERGED_COUNT.id ≠ f.id)
    (hp : Reg.AC_PEND_PEND.id ≠ f.id ∨ f = Reg.AC_PEND_PEND ∧ 4 * c + n / 64 ≠ i) :
    (s.raiseCore n c).get f i = s.get f i := by
  unfold State.raiseCore
  split
  · split
    · exact State.get_count_other _ hm _ _ _
    · rw [State.get_out]
      obtain hp | ⟨rfl, hi⟩ := hp
      · exact State.get_set_other _ hp _ _ _
      · exact State.get_set_index _ _ hi _
  · rfl

/-- Raising an event for several cores leaves it pending for each of them that the route names, and for those for which it was
pending before. -/
theorem State.acPend_raiseCores {n c : Nat} (cs : List Nat) (hm : bitOf (s.get Reg.EV_ROUTE_CORE_MASK n) c = true)
    (hp : c ∈ cs ∨ bitOf (s.get Reg.AC_PEND_PEND (4 * c + n / 64)) (n % 64) = true) :
    bitOf ((cs.foldl (fun s c => s.raiseCore n c) s).get Reg.AC_PEND_PEND (4 * c + n / 64)) (n % 64) = true := by
  induction cs generalizing s with
  | nil => exact hp.resolve_left List.not_mem_nil
  | cons d cs ih =>
    refine ih _ (by rwa [State.get_raiseCore _ (by decide) (.inl (by decide))]) ?_
    by_cases hd : d = c
    · subst hd
      exact .inr (s.acPend_raiseCore hm)
    · rw [State.get_raiseCore _ (by decide) (.inr ⟨rfl, by omega⟩)]
      exact hp.imp_left fun hp => (List.mem_cons.mp hp).resolve_left (Ne.symm hd)

theorem State.get_raiseCores {f : Field} (hm : Reg.EV_MERGED_COUNT.id ≠ f.id) (hp : Reg.AC_PEND_PEND.id ≠ f.id)
    (n i : Nat) (cs : List Nat) : (cs.foldl (fun s c => s.raiseCore n c) s).get f i = s.get f i := by
  induction cs generalizing s with
  | nil => rfl
  | cons c cs ih => exact (ih _).trans (State.get_raiseCore s hm (.inl hp))

/-- What the host and the cores see of a raised event is what their own parts of raising it leave. -/
theorem State.get_raise_eq_raiseCores (n : Nat) (f : Field) (i : Nat) :
    (s.raise n).get f i = ((List.range 16).foldl (fun s c => s.raiseCore n c) (s.raiseHost n)).get f i := by
  rw [State.raise]
  split <;> split <;> rfl

/-- A raised event shows at every target of its route (R648). -/
theorem State.signalled_raise (n : Nat) : s.Signalled n (s.raise n) := by
  refine ⟨fun h => ?_, fun c hc h => ?_⟩
  · rw [State.get_raise_eq_raiseCores, State.get_raiseCores _ (by decide) (by decide)]
    exact s.hostPend_raiseHost h
  · rw [State.get_raise_eq_raiseCores]
    refine State.acPend_raiseCores _ _ ?_ (.inl (List.mem_range.mpr hc))
    rwa [(State.raiseFrame_raiseHost s n).1 _ _ rfl]

/-- An event shows in `t` as well where `t` keeps the pending bits and the route was the same. -/
theorem State.Signalled.of_get {s s' t t' : State} {n : Nat} (h : s.Signalled n t)
    (he : s.get Reg.EV_ROUTE_MSIX_EN n = s'.get Reg.EV_ROUTE_MSIX_EN n)
    (hm : s.get Reg.EV_ROUTE_CORE_MASK n = s'.get Reg.EV_ROUTE_CORE_MASK n)
    (hh : ∀ i, t'.get Reg.HOST_PEND_PEND i = t.get Reg.HOST_PEND_PEND i)
    (hc : ∀ i, t'.get Reg.AC_PEND_PEND i = t.get Reg.AC_PEND_PEND i) : s'.Signalled n t' := by
  simp only [State.Signalled, State.flag] at h ⊢
  simpa only [he, hm, hh, hc] using h

end Sys2Proof.Machine
end

section
/-!
The point window of BAR 2 (R86, R89, R90).
-/
namespace Sys2Proof.Machine

variable (s : State)

/-- What each refused access to BAR 2 leaves behind: no point changes, the refusal is counted, its point recorded, event 50
raised (R89). -/
structure State.WindowRefused (s : State) (p : Nat) (t : State) : Prop where
  points : t.points = s.points
  counted : t.get Reg.WIN_DENIED_COUNT 0 = min (s.get Reg.WIN_DENIED_COUNT 0 + 1) 0xFFFF
  recorded : t.get Reg.WIN_LAST_POINT 0 = p
  signalled : s.Signalled 50 t

theorem State.windowRefused_windowDenied {p : Nat} (hp : p < 2 ^ 20) : s.WindowRefused p (s.windowDenied p) where
  points := by simp [State.windowDenied, State.count]
  counted := by
    rw [State.windowDenied, State.get_raise _ rfl, State.get_set_other _ (by decide), State.get_count_same]; rfl
  recorded := by
    rw [State.windowDenied, State.get_raise _ rfl, State.get_set_same]; exact Nat.mod_eq_of_lt hp
  signalled := by
    refine (State.signalled_raise _ 50).of_get ?_ ?_ (fun _ => rfl) (fun _ => rfl) <;>
      rw [State.get_set_other _ (by decide), State.get_count_other _ (by decide)]

/-- Counting a refused point write as well leaves the refusal as it is. -/
theorem State.WindowRefused.pointDenied {s t : State} {p : Nat} (h : s.WindowRefused p t) (m : Master) (q : Nat) :
    s.WindowRefused p (t.pointDenied m q) := by
  have other : ∀ (f : Field) (i : Nat), Reg.PT_DENIED_TOTAL_COUNT.id ≠ f.id → Reg.PT_LAST_DENIED_POINT.id ≠ f.id →
      Reg.PT_LAST_DENIED_MASTER.id ≠ f.id → (t.pointDenied m q).get f i = t.get f i := fun f i h1 h2 h3 => by
    rw [State.pointDenied, State.get_set_other _ h3, State.get_set_other _ h2, State.get_count_other _ h1]
  exact ⟨h.points, (other _ _ (by decide) (by decide) (by decide)).trans h.counted,
    (other _ _ (by decide) (by decide) (by decide)).trans h.recorded,
    h.signalled.of_get rfl rfl (fun _ => other _ _ (by decide) (by decide) (by decide))
      fun _ => other _ _ (by decide) (by decide) (by decide)⟩

theorem State.windowRefused_windowWriteDenied {p : Nat} (hp : p < 2 ^ 20) : s.WindowRefused p (s.windowWriteDenied p) :=
  (s.windowRefused_windowDenied hp).pointDenied .pcie p

theorem exec_windowRead (p : BitVec 20) (s : State) : exec (.windowRead p) s = s.run fun s => s.windowRead p.toNat := rfl

theorem exec_windowWrite (p : BitVec 20) (v : Word64) (whole : Bool) (s : State) :
    exec (.windowWrite p v whole) s = s.run fun s => s.windowWrite p.toNat v.toNat whole := rfl

/-- A row for halves names the point by the address of its first byte. -/
theorem pointByte_base {a p : Nat} (h : a = 8 * p) : a / 8 * 8 = 8 * p := by omega

theorem exec_splitReadLow {a : BitVec 40} {p : Nat} (h : a.toNat = 8 * p) (m : Master) (s : State) :
    exec (.splitReadLow m a) s = s.run fun s => s.halfRead m (8 * p + 0) := by
  rw [← pointByte_base h]; rfl

theorem exec_splitReadHigh {a : BitVec 40} {p : Nat} (h : a.toNat = 8 * p) (m : Master) (s : State) :
    exec (.splitReadHigh m a) s = s.run fun s => s.halfRead m (8 * p + 4) := by
  rw [← pointByte_base h]; rfl

theorem exec_pointHalfWriteLow {a : BitVec 40} {p : Nat} (h : a.toNat = 8 * p) (m : Master) (v : Word32) (s : State) :
    exec (.pointHalfWriteLow m a v) s = s.run fun s => s.halfWrite m (8 * p + 0) v.toNat := by
  rw [← pointByte_base h]; rfl

theorem exec_pointHalfWriteHigh {a : BitVec 40} {p : Nat} (h : a.toNat = 8 * p) (m : Master) (v : Word32) (s : State) :
    exec (.pointHalfWriteHigh m a v) s = s.run fun s => s.halfWrite m (8 * p + 4) v.toNat := by
  rw [← pointByte_base h]; rfl

/-- A command whose effect is a refused access that then answers `b` completes with that refusal and answer. -/
theorem completes_windowRefused {c : Instr} {f : State → State} {u : State} {p : Nat} {b : BusResp} (ha : s.alive = true)
    (hc : exec c s = s.run f) (hf : f s = u.answer b) (hu : s.WindowRefused p u) :
    Completes c s fun t => t.bus = b ∧ t.points = s.points ∧
      t.get Reg.WIN_DENIED_COUNT 0 = min (s.get Reg.WIN_DENIED_COUNT 0 + 1) 0xFFFF ∧
      t.get Reg.WIN_LAST_POINT 0 = p ∧ s.Signalled 50 t := by
  refine ⟨s.beside f, hc.trans (State.run_alive ha f), ?_⟩
  simp only [State.beside, hf]
  exact ⟨rfl, hu.points, hu.counted, hu.recorded, hu.signalled⟩

theorem Completes.imp {c : Instr} {s : State} {P Q : State → Prop} (h : Completes c s P) (hpq : ∀ t, P t → Q t) :
    Completes c s Q :=
  let ⟨t, ht, hp⟩ := h
  ⟨t, ht, hpq t hp⟩

/-- The host's address of a point lies in its window, at the first byte of the point. -/
theorem windowPoint_low {p : Nat} (hp : p < 2 ^ 20) : windowPoint (halfAddr .pcie (8 * p)) = some (p, 0) := by
  simp only [windowPoint, halfAddr, if_true]
  rw [if_pos (by omega)]
  congr 2 <;> omega

theorem windowPoint_high {p : Nat} (hp : p < 2 ^ 20) : windowPoint (halfAddr .pcie (8 * p + 4)) = some (p, 4) := by
  simp only [windowPoint, halfAddr, if_true]
  rw [if_pos (by omega)]
  congr 2 <;> omega

theorem State.halfRead_pcie_low {p : Nat} (hp : p < 2 ^ 20) : s.halfRead .pcie (8 * p) = s.pointLow .pcie p := by
  rw [State.halfRead, if_pos rfl, windowPoint_low hp]; rfl

theorem State.halfRead_pcie_high {p : Nat} (hp : p < 2 ^ 20) : s.halfRead .pcie (8 * p + 4) = s.pointHigh .pcie p := by
  rw [State.halfRead, if_pos rfl, windowPoint_high hp]; rfl

theorem State.halfWrite_pcie_low {p : Nat} (hp : p < 2 ^ 20) (v : Nat) :
    s.halfWrite .pcie (8 * p) v = s.pointHoldLow .pcie p v := by
  rw [State.halfWrite, if_pos rfl, windowPoint_low hp]; rfl

theorem State.halfWrite_pcie_high {p : Nat} (hp : p < 2 ^ 20) (v : Nat) :
    s.halfWrite .pcie (8 * p + 4) v = s.pointCommitHigh .pcie p v := by
  rw [State.halfWrite, if_pos rfl, windowPoint_high hp]; rfl

/-- Reads without a read right: a whole point, and either half, answer all ones (R89). -/
theorem State.windowRead_denied {p : Nat} (h : s.grantRight p = 0) :
    s.windowRead p = (s.windowDenied p).answer (.data (2 ^ 64 - 1)) := if_pos h

theorem State.halfRead_denied {p : Nat} (hp : p < 2 ^ 20) (h : s.grantRight p = 0) {o : Nat} (ho : o = 0 ∨ o = 4) :
    s.halfRead .pcie (8 * p + o) = (s.windowDenied p).answer (.data (2 ^ 32 - 1)) := by
  obtain rfl | rfl := ho
  · exact (s.halfRead_pcie_low hp).trans (if_pos ⟨rfl, h⟩)
  · exact (s.halfRead_pcie_high hp).trans (if_pos ⟨rfl, h⟩)

/-- Writes that may not take effect: of a whole point, and of either half (R89, R90). -/
theorem State.windowWrite_denied {p : Nat} {whole : Bool} (h : whole = false ∨ s.windowMay p = false) (v : Nat) :
    s.windowWrite p v whole = (s.windowWriteDenied p).answer .done := by
  rw [State.windowWrite, if_neg]
  obtain h | h := h <;> simp [h]

theorem State.halfWrite_denied {p : Nat} (hp : p < 2 ^ 20) (h : s.windowMay p = false) {o : Nat} (ho : o = 0 ∨ o = 4)
    (v : Nat) : s.halfWrite .pcie (8 * p + o) v = (s.windowWriteDenied p).answer .done := by
  obtain rfl | rfl := ho
  · exact (s.halfWrite_pcie_low hp v).trans (if_pos ⟨rfl, h⟩)
  · exact (s.halfWrite_pcie_high hp v).trans (if_pos ⟨rfl, h⟩)

/-- A read with a right of a point that is not poisoned answers its value (R89). -/
theorem State.windowRead_granted {p : Nat} (h : s.grantRight p ≠ 0) (hp : s.pointPoisoned p = false) :
    s.windowRead p = s.answer (.data (s.point p)) := by
  rw [State.windowRead, if_neg h, hp]; rfl

/-- A whole write with a right stores the point outside a synchronised pair (R86). -/
theorem State.windowWrite_granted {p : Nat} (h : s.windowMay p = true) (hs : s.pairSync = false) (v : Nat) :
    s.windowWrite p v true = (s.putPoint p v).answer .done := by
  simp [State.windowWrite, State.windowStore, h, hs]

theorem State.point_putPoint (p q v : Nat) :
    (s.putPoint p v).point q = if p = q then v % 2 ^ 64 else s.point q := by
  rw [State.point, State.putPoint_points_get]
  split
  · exact BitVec.toNat_ofNat v 64
  · rfl

/-- Settles O15: every refused access is `windowDenied` or `windowWriteDenied`, which count, record and signal. -/
theorem windowAccessRules : Obligations.WindowAccessRules := by
  intro s p v ha
  have hp : p.toNat < 2 ^ 20 := p.isLt
  have read := s.windowRefused_windowDenied hp
  have write := s.windowRefused_windowWriteDenied hp
  refine ⟨fun h => ?_, fun whole h => ?_, ?_, ?_, fun h hq => ?_, fun h hs => ?_⟩
  · exact completes_windowRefused s ha (exec_windowRead p s) (s.windowRead_denied h) read
  · exact (completes_windowRefused s ha (exec_windowWrite p v whole s) (s.windowWrite_denied h _) write).imp fun _ ht => ht.2
  · rintro c a hpa h (rfl | rfl)
    · exact completes_windowRefused s ha (exec_splitReadLow hpa _ s) (s.halfRead_denied hp h (.inl rfl)) read
    · exact completes_windowRefused s ha (exec_splitReadHigh hpa _ s) (s.halfRead_denied hp h (.inr rfl)) read
  · rintro c a w hpa h (rfl | rfl)
    · exact (completes_windowRefused s ha (exec_pointHalfWriteLow hpa _ w s) (s.halfWrite_denied hp h (.inl rfl) _)
        write).imp fun _ ht => ht.2
    · exact (completes_windowRefused s ha (exec_pointHalfWriteHigh hpa _ w s) (s.halfWrite_denied hp h (.inr rfl) _)
        write).imp fun _ ht => ht.2
  · rw [exec_windowRead, State.run_alive ha, State.beside, State.windowRead_granted s h hq]; rfl
  · refine ⟨_, (exec_windowWrite p v true s).trans (State.run_alive ha _), ?_⟩
    simp only [State.beside, State.windowWrite_granted s h hs]
    refine ⟨?_, fun q hq => ?_, rfl, rfl⟩
    · exact (s.point_putPoint _ _ _).trans ((if_pos rfl).trans (Nat.mod_eq_of_lt v.isLt))
    · exact (s.point_putPoint _ _ _).trans (if_neg hq.symm)

end Sys2Proof.Machine
end

section
/-!
SUPPORT. What R54 speaks of, `EPOCH`, the states of the mailboxes and the doorbells that wait, as one view of the state, and
the operations that keep it: every one that a reset goes through, but the reset itself.
-/
namespace Sys2Proof.Machine

/-- The fields `EPOCH` and `STATE` of the mailboxes. -/
def Reg.mail (f : Field) : Bool := f.id == Reg.EPOCH.id || f.id == Reg.MB_STATE_STATE.id

/-- The rows of `EPOCH` and of the mailbox states, and the doorbells that wait. -/
structure MailView where
  epoch : Tab Nat
  states : Tab Nat
  doorbells : List Nat

/-- What R54 speaks of in a state. -/
def State.mail (s : State) : MailView where
  epoch := s.regs.get Tab.empty Reg.EPOCH.id
  states := s.regs.get Tab.empty Reg.MB_STATE_STATE.id
  doorbells := s.host.doorbells

variable (s : State)

/-- The two fields are alone with their numbers in the register map. -/
theorem Reg.mail_eq_false {f : Field} (hf : f ∈ Reg.all) (he : f ≠ Reg.EPOCH) (hm : f ≠ Reg.MB_STATE_STATE) :
    Reg.mail f = false := by
  have key : (Reg.all.all fun f => !Reg.mail f || f == Reg.EPOCH || f == Reg.MB_STATE_STATE) = true := by decide +kernel
  simpa [he, hm] using List.all_eq_true.mp key f hf

/-- Whatever else changes, the view depends on the registers and the waiting doorbells only. The lemmas below cite this one
rather than `rfl`: `simp` cannot use a lemma proved by `rfl` for the hypothesis of `State.mail_foldl`. -/
theorem State.mail_congr {s t : State} (hr : t.regs = s.regs) (hd : t.host.doorbells = s.host.doorbells) :
    t.mail = s.mail := by
  rw [State.mail, hr, hd]; rfl

theorem State.mail_iterate {f : State → State} (h : ∀ s, (f s).mail = s.mail) (n : Nat) :
    (Sys2Proof.iterate f n s).mail = s.mail := by
  induction n generalizing s with
  | zero => rfl
  | succ n ih => exact (ih _).trans (h s)

theorem State.mail_foldl_mem {α : Type} {f : State → α → State} {l : List α}
    (h : ∀ x ∈ l, ∀ s, (f s x).mail = s.mail) :
    (l.foldl f s).mail = s.mail := by
  induction l generalizing s with
  | nil => rfl
  | cons x l ih => exact (ih _ fun y hy => h y (List.mem_cons_of_mem _ hy)).trans (h x List.mem_cons_self s)

@[simp] theorem State.mail_foldl {α : Type} {f : State → α → State} (h : ∀ s x, (f s x).mail = s.mail)
    (l : List α) : (l.foldl f s).mail = s.mail := s.mail_foldl_mem fun x _ s => h s x

@[simp] theorem State.mail_ite (c : Prop) [Decidable c] (t : State) :
    (if c then s else t).mail = if c then s.mail else t.mail := apply_ite _ _ _ _

/-! ### Register fields, events, logs and points -/

@[simp] theorem State.mail_set {f : Field} (h : Reg.mail f = false) (i v : Nat) : (s.set f i v).mail = s.mail := by
  simp only [Reg.mail, Bool.or_eq_false_iff, beq_eq_false_iff_ne] at h
  simp only [State.mail, State.set, Tab.get_put_other _ _ h.1, Tab.get_put_other _ _ h.2]

@[simp] theorem State.mail_setFlag {f : Field} (h : Reg.mail f = false) (i : Nat) (b : Bool) :
    (s.setFlag f i b).mail = s.mail := s.mail_set h i _

@[simp] theorem State.mail_setS {f : Field} (h : Reg.mail f = false) (i : Nat) (x : Int) :
    (s.setS f i x).mail = s.mail := s.mail_set h i _

@[simp] theorem State.mail_setBit {f : Field} (h : Reg.mail f = false) (k i : Nat) (b : Bool) :
    (s.setBit f k i b).mail = s.mail := s.mail_set h k _

@[simp] theorem State.mail_count {f : Field} (h : Reg.mail f = false) (i n : Nat) :
    (s.count f i n).mail = s.mail := s.mail_set h i _

@[simp] theorem State.mail_out (o : Out) : (s.out o).mail = s.mail := State.mail_congr rfl rfl

@[simp] theorem State.mail_tookFree : (s.tookFree).mail = s.mail := State.mail_congr rfl rfl

@[simp] theorem State.mail_msix (v : Nat) : (s.msix v).mail = s.mail := by
  rw [State.msix]
  split
  · split <;> rfl
  · rfl

@[simp] theorem State.mail_raiseHost (n : Nat) : (s.raiseHost n).mail = s.mail := by
  simp +decide [State.raiseHost]

@[simp] theorem State.mail_raiseCore (n c : Nat) : (s.raiseCore n c).mail = s.mail := by
  simp +decide [State.raiseCore]

@[simp] theorem State.mail_raise (n : Nat) : (s.raise n).mail = s.mail := by
  simp +decide [State.raise]

@[simp] theorem State.mail_raiseIf (b : Bool) (n : Nat) : (s.raiseIf b n).mail = s.mail := by
  simp +decide [State.raiseIf]

@[simp] theorem State.mail_log (k code source : Nat) (data : List Byte) :
    (s.log k code source data).mail = s.mail := State.mail_congr rfl rfl

@[simp] theorem State.mail_debugLog (code source pc : Nat) : (s.debugLog code source pc).mail = s.mail := by
  simp +decide [State.debugLog]

@[simp] theorem State.mail_change (code status link mailbox detail : Nat) (text : List Byte) :
    (s.change code status link mailbox detail text).mail = s.mail := by
  rw [State.change, State.mail_raiseIf]; rfl

@[simp] theorem State.mail_healed (a n : Nat) : (s.healed a n).mail = s.mail := State.mail_congr rfl rfl

@[simp] theorem State.mail_putPoint (p : Nat) (v : Nat) : (s.putPoint p v).mail = s.mail := State.mail_congr rfl rfl

@[simp] theorem State.mail_onFlash (f : FlashState → FlashState) :
    (s.onFlash f).mail = s.mail := State.mail_congr rfl rfl

/-! ### PWM pairs and step channels -/

@[simp] theorem State.mail_showCauses (p : Nat) : (s.showCauses p).mail = s.mail := by
  simp +decide [State.showCauses]

@[simp] theorem State.mail_onPair (p : Nat) (f : PwmPair → PwmPair) :
    (s.onPair p f).mail = s.mail := State.mail_congr rfl rfl

@[simp] theorem State.mail_hOff (p t : Nat) : (s.hOff p t).mail = s.mail := by
  simp +decide [State.hOff]

@[simp] theorem State.mail_lOn (p t : Nat) : (s.lOn p t).mail = s.mail := by
  simp +decide [State.lOn]

@[simp] theorem State.mail_lOff (p : Nat) : (s.lOff p).mail = s.mail := by
  simp +decide [State.lOff]

@[simp] theorem State.mail_enterSafe (p t : Nat) : (s.enterSafe p t).mail = s.mail := by
  simp +decide [State.enterSafe]

@[simp] theorem State.mail_judgeCauses (p t : Nat) : (s.judgeCauses p t).mail = s.mail := by
  simp +decide [State.judgeCauses]

@[simp] theorem State.mail_setForce (p t : Nat) (on : Bool) : (s.setForce p t on).mail = s.mail := by
  simp +decide [State.setForce]

@[simp] theorem State.mail_setPairCaldera (p t : Nat) (on : Bool) : (s.setPairCaldera p t on).mail = s.mail := by
  simp +decide [State.setPairCaldera]

@[simp] theorem State.mail_setPairEngine (p t : Nat) (on : Bool) : (s.setPairEngine p t on).mail = s.mail := by
  simp +decide [State.setPairEngine]

@[simp] theorem State.mail_onStep (ch : Nat) (f : StpState → StpState) :
    (s.onStep ch f).mail = s.mail := State.mail_congr rfl rfl

@[simp] theorem State.mail_stepRest (ch : Nat) : (s.stepRest ch).mail = s.mail := by
  simp +decide [State.stepRest]

@[simp] theorem State.mail_haltBegins (ch : Nat) : (s.haltBegins ch).mail = s.mail := by
  cases h : (s.step ch).cmd <;> simp +decide [State.haltBegins, h]

@[simp] theorem State.mail_showStep (ch : Nat) : (s.showStep ch).mail = s.mail := by
  simp +decide [State.showStep]

@[simp] theorem State.mail_setHalt (ch bit : Nat) (on : Bool) : (s.setHalt ch bit on).mail = s.mail := by
  simp +decide [State.setHalt]

@[simp] theorem State.mail_indexesLost (l : List Nat) : (s.indexesLost l).mail = s.mail := by
  simp +decide [State.indexesLost]

/-! ### Caldera: outputs, STO and what its decisions bring -/

@[simp] theorem State.mail_onCal (f : CalState → CalState) : (s.onCal f).mail = s.mail := State.mail_congr rfl rfl

@[simp] theorem State.mail_onOut (n : Nat) (f : CalOut → CalOut) :
    (s.onOut n f).mail = s.mail := State.mail_congr rfl rfl

@[simp] theorem State.mail_onCalAx (a : Nat) (f : CalAxis → CalAxis) :
    (s.onCalAx a f).mail = s.mail := State.mail_congr rfl rfl

@[simp] theorem State.mail_onConn (c : Nat) (f : CalConn → CalConn) :
    (s.onConn c f).mail = s.mail := State.mail_congr rfl rfl

@[simp] theorem State.mail_onArm (g : Nat) (f : CalArm → CalArm) :
    (s.onArm g f).mail = s.mail := State.mail_congr rfl rfl

@[simp] theorem State.mail_onTps (t : Nat) (f : CalTps → CalTps) :
    (s.onTps t f).mail = s.mail := State.mail_congr rfl rfl

@[simp] theorem State.mail_switchOut (k n : Nat) (on : Bool) : (s.switchOut k n on).mail = s.mail := by
  simp +decide [State.switchOut]

@[simp] theorem State.mail_outputsReset : (s.outputsReset).mail = s.mail := by
  simp +decide [State.outputsReset]

@[simp] theorem State.mail_applySto (a : Nat) : (s.applySto a).mail = s.mail := by
  simp +decide [State.applySto]

@[simp] theorem State.mail_stoAll : (s.stoAll).mail = s.mail := by
  simp +decide [State.stoAll]

@[simp] theorem State.mail_latchCause (c : Nat) : (s.latchCause c).mail = s.mail := by
  rw [State.latchCause]
  split <;> split <;> rfl

@[simp] theorem State.mail_stoAtRanger (c : Nat) : (s.stoAtRanger c).mail = s.mail := by
  rw [State.stoAtRanger]
  split
  · simp
  · split
    · rw [State.mail_latchCause]; rfl
    · rfl

@[simp] theorem State.mail_decideSto (l : List Nat) : (s.decideSto l).mail = s.mail := by
  simp +decide [State.decideSto]

@[simp] theorem State.mail_armSs1 (cause : Nat) : (s.armSs1 cause).mail = s.mail := by
  simp +decide [State.armSs1]

@[simp] theorem State.mail_decideSs1 (l : List Nat) : (s.decideSs1 l).mail = s.mail := by
  rw [State.decideSs1]
  split <;> simp +decide

@[simp] theorem State.mail_wantSto (cause : Nat) : (s.wantSto cause).mail = s.mail := by
  simp +decide [State.wantSto]

@[simp] theorem State.mail_wantSs1 (cause : Nat) : (s.wantSs1 cause).mail = s.mail := by
  simp +decide [State.wantSs1]

@[simp] theorem State.mail_calDecide : (s.calDecide).mail = s.mail := by
  simp +decide [State.calDecide]

/-! ### Boot and DIAGNOSTIC -/

@[simp] theorem State.mail_calRestart : s.calRestart.mail = s.mail := by
  rw [State.calRestart, State.mail_stoAll, apply_ite State.mail, State.mail_debugLog, ite_self]
  refine (State.mail_foldl_mem _ fun f hf t => ?_).trans (State.mail_congr rfl rfl)
  obtain ⟨hf, hd⟩ := List.mem_filter.mp hf
  have h : Reg.mail f = false := Reg.mail_eq_false hf (fun h => by rw [h] at hd; cases hd) fun h => by rw [h] at hd; cases hd
  simp only [Reg.mail, Bool.or_eq_false_iff, beq_eq_false_iff_ne] at h
  simp only [State.mail, Tab.get_put_other _ _ h.1, Tab.get_put_other _ _ h.2]

@[simp] theorem State.mail_putFw (k : Nat) (x : FwSlot) : (s.putFw k x).mail = s.mail := State.mail_congr rfl rfl

@[simp] theorem State.mail_bootFlash : s.bootFlash.mail = s.mail := by
  rw [State.bootFlash]
  split
  · rfl
  · split <;> rfl

@[simp] theorem State.mail_bootRom (qspi : Option Nat) : (s.bootRom qspi).mail = s.mail := by
  unfold State.bootRom
  extract_lets a _ u
  have hm : u.mail = s.mail := by
    simp only [u]
    split <;> rfl
  clear_value u
  split
  · exact hm
  · exact hm
  · exact u.mail_bootFlash.trans hm

@[simp] theorem State.mail_diagnostic (code : Nat) : (s.diagnostic code).mail = s.mail := by
  simp +decide [State.diagnostic]

/-! ### Caldera: safety frames -/

@[simp] theorem State.mail_frameRejected : (s.frameRejected).mail = s.mail := by
  simp +decide [State.frameRejected]

@[simp] theorem State.mail_connTimeout (c : Nat) : (s.connTimeout c).mail = s.mail := by
  simp +decide [State.connTimeout]

@[simp] theorem State.mail_frameCrc (c : Nat) : (s.frameCrc c).mail = s.mail := by
  simp +decide [State.frameCrc]

@[simp] theorem State.mail_frameAccept (c : Nat) (f : List Byte) : (s.frameAccept c f).mail = s.mail := by
  simp +decide [State.frameAccept]

@[simp] theorem State.mail_frameSeq (c : Nat) (f : List Byte) (eth : Bool) : (s.frameSeq c f eth).mail = s.mail := by
  simp +decide [State.frameSeq]

@[simp] theorem State.mail_safetyFrame (f : List Byte) (eth : Bool) : (s.safetyFrame f eth).mail = s.mail := by
  cases h : connIndex (uAt f 0 2) <;> simp [State.safetyFrame, h]

/-! ### Caldera: the safety cycle -/

@[simp] theorem State.mail_setTbState (n st : Nat) : (s.setTbState n st).mail = s.mail := by
  simp +decide [State.setTbState]

@[simp] theorem State.mail_steer : (s.steer).mail = s.mail := by
  simp +decide [State.steer]

@[simp] theorem State.mail_calConfigure : (s.calConfigure).mail = s.mail := by
  simp +decide [State.calConfigure]

@[simp] theorem State.mail_setApply : (s.setApply).mail = s.mail := by
  rw [State.setApply]
  split <;> simp +decide

@[simp] theorem State.mail_axisStoBoundary (a : Nat) : (s.axisStoBoundary a).mail = s.mail := by
  rw [State.axisStoBoundary]
  split <;> simp +decide

@[simp] theorem State.mail_stopBoundary : (s.stopBoundary).mail = s.mail := by
  rw [State.stopBoundary]
  split <;> simp +decide

@[simp] theorem State.mail_stoBoundary (quiet : Bool) : (s.stoBoundary quiet).mail = s.mail := by
  rw [State.stoBoundary]
  split <;> simp +decide

@[simp] theorem State.mail_levelBoundary (g : Nat) : (s.levelBoundary g).mail = s.mail := by
  rw [State.levelBoundary]
  split <;> simp +decide

@[simp] theorem State.mail_outputFault : (s.outputFault).mail = s.mail := by
  simp +decide [State.outputFault]

@[simp] theorem State.mail_edmFault (n : Nat) (refused : Bool) : (s.edmFault n refused).mail = s.mail := by
  simp +decide [State.edmFault]

@[simp] theorem State.mail_edmGate (n k : Nat) : (s.edmGate n k).mail = s.mail := by
  simp +decide [State.edmGate]

@[simp] theorem State.mail_soJoin (k : Nat) : (s.soJoin k).mail = s.mail := by
  rw [State.soJoin]
  split
  · rfl
  · split
    · rfl
    · split <;> rfl

@[simp] theorem State.mail_discardTest (k n : Nat) : (s.discardTest k n).mail = s.mail := by
  simp +decide [State.discardTest]

@[simp] theorem State.mail_outputTestStart (n k : Nat) : (s.outputTestStart n k).mail = s.mail := by
  simp +decide [State.outputTestStart]

@[simp] theorem State.mail_noteLoad (n k : Nat) : (s.noteLoad n k).mail = s.mail := by
  simp +decide [State.noteLoad]

@[simp] theorem State.mail_soBoundary (n k : Nat) : (s.soBoundary n k).mail = s.mail := by
  simp +decide [State.soBoundary]

@[simp] theorem State.mail_outputsBoundary : (s.outputsBoundary).mail = s.mail := by
  simp +decide [State.outputsBoundary]

@[simp] theorem State.mail_permitBoundary : (s.permitBoundary).mail = s.mail := by
  simp +decide [State.permitBoundary]

@[simp] theorem State.mail_tpsPaired (n t : Nat) : (s.tpsPaired n t).mail = s.mail := by
  simp +decide [State.tpsPaired]

@[simp] theorem State.mail_tpsStart (n t : Nat) : (s.tpsStart n t).mail = s.mail := by
  simp +decide [State.tpsStart]

@[simp] theorem State.mail_tpsBoundary (n t : Nat) : (s.tpsBoundary n t).mail = s.mail := by
  unfold State.tpsBoundary
  split
  · simp
  · extract_lets u v
    have hv : v.mail = s.mail := by simp [v, u]
    clear_value v
    split <;> simp +decide [hv]

@[simp] theorem State.mail_crossCheck (a : Nat) : (s.crossCheck a).mail = s.mail := by
  simp +decide [State.crossCheck]

@[simp] theorem State.mail_ioPoints : (s.ioPoints).mail = s.mail := by
  simp +decide [State.ioPoints]

@[simp] theorem State.mail_sealSample (k : Nat) : (s.sealSample k).mail = s.mail := by
  rw [State.sealSample]
  split <;> simp +decide

@[simp] theorem State.mail_calChange (code detail : Nat) : (s.calChange code detail).mail = s.mail := by
  simp +decide [State.calChange]

@[simp] theorem State.mail_sealLog (k : Nat) : (s.sealLog k).mail = s.mail := by
  simp +decide [State.sealLog]

@[simp] theorem State.mail_seals : (s.seals).mail = s.mail := by
  simp +decide [State.seals]

@[simp] theorem State.mail_calBoundary : (s.calBoundary).mail = s.mail := by
  simp +decide [State.calBoundary]

@[simp] theorem State.mail_doBoundary : (s.doBoundary).mail = s.mail := by
  simp +decide [State.doBoundary]

/-! ### Caldera: separation -/

@[simp] theorem State.mail_armCycle (g : Nat) : (s.armCycle g).mail = s.mail := by
  simp +decide [State.armCycle]

@[simp] theorem State.mail_armSeparation (g : Nat) : (s.armSeparation g).mail = s.mail := by
  cases hd : leastQ ((s.nearness g).map Nearness.d) <;>
    cases hp : leastQ ((s.nearness g).map fun p => s.protective g (s.armSpeed g) p.vh) <;>
      simp +decide [State.armSeparation, hd, hp]

@[simp] theorem State.mail_stopPoints : (s.stopPoints).mail = s.mail := by
  simp +decide [State.stopPoints]

@[simp] theorem State.mail_sepRegs : (s.sepRegs).mail = s.mail := by
  rw [State.sepRegs]
  split <;> simp +decide

@[simp] theorem State.mail_separation : (s.separation).mail = s.mail := by
  simp +decide [State.separation]

@[simp] theorem State.mail_doSeparation : (s.doSeparation).mail = s.mail := by
  simp +decide [State.doSeparation]

@[simp] theorem State.mail_calCatchUp : (s.calCatchUp).mail = s.mail := by
  simp +decide [State.calCatchUp]

/-! ### The Yarder, the star and the redundant pair -/

@[simp] theorem State.mail_onStar (f : StarState → StarState) : (s.onStar f).mail = s.mail := State.mail_congr rfl rfl

@[simp] theorem State.mail_onNode (i : Nat) (f : NodeRun → NodeRun) :
    (s.onNode i f).mail = s.mail := State.mail_congr rfl rfl

@[simp] theorem State.mail_withYard (f : YarderState → YarderState) :
    (s.withYard f).mail = s.mail := State.mail_congr rfl rfl

@[simp] theorem State.mail_beginHold : (s.beginHold).mail = s.mail := by
  simp +decide [State.beginHold]

@[simp] theorem State.mail_holdItem (producer prio flow src count : Nat) (arg0 arg1 : Word64) (due : Option Nat) :
    (s.holdItem producer prio flow src count arg0 arg1 due).mail = s.mail := by
  simp +decide [State.holdItem]

@[simp] theorem State.mail_numbered (flow : Nat) : (s.numbered flow).mail = s.mail := State.mail_congr rfl rfl

@[simp] theorem State.mail_acceptBorn (born prio flow src count : Nat) (arg0 arg1 : Word64) :
    (s.acceptBorn born prio flow src count arg0 arg1).mail = s.mail := State.mail_congr rfl rfl

@[simp] theorem State.mail_acceptItem (prio flow src count : Nat) (arg0 arg1 : Word64) :
    (s.acceptItem prio flow src count arg0 arg1).mail = s.mail := State.mail_congr rfl rfl

@[simp] theorem State.mail_postHw (producer prio flow src count : Nat) (arg0 arg1 : Word64) :
    (s.postHw producer prio flow src count arg0 arg1).mail = s.mail := by
  simp +decide [State.postHw]

@[simp] theorem State.mail_commitUp (f : UpFrame) : (s.commitUp f).mail = s.mail := by
  rw [State.commitUp]
  split <;> simp +decide

@[simp] theorem State.mail_ingressGo (p : Nat) (l : List UpFrame) : (s.ingressGo p l).mail = s.mail := by
  induction l generalizing s with
  | nil => rfl
  | cons f r ih => simp [State.ingressGo, ih]

@[simp] theorem State.mail_ingress (p : Nat) (f : UpFrame) : (s.ingress p f).mail = s.mail := by
  simp +decide [State.ingress]

@[simp] theorem State.mail_commitAlone (i : Nat) : (s.commitAlone i).mail = s.mail := by
  rw [State.commitAlone]
  split <;> simp +decide

@[simp] theorem State.mail_unsync : (s.unsync).mail = s.mail := by
  simp +decide [State.unsync]

@[simp] theorem State.mail_leavePair : s.leavePair.mail = s.mail := by
  simp +decide [State.leavePair]

/-! ### Fields that a reset or the installed image names -/

theorem State.mail_dropField {f : Field} (h : Reg.mail f = false) (tb6 : Bool) : (s.dropField f tb6).mail = s.mail := by
  simp only [Reg.mail, Bool.or_eq_false_iff, beq_eq_false_iff_ne] at h
  simp only [State.mail, State.dropField, Tab.get_put_other _ _ h.1, Tab.get_put_other _ _ h.2]

/-- A reset that drops neither of the two fields keeps the view. -/
theorem State.mail_dropFields {rl : ResetLetter} {p : Field → Bool} (he : (p Reg.EPOCH && !Reg.EPOCH.keeps rl) = false)
    (hm : (p Reg.MB_STATE_STATE && !Reg.MB_STATE_STATE.keeps rl) = false) : (s.dropFields rl p).mail = s.mail := by
  refine State.mail_foldl_mem _ fun f hf t => State.mail_dropField t ?_ _
  obtain ⟨hf, hp⟩ := List.mem_filter.mp hf
  exact Reg.mail_eq_false hf (fun h => by simp [h, he] at hp) fun h => by simp [h, hm] at hp

/-! ### PWM periods, trips and the front-ends -/

@[simp] theorem State.mail_onFb (ch : Nat) (f : FbState → FbState) :
    (s.onFb ch f).mail = s.mail := State.mail_congr rfl rfl

@[simp] theorem State.mail_fbUnpark (ch : Nat) : (s.fbUnpark ch).mail = s.mail := by
  simp +decide [State.fbUnpark]

@[simp] theorem State.mail_loadCal : s.loadCal.mail = s.mail := by
  refine State.mail_foldl _ (fun t e => ?_) _
  obtain ⟨_, _ | v⟩ := e <;> simp +decide

@[simp] theorem State.mail_installMap (c : CellContent) : (s.installMap c).mail = s.mail := by
  simp +decide [State.installMap]

@[simp] theorem State.mail_engineOutputs (k : Nat) (safe : Bool) : (s.engineOutputs k safe).mail = s.mail := by
  simp +decide [State.engineOutputs]

@[simp] theorem State.mail_onEng (k : Nat) (f : JceState → JceState) :
    (s.onEng k f).mail = s.mail := State.mail_congr rfl rfl

@[simp] theorem State.mail_jceBegin (k : Nat) : (s.jceBegin k).mail = s.mail := by
  simp +decide [State.jceBegin]

@[simp] theorem State.mail_jceTick (k : Nat) : (s.jceTick k).mail = s.mail := by
  simp +decide [State.jceTick]

@[simp] theorem State.mail_pairTick (p : Nat) : (s.pairTick p).mail = s.mail := by
  simp +decide [State.pairTick]

@[simp] theorem State.mail_latchPairConfig (p : Nat) : (s.latchPairConfig p).mail = s.mail := by
  simp +decide [State.latchPairConfig]

@[simp] theorem State.mail_resumePair (p t : Nat) : (s.resumePair p t).mail = s.mail := by
  simp +decide [State.resumePair]

@[simp] theorem State.mail_dropPulse (p : Nat) : (s.dropPulse p).mail = s.mail := by
  simp +decide [State.dropPulse]

@[simp] theorem State.mail_refFall (p t : Nat) : (s.refFall p t).mail = s.mail := by
  simp +decide [State.refFall]

@[simp] theorem State.mail_refRise (p t : Nat) : (s.refRise p t).mail = s.mail := by
  simp +decide [State.refRise]

@[simp] theorem State.mail_startRef (p t : Nat) : (s.startRef p t).mail = s.mail := by
  simp +decide [State.startRef]

@[simp] theorem State.mail_periodStart (p t : Nat) : (s.periodStart p t).mail = s.mail := by
  simp +decide [State.periodStart]

@[simp] theorem State.mail_pairPeriod (p t : Nat) : (s.pairPeriod p t).mail = s.mail := by
  simp +decide [State.pairPeriod]

@[simp] theorem State.mail_applySet (p t : Nat) : (s.applySet p t).mail = s.mail := by
  cases h : s.pairFall p <;> simp [State.applySet, h]

@[simp] theorem State.mail_periphEvent (k : Nat) : (s.periphEvent k).mail = s.mail := by
  simp +decide [State.periphEvent]

@[simp] theorem State.mail_tripPair (p t : Nat) : (s.tripPair p t).mail = s.mail := by
  simp +decide [State.tripPair]

@[simp] theorem State.mail_judgeTrip (n t : Nat) : (s.judgeTrip n t).mail = s.mail := by
  simp +decide [State.judgeTrip]

@[simp] theorem State.mail_pairsLoaded (fresh : Bool) : (s.pairsLoaded fresh).mail = s.mail := by
  simp +decide [State.pairsLoaded]

@[simp] theorem State.mail_closeWindow (ch : Nat) : (s.closeWindow ch).mail = s.mail := by
  simp +decide [State.closeWindow]

@[simp] theorem State.mail_fbRestart (ch : Nat) : (s.fbRestart ch).mail = s.mail := by
  simp +decide [State.fbRestart]

@[simp] theorem State.mail_onAdc (c : Nat) (f : AdcState → AdcState) :
    (s.onAdc c f).mail = s.mail := State.mail_congr rfl rfl

@[simp] theorem State.mail_onRoute (c r : Nat) (f : AdcRoute → AdcRoute) :
    (s.onRoute c r f).mail = s.mail := State.mail_congr rfl rfl

@[simp] theorem State.mail_latchRoute (c r : Nat) : (s.latchRoute c r).mail = s.mail := by
  simp +decide [State.latchRoute]

@[simp] theorem State.mail_startPass (c : Nat) (entries : List Nat) (first time : Nat) :
    (s.startPass c entries first time).1.mail = s.mail := by
  simp +decide [State.startPass]

@[simp] theorem State.mail_startRegular (c first time : Nat) : (s.startRegular c first time).mail = s.mail := by
  simp +decide [State.startRegular]

@[simp] theorem State.mail_injectedEnds (c t : Nat) : (s.injectedEnds c t).mail = s.mail := by
  cases hh : (s.adcv c).held <;> cases hr : (s.adcv c).reg <;> simp +decide [State.injectedEnds, hh, hr]

@[simp] theorem State.mail_adcSample (c : Nat) : (s.adcSample c).mail = s.mail := by
  cases hi : (s.adcv c).inj <;> cases hr : (s.adcv c).reg <;> simp [State.adcSample, hi, hr]

@[simp] theorem State.mail_adcAdvance (c : Nat) : (s.adcAdvance c).mail = s.mail :=
  State.mail_iterate s (fun s => s.mail_adcSample c) _

@[simp] theorem State.mail_adcStopPasses (c : Nat) : (s.adcStopPasses c).mail = s.mail := by
  simp +decide [State.adcStopPasses]

@[simp] theorem State.mail_adcEnable (c : Nat) (on : Bool) : (s.adcEnable c on).mail = s.mail := by
  simp +decide [State.adcEnable]

@[simp] theorem State.mail_setLimits (ch : Nat) (lo hi : Int) : (s.setLimits ch lo hi).mail = s.mail := by
  simp +decide [State.setLimits]

/-! ### Installation, the solver and the engines at PARK exit -/

theorem State.mail_applySetting {e : Field × Nat × Nat} (h : Reg.mail e.1 = false) :
    (s.applySetting e).mail = s.mail := by
  simp +decide [State.applySetting, h]

/-- Settings of other fields keep the view. -/
theorem State.mail_applySettings (c : CellContent) (p : Field → Bool) (he : p Reg.EPOCH = false)
    (hm : p Reg.MB_STATE_STATE = false) : (s.applySettings c p).mail = s.mail := by
  refine State.mail_foldl_mem _ fun e hs t => State.mail_applySetting t ?_
  obtain ⟨r, -, hr⟩ := List.mem_filterMap.mp hs
  obtain ⟨f, hf, hr⟩ := Option.bind_eq_some_iff.mp hr
  obtain ⟨hp, hr⟩ := Option.ite_none_right_eq_some.mp hr
  obtain rfl := Option.some.inj hr
  simp only [Bool.and_eq_true] at hp
  exact Reg.mail_eq_false (List.mem_of_find?_eq_some hf) (fun h : f = _ => by simp [h, he] at hp)
    fun h : f = _ => by simp [h, hm] at hp

@[simp] theorem State.mail_installPowered : s.installPowered.mail = s.mail := by
  rw [State.installPowered]
  split <;> simp +decide [State.mail_applySettings]

@[simp] theorem State.mail_leaveParked (ch : Nat) : (s.leaveParked ch).mail = s.mail := by
  simp +decide [State.leaveParked]

@[simp] theorem State.mail_stoBack : (s.stoBack).mail = s.mail := by
  simp +decide [State.stoBack]

@[simp] theorem State.mail_bindInst (n mask : Nat) : (s.bindInst n mask).mail = s.mail := by
  rw [State.bindInst]
  split <;> simp +decide

@[simp] theorem State.mail_onInst (n : Nat) (f : SawInst → SawInst) :
    (s.onInst n f).mail = s.mail := State.mail_congr rfl rfl

@[simp] theorem State.mail_onTile (t : Nat) (f : SawTile → SawTile) :
    (s.onTile t f).mail = s.mail := State.mail_congr rfl rfl

@[simp] theorem State.mail_dropRuns : (s.dropRuns).mail = s.mail := by
  simp +decide [State.dropRuns]

@[simp] theorem State.mail_loadSchedules : (s.loadSchedules).mail = s.mail := by
  simp +decide [State.loadSchedules]

@[simp] theorem State.mail_installSolver : (s.installSolver).mail = s.mail := by
  simp +decide [State.installSolver]

@[simp] theorem State.mail_onAx (axis : Nat) (f : AxisState → AxisState) :
    (s.onAx axis f).mail = s.mail := State.mail_congr rfl rfl

@[simp] theorem State.mail_forcePairs (axis : Nat) (on : Bool) : (s.forcePairs axis on).mail = s.mail := by
  simp +decide [State.forcePairs]

@[simp] theorem State.mail_writeEnable (ch : Nat) (on : Bool) : (s.writeEnable ch on).mail = s.mail := by
  simp +decide [State.writeEnable]

@[simp] theorem State.mail_outputsOff (axis : Nat) : (s.outputsOff axis).mail = s.mail := by
  simp +decide [State.outputsOff]

@[simp] theorem State.mail_axisDisable (axis : Nat) : (s.axisDisable axis).mail = s.mail := by
  simp +decide [State.axisDisable]

@[simp] theorem State.mail_jceHaltIn (k st : Nat) : (s.jceHaltIn k st).mail = s.mail := by
  simp +decide [State.jceHaltIn]

@[simp] theorem State.mail_putParam (axis n v : Nat) : (s.putParam axis n v).mail = s.mail := by
  simp +decide [State.putParam]

@[simp] theorem State.mail_loadParams (k : Nat) : (s.loadParams k).mail = s.mail := by
  rw [State.loadParams]
  split <;> simp +decide

@[simp] theorem State.mail_jceArm (k : Nat) : (s.jceArm k).mail = s.mail := by
  simp +decide [State.jceArm]

@[simp] theorem State.mail_jceReload (k : Nat) : (s.jceReload k).mail = s.mail := by
  rw [State.jceReload]
  split <;> simp +decide

@[simp] theorem State.mail_engineReload (k : Nat) (homed : Nat → Bool) : (s.engineReload k homed).mail = s.mail := by
  unfold State.engineReload
  extract_lets _ u v
  have hv : v.mail = s.mail := by simp [v, u]
  clear_value v
  exact (State.mail_congr rfl rfl : _ = v.mail).trans hv

@[simp] theorem State.mail_reloadEngines (homed : Nat → Bool) : (s.reloadEngines homed).mail = s.mail := by
  simp +decide [State.reloadEngines]

@[simp] theorem State.mail_parkLeave : s.parkLeave.mail = s.mail := by
  simp +decide [State.parkLeave, State.mail_dropFields]

/-- A rail that is neither of the core rails leaves its range. -/
theorem State.mail_railFault {r : Nat} (h : 2 ≤ r) : (s.railFault r).mail = s.mail := by
  simp +decide [State.railFault, Nat.not_lt.mpr h]

end Sys2Proof.Machine
end

section
/-!
Resets (R54, R701 to R706): each clears the registers and the host interface, then writes the new `EPOCH`, and nothing after
that touches what R54 speaks of.
-/
namespace Sys2Proof.Machine

variable (s : State)

theorem State.get_epoch_of_mail {s t : State} (h : t.mail = s.mail) : t.get Reg.EPOCH 0 = s.get Reg.EPOCH 0 :=
  congrArg (fun v => v.epoch.get (Reg.EPOCH.resetAt 0) 0) h

theorem State.doorbells_of_mail {s t : State} (h : t.mail = s.mail) : t.host.doorbells = s.host.doorbells :=
  congrArg MailView.doorbells h

/-- Every mailbox has the Reset value of `STATE`. -/
def State.MailDropped (s : State) : Prop := s.regs.get Tab.empty Reg.MB_STATE_STATE.id = Tab.empty

theorem State.MailDropped.of_mail {s t : State} (h : s.MailDropped) (hm : t.mail = s.mail) : t.MailDropped :=
  (congrArg MailView.states hm).trans h

theorem State.MailDropped.idle {s : State} (h : s.MailDropped) (n : Nat) : s.mbState n = 0 :=
  congrArg (fun t : Tab Nat => t.get (Reg.MB_STATE_STATE.resetAt n) n) h

/-- The mailboxes as a reset leaves them: `EPOCH` is `e`, no doorbell waits, no mailbox has another state than its Reset
value. -/
structure State.MailReset (t : State) (e : Nat) : Prop where
  epoch : t.get Reg.EPOCH 0 = e
  doorbells : t.host.doorbells = []
  dropped : t.MailDropped

theorem State.MailReset.of_mail {s t : State} {e : Nat} (hs : s.MailReset e) (h : t.mail = s.mail) : t.MailReset e where
  epoch := (State.get_epoch_of_mail h).trans hs.epoch
  doorbells := (State.doorbells_of_mail h).trans hs.doorbells
  dropped := hs.dropped.of_mail h

theorem State.MailReset.beside {s : State} {f : State → State} {e : Nat} (h : (f s).MailReset e) :
    (s.beside f).MailReset e :=
  h.of_mail (State.mail_congr rfl rfl)

/-- Dropping a field leaves the mailbox states at their Reset values. -/
theorem State.MailDropped.dropField {s : State} (h : s.MailDropped) (f : Field) (tb6 : Bool) :
    (s.dropField f tb6).MailDropped := by
  rw [State.MailDropped, State.dropField, Tab.get_put]
  split
  · next hf =>
    rw [hf, h]
    split <;> rfl
  · exact h

theorem State.mailDropped_dropField (tb6 : Bool) : (s.dropField Reg.MB_STATE_STATE tb6).MailDropped := by
  rw [State.MailDropped, State.dropField, Tab.get_put_same]
  rfl

/-- Dropping fields one after another, that of the mailbox states among them unless it was dropped before. -/
theorem State.mailDropped_dropAll (tb6 : Bool) (l : List Field) (h : Reg.MB_STATE_STATE ∈ l ∨ s.MailDropped) :
    (l.foldl (fun s f => s.dropField f tb6) s).MailDropped := by
  induction l generalizing s with
  | nil => exact h.resolve_left List.not_mem_nil
  | cons f l ih =>
    refine ih _ ?_
    obtain h | h := h
    · obtain rfl | h := List.mem_cons.mp h
      · exact .inr (s.mailDropped_dropField tb6)
      · exact .inl h
    · exact .inr (h.dropField f tb6)

/-- A reset that goes over the mailbox states and does not keep them returns them to IDLE. -/
theorem State.mailDropped_dropFields {rl : ResetLetter} (p : Field → Bool)
    (h : (p Reg.MB_STATE_STATE && !Reg.MB_STATE_STATE.keeps rl) = true) : (s.dropFields rl p).MailDropped :=
  s.mailDropped_dropAll _ _ (.inl (List.mem_filter.mpr ⟨List.elem_iff.mp (by decide +kernel), h⟩))

/-- With the mailbox states dropped and the doorbells gone, a new `EPOCH` leaves the mailboxes reset. -/
theorem State.mailReset_set_epoch {s : State} (hm : s.MailDropped) (hd : s.host.doorbells = []) (e : Nat) :
    (s.set Reg.EPOCH 0 e).MailReset (e % 0x10000) where
  epoch := s.get_set_same Reg.EPOCH 0 e
  doorbells := hd
  dropped := by
    rw [State.MailDropped, State.set, Tab.get_put_other _ _ (by decide)]
    exact hm

theorem HostState.after_doorbells (h : HostState) (rl : ResetLetter) : (h.after rl).doorbells = [] := by
  rw [HostState.after]
  split <;> rfl

theorem State.doorbells_dropState (rl : ResetLetter) : (s.dropState rl).host.doorbells = [] :=
  HostState.after_doorbells s.host rl

theorem State.MailDropped.dropState {s : State} (h : s.MailDropped) (rl : ResetLetter) : (s.dropState rl).MailDropped := h

theorem State.doorbells_domainState_host : (s.domainState 1).host.doorbells = [] := rfl

theorem State.MailDropped.domainState_host {s : State} (h : s.MailDropped) : (s.domainState 1).MailDropped := h

/-- What P, W, D and Z do after the new `EPOCH` is written keeps it and the mailboxes. -/
theorem State.mail_deviceReset (rl : ResetLetter) (cause : Nat) :
    (s.deviceReset rl cause).mail = (((s.leavePair.dropFields rl fun _ => true).dropState rl).set Reg.EPOCH 0
      (if rl = .p ∨ rl = .w then 1 else nextEpoch (s.leavePair.get Reg.EPOCH 0))).mail := by
  unfold State.deviceReset
  extract_lets lost s1 e w d s2 s3 s4 s5 s6 s7 _ s8
  have h8 : s8.mail = s3.mail := by
    refine (State.mail_indexesLost _ lost).trans ((State.mail_congr rfl rfl : _ = s7.mail).trans ?_)
    simp +decide [s7, s6, s5, s4]
  clear_value s8
  split
  · exact (State.mail_onCal _ _).trans h8
  · exact (State.mail_calRestart _).trans h8

theorem nextEpoch_mod (e : Nat) : nextEpoch e % 0x10000 = if e = 0xFFFF then 1 else (e + 1) % 0x10000 := by
  rw [nextEpoch]
  split <;> rfl

/-- `EPOCH` after a reset of the device (R54). -/
def epochAfter (rl : ResetLetter) (e : Nat) : Nat := (if rl = .p ∨ rl = .w then 1 else nextEpoch e) % 0x10000

/-- P, W, D and Z reset the mailboxes. -/
theorem State.mailReset_deviceReset {rl : ResetLetter} (hl : Reg.MB_STATE_STATE.keeps rl = false) (cause : Nat) :
    (s.deviceReset rl cause).MailReset (epochAfter rl (s.get Reg.EPOCH 0)) := by
  rw [← State.get_epoch_of_mail s.mail_leavePair]
  have hm := (s.leavePair.mailDropped_dropFields (fun _ => true) (by rw [hl]; rfl)).dropState rl
  exact (State.mailReset_set_epoch hm (State.doorbells_dropState _ rl) _).of_mail (s.mail_deviceReset rl cause)

/-- P clears more than every other reset, W more than every other but P (R704). -/
theorem resetRank_lt_p {r : ResetLetter} (h : r ≠ .p) : resetRank r < resetRank .p := by
  revert h; cases r <;> decide

theorem resetRank_lt_w {r : ResetLetter} (h : r ≠ .p ∧ r ≠ .w) : resetRank r < resetRank .w := by
  revert h; cases r <;> decide

/-- A reset acts where no reset that clears as much holds the device; D does not end DORMANT (R701, R704). -/
theorem State.mail_startReset {rl : ResetLetter}
    (hh : ∀ h, s.power.held = some h → resetRank h < resetRank rl) (hd : s.power.dormant = true → rl ≠ .d) (cause : Nat) :
    (s.startReset rl cause).mail = (s.deviceReset rl cause).mail := by
  unfold State.startReset
  extract_lets within t
  have hw : within = false := by
    cases h : s.power.held with
    | none => cases hr : s.power.dormant <;> simp_all [within]
    | some r => simpa [within, h] using hh r h
  rw [hw, if_neg Bool.false_ne_true]
  split <;> exact State.mail_congr rfl rfl

/-- A reset of the whole device that acts resets the mailboxes. -/
theorem State.mailReset_startReset (rl : ResetLetter) (hl : Reg.MB_STATE_STATE.keeps rl = false)
    (hh : ∀ h, s.power.held = some h → resetRank h < resetRank rl) (hd : s.power.dormant = true → rl ≠ .d)
    (cause : Nat) : (s.startReset rl cause).MailReset (epochAfter rl (s.get Reg.EPOCH 0)) :=
  (s.mailReset_deviceReset hl cause).of_mail (s.mail_startReset hh hd cause)

/-- A reset of HOST: the mailboxes are reset and `EPOCH` is counted on (R54, R705). -/
theorem State.mailReset_domainReset_host : (s.domainReset 1).MailReset (nextEpoch (s.get Reg.EPOCH 0) % 0x10000) := by
  unfold State.domainReset
  extract_lets lost s1 s2 e _ s3 s4 s5 s6
  have he : e = s.get Reg.EPOCH 0 := by
    refine State.get_epoch_of_mail ?_
    simp [s2, s1]
  have h4 : s4.mail = ((s3.dropFields .m (domainField 1)).domainState 1).mail := State.mail_indexesLost _ _
  have hm : s4.MailDropped := (s3.mailDropped_dropFields _ (by decide)).domainState_host.of_mail h4
  have hd : s4.host.doorbells = [] := (State.doorbells_of_mail h4).trans (State.doorbells_domainState_host _)
  have h5 : s5.MailReset (nextEpoch e % 0x10000) := State.mailReset_set_epoch hm hd _
  rw [← he]
  refine h5.of_mail ?_
  simp +decide [s6]

/-- The watchdog of Ranger resets the mailboxes as D does. -/
theorem State.mailReset_rangerWatchdog (hh : s.power.held = none) (hd : s.power.dormant = false)
    (hr : s.boot.ranger.isSome = true) : s.rangerWatchdog.MailReset (nextEpoch (s.get Reg.EPOCH 0) % 0x10000) := by
  unfold State.rangerWatchdog
  split
  · next h => simp [h] at hr
  · extract_lets _ t
    have hp : t.power = s.power := by simp only [t]; split <;> rfl
    have hm : t.mail = s.mail := by simp only [t]; split <;> simp
    clear_value t
    rw [← State.get_epoch_of_mail hm]
    exact t.mailReset_startReset .d rfl (by simp [hp, hh]) (by simp [hp, hd]) 7

/-- A wake from DORMANT resets the mailboxes as Z does. -/
theorem State.mailReset_dormantWake (hh : s.power.held = none) (hd : s.power.dormant = true) (banks : Bool)
    (qspi : Option Nat) : (s.dormantWake banks qspi).MailReset (nextEpoch (s.get Reg.EPOCH 0) % 0x10000) := by
  refine (s.mailReset_startReset .z rfl (by simp [hh]) (by simp) 10).of_mail ?_
  cases banks <;> simp +decide [State.dormantWake, hd, hh, State.mail_railFault]

/-- A command that leaves the mailboxes reset completes as R54 says. -/
theorem completes_mailReset {c : Instr} {s t : State} {e : Nat} (hc : exec c s = .next t) (ht : t.MailReset e) :
    Completes c s fun t => t.get Reg.EPOCH 0 = e ∧ t.host.doorbells = [] ∧ ∀ n < 32, t.mbState n ≠ 1 ∧ t.mbState n ≠ 2 :=
  ⟨t, hc, ht.epoch, ht.doorbells, fun n _ => by rw [ht.dropped.idle n]; decide⟩

theorem exec_powerOnReset (s : State) : exec .powerOnReset s = .next (s.beside fun s => s.startReset .p 0) := rfl

theorem exec_warmReset (s : State) : exec .warmReset s = .next (s.beside fun s => s.startReset .w 1) := rfl

theorem exec_rangerWatchdog (s : State) : exec .rangerWatchdog s = s.run State.rangerWatchdog := rfl

theorem exec_dormantWake (banks : Bool) (qspi : Option (Fin 2)) (s : State) :
    exec (.dormantWake ⟨banks, qspi⟩) s = .next (s.beside fun s => s.dormantWake banks (qspi.map Fin.val)) := rfl

theorem exec_sysReset (mb : Fin 32) (s : State) :
    exec (.sysReset mb) s = s.run fun s => s.command mb.val 0x0105 State.sysReset := rfl

/-- `SYS_RESET` of HOST leaves no response (R102). -/
theorem State.sysReset_host {p : List Byte} (hk : uAt p 0 1 = 1) (hd : uAt p 1 1 = 1) (n : Nat) :
    s.sysReset n p = CmdOut.later (s.domainReset 1) := by
  simp [State.sysReset, hk, hd]

/-- Settles O19: each of the resets writes the new `EPOCH` once the registers and the host interface are cleared, and nothing
after that touches it, the states of the mailboxes or the doorbells. -/
theorem epochCountsDeviceResets : Obligations.EpochCountsDeviceResets := by
  intro s
  refine ⟨?_, ?_⟩
  · rintro c (⟨rfl, hh⟩ | ⟨rfl, hh⟩)
    · have hr := fun h hs => resetRank_lt_p (hh h hs)
      exact completes_mailReset (exec_powerOnReset s) (s.mailReset_startReset .p rfl hr (by simp) 0).beside
    · have hr := fun h hs => resetRank_lt_w (hh h hs)
      exact completes_mailReset (exec_warmReset s) (s.mailReset_startReset .w rfl hr (by simp) 1).beside
  · rintro e c he hc
    rw [← nextEpoch_mod] at he
    subst he
    obtain ⟨rfl, ⟨ha, hh, hd⟩, hr⟩ | ⟨⟨b, rfl⟩, hd, hh⟩ | ⟨mb, rfl, hs, hk, hdom⟩ := hc
    · exact completes_mailReset ((exec_rangerWatchdog s).trans (State.run_alive ha _))
        (s.mailReset_rangerWatchdog hh hd hr).beside
    · exact completes_mailReset (exec_dormantWake b none s) (s.mailReset_dormantWake hh hd b none).beside
    · have hf := (s.begins mb).sysReset_host hk hdom mb
      exact completes_mailReset ((exec_sysReset mb s).trans (exec_unfinished hs hf))
        (s.begins mb).mailReset_domainReset_host.beside

end Sys2Proof.Machine
end

section
/-!
SUPPORT. The state of an engine beside its registers: what the operations of its instructions make of it, and that they leave
every other engine alone.
-/
namespace Sys2Proof.Machine

variable (s : State)

@[simp] theorem State.eng_onEng_same (k : Nat) (f : JceState → JceState) : (s.onEng k f).eng k = f (s.eng k) :=
  Tab.get_put_same _ _ _ _

theorem State.eng_onEng_other {j k : Nat} (h : j ≠ k) (f : JceState → JceState) : (s.onEng k f).eng j = s.eng j :=
  Tab.get_put_other _ _ h.symm _

/-- The state of the engines depends on `jce` only. -/
theorem State.eng_of_jce {s t : State} (h : t.jce = s.jce) (k : Nat) : t.eng k = s.eng k :=
  congrArg (fun e : Tab JceState => e.get JceState.reset k) h

@[simp] theorem State.eng_set (f : Field) (i v k : Nat) : (s.set f i v).eng k = s.eng k := State.eng_of_jce rfl k

@[simp] theorem State.eng_beside (f : State → State) (k : Nat) : (s.beside f).eng k = (f s).eng k := State.eng_of_jce rfl k

/-! ### Writing a register, post-modification and the next instruction -/

@[simp] theorem State.eng_jput_same (k d : Nat) (v : Word32) :
    (s.jput k d v).eng k = { s.eng k with d := (s.eng k).d.put 0 d v } := s.eng_onEng_same k _

theorem State.eng_jput_other {j k : Nat} (h : j ≠ k) (d : Nat) (v : Word32) : (s.jput k d v).eng j = s.eng j :=
  s.eng_onEng_other h _

@[simp] theorem State.eng_jpost_same (k n : Nat) : (s.jpost k n true).eng k =
    { s.eng k with
      a := (s.eng k).a.put 0 n
        (postModify ((s.eng k).a.get 0 n) ((s.eng k).base.get 0 n) ((s.eng k).len.get 0 n) ((s.eng k).modn.get 0 n)) } := by
  rw [State.jpost, if_pos rfl, State.eng_onEng_same]

theorem State.eng_jpost_other {j k : Nat} (h : j ≠ k) (n : Nat) (on : Bool) : (s.jpost k n on).eng j = s.eng j := by
  rw [State.jpost]
  split
  · exact s.eng_onEng_other h _
  · rfl

@[simp] theorem State.eng_jnext_same (k : Nat) :
    (s.jnext k).eng k = { s.eng k with loops := (loopNext (s.jpc k) (s.eng k).loops).2 } := by
  rw [State.jnext, State.jgo, State.eng_set, State.eng_onEng_same]

theorem State.eng_jnext_other {j k : Nat} (h : j ≠ k) : (s.jnext k).eng j = s.eng j := by
  rw [State.jnext, State.jgo, State.eng_set, State.eng_onEng_other _ h]

/-- A post-modified address as an integer: linear where the length is 0, circular otherwise (R245). -/
theorem postModify_toInt (a base len : Nat) (m : Int) : (postModify a base len m : Int) =
    if len = 0 then ((a : Int) + m) % 16384 else ((base : Int) + ((a : Int) - base + m) % len) % 16384 := by
  have toNat (x : Int) : ((x % 16384).toNat : Int) = x % 16384 := Int.toNat_of_nonneg (Int.emod_nonneg _ (by decide))
  unfold postModify
  split
  · exact toNat _
  · exact toNat _

/-! ### Reads of the engine's own memories -/

theorem State.poisonedAt_of_intact {a : Nat} (h : s.memErr.get 0 a = 0) : s.poisonedAt a = false := by
  rw [State.poisonedAt, h]; rfl

theorem State.correctedAt_of_intact {a : Nat} (h : s.memErr.get 0 a = 0) : s.correctedAt a = false := by
  rw [State.correctedAt, h]; rfl

/-- An engine with no damaged word goes on with every word it reads. -/
theorem State.jread_of_sound {s : State} {k : Nat} (h : s.JceSound k) (imem : Bool) (a : Nat) (f : State → State) :
    s.jread k imem a f = f s := by
  have hp : ((List.range 4).find? fun i => s.poisonedAt (jmemKey k imem a + i)) = none :=
    List.find?_eq_none.mpr fun i hi =>
      Bool.eq_false_iff.mp (s.poisonedAt_of_intact (h imem a i (List.mem_range.mp hi)))
  have hc : ((List.range 4).filter fun i => s.correctedAt (jmemKey k imem a + i)) = [] :=
    List.filter_eq_nil_iff.mpr fun i hi =>
      Bool.eq_false_iff.mp (s.correctedAt_of_intact (h imem a i (List.mem_range.mp hi)))
  simp only [State.jread, hp, hc, List.foldl_nil]

/-- A fetched instruction of an engine with no damaged word runs. -/
theorem State.jrun_of_sound {s : State} {k op : Nat} (h : s.JceSound k) (hf : s.jfetched k op = true)
    (f : Nat → State → State) : s.jrun k op f = f (s.jword k) s := by
  rw [State.jrun, if_pos hf, State.jread_of_sound h]

/-- Data that an engine with no damaged word loads. -/
theorem State.jget_of_sound {s : State} {k : Nat} (h : s.JceSound k) (a : Nat) (f : Word32 → State → State) :
    s.jget k a f = f (s.jload k a) s := State.jread_of_sound h _ _ _

end Sys2Proof.Machine
end

section
/-!
The tick of an engine (R254) and the post-modification of an address register (R245).
-/
namespace Sys2Proof.Machine

variable (s : State)

/-- With cycle division, `LOOP_TICK` completes with what a tick makes of the engine. -/
theorem exec_loopTick {s t : State} {k : Fin 64} (ha : s.alive = true) (hk : s.tickSource k = 2) (ht : s.jceTick k = t)
    (hp : t.pending = s.pending) : exec (.loopTick k) s = .next t := by
  have hd : s.doLoopTick k = t := (if_pos hk).trans ht
  have hb : (s.beside fun s => s.doLoopTick k) = t := (State.beside_eq (by rw [hd]; exact hp)).trans hd
  exact (State.run_alive ha _).trans (congrArg Host.Outcome.next hb)

/-- What an overrun records: the flag, both counts and event 65 (R254). -/
def State.tickOverrun (s : State) (k : Nat) : State :=
  (((s.setFlag Reg.JCE_FLAGS_LOOP_OVERRUN k true).count Reg.OVERRUN_COUNT_COUNT k 1).count Reg.TICK_MISSED_COUNT k 1).raise 65

theorem State.jceTick_pending {k : Nat} (hr : s.jceRuns k = true) (hs : (s.eng k).startAtTick = false)
    (hp : (s.eng k).tickPending = true) : s.jceTick k = s.tickOverrun k := by
  rw [State.jceTick, hs, if_neg Bool.false_ne_true, if_pos hr, if_pos hp, State.tickOverrun]

theorem State.jceTick_first {k : Nat} (hr : s.jceRuns k = true) (hs : (s.eng k).startAtTick = false)
    (hp : (s.eng k).tickPending = false) : s.jceTick k = s.onEng k fun e => { e with tickPending := true } := by
  rw [State.jceTick, hs, if_neg Bool.false_ne_true, if_pos hr, hp, if_neg Bool.false_ne_true]

/-- An overrun leaves the engines, their memories and registers, alone. -/
theorem State.jce_tickOverrun (k : Nat) : (s.tickOverrun k).jce = s.jce := by
  rw [State.tickOverrun, State.raise_jce, State.count_jce, State.count_jce, State.setFlag_jce]

theorem State.pending_tickOverrun (k : Nat) : (s.tickOverrun k).pending = s.pending := by
  rw [State.tickOverrun, State.raise_pending, State.count_pending, State.count_pending, State.setFlag_pending]

/-- An overrun leaves every field alone that is neither its own nor one that events write. -/
theorem State.get_tickOverrun_other {f : Field} (hf : Reg.raised f = false) (h1 : Reg.JCE_FLAGS_LOOP_OVERRUN.id ≠ f.id)
    (h2 : Reg.OVERRUN_COUNT_COUNT.id ≠ f.id) (h3 : Reg.TICK_MISSED_COUNT.id ≠ f.id) (k i : Nat) :
    (s.tickOverrun k).get f i = s.get f i := by
  rw [State.tickOverrun, State.get_raise _ hf, State.get_count_other _ h3, State.get_count_other _ h2,
    State.get_setFlag_other _ h1]

theorem State.loopOverrun_tickOverrun (k : Nat) : (s.tickOverrun k).flag Reg.JCE_FLAGS_LOOP_OVERRUN k = true := by
  rw [State.tickOverrun, State.flag_raise _ rfl, State.flag, State.get_count_other _ (by decide),
    State.get_count_other _ (by decide), State.get_setFlag_same _ _ _ _ (by decide)]
  rfl

theorem State.overrunCount_tickOverrun (k : Nat) : (s.tickOverrun k).get Reg.OVERRUN_COUNT_COUNT k =
    min (s.get Reg.OVERRUN_COUNT_COUNT k + 1) 0xFFFFFFFF := by
  rw [State.tickOverrun, State.get_raise _ rfl, State.get_count_other _ (by decide), State.get_count_same,
    State.get_setFlag_other _ (by decide)]
  rfl

theorem State.tickMissed_tickOverrun (k : Nat) : (s.tickOverrun k).get Reg.TICK_MISSED_COUNT k =
    min (s.get Reg.TICK_MISSED_COUNT k + 1) 0xFFFFFFFF := by
  rw [State.tickOverrun, State.get_raise _ rfl, State.get_count_same, State.get_count_other _ (by decide),
    State.get_setFlag_other _ (by decide)]
  rfl

/-- Event 65 shows at its targets: what an overrun writes before it is no route. -/
theorem State.signalled_tickOverrun (k : Nat) : s.Signalled 65 (s.tickOverrun k) := by
  refine (State.signalled_raise _ 65).of_get ?_ ?_ (fun _ => rfl) (fun _ => rfl) <;>
    rw [State.get_count_other _ (by decide), State.get_count_other _ (by decide), State.get_setFlag_other _ (by decide)]

/-- Settles O34: a tick on top of a pending one is `tickOverrun`, which records it and leaves the engines alone; any other is
kept as pending. -/
theorem jceTickOverruns : Obligations.JceTickOverruns := by
  intro s k ha hr hk hs
  refine ⟨fun hp => ?_, fun hp => exec_loopTick ha hk (s.jceTick_first hr hs hp) rfl⟩
  have hj := s.jce_tickOverrun k
  exact ⟨s.tickOverrun k, exec_loopTick ha hk (s.jceTick_pending hr hs hp) (s.pending_tickOverrun k),
    s.loopOverrun_tickOverrun k, s.overrunCount_tickOverrun k, s.tickMissed_tickOverrun k, s.signalled_tickOverrun k,
    (congrArg JceState.tickPending (State.eng_of_jce hj k)).trans hp, hj,
    s.get_tickOverrun_other rfl (by decide) (by decide) (by decide) k k⟩

theorem exec_jceLd {s : State} (ha : s.alive = true) (k : Fin 64) :
    exec (.jceLd k) s = .next (s.beside fun s => s.doLd k) := State.run_alive ha _

/-- `LD` with post-modification on an engine with no damaged word: the word at the address register as it stands is written
to D, then the register is modified. -/
theorem State.doLd_postModify {s : State} {k : Nat} (h : s.JceSound k) (hf : s.jfetched k 0x28 = true)
    (hm : bitsOf (s.jword k) 17 2 = 1) :
    s.doLd k = ((s.jput k (jceD (s.jword k)) (s.jload k (s.ja k (bitsOf (s.jword k) 19 3)))).jpost k
      (bitsOf (s.jword k) 19 3) true).jnext k := by
  have ha : s.jea k (s.jword k) = s.ja k (bitsOf (s.jword k) 19 3) := by
    rw [State.jea, hm]; rfl
  rw [State.doLd, State.jrun_of_sound h hf, State.jget_of_sound h, ha, State.jeaPost, hm]
  rfl

/-- Settles O35: the load and the modification are two updates of one engine, and the modified address is `postModify`. -/
theorem jcePostModification : Obligations.JcePostModification := by
  rintro s k w n a base md len ha hs rfl hf hm rfl rfl rfl rfl rfl
  refine ⟨_, exec_jceLd ha k, ?_⟩
  simp only [State.jd, State.ja, State.eng_beside, State.doLd_postModify hs hf hm]
  refine ⟨by simp, ?_, fun j hj => ?_, by simp, fun j hj => ?_⟩
  · simp [postModify_toInt]
  · simp [Tab.get_put_other _ _ hj.symm]
  · rw [State.eng_jnext_other _ hj, State.eng_jpost_other _ hj, State.eng_jput_other _ hj]

end Sys2Proof.Machine
end

section
/-!
The safe state of a PWM pair against a postponed turn-off of its low side (R364, R365).
-/
namespace Sys2Proof.Machine

/-- Pair 0 forced since reset, both switches off and none due, its reference high and the turn-off of its low side still
postponed to time 0: the pair is safe, for `PairSafe` does not speak of `lStretch`. -/
def stretchedWhileForced : State := State.reset.onPair 0 fun q => { q with href := true, lStretch := some 0 }

theorem pairSafe_stretchedWhileForced : stretchedWhileForced.PairSafe 0 := by decide

theorem exec_minPulseEnd {s : State} (ha : s.alive = true) (p : Fin 96) (high : Bool) (t : Nat) :
    exec (.minPulseEnd p high t) s = .next (s.beside fun s => s.minPulseEnd p high t) := State.run_alive ha _

/-- The end of the minimum pulse makes the high side due, although the pair is forced. -/
theorem not_pairSafe_minPulseEnd_stretchedWhileForced :
    ¬ (stretchedWhileForced.beside fun s => s.minPulseEnd 0 false 0).PairSafe 0 := by
  intro ⟨_, _, _, forced, _⟩
  have hf : (stretchedWhileForced.beside fun s => s.minPulseEnd 0 false 0).flag Reg.PWM_STATUS_FORCED 0 = true := by decide
  have hd : ((stretchedWhileForced.beside fun s => s.minPulseEnd 0 false 0).pair 0).hDue ≠ none := by decide
  exact hd (forced hf).2

/-- Refutes O39: `MIN_PULSE_END` of the low side does not ask whether the pair is forced. In `stretchedWhileForced`, which is
safe, it makes the high side due. (`enterSafe` clears `lStretch`, but `PairSafe` does not ask for that.) -/
theorem not_pairsNeverShootThrough : ¬ Obligations.PairsNeverShootThrough := by
  intro ⟨_, keeps⟩
  obtain ⟨u, hu, safe⟩ := keeps stretchedWhileForced 0 rfl (by decide) pairSafe_stretchedWhileForced
    .ranger 0 0 0 false 0 0 0 (.minPulseEnd 0 false 0) (by simp)
  rw [exec_minPulseEnd rfl] at hu
  cases hu
  exact not_pairSafe_minPulseEnd_stretchedWhileForced safe

end Sys2Proof.Machine
end

section
/-!
SUPPORT. A PWM pair: the rules of its operations, and that they leave everything else of the generator alone (R363 to R368).
-/
namespace Sys2Proof.Machine

variable (s : State)

/-! ### The pair beside its registers -/

@[simp] theorem State.pair_onPair_same (p : Nat) (f : PwmPair → PwmPair) : (s.onPair p f).pair p = f (s.pair p) :=
  Tab.get_put_same _ _ _ _

theorem State.pair_onPair_other {p q : Nat} (h : p ≠ q) (f : PwmPair → PwmPair) : (s.onPair p f).pair q = s.pair q :=
  Tab.get_put_other _ _ h _

/-- The pairs depend on `pwm` only. -/
theorem State.pair_of_pwm {s t : State} (h : t.pwm = s.pwm) (p : Nat) : t.pair p = s.pair p :=
  congrArg (fun w : Tab PwmPair => w.get PwmPair.reset p) h

@[simp] theorem State.pair_set (f : Field) (i v p : Nat) : (s.set f i v).pair p = s.pair p := rfl

@[simp] theorem State.get_onPair (p : Nat) (g : PwmPair → PwmPair) (f : Field) (i : Nat) :
    (s.onPair p g).get f i = s.get f i := rfl

/-! ### Flags -/

theorem State.flag_setFlag_same {f : Field} (h : f.width ≠ 0) (i : Nat) (b : Bool) : (s.setFlag f i b).flag f i = b := by
  rw [State.flag, State.get_setFlag_same _ _ _ _ h]
  cases b <;> rfl

theorem State.flag_setFlag_other {f g : Field} (h : f.id ≠ g.id) (i j : Nat) (b : Bool) :
    (s.setFlag f i b).flag g j = s.flag g j := by
  rw [State.flag, State.get_setFlag_other _ h]; rfl

theorem State.flag_answer (b : BusResp) (f : Field) (i : Nat) : (s.answer b).flag f i = s.flag f i := rfl

theorem State.flag_of_get {s t : State} {f : Field} {i : Nat} (h : t.get f i = s.get f i) : t.flag f i = s.flag f i := by
  rw [State.flag, h]; rfl

/-! ### What an operation on one pair leaves alone -/

/-- Writing an element of a field leaves the other elements of every field alone, even of a field with the same number and
other Reset values: both are then readings of one field that has the Reset value of each where it matters. -/
theorem State.get_set_element {f g : Field} {i j : Nat} (h : i ≠ j) (v : Nat) : (s.set f i v).get g j = s.get g j := by
  by_cases hid : f.id = g.id
  · have key := s.get_set_index { f with reset := g.resetAt j, resetIn := [(i, f.resetAt i)] } h v
    simpa [State.get, State.set, Field.resetAt, Tab.find, hid, h.symm] using key
  · exact s.get_set_other hid _ _ _

/-- `t` differs from `s` at most in the fields `ws` of element `p` and in pair `p` beside its registers, as far as the
generator's clock, its pairs and the registers go. -/
structure State.PairFrame (ws : List Field) (p : Nat) (s t : State) : Prop where
  get : ∀ f i, (∀ g ∈ ws, g.id ≠ f.id) ∨ p ≠ i → t.get f i = s.get f i
  pair : ∀ q, p ≠ q → t.pair q = s.pair q
  pwmClock : t.pwmClock = s.pwmClock

theorem State.PairFrame.refl (ws : List Field) (p : Nat) : s.PairFrame ws p s := ⟨fun _ _ _ => rfl, fun _ _ => rfl, rfl⟩

variable {s} in
theorem State.PairFrame.trans {ws : List Field} {p : Nat} {t u : State} (h : s.PairFrame ws p t) (h' : t.PairFrame ws p u) :
    s.PairFrame ws p u where
  get f i hf := (h'.get f i hf).trans (h.get f i hf)
  pair q hq := (h'.pair q hq).trans (h.pair q hq)
  pwmClock := h'.pwmClock.trans h.pwmClock

variable {s} in
theorem State.PairFrame.mono {ws ws' : List Field} {p : Nat} {t : State} (h : s.PairFrame ws p t) (hw : ws ⊆ ws') :
    s.PairFrame ws' p t where
  get f i hf := h.get f i (hf.imp_left fun hf g hg => hf g (hw hg))
  pair := h.pair
  pwmClock := h.pwmClock

theorem State.pairFrame_set {ws : List Field} {f : Field} (hf : f ∈ ws) (p v : Nat) : s.PairFrame ws p (s.set f p v) where
  get g i hg := by
    obtain hg | hi := hg
    · exact s.get_set_other (hg f hf) _ _ _
    · exact s.get_set_element hi v
  pair _ _ := rfl
  pwmClock := rfl

theorem State.pairFrame_onPair (ws : List Field) (p : Nat) (f : PwmPair → PwmPair) : s.PairFrame ws p (s.onPair p f) where
  get _ _ _ := rfl
  pair _ hq := s.pair_onPair_other hq f
  pwmClock := rfl

theorem State.pairFrame_setFlag {ws : List Field} {f : Field} (hf : f ∈ ws) (p : Nat) (b : Bool) :
    s.PairFrame ws p (s.setFlag f p b) := s.pairFrame_set hf p _

/-! ### Switches and the safe state -/

/-- The fields in which a pair shows its switches, its safe state and the causes. -/
def Reg.switches : List Field := [Reg.PWM_STATUS_FORCED, Reg.PWM_STATUS_CAUSES, Reg.PWM_STATUS_H_ON, Reg.PWM_STATUS_L_ON]

theorem State.pairFrame_hOff (p t : Nat) : s.PairFrame Reg.switches p (s.hOff p t) := by
  rw [State.hOff]
  split
  · exact (s.pairFrame_setFlag (by simp [Reg.switches]) p false).trans (State.pairFrame_onPair _ _ p _)
  · exact s.pairFrame_onPair _ p _

theorem State.pairFrame_lOff (p : Nat) : s.PairFrame [Reg.PWM_STATUS_L_ON] p (s.lOff p) :=
  (s.pairFrame_setFlag (by simp) p false).trans (State.pairFrame_onPair _ _ p _)

theorem State.pairFrame_lOn (p t : Nat) : s.PairFrame [Reg.PWM_STATUS_L_ON] p (s.lOn p t) :=
  (s.pairFrame_setFlag (by simp) p true).trans (State.pairFrame_onPair _ _ p _)

theorem State.highOff_hOff (p t : Nat) : (s.hOff p t).flag Reg.PWM_STATUS_H_ON p = false := by
  rw [State.hOff]
  split
  · exact s.flag_setFlag_same (by decide) p false
  · next h => exact Bool.eq_false_iff.mpr h

theorem State.lowOff_lOff (p : Nat) : (s.lOff p).flag Reg.PWM_STATUS_L_ON p = false :=
  s.flag_setFlag_same (by decide) p false

/-- The first part of `enterSafe`, for both forms of the safe state: the high side is off, for good, and the pair forced. -/
def State.highSafe (p t : Nat) : State :=
  ((s.hOff p t).setFlag Reg.PWM_STATUS_FORCED p true).onPair p fun q =>
    { q with hDue := none, lStretch := none, lShort := false }

theorem State.pairFrame_highSafe (p t : Nat) : s.PairFrame Reg.switches p (s.highSafe p t) :=
  ((s.pairFrame_hOff p t).trans (State.pairFrame_setFlag _ (by simp [Reg.switches]) p true)).trans
    (State.pairFrame_onPair _ _ p _)

theorem State.highOff_highSafe (p t : Nat) : (s.highSafe p t).flag Reg.PWM_STATUS_H_ON p = false :=
  (State.flag_setFlag_other _ (by decide) _ _ _).trans (s.highOff_hOff p t)

theorem State.forced_highSafe (p t : Nat) : (s.highSafe p t).pairForced p = true :=
  State.flag_setFlag_same _ (by decide) p true

/-- The second part of `enterSafe` is about the low side: nothing but its switch changes, and it is off without the clock. -/
theorem State.enterSafe_low (p t : Nat) :
    (s.highSafe p t).PairFrame [Reg.PWM_STATUS_L_ON] p (s.enterSafe p t) ∧
      (s.pwmClock = false → (s.enterSafe p t).flag Reg.PWM_STATUS_L_ON p = false) := by
  have hc := (s.pairFrame_highSafe p t).pwmClock
  unfold State.enterSafe
  rw [← State.highSafe]
  extract_lets _ u q
  split
  · next h =>
    refine ⟨?_, fun hn => ?_⟩
    · split
      · exact u.pairFrame_onPair _ p _
      · split
        · exact .refl u _ p
        · split
          · exact .refl u _ p
          · split
            · exact u.pairFrame_lOn p t
            · exact u.pairFrame_onPair _ p _
    · simp [u, hc, hn] at h
  · exact ⟨(u.pairFrame_lOff p).trans (State.pairFrame_onPair _ _ p _), fun _ => u.lowOff_lOff p⟩

theorem State.pairFrame_enterSafe (p t : Nat) : s.PairFrame Reg.switches p (s.enterSafe p t) :=
  (s.pairFrame_highSafe p t).trans ((s.enterSafe_low p t).1.mono (by simp [Reg.switches]))

theorem State.highOff_enterSafe (p t : Nat) : (s.enterSafe p t).flag Reg.PWM_STATUS_H_ON p = false :=
  (State.flag_of_get ((s.enterSafe_low p t).1.get _ _ (.inl (by decide)))).trans (s.highOff_highSafe p t)

theorem State.forced_enterSafe (p t : Nat) : (s.enterSafe p t).pairForced p = true :=
  (State.flag_of_get ((s.enterSafe_low p t).1.get _ _ (.inl (by decide)))).trans (s.forced_highSafe p t)

theorem State.lowOff_enterSafe {s : State} (h : s.pwmClock = false) (p t : Nat) :
    (s.enterSafe p t).flag Reg.PWM_STATUS_L_ON p = false := (s.enterSafe_low p t).2 h

theorem State.causes_enterSafe (p t : Nat) :
    (s.enterSafe p t).get Reg.PWM_STATUS_CAUSES p = s.get Reg.PWM_STATUS_CAUSES p := by
  rw [(s.enterSafe_low p t).1.get _ _ (.inl (by decide)), State.highSafe, State.get_onPair,
    State.get_setFlag_other _ (by decide), State.hOff]
  split
  · exact State.get_setFlag_other _ (by decide) _ _ _
  · rfl

/-! ### Causes -/

theorem State.pairFrame_showCauses (p : Nat) : s.PairFrame [Reg.PWM_STATUS_CAUSES] p (s.showCauses p) :=
  s.pairFrame_set (by simp) p _

/-- `CAUSES` is shown, not read: the causes that are present do not depend on it. -/
theorem State.pairCauses_showCauses (p : Nat) : (s.showCauses p).pairCauses p = s.pairCauses p := by
  have h {f : Field} (hf : Reg.PWM_STATUS_CAUSES.id ≠ f.id) : (s.showCauses p).get f p = s.get f p :=
    State.get_set_other _ hf _ _ _
  simp only [State.pairCauses, State.flag, h (f := Reg.PWM_CTRL_FORCE) (by decide),
    h (f := Reg.PWM_CTRL_STO_MODE) (by decide), h (f := Reg.PWM_TRIP_TRIP_LATCHED) (by decide),
    h (f := Reg.PWM_FLAGS_CLK_LOST) (by decide)]
  rfl

theorem State.pairFrame_judgeCauses (p t : Nat) : s.PairFrame Reg.switches p (s.judgeCauses p t) := by
  have shown := (s.pairFrame_showCauses p).mono (ws' := Reg.switches) (by simp [Reg.switches])
  rw [State.judgeCauses]
  split
  · exact shown.trans (State.pairFrame_enterSafe _ p t)
  · exact shown

/-- A pair with a cause present is forced. -/
theorem State.forced_judgeCauses {p : Nat} (h : s.pairCauses p ≠ 0) (t : Nat) : (s.judgeCauses p t).pairForced p = true := by
  rw [State.judgeCauses, State.pairCauses_showCauses]
  split
  · exact State.forced_enterSafe _ p t
  · next hn => exact Bool.of_not_eq_false fun hf => hn ⟨h, hf⟩

/-- Its high side is off if it was off for a pair that was forced before. -/
theorem State.highOff_judgeCauses {p : Nat} (h : s.pairCauses p ≠ 0)
    (hs : s.pairForced p = true → s.flag Reg.PWM_STATUS_H_ON p = false) (t : Nat) :
    (s.judgeCauses p t).flag Reg.PWM_STATUS_H_ON p = false := by
  have keep (f : Field) (hf : Reg.PWM_STATUS_CAUSES.id ≠ f.id) : (s.showCauses p).flag f p = s.flag f p :=
    State.flag_of_get ((s.pairFrame_showCauses p).get f p (.inl (by simpa using hf)))
  rw [State.judgeCauses, State.pairCauses_showCauses, State.pairForced, keep _ (by decide)]
  split
  · exact State.highOff_enterSafe _ p t
  · next hn =>
    rw [keep _ (by decide)]
    exact hs (Bool.of_not_eq_false fun hf => hn ⟨h, hf⟩)

/-- `CAUSES` shows the causes that are present. -/
theorem State.causes_judgeCauses (p t : Nat) :
    (s.judgeCauses p t).get Reg.PWM_STATUS_CAUSES p = s.pairCauses p % 2 ^ 6 := by
  have shown : (s.showCauses p).get Reg.PWM_STATUS_CAUSES p = s.pairCauses p % 2 ^ 6 := s.get_set_same _ p _
  rw [State.judgeCauses]
  split
  · rw [State.causes_enterSafe, shown]
  · exact shown

/-- `FORCE` is bit 0 of the causes. -/
theorem State.pairCauses_force {p : Nat} (h : s.get Reg.PWM_CTRL_FORCE p = 1) : s.pairCauses p % 2 = 1 := by
  rw [State.pairCauses, h]; omega

/-- A latched trip is a cause. -/
theorem State.pairCauses_latched {p : Nat} (h : s.flag Reg.PWM_TRIP_TRIP_LATCHED p = true) : s.pairCauses p ≠ 0 := by
  have : s.get Reg.PWM_TRIP_TRIP_LATCHED p ≠ 0 := by simpa [State.flag] using h
  rw [State.pairCauses]; omega

/-! ### Operations on several pairs in turn -/

/-- What holds after every pass at `x` and survives the passes elsewhere holds after passes that visit `x`; `Q` is what the
passes rest on. -/
theorem State.foldl_at {f : State → Nat → State} {Q P : State → Prop} {x : Nat} (hQ : ∀ s y, Q s → Q (f s y))
    (hx : ∀ s, Q s → P (f s x)) (hP : ∀ s y, y ≠ x → P s → P (f s y)) {l : List Nat} (hl : x ∈ l) {s : State} (h : Q s) :
    P (l.foldl f s) := by
  have stays : ∀ (l : List Nat) (s : State), Q s → P s → P (l.foldl f s) := by
    intro l
    induction l with
    | nil => exact fun _ _ h => h
    | cons y l ih =>
      intro s hq hp
      refine ih _ (hQ s y hq) ?_
      by_cases hy : y = x
      · exact hy ▸ hx s hq
      · exact hP s y hy hp
  induction l generalizing s with
  | nil => cases hl
  | cons y l ih =>
    obtain rfl | hl := List.mem_cons.mp hl
    · exact stays l _ (hQ s x h) (hx s h)
    · exact ih hl (hQ s y h)

/-- What every pass keeps, all of them keep. -/
theorem State.foldl_keeps {α : Type} {f : State → α → State} {P : State → Prop} (h : ∀ s x, P s → P (f s x)) (l : List α)
    {s : State} (hs : P s) : P (l.foldl f s) := by
  induction l generalizing s with
  | nil => exact hs
  | cons x l ih => exact ih (h s x hs)

end Sys2Proof.Machine
end

section
/-!
SUPPORT. Trip inputs (R370 to R374).
-/
namespace Sys2Proof.Machine

variable (s : State)

/-- The fields that a trip writes at a pair of its group. -/
def Reg.tripped : List Field := Reg.PWM_TRIP_TRIP_SRC :: Reg.PWM_TRIP_TRIP_LATCHED :: Reg.switches

/-- The latch of a trip at a pair, before the pair's causes are judged. -/
def State.tripLatch (p : Nat) : State :=
  (s.set Reg.PWM_TRIP_TRIP_SRC p
    (maskOr (s.get Reg.PWM_TRIP_TRIP_SRC p) (maskAnd (s.get Reg.PWM_TRIP_TRIP_MASK p) s.activeTrips))).setFlag
    Reg.PWM_TRIP_TRIP_LATCHED p true

theorem State.tripPair_eq (p t : Nat) : s.tripPair p t = ((s.tripLatch p).judgeCauses p t).periphEvent (pairEngine p) := rfl

theorem State.pairFrame_tripLatch (p : Nat) : s.PairFrame Reg.tripped p (s.tripLatch p) :=
  (s.pairFrame_set (by simp [Reg.tripped]) p _).trans (State.pairFrame_setFlag _ (by simp [Reg.tripped]) p true)

theorem State.latched_tripLatch (p : Nat) : (s.tripLatch p).flag Reg.PWM_TRIP_TRIP_LATCHED p = true :=
  State.flag_setFlag_same _ (by decide) p true

theorem State.flag_periphEvent (k : Nat) (f : Field) (i : Nat) : (s.periphEvent k).flag f i = s.flag f i := rfl

theorem State.pairFrame_periphEvent (ws : List Field) (p k : Nat) : s.PairFrame ws p (s.periphEvent k) :=
  ⟨fun _ _ _ => rfl, fun _ _ => rfl, rfl⟩

theorem State.pairFrame_tripPair (p t : Nat) : s.PairFrame Reg.tripped p (s.tripPair p t) := by
  have judged := ((s.tripLatch p).pairFrame_judgeCauses p t).mono (ws' := Reg.tripped) (by simp [Reg.tripped])
  rw [State.tripPair_eq]
  exact ((s.pairFrame_tripLatch p).trans judged).trans (State.pairFrame_periphEvent _ _ p _)

theorem State.latched_tripPair (p t : Nat) : (s.tripPair p t).flag Reg.PWM_TRIP_TRIP_LATCHED p = true := by
  have judged := ((s.tripLatch p).pairFrame_judgeCauses p t).get Reg.PWM_TRIP_TRIP_LATCHED p (.inl (by decide))
  rw [State.tripPair_eq, State.flag_periphEvent, State.flag_of_get judged, State.latched_tripLatch]

theorem State.forced_tripPair (p t : Nat) : (s.tripPair p t).pairForced p = true := by
  have judged := (s.tripLatch p).forced_judgeCauses (State.pairCauses_latched _ (s.latched_tripLatch p)) t
  rw [State.tripPair_eq, State.pairForced, State.flag_periphEvent]
  exact judged

/-- A trip that becomes active latches at pair `p` if the pair's mask names it (R372). -/
def State.tripAt (n t : Nat) (s : State) (p : Nat) : State :=
  if bitOf (s.get Reg.PWM_TRIP_TRIP_MASK p) n then s.tripPair p t else s

theorem State.pairFrame_tripAt (n t p : Nat) : s.PairFrame Reg.tripped p (s.tripAt n t p) := by
  rw [State.tripAt]
  split
  · exact s.pairFrame_tripPair p t
  · exact .refl s _ p

/-- The group of trip `n` is forced. -/
def State.tripGroup (n t : Nat) : State := (List.range 96).foldl (fun s p => s.tripAt n t p) s

/-- Other fields than those of `Reg.tripped` keep their values. -/
theorem State.get_tripGroup {f : Field} (hf : ∀ g ∈ Reg.tripped, g.id ≠ f.id) (n t i : Nat) :
    (s.tripGroup n t).get f i = s.get f i :=
  State.foldl_keeps (P := fun u => u.get f i = s.get f i)
    (fun u p h => ((u.pairFrame_tripAt n t p).get f i (.inl hf)).trans h) _ rfl

theorem State.mask_tripAt (n t p i : Nat) :
    (s.tripAt n t p).get Reg.PWM_TRIP_TRIP_MASK i = s.get Reg.PWM_TRIP_TRIP_MASK i :=
  (s.pairFrame_tripAt n t p).get _ _ (.inl (by decide))

/-- Every pair whose mask names the trip is latched and forced. -/
theorem State.tripGroup_named {n p : Nat} (hp : p < 96) (hn : bitOf (s.get Reg.PWM_TRIP_TRIP_MASK p) n = true) (t : Nat) :
    (s.tripGroup n t).flag Reg.PWM_TRIP_TRIP_LATCHED p = true ∧ (s.tripGroup n t).pairForced p = true := by
  refine State.foldl_at (Q := fun u => bitOf (u.get Reg.PWM_TRIP_TRIP_MASK p) n = true)
    (P := fun u => u.flag Reg.PWM_TRIP_TRIP_LATCHED p = true ∧ u.pairForced p = true)
    (fun u q h => ?_) (fun u h => ?_) (fun u q hq h => ?_) (List.mem_range.mpr hp) hn
  · rwa [State.mask_tripAt]
  · rw [State.tripAt, if_pos h]
    exact ⟨u.latched_tripPair p t, u.forced_tripPair p t⟩
  · have same (f : Field) := State.flag_of_get ((u.pairFrame_tripAt n t q).get f p (.inr hq))
    exact ⟨(same _).trans h.1, (same _).trans h.2⟩

/-- Every other pair keeps its latch and what it holds beside its registers. -/
theorem State.tripGroup_unnamed {n p : Nat} (hn : bitOf (s.get Reg.PWM_TRIP_TRIP_MASK p) n = false) (t : Nat) :
    (s.tripGroup n t).get Reg.PWM_TRIP_TRIP_LATCHED p = s.get Reg.PWM_TRIP_TRIP_LATCHED p ∧
      (s.tripGroup n t).pair p = s.pair p := by
  refine (State.foldl_keeps (P := fun u => bitOf (u.get Reg.PWM_TRIP_TRIP_MASK p) n = false ∧
    u.get Reg.PWM_TRIP_TRIP_LATCHED p = s.get Reg.PWM_TRIP_TRIP_LATCHED p ∧ u.pair p = s.pair p) (fun u q h => ?_) _
    ⟨hn, rfl, rfl⟩).2
  obtain ⟨hm, hl, hb⟩ := h
  refine ⟨by rwa [State.mask_tripAt], ?_⟩
  by_cases hq : q = p
  · rw [State.tripAt, hq, hm]
    exact ⟨hl, hb⟩
  · have frame := u.pairFrame_tripAt n t q
    exact ⟨(frame.get _ p (.inr hq)).trans hl, (frame.pair p hq).trans hb⟩

/-- What a trip that becomes active records before it acts on its group. -/
def State.tripBegins (n : Nat) : State :=
  ((s.setFlag Reg.TRIP_STATUS_ACTIVE n true).count Reg.TRIP_COUNT_COUNT n 1).raise 72

theorem State.judgeTrip_off {n : Nat} (h : s.tripOn n = false) (t : Nat) :
    s.judgeTrip n t = s.setFlag Reg.TRIP_STATUS_ACTIVE n false := by
  rw [State.judgeTrip, h]; rfl

theorem State.judgeTrip_still {n : Nat} (h : s.tripOn n = true) (ha : s.flag Reg.TRIP_STATUS_ACTIVE n = true) (t : Nat) :
    s.judgeTrip n t = s := by
  rw [State.judgeTrip, h, ha]; rfl

theorem State.judgeTrip_begins {n : Nat} (h : s.tripOn n = true) (ha : s.flag Reg.TRIP_STATUS_ACTIVE n = false) (t : Nat) :
    s.judgeTrip n t = (s.tripBegins n).tripGroup n t := by
  rw [State.judgeTrip, h, ha]; rfl

theorem State.active_tripBegins (n : Nat) : (s.tripBegins n).flag Reg.TRIP_STATUS_ACTIVE n = true := by
  rw [State.tripBegins, State.flag_raise _ rfl, State.flag_of_get (State.get_count_other _ (by decide) _ _ _)]
  exact s.flag_setFlag_same (by decide) n true

theorem State.count_tripBegins (n : Nat) :
    (s.tripBegins n).get Reg.TRIP_COUNT_COUNT n = min (s.get Reg.TRIP_COUNT_COUNT n + 1) 0xFFFFFFFF := by
  rw [State.tripBegins, State.get_raise _ rfl, State.get_count_same, State.get_setFlag_other _ (by decide)]
  rfl

theorem State.get_tripBegins {f : Field} (hr : Reg.raised f = false) (ha : Reg.TRIP_STATUS_ACTIVE.id ≠ f.id)
    (hc : Reg.TRIP_COUNT_COUNT.id ≠ f.id) (n i : Nat) : (s.tripBegins n).get f i = s.get f i := by
  rw [State.tripBegins, State.get_raise _ hr, State.get_count_other _ hc, State.get_setFlag_other _ ha]

theorem State.signalled_tripBegins (n : Nat) : s.Signalled 72 (s.tripBegins n) := by
  refine (State.signalled_raise _ 72).of_get ?_ ?_ (fun _ => rfl) (fun _ => rfl) <;>
    rw [State.get_count_other _ (by decide), State.get_setFlag_other _ (by decide)]

/-- A trip input after samples of level `high` as many as its filter asks for. -/
def State.tripLevel (n : Nat) (high : Bool) : State :=
  { s.setFlag Reg.TRIP_STATUS_RAW n high with tripHigh := s.tripHigh.put none n (some high) }

theorem State.get_tripLevel {f : Field} (hf : Reg.TRIP_STATUS_RAW.id ≠ f.id) (n : Nat) (high : Bool) (i : Nat) :
    (s.tripLevel n high).get f i = s.get f i := s.get_setFlag_other hf _ _ _

theorem State.flag_tripLevel {f : Field} (hf : Reg.TRIP_STATUS_RAW.id ≠ f.id) (n : Nat) (high : Bool) (i : Nat) :
    (s.tripLevel n high).flag f i = s.flag f i := State.flag_of_get (s.get_tripLevel hf n high i)

/-- The filtered level is the active one of an enabled trip (R370). -/
theorem State.tripOn_tripLevel (n : Nat) (high : Bool) :
    (s.tripLevel n high).tripOn n = (s.flag Reg.TRIP_CFG_EN n && high != s.flag Reg.TRIP_CFG_ACTIVE_LOW n) := by
  have h : (s.tripLevel n high).tripHigh.get none n = some high := Tab.get_put_same _ _ _ _
  simp only [State.tripOn, h, s.flag_tripLevel (f := Reg.TRIP_CFG_EN) (by decide),
    s.flag_tripLevel (f := Reg.TRIP_CFG_ACTIVE_LOW) (by decide)]

theorem State.tripSamples_zero (n : Nat) (high : Bool) (t : Nat) : s.tripSamples n high 0 t = s := rfl

theorem State.filtN_raw (n i : Nat) (high : Bool) :
    (s.setFlag Reg.TRIP_STATUS_RAW n high).get Reg.TRIP_CFG_FILT_N i = s.get Reg.TRIP_CFG_FILT_N i :=
  s.get_setFlag_other (by decide) _ _ _

theorem State.tripSamples_short {n k : Nat} (hk : 0 < k) (hl : k < clampN 1 1024 (s.get Reg.TRIP_CFG_FILT_N n)) (high : Bool)
    (t : Nat) : s.tripSamples n high k t = s.setFlag Reg.TRIP_STATUS_RAW n high := by
  simp only [State.tripSamples, State.filtN_raw]
  rw [if_neg (by omega), if_neg (by omega)]

theorem State.tripSamples_enough {n k : Nat} (hl : clampN 1 1024 (s.get Reg.TRIP_CFG_FILT_N n) ≤ k) (high : Bool)
    (t : Nat) : s.tripSamples n high k t = (s.tripLevel n high).judgeTrip n t := by
  have hk : 0 < clampN 1 1024 (s.get Reg.TRIP_CFG_FILT_N n) := by
    unfold clampN
    split
    · omega
    · split <;> omega
  simp only [State.tripSamples, State.filtN_raw]
  rw [if_neg (by omega), if_pos hl]
  rfl

end Sys2Proof.Machine
end

section
/-!
SUPPORT. The PWM clock (R368).
-/
namespace Sys2Proof.Machine

variable (s : State)

theorem State.get_of_regs {s t : State} (h : t.regs = s.regs) (f : Field) (i : Nat) : t.get f i = s.get f i := by
  rw [State.get, h]; rfl

/-! ### Loss -/

/-- The loss of the PWM clock at one pair. -/
def State.clockLostAt (t : Nat) (s : State) (p : Nat) : State :=
  ((s.setFlag Reg.PWM_FLAGS_CLK_LOST p true).showCauses p).enterSafe p t

theorem State.pairFrame_clockLostAt (t p : Nat) :
    s.PairFrame (Reg.PWM_FLAGS_CLK_LOST :: Reg.switches) p (s.clockLostAt t p) :=
  ((s.pairFrame_setFlag (by simp) p true).trans
    ((State.pairFrame_showCauses _ p).mono (by simp [Reg.switches]))).trans
    ((State.pairFrame_enterSafe _ p t).mono (by simp))

theorem State.clkLost_clockLostAt (t p : Nat) : (s.clockLostAt t p).flag Reg.PWM_FLAGS_CLK_LOST p = true := by
  rw [State.clockLostAt, State.flag_of_get ((State.pairFrame_enterSafe _ p t).get _ p (.inl (by decide))),
    State.flag_of_get ((State.pairFrame_showCauses _ p).get _ p (.inl (by decide)))]
  exact s.flag_setFlag_same (by decide) p true

/-- What the loss of the clock leaves of a pair: off, forced and marked. -/
def State.ClockLost (s : State) (p : Nat) : Prop :=
  s.flag Reg.PWM_STATUS_H_ON p = false ∧ s.flag Reg.PWM_STATUS_L_ON p = false ∧ s.pairForced p = true ∧
    s.flag Reg.PWM_FLAGS_CLK_LOST p = true

theorem State.ClockLost.of_get {s t : State} {p : Nat} (h : s.ClockLost p) (hg : ∀ f, t.get f p = s.get f p) :
    t.ClockLost p := by
  have same (f : Field) := State.flag_of_get (hg f)
  simpa only [State.ClockLost, State.pairForced, same] using h

theorem State.clockLost_clockLostAt {s : State} (h : s.pwmClock = false) (t p : Nat) : (s.clockLostAt t p).ClockLost p := by
  refine ⟨?_, ?_, ?_, s.clkLost_clockLostAt t p⟩ <;> rw [State.clockLostAt]
  · exact State.highOff_enterSafe _ p t
  · exact State.lowOff_enterSafe (s := (s.setFlag Reg.PWM_FLAGS_CLK_LOST p true).showCauses p) h p t
  · exact State.forced_enterSafe _ p t

/-- The part of a loss of the clock that concerns the pairs. -/
def State.clockLostPairs (t : Nat) : State :=
  (List.range 96).foldl (fun s p => s.clockLostAt t p)
    (({ s with pwmClock := false } : State).set Reg.CLK_STATUS_LOCK 0 (putBits (s.get Reg.CLK_STATUS_LOCK 0) 5 1 0))

theorem State.clockLost_clockLostPairs {p : Nat} (hp : p < 96) (t : Nat) : (s.clockLostPairs t).ClockLost p := by
  refine State.foldl_at (Q := fun u => u.pwmClock = false) (P := fun u => u.ClockLost p)
    (fun u q h => (u.pairFrame_clockLostAt t q).pwmClock.trans h) (fun u h => State.clockLost_clockLostAt h t p)
    (fun u q hq h => h.of_get fun f => (u.pairFrame_clockLostAt t q).get f p (.inr hq)) (List.mem_range.mpr hp) rfl

theorem State.pwmClock_clockLostPairs (t : Nat) : (s.clockLostPairs t).pwmClock = false :=
  State.foldl_keeps (P := fun u => u.pwmClock = false) (fun u q h => (u.pairFrame_clockLostAt t q).pwmClock.trans h) _ rfl

theorem State.get_clockLostPairs {f : Field} (hc : Reg.CLK_STATUS_LOCK.id ≠ f.id)
    (hf : ∀ g ∈ Reg.PWM_FLAGS_CLK_LOST :: Reg.switches, g.id ≠ f.id) (t i : Nat) :
    (s.clockLostPairs t).get f i = s.get f i := by
  refine State.foldl_keeps (P := fun u => u.get f i = s.get f i)
    (fun u q h => ((u.pairFrame_clockLostAt t q).get f i (.inl hf)).trans h) _ ?_
  rw [State.get_set_other _ hc]; rfl

/-- `ENGINE_STOPPED` has no reaction of its own. -/
theorem State.react_zero (axis : Nat) : s.react axis 0 = s := by simp [State.react]

theorem State.regs_latchCause (c : Nat) : (s.latchCause c).regs = s.regs ∧ (s.latchCause c).pwmClock = s.pwmClock := by
  rw [State.latchCause]
  split <;> split <;> exact ⟨rfl, rfl⟩

/-- Ranger's part in a loss of the clock: the engine-stopped bit of every local servo axis. -/
def State.servosStopped : State :=
  (List.range 32).foldl (fun s i => (s.latchFault (192 + i) 11).axisWords (192 + i)) s

theorem State.regs_latchFault_stopped (axis : Nat) :
    (s.latchFault axis 11).regs = s.regs ∧ (s.latchFault axis 11).pwmClock = s.pwmClock := by
  have h0 : faultReaction 11 = 0 := rfl
  unfold State.latchFault
  extract_lets a was s1 s2 s3
  have h : s3.regs = s.regs ∧ s3.pwmClock = s.pwmClock := by
    simp [s3, s2, s1, h0, State.react_zero, State.onAx]
  split
  · exact ⟨rfl, rfl⟩
  · split
    · exact ⟨(s3.regs_latchCause 9).1.trans h.1, (s3.regs_latchCause 9).2.trans h.2⟩
    · exact h

theorem State.regs_servosStopped : s.servosStopped.regs = s.regs ∧ s.servosStopped.pwmClock = s.pwmClock := by
  refine State.foldl_keeps (P := fun u => u.regs = s.regs ∧ u.pwmClock = s.pwmClock) (fun u i h => ?_) _ ⟨rfl, rfl⟩
  have hf := u.regs_latchFault_stopped (192 + i)
  simp [State.axisWords, hf.1, hf.2, h.1, h.2]

theorem State.regs_periphEvents (l : List Nat) (k : Nat) :
    (l.foldl (fun s i => s.periphEvent (k + i)) s).regs = s.regs ∧
      (l.foldl (fun s i => s.periphEvent (k + i)) s).pwmClock = s.pwmClock :=
  State.foldl_keeps (f := fun s i => s.periphEvent (k + i)) (P := fun u => u.regs = s.regs ∧ u.pwmClock = s.pwmClock)
    (fun _ _ h => h) l ⟨rfl, rfl⟩

theorem State.doClockLoss_eq {s : State} (h : s.pwmClock = true) (t : Nat) : s.doClockLoss t =
    ((List.range 8).foldl (fun s i => s.periphEvent (48 + i)) ((s.clockLostPairs t).raise 74)).servosStopped := by
  rw [State.doClockLoss, if_pos h, State.pwmClockLost, if_pos h]
  rfl

/-- What follows the loss at the pairs changes no register but those that event 74 writes, and leaves the clock lost. -/
theorem State.doClockLoss_frame {s : State} (h : s.pwmClock = true) (t : Nat) :
    (s.doClockLoss t).regs = ((s.clockLostPairs t).raise 74).regs ∧ (s.doClockLoss t).pwmClock = false := by
  rw [State.doClockLoss_eq h]
  have stopped := State.regs_servosStopped ((List.range 8).foldl (fun s i => s.periphEvent (48 + i)) ((s.clockLostPairs t).raise 74))
  have events := ((s.clockLostPairs t).raise 74).regs_periphEvents (List.range 8) 48
  refine ⟨stopped.1.trans events.1, stopped.2.trans (events.2.trans ?_)⟩
  rw [State.raise_pwmClock, State.pwmClock_clockLostPairs]

theorem State.clockLost_doClockLoss {s : State} (h : s.pwmClock = true) {p : Nat} (hp : p < 96) (t : Nat) :
    (s.doClockLoss t).ClockLost p := by
  have raised {f : Field} (hf : Reg.raised f = false) : (s.doClockLoss t).flag f p = (s.clockLostPairs t).flag f p :=
    (State.flag_of_get (State.get_of_regs (State.doClockLoss_frame h t).1 f p)).trans (State.flag_raise _ hf 74 p)
  have lost := s.clockLost_clockLostPairs hp t
  simp only [State.ClockLost, State.pairForced] at lost ⊢
  rwa [raised rfl, raised rfl, raised rfl, raised rfl]

theorem State.signalled_doClockLoss {s : State} (h : s.pwmClock = true) (t : Nat) : s.Signalled 74 (s.doClockLoss t) := by
  have hg := State.get_of_regs (State.doClockLoss_frame h t).1
  exact (State.signalled_raise (s.clockLostPairs t) 74).of_get
    (s.get_clockLostPairs (by decide) (by decide) t _) (s.get_clockLostPairs (by decide) (by decide) t _) (hg _) (hg _)

/-! ### Return -/

/-- The return of the PWM clock at one pair, which waits for the next common instant. -/
def State.clockBackAt (s : State) (p : Nat) : State := (s.onPair p fun q => { q with restart := true }).showCauses p

theorem State.pairFrame_clockBackAt (p : Nat) : s.PairFrame [Reg.PWM_STATUS_CAUSES] p (s.clockBackAt p) :=
  (s.pairFrame_onPair _ p _).trans (State.pairFrame_showCauses _ p)

theorem State.restart_clockBackAt (p : Nat) : ((s.clockBackAt p).pair p).restart = true := by
  rw [State.clockBackAt, State.showCauses, State.pair_set, State.pair_onPair_same]

theorem State.doClockReturn_eq {s : State} (h : s.pwmClock = false) : s.doClockReturn =
    (List.range 96).foldl State.clockBackAt
      { s.set Reg.CLK_STATUS_LOCK 0 (putBits (s.get Reg.CLK_STATUS_LOCK 0) 5 1 1) with pwmClock := true } := by
  rw [State.doClockReturn, h]; rfl

theorem State.pwmClock_doClockReturn : s.doClockReturn.pwmClock = true := by
  cases h : s.pwmClock
  · rw [State.doClockReturn_eq h]
    exact State.foldl_keeps (P := fun u => u.pwmClock = true)
      (fun u q hu => (u.pairFrame_clockBackAt q).pwmClock.trans hu) _ rfl
  · rwa [State.doClockReturn, if_pos h]

theorem State.restart_doClockReturn {s : State} (h : s.pwmClock = false) {p : Nat} (hp : p < 96) :
    (s.doClockReturn.pair p).restart = true := by
  rw [State.doClockReturn_eq h]
  exact State.foldl_at (Q := fun _ => True) (P := fun u => (u.pair p).restart = true) (fun _ _ _ => trivial)
    (fun u _ => u.restart_clockBackAt p)
    (fun u q hq hu => (congrArg PwmPair.restart ((u.pairFrame_clockBackAt q).pair p hq)).trans hu) (List.mem_range.mpr hp)
    trivial

theorem State.clkLost_doClockReturn {s : State} (h : s.pwmClock = false) (p : Nat) :
    s.doClockReturn.flag Reg.PWM_FLAGS_CLK_LOST p = s.flag Reg.PWM_FLAGS_CLK_LOST p := by
  rw [State.doClockReturn_eq h]
  refine State.foldl_keeps (P := fun u => u.flag Reg.PWM_FLAGS_CLK_LOST p = s.flag Reg.PWM_FLAGS_CLK_LOST p)
    (fun u q hu => (State.flag_of_get ((u.pairFrame_clockBackAt q).get _ p (.inl (by decide)))).trans hu) _ ?_
  exact State.flag_of_get (s.get_set_other (by decide) _ _ _)

end Sys2Proof.Machine
end

section
/-!
SUPPORT. The values of `PWM_SET` as one view of the state, and the operations of a running period that keep it (R359, R360).
-/
namespace Sys2Proof.Machine

variable (s : State)

/-- The fields of `PWM_SET`. -/
def Reg.pwmSet (f : Field) : Bool := f.id == Reg.PWM_SET_DUTY.id || f.id == Reg.PWM_SET_PER.id

/-- `DUTY` and `PER` of pair `p`. -/
def State.pwmSet (s : State) (p : Nat) : Nat × Nat := (s.get Reg.PWM_SET_DUTY p, s.get Reg.PWM_SET_PER p)

variable (p : Nat)

theorem State.pwmSet_congr {s t : State} (h : t.regs = s.regs) (p : Nat) : t.pwmSet p = s.pwmSet p := by
  simp only [State.pwmSet, State.get_of_regs h]

@[simp] theorem State.pwmSet_foldl {α : Type} {f : State → α → State} (h : ∀ s x, (f s x).pwmSet p = s.pwmSet p)
    (l : List α) : (l.foldl f s).pwmSet p = s.pwmSet p :=
  State.foldl_keeps (P := fun u => u.pwmSet p = s.pwmSet p) (fun u x hu => (h u x).trans hu) l rfl

@[simp] theorem State.pwmSet_ite (c : Prop) [Decidable c] (t : State) :
    (if c then s else t).pwmSet p = if c then s.pwmSet p else t.pwmSet p := apply_ite (State.pwmSet · p) _ _ _

@[simp] theorem State.pwmSet_set {f : Field} (h : Reg.pwmSet f = false) (i v : Nat) : (s.set f i v).pwmSet p = s.pwmSet p := by
  simp only [Reg.pwmSet, Bool.or_eq_false_iff, beq_eq_false_iff_ne] at h
  simp only [State.pwmSet, s.get_set_other h.1, s.get_set_other h.2]

@[simp] theorem State.pwmSet_setFlag {f : Field} (h : Reg.pwmSet f = false) (i : Nat) (b : Bool) :
    (s.setFlag f i b).pwmSet p = s.pwmSet p := s.pwmSet_set p h i _

@[simp] theorem State.pwmSet_count {f : Field} (h : Reg.pwmSet f = false) (i n : Nat) :
    (s.count f i n).pwmSet p = s.pwmSet p := s.pwmSet_set p h i _

@[simp] theorem State.pwmSet_raise (n : Nat) : (s.raise n).pwmSet p = s.pwmSet p := by
  simp only [State.pwmSet, s.get_raise (f := Reg.PWM_SET_DUTY) rfl, s.get_raise (f := Reg.PWM_SET_PER) rfl]

@[simp] theorem State.pwmSet_onPair (q : Nat) (f : PwmPair → PwmPair) : (s.onPair q f).pwmSet p = s.pwmSet p :=
  State.pwmSet_congr rfl p

@[simp] theorem State.pwmSet_onEng (k : Nat) (f : JceState → JceState) : (s.onEng k f).pwmSet p = s.pwmSet p :=
  State.pwmSet_congr rfl p

/-- What only changes switches, safe state and causes of a pair keeps the values of every pair. -/
theorem State.PairFrame.pwmSet {s t : State} {q : Nat} (h : s.PairFrame Reg.switches q t) (p : Nat) :
    t.pwmSet p = s.pwmSet p := by
  simp only [State.pwmSet, h.get Reg.PWM_SET_DUTY p (.inl (by decide)), h.get Reg.PWM_SET_PER p (.inl (by decide))]

@[simp] theorem State.pwmSet_hOff (q t : Nat) : (s.hOff q t).pwmSet p = s.pwmSet p := (s.pairFrame_hOff q t).pwmSet p

@[simp] theorem State.pwmSet_lOff (q : Nat) : (s.lOff q).pwmSet p = s.pwmSet p :=
  ((s.pairFrame_lOff q).mono (by simp [Reg.switches])).pwmSet p

@[simp] theorem State.pwmSet_judgeCauses (q t : Nat) : (s.judgeCauses q t).pwmSet p = s.pwmSet p :=
  (s.pairFrame_judgeCauses q t).pwmSet p

/-! ### The edges of H_ref -/

@[simp] theorem State.pwmSet_dropPulse (q : Nat) : (s.dropPulse q).pwmSet p = s.pwmSet p := by
  simp +decide [State.dropPulse]

@[simp] theorem State.pwmSet_refRise (q t : Nat) : (s.refRise q t).pwmSet p = s.pwmSet p := by
  simp [State.refRise]

@[simp] theorem State.pwmSet_refFall (q t : Nat) : (s.refFall q t).pwmSet p = s.pwmSet p := by
  simp [State.refFall]

@[simp] theorem State.pwmSet_startRef (q t : Nat) : (s.startRef q t).pwmSet p = s.pwmSet p := by
  simp [State.startRef]

@[simp] theorem State.pwmSet_resumePair (q t : Nat) : (s.resumePair q t).pwmSet p = s.pwmSet p := by
  unfold State.resumePair
  split
  · extract_lets u
    have hu : u.pwmSet p = s.pwmSet p := s.pwmSet_setFlag p rfl q false
    simp [hu]
  · rfl

@[simp] theorem State.pwmSet_periodStart (q t : Nat) : (s.periodStart q t).pwmSet p = s.pwmSet p := by
  simp [State.periodStart, State.latchPairConfig]

/-! ### The tick of the engine -/

/-- The outputs of an engine without step channels are its pairs. -/
theorem State.engineOutputs_eq {k : Nat} (hk : k < 56) (safe : Bool) :
    s.engineOutputs k safe = (enginePairs k).foldl (fun s p => s.setPairEngine p s.fineNow safe) s := by
  have h : engineSteps k = [] := if_neg (by omega)
  rw [State.engineOutputs, h]; rfl

@[simp] theorem State.pwmSet_jceBegin {k : Nat} (hk : k < 56) : (s.jceBegin k).pwmSet p = s.pwmSet p := by
  simp +decide [State.jceBegin, State.engineOutputs_eq _ hk, State.setPairEngine]

@[simp] theorem State.pwmSet_jceTick {k : Nat} (hk : k < 56) : (s.jceTick k).pwmSet p = s.pwmSet p := by
  simp +decide [State.jceTick, hk]

@[simp] theorem State.pwmSet_pairPeriod {q : Nat} (hq : q < 96) (t : Nat) : (s.pairPeriod q t).pwmSet p = s.pwmSet p := by
  have hk : pairEngine q < 56 := by unfold pairEngine; omega
  simp [State.pairPeriod, State.pairTick, hk]

/-- New values act on the running period and stay as they were written. -/
theorem State.pwmSet_applySet {q : Nat} (hq : q < 96) (t : Nat) : (s.applySet q t).pwmSet p = s.pwmSet p := by
  cases h : s.pairFall q <;> simp [State.applySet, h, hq]

end Sys2Proof.Machine
end

section
/-!
Writes to a pair, trips, and loss and return of the PWM clock (R359, R365, R368, R370 to R376).
-/
namespace Sys2Proof.Machine

variable (s : State)

/-- Ranger and the engine of the pair write it (R376). -/
theorem pairWriter_iff (m : Master) (p : Nat) :
    pairWriter m p = true ↔ m = .ranger ∨ ∃ k : Fin 64, m = .jce k ∧ k.val = 48 + p / 12 := by
  cases m <;> simp [pairWriter, pairEngine]

theorem pairWriter_foreign {m : Master} {p : Nat}
    (h : m ≠ .ranger ∧ ∀ k : Fin 64, m = .jce k → k.val ≠ 48 + p / 12) : pairWriter m p = false := by
  refine Bool.eq_false_iff.mpr fun hw => ?_
  obtain hm | ⟨k, hm, hk⟩ := (pairWriter_iff m p).mp hw
  · exact h.1 hm
  · exact h.2 k hm hk

/-! ### The commands -/

/-- A command that acts and keeps the queue completes with its effect. -/
theorem exec_eq_of_run {c : Instr} {s t : State} {f : State → State} (ha : s.alive = true) (hc : exec c s = s.run f)
    (hf : f s = t) (hp : t.pending = s.pending) : exec c s = .next t := by
  rw [hc, State.run_alive ha, State.beside_eq (by rw [hf]; exact hp), hf]

/-- A command that acts completes with what holds of its effect, whatever happens to the queue. -/
theorem completes_of_run {c : Instr} {s : State} {f : State → State} {Q : State → Prop} (ha : s.alive = true)
    (hc : exec c s = s.run f) (hq : Q (s.beside f)) : Completes c s Q :=
  ⟨_, hc.trans (State.run_alive ha f), hq⟩

theorem exec_pwmSetWrite (m : Master) (p : Fin 96) (v : Word64) (t : Nat) (s : State) :
    exec (.pwmSetWrite m p v t) s = s.run fun s => s.doSetWrite m p v.toNat t := rfl

theorem exec_pwmForce (m : Master) (p : Fin 96) (on : Bool) (t : Nat) (s : State) :
    exec (.pwmForce m p on t) s = s.run fun s => s.doForce m p on t := rfl

theorem exec_tripClear (m : Master) (p : Fin 96) (s : State) :
    exec (.tripClear m p) s = s.run fun s => s.doTripClear m p := rfl

theorem exec_clkLostClear (m : Master) (p : Fin 96) (s : State) :
    exec (.clkLostClear m p) s = s.run fun s => s.doClkLostClear m p := rfl

theorem exec_tripActive (n : Fin 16) (k : Fin 1025) (t : Nat) (s : State) : exec (.tripActive n ⟨k, t⟩) s =
    s.run fun s => s.tripSamples n (!s.flag Reg.TRIP_CFG_ACTIVE_LOW n) k t := rfl

theorem exec_tripInactive (n : Fin 16) (k : Fin 1025) (t : Nat) (s : State) : exec (.tripInactive (n, ⟨k, t⟩)) s =
    s.run fun s => s.tripSamples n (s.flag Reg.TRIP_CFG_ACTIVE_LOW n) k t := rfl

theorem exec_pwmClockLoss (t : Nat) (s : State) : exec (.pwmClockLoss t) s = s.run fun s => s.doClockLoss t := rfl

theorem exec_pwmClockReturn (s : State) : exec .pwmClockReturn s = s.run State.doClockReturn := rfl

theorem exec_psyncPulse (y : Fin 8) (s : State) : exec (.psyncPulse y) s = s.run fun s => s.doPsync y := rfl

/-! ### Writes -/

/-- A write by another master changes nothing and answers a bus error. -/
theorem exec_foreignWrite {s : State} {m : Master} {p : Fin 96} {c : Instr} (ha : s.alive = true)
    (hm : pairWriter m p = false) (hc : (∃ v t, c = .pwmSetWrite m p v t) ∨ (∃ b t, c = .pwmForce m p b t) ∨
      c = .tripClear m p ∨ c = .clkLostClear m p) : exec c s = .next (s.answer .busError) := by
  obtain ⟨v, t, rfl⟩ | ⟨b, t, rfl⟩ | rfl | rfl := hc
  · exact exec_eq_of_run ha (exec_pwmSetWrite m p v t s) (by simp [State.doSetWrite, hm]) rfl
  · exact exec_eq_of_run ha (exec_pwmForce m p b t s) (by simp [State.doForce, hm]) rfl
  · exact exec_eq_of_run ha (exec_tripClear m p s) (by simp [State.doTripClear, hm]) rfl
  · exact exec_eq_of_run ha (exec_clkLostClear m p s) (by simp [State.doClkLostClear, hm]) rfl

theorem State.pwmSet_doSetWrite {m : Master} {p : Nat} (hm : pairWriter m p = true) (hp : p < 96) (v t : Nat) :
    (s.doSetWrite m p v t).pwmSet p = (v % 2 ^ 21, v / 2 ^ 32 % 2 ^ 21) ∧ (s.doSetWrite m p v t).bus = .done := by
  rw [State.doSetWrite, if_pos hm]
  refine ⟨(State.pwmSet_congr rfl p).trans ((State.pwmSet_applySet _ p hp t).trans ?_), rfl⟩
  rw [State.pwmSet, State.get_set_same, State.get_set_other _ (by decide), State.get_set_same]
  simp [bitsOf, Reg.PWM_SET_DUTY, Reg.PWM_SET_PER]

theorem State.forced_setForce {p : Nat} (h : s.pairForced p = true → s.flag Reg.PWM_STATUS_H_ON p = false) (t : Nat) :
    (s.setForce p t true).flag Reg.PWM_CTRL_FORCE p = true ∧ (s.setForce p t true).pairForced p = true ∧
      (s.setForce p t true).flag Reg.PWM_STATUS_H_ON p = false ∧
      bitOf ((s.setForce p t true).get Reg.PWM_STATUS_CAUSES p) 0 = true := by
  have force := s.get_setFlag_same Reg.PWM_CTRL_FORCE p true (by decide)
  have odd := State.pairCauses_force _ force
  have present : (s.setFlag Reg.PWM_CTRL_FORCE p true).pairCauses p ≠ 0 := by omega
  have keep {f : Field} (hf : Reg.PWM_CTRL_FORCE.id ≠ f.id) := s.flag_setFlag_other hf p p true
  rw [State.setForce]
  refine ⟨?_, State.forced_judgeCauses _ present t, State.highOff_judgeCauses _ present ?_ t, ?_⟩
  · rw [State.flag_of_get ((State.pairFrame_judgeCauses _ p t).get _ p (.inl (by decide)))]
    exact s.flag_setFlag_same (by decide) p true
  · rwa [State.pairForced, keep (by decide), keep (by decide)]
  · rw [State.causes_judgeCauses, bitOf]
    simp only [beq_iff_eq]
    omega

theorem State.doTripClear_clear {m : Master} {p : Nat} (hm : pairWriter m p = true)
    (h : maskAnd (s.get Reg.PWM_TRIP_TRIP_MASK p) s.activeTrips = 0) : s.doTripClear m p =
      (((s.setFlag Reg.PWM_TRIP_TRIP_LATCHED p false).set Reg.PWM_TRIP_TRIP_SRC p 0).showCauses p).answer .done := by
  rw [State.doTripClear, if_pos hm, if_pos h]

theorem State.doTripClear_refused {m : Master} {p : Nat} (hm : pairWriter m p = true)
    (h : maskAnd (s.get Reg.PWM_TRIP_TRIP_MASK p) s.activeTrips ≠ 0) : s.doTripClear m p =
      ((s.setFlag Reg.PWM_FLAGS_CLEAR_REFUSED p true).raise 73).answer .done := by
  rw [State.doTripClear, if_pos hm, if_neg h]

/-- A trip clear while no trip of the group is active clears the latch and its sources, and touches registers alone. -/
theorem completes_tripClear {s : State} {m : Master} {p : Fin 96} (ha : s.alive = true) (hm : pairWriter m p = true)
    (h : maskAnd (s.get Reg.PWM_TRIP_TRIP_MASK p) s.activeTrips = 0) : Completes (.tripClear m p) s fun u =>
      u.flag Reg.PWM_TRIP_TRIP_LATCHED p = false ∧ u.get Reg.PWM_TRIP_TRIP_SRC p = 0 ∧ u.bus = .done ∧
        ∃ g, u = { s with regs := g, bus := .done } := by
  refine ⟨_, exec_eq_of_run ha (exec_tripClear m p s) (s.doTripClear_clear hm h) rfl, ?_, ?_, rfl, _, rfl⟩
  · rw [State.flag, State.get_answer, (State.pairFrame_showCauses _ _).get _ _ (.inl (by decide)),
      State.get_set_other _ (by decide)]
    exact s.flag_setFlag_same (by decide) p false
  · rw [State.get_answer, (State.pairFrame_showCauses _ _).get _ _ (.inl (by decide)), State.get_set_same]
    rfl

/-- Else it is refused. -/
theorem completes_tripClear_refused {s : State} {m : Master} {p : Fin 96} (ha : s.alive = true)
    (hm : pairWriter m p = true) (h : maskAnd (s.get Reg.PWM_TRIP_TRIP_MASK p) s.activeTrips ≠ 0) :
    Completes (.tripClear m p) s fun u => u.flag Reg.PWM_TRIP_TRIP_LATCHED p = s.flag Reg.PWM_TRIP_TRIP_LATCHED p ∧
      u.flag Reg.PWM_FLAGS_CLEAR_REFUSED p = true ∧ s.Signalled 73 u := by
  have hp : (((s.setFlag Reg.PWM_FLAGS_CLEAR_REFUSED p true).raise 73).answer .done).pending = s.pending := by
    rw [State.answer_pending, State.raise_pending, State.setFlag_pending]
  refine ⟨_, exec_eq_of_run ha (exec_tripClear m p s) (s.doTripClear_refused hm h) hp, ?_, ?_, ?_⟩
  · rw [State.flag_answer, State.flag_raise _ rfl, State.flag_setFlag_other _ (by decide)]
  · rw [State.flag_answer, State.flag_raise _ rfl, State.flag_setFlag_same _ (by decide)]
  · exact (State.signalled_raise (s.setFlag Reg.PWM_FLAGS_CLEAR_REFUSED p true) 73).of_get
      (s.get_setFlag_other (by decide) _ _ _) (s.get_setFlag_other (by decide) _ _ _) (State.get_answer _ _ _)
      (State.get_answer _ _ _)

/-- The writes of a master that may write the pair. -/
theorem completes_pwmSetWrite {s : State} {m : Master} {p : Fin 96} (ha : s.alive = true) (hm : pairWriter m p = true)
    (v : Word64) (t : Nat) : Completes (.pwmSetWrite m p v t) s fun u => u.get Reg.PWM_SET_DUTY p = v.toNat % 2 ^ 21 ∧
      u.get Reg.PWM_SET_PER p = v.toNat / 2 ^ 32 % 2 ^ 21 ∧ u.bus = .done := by
  obtain ⟨values, done⟩ := s.pwmSet_doSetWrite hm p.isLt v.toNat t
  obtain ⟨duty, per⟩ := Prod.ext_iff.mp values
  exact completes_of_run ha (exec_pwmSetWrite m p v t s) ⟨duty, per, done⟩

theorem completes_pwmForce {s : State} {m : Master} {p : Fin 96} (ha : s.alive = true) (hm : pairWriter m p = true)
    (h : s.pairForced p = true → s.flag Reg.PWM_STATUS_H_ON p = false) (t : Nat) :
    Completes (.pwmForce m p true t) s fun u => u.flag Reg.PWM_CTRL_FORCE p = true ∧ u.pairForced p = true ∧
      u.flag Reg.PWM_STATUS_H_ON p = false ∧ bitOf (u.get Reg.PWM_STATUS_CAUSES p) 0 = true ∧ u.bus = .done := by
  have hf : s.doForce m p true t = (s.setForce p t true).answer .done := by rw [State.doForce, if_pos hm]
  obtain ⟨force, forced, high, causes⟩ := s.forced_setForce h t
  have regs : (s.beside fun s => s.doForce m p true t).regs = (s.setForce p t true).regs := by
    rw [State.beside_regs, hf]; rfl
  have get := State.get_of_regs regs
  refine completes_of_run ha (exec_pwmForce m p true t s) ⟨(State.flag_of_get (get _ p)).trans force,
    (State.flag_of_get (get _ p)).trans forced, (State.flag_of_get (get _ p)).trans high, by rwa [get], ?_⟩
  rw [State.beside_bus, hf]; rfl

theorem exec_clkLostClear_lost {s : State} {m : Master} {p : Fin 96} (ha : s.alive = true) (hm : pairWriter m p = true)
    (h : s.pwmClock = false) : exec (.clkLostClear m p) s = .next (s.answer .done) :=
  exec_eq_of_run ha (exec_clkLostClear m p s) (by rw [State.doClkLostClear, if_pos hm, h]; rfl) rfl

theorem completes_clkLostClear {s : State} {m : Master} {p : Fin 96} (ha : s.alive = true) (hm : pairWriter m p = true)
    (h : s.pwmClock = true) :
    Completes (.clkLostClear m p) s fun u => u.flag Reg.PWM_FLAGS_CLK_LOST p = false ∧ u.bus = .done := by
  have hf : s.doClkLostClear m p = ((s.setFlag Reg.PWM_FLAGS_CLK_LOST p false).showCauses p).answer .done := by
    rw [State.doClkLostClear, if_pos hm, if_pos h]
  refine ⟨_, exec_eq_of_run ha (exec_clkLostClear m p s) hf rfl, ?_, rfl⟩
  rw [State.flag, State.get_answer, (State.pairFrame_showCauses _ _).get _ _ (.inl (by decide))]
  exact s.flag_setFlag_same (by decide) p false

/-! ### Trips -/

/-- Samples of the inactive level end the active state (R370). -/
theorem exec_tripInactive_enough {s : State} {n : Fin 16} {k : Fin 1025} (ha : s.alive = true)
    (hk : clampN 1 1024 (s.get Reg.TRIP_CFG_FILT_N n) ≤ k.val) (t : Nat) : exec (.tripInactive (n, ⟨k, t⟩)) s =
      .next ((s.tripLevel n (s.flag Reg.TRIP_CFG_ACTIVE_LOW n)).setFlag Reg.TRIP_STATUS_ACTIVE n false) := by
  refine exec_eq_of_run ha (exec_tripInactive n k t s) ?_ rfl
  rw [State.tripSamples_enough _ hk, State.judgeTrip_off]
  simp [State.tripOn_tripLevel]

/-- An enabled trip with samples of its active level is on; one that is not enabled never is. -/
theorem State.tripOn_activeLevel (n : Nat) :
    (s.tripLevel n (!s.flag Reg.TRIP_CFG_ACTIVE_LOW n)).tripOn n = s.flag Reg.TRIP_CFG_EN n := by
  rw [State.tripOn_tripLevel]
  cases s.flag Reg.TRIP_CFG_ACTIVE_LOW n <;> simp

theorem exec_tripActive_disabled {s : State} {n : Fin 16} {k : Fin 1025} (ha : s.alive = true)
    (hk : clampN 1 1024 (s.get Reg.TRIP_CFG_FILT_N n) ≤ k.val) (he : s.flag Reg.TRIP_CFG_EN n = false) (t : Nat) :
    exec (.tripActive n ⟨k, t⟩) s =
      .next ((s.tripLevel n (!s.flag Reg.TRIP_CFG_ACTIVE_LOW n)).setFlag Reg.TRIP_STATUS_ACTIVE n false) := by
  refine exec_eq_of_run ha (exec_tripActive n k t s) ?_ rfl
  rw [State.tripSamples_enough _ hk, State.judgeTrip_off _ ((s.tripOn_activeLevel n).trans he)]

theorem exec_tripActive_still {s : State} {n : Fin 16} {k : Fin 1025} (ha : s.alive = true)
    (hk : clampN 1 1024 (s.get Reg.TRIP_CFG_FILT_N n) ≤ k.val) (he : s.flag Reg.TRIP_CFG_EN n = true)
    (hs : s.flag Reg.TRIP_STATUS_ACTIVE n = true) (t : Nat) :
    exec (.tripActive n ⟨k, t⟩) s = .next (s.tripLevel n (!s.flag Reg.TRIP_CFG_ACTIVE_LOW n)) := by
  refine exec_eq_of_run ha (exec_tripActive n k t s) ?_ rfl
  rw [State.tripSamples_enough _ hk, State.judgeTrip_still _ ((s.tripOn_activeLevel n).trans he)
    ((s.flag_tripLevel (by decide) n _ n).trans hs)]

/-- A trip that becomes active counts, signals event 72 and forces its group, and no other pair (R372). -/
theorem completes_tripActive {s : State} {n : Fin 16} {k : Fin 1025} (ha : s.alive = true)
    (hk : clampN 1 1024 (s.get Reg.TRIP_CFG_FILT_N n) ≤ k.val) (he : s.flag Reg.TRIP_CFG_EN n = true)
    (hs : s.flag Reg.TRIP_STATUS_ACTIVE n = false) (t : Nat) : Completes (.tripActive n ⟨k, t⟩) s fun u =>
      u.flag Reg.TRIP_STATUS_ACTIVE n = true ∧ u.get Reg.TRIP_COUNT_COUNT n = min (s.get Reg.TRIP_COUNT_COUNT n + 1) 0xFFFFFFFF ∧
        s.Signalled 72 u ∧ ∀ p < 96, if bitOf (s.get Reg.PWM_TRIP_TRIP_MASK p) n then
          u.flag Reg.PWM_TRIP_TRIP_LATCHED p = true ∧ u.pairForced p = true
          else u.get Reg.PWM_TRIP_TRIP_LATCHED p = s.get Reg.PWM_TRIP_TRIP_LATCHED p ∧ u.pair p = s.pair p := by
  obtain ⟨high, hh⟩ : ∃ high, high = !s.flag Reg.TRIP_CFG_ACTIVE_LOW n := ⟨_, rfl⟩
  have hf : s.tripSamples n (!s.flag Reg.TRIP_CFG_ACTIVE_LOW n) k t = ((s.tripLevel n high).tripBegins n).tripGroup n t := by
    rw [State.tripSamples_enough _ hk, State.judgeTrip_begins _ ((s.tripOn_activeLevel n).trans he)
      ((s.flag_tripLevel (by decide) n _ n).trans hs), hh]
  refine completes_of_run ha (exec_tripActive n k t s) ?_
  generalize hu : (s.beside fun s => s.tripSamples n (!s.flag Reg.TRIP_CFG_ACTIVE_LOW n) k t) = u
  have get : ∀ f i, u.get f i = (((s.tripLevel n high).tripBegins n).tripGroup n t).get f i :=
    State.get_of_regs (by rw [← hu, State.beside_regs, hf])
  have pwm : u.pwm = (((s.tripLevel n high).tripBegins n).tripGroup n t).pwm := by rw [← hu, State.beside_pwm, hf]
  have level {f : Field} (h : Reg.TRIP_STATUS_RAW.id ≠ f.id) := s.get_tripLevel h n high
  have other {f : Field} (h : ∀ g ∈ Reg.tripped, g.id ≠ f.id) (i : Nat) :
      u.get f i = ((s.tripLevel n high).tripBegins n).get f i := (get f i).trans (State.get_tripGroup _ h n t i)
  have begins {f : Field} (hr : Reg.raised f = false) (h : ∀ g ∈ [Reg.TRIP_STATUS_ACTIVE, Reg.TRIP_COUNT_COUNT,
      Reg.TRIP_STATUS_RAW], g.id ≠ f.id) (i : Nat) : ((s.tripLevel n high).tripBegins n).get f i = s.get f i :=
    (State.get_tripBegins _ hr (h _ (by simp)) (h _ (by simp)) n i).trans (level (h _ (by simp)) i)
  refine ⟨?_, ?_, ?_, fun p hp => ?_⟩
  · exact (State.flag_of_get (other (by decide) n)).trans (State.active_tripBegins _ n)
  · rw [other (by decide), State.count_tripBegins, level (by decide)]
  · exact (State.signalled_tripBegins _ n).of_get (level (by decide) _) (level (by decide) _) (other (by decide))
      (other (by decide))
  · have mask := begins (f := Reg.PWM_TRIP_TRIP_MASK) rfl (by decide) p
    split
    · next hn =>
      obtain ⟨latched, forced⟩ := State.tripGroup_named _ hp (by rwa [mask]) t
      exact ⟨(State.flag_of_get (get _ p)).trans latched, (State.flag_of_get (get _ p)).trans forced⟩
    · next hn =>
      obtain ⟨latch, held⟩ := State.tripGroup_unnamed ((s.tripLevel n high).tripBegins n) (n := n) (p := p)
        (by rw [mask]; exact Bool.eq_false_iff.mpr hn) t
      refine ⟨(get _ p).trans (latch.trans (begins rfl (by decide) p)), (State.pair_of_pwm pwm p).trans (held.trans ?_)⟩
      exact State.pair_of_pwm (State.raise_pwm _ 72) p

/-! ### The clock and the sync outputs -/

theorem completes_pwmClockLoss {s : State} (ha : s.alive = true) (h : s.pwmClock = true) (t : Nat) :
    Completes (.pwmClockLoss t) s fun u => u.pwmClock = false ∧ s.Signalled 74 u ∧ ∀ p < 96,
      u.flag Reg.PWM_STATUS_H_ON p = false ∧ u.flag Reg.PWM_STATUS_L_ON p = false ∧ u.pairForced p = true ∧
        u.flag Reg.PWM_FLAGS_CLK_LOST p = true :=
  completes_of_run ha (exec_pwmClockLoss t s) ⟨(State.doClockLoss_frame h t).2, State.signalled_doClockLoss h t,
    fun _ hp => State.clockLost_doClockLoss h hp t⟩

theorem completes_pwmClockReturn {s : State} (ha : s.alive = true) (h : s.pwmClock = false) :
    Completes .pwmClockReturn s fun u => u.pwmClock = true ∧ ∀ p < 96, (u.pair p).restart = true ∧
      u.flag Reg.PWM_FLAGS_CLK_LOST p = s.flag Reg.PWM_FLAGS_CLK_LOST p :=
  completes_of_run ha (exec_pwmClockReturn s) ⟨s.pwmClock_doClockReturn,
    fun p hp => ⟨State.restart_doClockReturn h hp, State.clkLost_doClockReturn h p⟩⟩

/-- Settles O41: the commands one by one, from what the operations of a pair do and leave alone. -/
theorem pwmWritesAndTrips : Obligations.PwmWritesAndTrips := by
  intro s ha
  refine ⟨fun m p hm c hc => exec_foreignWrite ha (pairWriter_foreign hm) hc, fun m p hm => ?_,
    fun n k t low lim hlow hlim => ?_, fun t => ⟨fun h => ?_, fun h => completes_pwmClockLoss ha h t⟩, fun h => ?_,
    completes_pwmClockReturn ha, fun y => ⟨fun h => ?_, fun h => ?_⟩⟩
  · have hw := (pairWriter_iff m p).mpr hm
    exact ⟨completes_pwmSetWrite ha hw, fun t h => completes_pwmForce ha hw h t, completes_tripClear ha hw,
      completes_tripClear_refused ha hw, exec_clkLostClear_lost ha hw, completes_clkLostClear ha hw⟩
  · subst hlow hlim
    refine ⟨fun hk => ⟨?_, ?_⟩, fun hk hl => ⟨?_, ?_⟩, fun hk => exec_tripInactive_enough ha hk t,
      fun hk he => exec_tripActive_disabled ha hk he t, fun hk he hs => exec_tripActive_still ha hk he hs t,
      fun hk he hs => completes_tripActive ha hk he hs t⟩
    · exact exec_eq_of_run ha (exec_tripActive n k t s) (by rw [hk, State.tripSamples_zero]) rfl
    · exact exec_eq_of_run ha (exec_tripInactive n k t s) (by rw [hk, State.tripSamples_zero]) rfl
    · exact exec_eq_of_run ha (exec_tripActive n k t s) (s.tripSamples_short hk hl _ t) rfl
    · exact exec_eq_of_run ha (exec_tripInactive n k t s) (s.tripSamples_short hk hl _ t) rfl
  · exact exec_eq_of_run ha (exec_pwmClockLoss t s) (by rw [State.doClockLoss, h]; rfl) rfl
  · exact exec_eq_of_run ha (exec_pwmClockReturn s) (if_pos h) rfl
  · exact exec_eq_of_run ha (exec_psyncPulse y s) (by rw [State.doPsync, h]; rfl) rfl
  · exact exec_eq_of_run ha (exec_psyncPulse y s) (if_pos h) rfl

end Sys2Proof.Machine
end

section
/-!
The write index of a ring longer than its register counts (R392).
-/
namespace Sys2Proof.Machine

/-- A conversion of the entry word 0, its result due. -/
def dueConversion : AdcConv :=
  { due := 0, word := 0, entry := 0, inj := false, align := false, settling := false, last := true, pass := 0, time := 0 }

/-- Converter 0 with a conversion due on its route 0, whose ring has 65,537 words, one more than R392 allows and one that the
17 bits of `RING_LEN` hold; its write index is the last one of its 16 bits. -/
def overlongRing : State :=
  ((State.reset.set Reg.ROUTE_RING_RING_LEN 0 65537).set Reg.ROUTE_IDX_WR_IDX 0 65535).onAdc 0 fun a =>
    { a with pipe := [dueConversion] }

theorem exec_adcResult (c : Fin 16) (code : BitVec 14) (s : State) :
    exec (.adcResult c code) s = s.run fun s => s.doAdcResult c code := rfl

/-- The ring would go on to index 65,536, which the register cuts to 0. -/
theorem wrIdx_adcResult_overlongRing :
    (overlongRing.beside fun s => s.doAdcResult 0 100).get Reg.ROUTE_IDX_WR_IDX 0 = 0 := by decide

/-- Refutes O42: its clause on a ring bounds `RING_LEN` from below only. In `overlongRing` the write index should become
65,536 mod 65,537, and it reads 0. -/
theorem not_converterPassesAndResults : ¬ Obligations.ConverterPassesAndResults := by
  intro h
  obtain ⟨_, _, _, _, results, _⟩ := h overlongRing 0 rfl (by decide)
  obtain ⟨_, inRange⟩ := results dueConversion [] 100 100 100 0 0 AdcRoute.reset (by decide) (by decide) (by decide) (by decide)
    (by decide) (by decide) (by decide) (by decide)
  obtain ⟨_, ring⟩ := inRange 0 100 65537 65535 0 (by decide) (by decide) (by decide) (by decide) rfl rfl rfl rfl
    (by decide) (by decide) (by decide) (by decide) (by decide)
  obtain ⟨t, ht, _, _, hwr, _⟩ := ring (by decide) (by decide) (by decide) (by decide)
  rw [exec_adcResult, State.run_alive rfl] at ht
  cases ht
  exact absurd (wrIdx_adcResult_overlongRing.symm.trans hwr) (by decide)

end Sys2Proof.Machine
end

section
/-!
SUPPORT. What passing time leaves alone (R567, R568, R673, R679): the converters beside their registers and every field but
the time bases, the clock counters of the Yarder and what events write.
-/
namespace Sys2Proof.Machine

variable (s : State)

/-- The register fields that passing time may write. -/
def Reg.clocked (f : Field) : Bool :=
  Reg.raised f || f.id == Reg.TB_TIME_NS.id || f.id == Reg.TB_FRAC_FRAC.id || f.id == Reg.YD_COUNT1_BP_CLOCKS.id ||
    f.id == Reg.YD_COUNT2_WINDOW_STALL.id

theorem Reg.clocked_of_id {f g : Field} (h : f.id = g.id) : Reg.clocked f = Reg.clocked g := by
  simp only [Reg.clocked, Reg.raised, h]

theorem Reg.raised_of_clocked {f : Field} (h : Reg.clocked f = false) : Reg.raised f = false := by
  simp only [Reg.clocked, Bool.or_eq_false_iff] at h
  obtain ⟨⟨⟨⟨raised, -⟩, -⟩, -⟩, -⟩ := h
  exact raised

/-- As far as the registers, the converters, the clock and the queue go, `t` differs from `s` at most in the fields that
passing time writes. -/
structure State.ClockFrame (s t : State) : Prop where
  get : ∀ f i, Reg.clocked f = false → t.get f i = s.get f i
  adc : t.adc = s.adc
  ticks : t.ticks = s.ticks
  pending : t.pending = s.pending

theorem State.ClockFrame.refl : s.ClockFrame s := ⟨fun _ _ _ => rfl, rfl, rfl, rfl⟩

variable {s} in
theorem State.ClockFrame.trans {t u : State} (h : s.ClockFrame t) (h' : t.ClockFrame u) : s.ClockFrame u where
  get f i hf := (h'.get f i hf).trans (h.get f i hf)
  adc := h'.adc.trans h.adc
  ticks := h'.ticks.trans h.ticks
  pending := h'.pending.trans h.pending

variable {s} in
/-- The frame of the rest when the clock itself moves. -/
theorem State.ClockFrame.passed {t : State} (h : s.ClockFrame t) (n : Nat) :
    State.ClockFrame { s with ticks := s.ticks + n } { t with ticks := t.ticks + n } :=
  ⟨h.get, h.adc, congrArg (· + n) h.ticks, h.pending⟩

theorem State.clockFrame_set {f : Field} (hf : Reg.clocked f = true) (i v : Nat) : s.ClockFrame (s.set f i v) where
  get _ _ hg := s.get_set_other (fun he => by rw [Reg.clocked_of_id he, hg] at hf; cases hf) _ _ _
  adc := rfl
  ticks := rfl
  pending := rfl

theorem State.clockFrame_raiseIf (b : Bool) (n : Nat) : s.ClockFrame (s.raiseIf b n) where
  get _ _ hf := s.get_raiseIf (Reg.raised_of_clocked hf) b n _
  adc := s.raiseIf_adc b n
  ticks := s.raiseIf_ticks b n
  pending := s.raiseIf_pending b n

theorem State.clockFrame_withYard (f : YarderState → YarderState) : s.ClockFrame (s.withYard f) :=
  ⟨fun _ _ _ => rfl, rfl, rfl, rfl⟩

theorem State.clockFrame_moveTb (n ns k : Nat) : s.ClockFrame (s.moveTb n ns k) := by
  have moved (a b : Nat) (p : PowerState) :
      s.ClockFrame { (s.set Reg.TB_TIME_NS n a).set Reg.TB_FRAC_FRAC n b with power := p } :=
    ((s.clockFrame_set rfl n a).trans (State.clockFrame_set _ rfl n b)).trans ⟨fun _ _ _ => rfl, rfl, rfl, rfl⟩
  exact moved _ _ _

theorem State.clockFrame_yardClocks (n : Nat) : s.ClockFrame (s.yardClocks n) := by
  unfold State.yardClocks
  extract_lets t
  have counted : s.ClockFrame t := by
    unfold t
    split
    · exact s.clockFrame_set rfl 0 _
    · exact .refl s
  refine counted.trans ?_
  split
  · exact ((t.clockFrame_raiseIf _ 45).trans (State.clockFrame_set _ rfl 0 _)).trans (State.clockFrame_withYard _ _)
  · exact t.clockFrame_withYard _

theorem State.clockFrame_advance (n : Nat) : State.ClockFrame { s with ticks := s.ticks + n } (s.advance n) := by
  unfold State.advance
  extract_lets t u on v
  have tb6 : s.ClockFrame t := by
    unfold t
    split
    · exact .refl s
    · exact s.clockFrame_moveTb _ _ _
  have bases : u.ClockFrame v := by
    unfold v
    split
    · exact State.foldl_keeps (P := u.ClockFrame) (fun w b h => h.trans (w.clockFrame_moveTb _ _ _)) _ (.refl u)
    · exact .refl u
  refine ((tb6.passed n).trans bases).trans ?_
  split
  · exact v.clockFrame_yardClocks _
  · exact .refl v

theorem State.ticks_waitTill (t : Nat) : (s.waitTill t).ticks = max s.ticks t := by
  rw [State.waitTill, (s.clockFrame_advance _).ticks]
  dsimp only
  omega

theorem State.get_waitTill {f : Field} (hf : Reg.clocked f = false) (t i : Nat) : (s.waitTill t).get f i = s.get f i :=
  (s.clockFrame_advance _).get f i hf

@[simp] theorem State.adc_waitTill (t : Nat) : (s.waitTill t).adc = s.adc := (s.clockFrame_advance _).adc

@[simp] theorem State.pending_waitTill (t : Nat) : (s.waitTill t).pending = s.pending := (s.clockFrame_advance _).pending

end Sys2Proof.Machine
end

section
/-!
SUPPORT. Signed register fields and the converters beside their registers.
-/
namespace Sys2Proof.Machine

variable (s : State)

/-- A number in the signed range of `w` bits is what its two's complement reads as. -/
theorem toS_ofS {w : Nat} {x : Int} (hlo : -(2 ^ w : Nat) ≤ 2 * x) (hhi : 2 * x < (2 ^ w : Nat)) : toS w (ofS w x) = x := by
  have hpos : 0 < 2 ^ w := Nat.two_pow_pos w
  rw [toS, ofS]
  generalize 2 ^ w = m at *
  have wrapped : x % m = if 0 ≤ x then x else x + m := by
    split
    · exact Int.emod_eq_of_lt ‹_› (by omega)
    · rw [← Int.add_emod_right, Int.emod_eq_of_lt (by omega) (by omega)]
  rw [wrapped, Nat.mod_eq_of_lt (by split <;> omega)]
  split <;> split <;> omega

theorem State.getS_of_get {s t : State} {f : Field} {i : Nat} (h : t.get f i = s.get f i) : t.getS f i = s.getS f i :=
  congrArg (toS f.width) h

/-- A signed field reads what was written to it, if that is in its range. -/
theorem State.getS_setS_same {f : Field} {x : Int} (hlo : -(2 ^ f.width : Nat) ≤ 2 * x) (hhi : 2 * x < (2 ^ f.width : Nat))
    (i : Nat) : (s.setS f i x).getS f i = x := by
  have hcut : toS f.width (ofS f.width x % 2 ^ f.width) = toS f.width (ofS f.width x) := by simp only [toS, Nat.mod_mod]
  rw [State.getS, State.setS, State.get_set_same, hcut, toS_ofS hlo hhi]

@[simp] theorem State.adcv_onAdc_same (c : Nat) (f : AdcState → AdcState) : (s.onAdc c f).adcv c = f (s.adcv c) :=
  Tab.get_put_same _ _ _ _

@[simp] theorem State.get_onAdc (c : Nat) (g : AdcState → AdcState) (f : Field) (i : Nat) :
    (s.onAdc c g).get f i = s.get f i := rfl

@[simp] theorem State.pending_onAdc (c : Nat) (g : AdcState → AdcState) : (s.onAdc c g).pending = s.pending := rfl

/-- The converters beside their registers depend on `adc` only. -/
theorem State.adcv_of_adc {s t : State} (h : t.adc = s.adc) (c : Nat) : t.adcv c = s.adcv c :=
  congrArg (fun a : Tab AdcState => a.get AdcState.reset c) h

end Sys2Proof.Machine
end

section
/-!
The calibration of a converter (R397 to R399).
-/
namespace Sys2Proof.Machine

variable (s : State)

/-! ### A step starts -/

/-- `CAL_CTRL` names the input, kind and gain of a step. -/
def State.calNames (s : State) (c input : Nat) (diff : Bool) (gain : Nat) : State :=
  ((s.set Reg.CAL_CTRL_INPUT c input).setFlag Reg.CAL_CTRL_DIFF c diff).set Reg.CAL_CTRL_GAIN c gain

theorem State.get_calNames {f : Field} (hi : Reg.CAL_CTRL_INPUT.id ≠ f.id) (hd : Reg.CAL_CTRL_DIFF.id ≠ f.id)
    (hg : Reg.CAL_CTRL_GAIN.id ≠ f.id) (c input : Nat) (diff : Bool) (gain j : Nat) :
    (s.calNames c input diff gain).get f j = s.get f j := by
  rw [State.calNames, State.get_set_other _ hg, State.get_setFlag_other _ hd, State.get_set_other _ hi]

theorem State.input_calNames (c : Nat) (i : Fin 8) (diff : Bool) (gain : Nat) :
    (s.calNames c i diff gain).get Reg.CAL_CTRL_INPUT c = i := by
  rw [State.calNames, State.get_set_other _ (by decide), State.get_setFlag_other _ (by decide), State.get_set_same]
  exact Nat.mod_eq_of_lt i.isLt

theorem State.diff_calNames (c input : Nat) (diff : Bool) (gain : Nat) :
    (s.calNames c input diff gain).flag Reg.CAL_CTRL_DIFF c = diff :=
  (State.flag_of_get (State.get_set_other _ (by decide) _ _ _)).trans (State.flag_setFlag_same _ (by decide) _ _)

theorem State.gain_calNames (c input : Nat) (diff : Bool) (g : Fin 4) :
    (s.calNames c input diff g).get Reg.CAL_CTRL_GAIN c = g :=
  (State.get_set_same _ _ _ _).trans (Nat.mod_eq_of_lt g.isLt)

/-- A step of the named pair starts and ends 320 clocks later. -/
def State.calStarts (s : State) (c input : Nat) (diff : Bool) (gain : Nat) (full : Bool) : State :=
  ((s.calNames c input diff gain).setFlag Reg.CAL_CTRL_STEP_BUSY c true).onAdc c fun a =>
    { a with step := some ⟨full, calIndex input (b2n diff) gain, s.ticks + 320⟩, prev := some (input, b2n diff, gain) }

theorem State.get_calStarts {f : Field} (h : Reg.CAL_CTRL_STEP_BUSY.id ≠ f.id) (c input : Nat) (diff : Bool) (gain : Nat)
    (full : Bool) (i : Nat) : (s.calStarts c input diff gain full).get f i = (s.calNames c input diff gain).get f i :=
  State.get_setFlag_other _ h _ _ _

theorem State.busy_calStarts (c input : Nat) (diff : Bool) (gain : Nat) (full : Bool) :
    (s.calStarts c input diff gain full).flag Reg.CAL_CTRL_STEP_BUSY c = true :=
  State.flag_setFlag_same _ (by decide) c true

theorem State.step_calStarts (c input : Nat) (diff : Bool) (gain : Nat) (full : Bool) :
    ((s.calStarts c input diff gain full).adcv c).step =
      some ⟨full, calIndex input (b2n diff) gain, s.ticks + 320⟩ := by
  rw [State.calStarts, State.adcv_onAdc_same]

/-- Every master but Ranger writes `CAL_CTRL` without effect, the owner without a bus error (R400). -/
theorem State.doCalStep_foreign {m : Master} (hm : m ≠ .ranger) (c input : Nat) (diff : Bool) (gain : Nat) (full : Bool) :
    s.doCalStep m c input diff gain full = s.answer (if s.adcOwnedBy m c then .done else .busError) := by
  rw [State.doCalStep, if_neg (by simpa using hm)]
  split <;> rfl

/-- The operands of a step leave `CAL_EN` and `STEP_BUSY` alone, which decide whether it starts (R397). -/
theorem State.doCalStep_ranger (c input : Nat) (diff : Bool) (gain : Nat) (full : Bool) :
    s.doCalStep .ranger c input diff gain full =
      if !s.flag Reg.CAL_CTRL_CAL_EN c || s.flag Reg.CAL_CTRL_STEP_BUSY c then
        ((s.calNames c input diff gain).setFlag Reg.ADC_FLAGS_CAL_REFUSED c true).answer .done
      else (s.calStarts c input diff gain full).answer .done := by
  rw [← State.flag_of_get (s.get_calNames (by decide) (by decide) (by decide) c input diff gain c),
    ← State.flag_of_get (s.get_calNames (f := Reg.CAL_CTRL_STEP_BUSY) (by decide) (by decide) (by decide) c input diff gain c)]
  rfl

theorem State.doCalStep_refused {c : Nat}
    (h : s.flag Reg.CAL_CTRL_CAL_EN c = false ∨ s.flag Reg.CAL_CTRL_STEP_BUSY c = true)
    (input : Nat) (diff : Bool) (gain : Nat) (full : Bool) : s.doCalStep .ranger c input diff gain full =
      ((s.calNames c input diff gain).setFlag Reg.ADC_FLAGS_CAL_REFUSED c true).answer .done := by
  rw [State.doCalStep_ranger, if_pos (by simpa using h)]

theorem State.doCalStep_starts {c : Nat} (hen : s.flag Reg.CAL_CTRL_CAL_EN c = true)
    (hidle : s.flag Reg.CAL_CTRL_STEP_BUSY c = false) (input : Nat) (diff : Bool) (gain : Nat) (full : Bool) :
    s.doCalStep .ranger c input diff gain full = (s.calStarts c input diff gain full).answer .done := by
  rw [State.doCalStep_ranger, if_neg (by simp [hen, hidle])]

/-! ### A step ends -/

/-- The end of a step, before its mean is judged: the clock stands at it and the converter is free. -/
def State.calEnds (s : State) (c : Nat) (st : AdcStep) : State :=
  ((s.waitTill st.done).setFlag Reg.CAL_CTRL_STEP_BUSY c false).onAdc c fun a => { a with step := none }

theorem State.doCalEnd_idle {c : Nat} (h : (s.adcv c).step = none) (sum : Int) : s.doCalEnd c sum = s := by
  rw [State.doCalEnd, h]

theorem State.doCalEnd_zero {c : Nat} {st : AdcStep} (h : (s.adcv c).step = some st) (hz : st.full = false) (sum : Int) :
    s.doCalEnd c sum = (s.calEnds c st).onAdc c fun a => { a with zero := a.zero.put none st.pair (some sum) } := by
  rw [State.doCalEnd, h]
  exact if_neg (by rw [hz]; decide)

theorem State.doCalEnd_full {c : Nat} {st : AdcStep} (h : (s.adcv c).step = some st) (hf : st.full = true) (sum : Int) :
    s.doCalEnd c sum = (s.calEnds c st).calFull c st.pair sum := by
  rw [State.doCalEnd, h]
  exact if_pos hf

theorem State.adcv_calEnds (c : Nat) (st : AdcStep) : (s.calEnds c st).adcv c = { s.adcv c with step := none } := by
  rw [State.calEnds, State.adcv_onAdc_same, State.adcv_of_adc (t := (s.waitTill st.done).setFlag _ _ _) (s.adc_waitTill _)]

/-- The ZERO means are as they were. -/
theorem State.zero_calEnds (c : Nat) (st : AdcStep) : ((s.calEnds c st).adcv c).zero = (s.adcv c).zero := by
  rw [State.adcv_calEnds]

theorem State.get_calEnds {f : Field} (hf : Reg.clocked f = false) (hb : Reg.CAL_CTRL_STEP_BUSY.id ≠ f.id) (c : Nat)
    (st : AdcStep) (i : Nat) : (s.calEnds c st).get f i = s.get f i := by
  rw [State.calEnds, State.get_onAdc, State.get_setFlag_other _ hb, State.get_waitTill _ hf]

theorem State.busy_calEnds (c : Nat) (st : AdcStep) : (s.calEnds c st).flag Reg.CAL_CTRL_STEP_BUSY c = false :=
  State.flag_setFlag_same (s.waitTill st.done) (by decide) c false

theorem State.ticks_calEnds (c : Nat) (st : AdcStep) : (s.calEnds c st).ticks = max s.ticks st.done :=
  s.ticks_waitTill st.done

theorem State.pending_calEnds (c : Nat) (st : AdcStep) : (s.calEnds c st).pending = s.pending := s.pending_waitTill st.done

/-! ### A FULL step is judged -/

/-- A FULL step fails. -/
def State.calFailed (s : State) (c : Nat) : State := (s.setFlag Reg.ADC_FLAGS_CAL_FAIL c true).raise 78

/-- `CAL_VALID` shows pair `i`. -/
def State.calValid (s : State) (c i : Nat) : State :=
  if bitOf (s.get Reg.CAL_VALID_VALID c) i then s
  else s.set Reg.CAL_VALID_VALID c (s.get Reg.CAL_VALID_VALID c + 2 ^ i)

/-- The registers of an accepted pair with its offset and gain (R398). -/
def State.pairWritten (s : State) (c i : Nat) (offset gain : Int) : State :=
  (((s.setS Reg.CAL_COEF_OFFSET (64 * c + i) offset).set Reg.CAL_COEF_GAIN (64 * c + i) gain.toNat).calValid c i).setFlag
    Reg.ADC_FLAGS_CAL_DONE c true

/-- Pair `i` is accepted: its registers are written, which is signalled, and it waits for the flash. -/
def State.pairAccepted (s : State) (c i : Nat) (offset gain : Int) : State :=
  ((s.pairWritten c i offset gain).raise 78).onAdc c fun a => { a with unsaved := a.unsaved ++ [i] }

theorem State.calFull_unusable {c i : Nat} {a1 : Int}
    (h : (s.adcv c).zero.get none i = none ∨ (s.adcv c).zero.get none i = some a1) : s.calFull c i a1 = s.calFailed c := by
  obtain h | h := h
  · rw [State.calFull, h]; rfl
  · rw [State.calFull, h]
    exact if_pos (.inl rfl)

/-- With two means that differ and two targets that differ, the rounded quotients of R398 decide. -/
theorem State.calFull_quotients {c i : Nat} {a0 a1 z span gain offset : Int} (h : (s.adcv c).zero.get none i = some a0)
    (ha : a0 ≠ a1) (hz : z = s.getS Reg.CAL_TARGET_CAL_ZERO c) (hspan : span = s.getS Reg.CAL_TARGET_CAL_FULL c - z)
    (h0 : span ≠ 0) (hg : gain = ratRound (span * 256 * 32768) (a1 - a0))
    (ho : offset = ratRound (a0 * span - z * (a1 - a0)) (256 * span)) : s.calFull c i a1 =
      if 0x4000 ≤ gain ∧ gain ≤ 0xFFFF ∧ -32768 ≤ offset ∧ offset ≤ 32767 then s.pairAccepted c i offset gain
      else s.calFailed c := by
  subst hg ho hspan hz
  rw [State.calFull, h]
  exact if_neg (not_or.mpr ⟨ha.symm, h0⟩)

theorem State.get_calFailed {f : Field} (hr : Reg.raised f = false) (hf : Reg.ADC_FLAGS_CAL_FAIL.id ≠ f.id) (c i : Nat) :
    (s.calFailed c).get f i = s.get f i :=
  (State.get_raise _ hr 78 i).trans (s.get_setFlag_other hf _ _ _)

theorem State.failed_calFailed (c : Nat) : (s.calFailed c).flag Reg.ADC_FLAGS_CAL_FAIL c = true :=
  (State.flag_raise _ rfl 78 c).trans (s.flag_setFlag_same (by decide) c true)

theorem State.signalled_calFailed (c : Nat) : s.Signalled 78 (s.calFailed c) :=
  (State.signalled_raise _ 78).of_get (s.get_setFlag_other (by decide) _ _ _) (s.get_setFlag_other (by decide) _ _ _)
    (fun _ => rfl) fun _ => rfl

theorem State.get_calValid {f : Field} (h : Reg.CAL_VALID_VALID.id ≠ f.id) (c i j : Nat) :
    (s.calValid c i).get f j = s.get f j := by
  rw [State.calValid]
  split
  · rfl
  · exact s.get_set_other h _ _ _

theorem State.valid_calValid {i : Nat} (hi : i < 64) (c : Nat) :
    bitOf ((s.calValid c i).get Reg.CAL_VALID_VALID c) i = true := by
  rw [State.calValid]
  split
  · assumption
  · next h =>
    rw [State.get_set_same]
    exact bitOf_add_two_pow hi (Bool.eq_false_iff.mpr h)

theorem State.get_pairWritten {f : Field} (hd : Reg.ADC_FLAGS_CAL_DONE.id ≠ f.id) (hv : Reg.CAL_VALID_VALID.id ≠ f.id)
    (c i : Nat) (offset gain : Int) (j : Nat) : (s.pairWritten c i offset gain).get f j =
      ((s.setS Reg.CAL_COEF_OFFSET (64 * c + i) offset).set Reg.CAL_COEF_GAIN (64 * c + i) gain.toNat).get f j := by
  rw [State.pairWritten, State.get_setFlag_other _ hd, State.get_calValid _ hv]

theorem State.gain_pairWritten {gain : Int} (hlo : 0 ≤ gain) (hhi : gain ≤ 0xFFFF) (c i : Nat) (offset : Int) :
    ((s.pairWritten c i offset gain).get Reg.CAL_COEF_GAIN (64 * c + i) : Int) = gain := by
  have fits : gain.toNat < 2 ^ Reg.CAL_COEF_GAIN.width := show gain.toNat < 65536 by omega
  rw [State.get_pairWritten _ (by decide) (by decide), State.get_set_same, Nat.mod_eq_of_lt fits]
  exact Int.toNat_of_nonneg hlo

theorem State.offset_pairWritten {offset : Int} (hlo : -32768 ≤ offset) (hhi : offset ≤ 32767) (c i : Nat) (gain : Int) :
    (s.pairWritten c i offset gain).getS Reg.CAL_COEF_OFFSET (64 * c + i) = offset := by
  rw [State.getS_of_get (State.get_pairWritten _ (by decide) (by decide) _ _ _ _ _),
    State.getS_of_get (State.get_set_other _ (by decide) _ _ _)]
  exact State.getS_setS_same _ (show -65536 ≤ 2 * offset by omega) (show 2 * offset < 65536 by omega) _

theorem State.valid_pairWritten {i : Nat} (hi : i < 64) (c : Nat) (offset gain : Int) :
    bitOf ((s.pairWritten c i offset gain).get Reg.CAL_VALID_VALID c) i = true := by
  rw [State.pairWritten, State.get_setFlag_other _ (by decide)]
  exact State.valid_calValid _ hi c

theorem State.done_pairWritten (c i : Nat) (offset gain : Int) :
    (s.pairWritten c i offset gain).flag Reg.ADC_FLAGS_CAL_DONE c = true := by
  rw [State.pairWritten, State.flag_setFlag_same _ (by decide)]

theorem State.pending_pairWritten (c i : Nat) (offset gain : Int) : (s.pairWritten c i offset gain).pending = s.pending := by
  rw [State.pairWritten, State.setFlag_pending, State.calValid]
  split <;> rfl

/-- Accepting a pair leaves every field as `pairWritten` does that no event writes. -/
theorem State.get_pairAccepted {f : Field} (hr : Reg.raised f = false) (c i : Nat) (offset gain : Int) (j : Nat) :
    (s.pairAccepted c i offset gain).get f j = (s.pairWritten c i offset gain).get f j := by
  rw [State.pairAccepted, State.get_onAdc, State.get_raise _ hr]

theorem State.unsaved_pairAccepted (c i : Nat) (offset gain : Int) : i ∈ ((s.pairAccepted c i offset gain).adcv c).unsaved := by
  rw [State.pairAccepted, State.adcv_onAdc_same]
  simp

theorem State.pending_pairAccepted (c i : Nat) (offset gain : Int) : (s.pairAccepted c i offset gain).pending = s.pending := by
  rw [State.pairAccepted, State.pending_onAdc, State.raise_pending, State.pending_pairWritten]

theorem State.signalled_pairAccepted (c i : Nat) (offset gain : Int) : s.Signalled 78 (s.pairAccepted c i offset gain) := by
  rw [State.pairAccepted]
  refine (State.signalled_raise _ 78).of_get ?_ ?_ (fun _ => State.get_onAdc _ _ _ _ _) (fun _ => State.get_onAdc _ _ _ _ _) <;>
    rw [State.get_pairWritten _ (by decide) (by decide), State.get_set_other _ (by decide), State.setS,
      State.get_set_other _ (by decide)]

/-- The end of a step writes no route of an event. -/
theorem State.Signalled.of_calEnds {s t : State} {c n : Nat} {st : AdcStep} (h : (s.calEnds c st).Signalled n t) :
    s.Signalled n t :=
  h.of_get (s.get_calEnds rfl (by decide) _ _ _) (s.get_calEnds rfl (by decide) _ _ _) (fun _ => rfl) fun _ => rfl

/-- The end of a step that fails: the converter is free, the failure is shown and signalled, the coefficients stay. -/
theorem State.calFailed_calEnds (c : Nat) (st : AdcStep) :
    ((s.calEnds c st).calFailed c).flag Reg.CAL_CTRL_STEP_BUSY c = false ∧
      ((s.calEnds c st).calFailed c).flag Reg.ADC_FLAGS_CAL_FAIL c = true ∧
      s.Signalled 78 ((s.calEnds c st).calFailed c) ∧
      (∀ i, ((s.calEnds c st).calFailed c).get Reg.CAL_COEF_GAIN i = s.get Reg.CAL_COEF_GAIN i) ∧
      ((s.calEnds c st).calFailed c).pending = s.pending :=
  ⟨(State.flag_of_get (State.get_calFailed _ rfl (by decide) _ _)).trans (s.busy_calEnds c st), State.failed_calFailed _ c,
    (State.signalled_calFailed _ c).of_calEnds,
    fun i => (State.get_calFailed _ rfl (by decide) c i).trans (s.get_calEnds rfl (by decide) c st i),
    (State.raise_pending _ _).trans (s.pending_calEnds c st)⟩

/-! ### Accepted pairs reach the flash -/

theorem State.doCalPersist_saved {c i : Nat} (h : i ∉ (s.adcv c).unsaved) : s.doCalPersist c i = s := by
  rw [State.doCalPersist, if_neg (by simpa using h)]

/-- What the write of a pair leaves of the converters, of the flash and of the queue. -/
theorem State.doCalPersist_unsaved {c i : Nat} (h : i ∈ (s.adcv c).unsaved) :
    (s.doCalPersist c i).adc = (s.onAdc c fun a => { a with unsaved := a.unsaved.filter fun x => x != i }).adc ∧
      (s.doCalPersist c i).flash.calPairs = s.flash.calPairs.put none (64 * c + i)
        (some (s.get Reg.CAL_COEF_OFFSET (64 * c + i), s.get Reg.CAL_COEF_GAIN (64 * c + i))) ∧
      (s.doCalPersist c i).pending = s.pending := by
  rw [State.doCalPersist, if_pos (by simpa using h)]
  exact ⟨rfl, rfl, rfl⟩

/-! ### The commands -/

theorem exec_calStep {m : Master} {c : Fin 16} {i : Fin 8} {d : Bool} {g : Fin 4} {full : Bool} {x : Instr}
    (hx : x = if full then .calStepFull m c i d g else .calStepZero m c i d g) (s : State) :
    exec x s = s.run fun s => s.doCalStep m c i d g full := by
  subst hx
  cases full <;> rfl

theorem exec_calStepEnd (c : Fin 16) (sum : Int) (s : State) : exec (.calStepEnd c sum) s = s.run fun s => s.doCalEnd c sum := rfl

theorem exec_calPairPersist (c : Fin 16) (i : Fin 64) (s : State) :
    exec (.calPairPersist c i) s = s.run fun s => s.doCalPersist c i := rfl

/-- A command that acts and keeps the queue completes with what holds of its effect. -/
theorem completes_of_eq {c : Instr} {s t : State} {f : State → State} {Q : State → Prop} (ha : s.alive = true)
    (hc : exec c s = s.run f) (hf : f s = t) (hp : t.pending = s.pending) (hq : Q t) : Completes c s Q :=
  ⟨t, exec_eq_of_run ha hc hf hp, hq⟩

theorem completes_calStep_refused {c : Fin 16} {i : Fin 8} {d : Bool} {g : Fin 4} {full : Bool} {x : Instr}
    (ha : s.alive = true) (hx : exec x s = s.run fun s => s.doCalStep .ranger c i d g full)
    (h : s.flag Reg.CAL_CTRL_CAL_EN c = false ∨ s.flag Reg.CAL_CTRL_STEP_BUSY c = true) :
    Completes x s fun t => t.flag Reg.ADC_FLAGS_CAL_REFUSED c = true ∧ (t.adcv c).step = (s.adcv c).step ∧ t.bus = .done :=
  completes_of_eq ha hx (s.doCalStep_refused h _ _ _ _) rfl
    ⟨(State.flag_answer _ _ _ _).trans (State.flag_setFlag_same _ (by decide) c true), rfl, rfl⟩

theorem completes_calStep_starts {c : Fin 16} {i : Fin 8} {d : Bool} {g : Fin 4} {full : Bool} {x : Instr}
    (ha : s.alive = true) (hx : exec x s = s.run fun s => s.doCalStep .ranger c i d g full)
    (hen : s.flag Reg.CAL_CTRL_CAL_EN c = true) (hidle : s.flag Reg.CAL_CTRL_STEP_BUSY c = false) :
    Completes x s fun t => t.flag Reg.CAL_CTRL_STEP_BUSY c = true ∧ t.get Reg.CAL_CTRL_INPUT c = i ∧
      t.flag Reg.CAL_CTRL_DIFF c = d ∧ t.get Reg.CAL_CTRL_GAIN c = g ∧
      (t.adcv c).step = some ⟨full, 16 * g + 8 * b2n d + i, s.ticks + 320⟩ ∧ t.bus = .done := by
  refine completes_of_eq ha hx (s.doCalStep_starts hen hidle _ _ _ _) rfl ⟨?_, ?_, ?_, ?_, ?_, rfl⟩
  · exact s.busy_calStarts _ _ _ _ full
  · exact (s.get_calStarts (by decide) _ _ _ _ full _).trans (s.input_calNames _ _ _ _)
  · exact (State.flag_of_get (s.get_calStarts (by decide) _ _ _ _ full _)).trans (s.diff_calNames _ _ _ _)
  · exact (s.get_calStarts (by decide) _ _ _ _ full _).trans (s.gain_calNames _ _ _ _)
  · exact s.step_calStarts _ _ _ _ _

theorem completes_calStepEnd_zero {c : Fin 16} {st : AdcStep} (ha : s.alive = true) (h : (s.adcv c).step = some st)
    (hz : st.full = false) (sum : Int) :
    Completes (.calStepEnd c sum) s fun t => t.flag Reg.CAL_CTRL_STEP_BUSY c = false ∧ (t.adcv c).step = none ∧
      t.ticks = max s.ticks st.done ∧ (t.adcv c).zero.get none st.pair = some sum := by
  refine completes_of_eq ha (exec_calStepEnd c sum s) (s.doCalEnd_zero h hz sum) (s.pending_calEnds c st)
    ⟨s.busy_calEnds c st, ?_, s.ticks_calEnds c st, ?_⟩
  · rw [State.adcv_onAdc_same, State.adcv_calEnds]
  · rw [State.adcv_onAdc_same, Tab.get_put_same]

theorem completes_calStepEnd_unusable {c : Fin 16} {st : AdcStep} {sum : Int} (ha : s.alive = true)
    (h : (s.adcv c).step = some st) (hf : st.full = true)
    (hz : (s.adcv c).zero.get none st.pair = none ∨ (s.adcv c).zero.get none st.pair = some sum) :
    Completes (.calStepEnd c sum) s fun t => t.flag Reg.CAL_CTRL_STEP_BUSY c = false ∧
      t.flag Reg.ADC_FLAGS_CAL_FAIL c = true ∧ s.Signalled 78 t ∧
      t.get Reg.CAL_COEF_GAIN (64 * c + st.pair) = s.get Reg.CAL_COEF_GAIN (64 * c + st.pair) := by
  obtain ⟨busy, failed, signalled, gain, pending⟩ := s.calFailed_calEnds c st
  have hu : s.doCalEnd c sum = (s.calEnds c st).calFailed c :=
    (s.doCalEnd_full h hf sum).trans (State.calFull_unusable _ (by rwa [s.zero_calEnds]))
  exact completes_of_eq ha (exec_calStepEnd c sum s) hu pending ⟨busy, failed, signalled, gain _⟩

theorem completes_calStepEnd_quotients {c : Fin 16} {st : AdcStep} {sum a0 z span gain offset : Int} (ha : s.alive = true)
    (h : (s.adcv c).step = some st) (hf : st.full = true) (hp : st.pair < 64) (h0 : (s.adcv c).zero.get none st.pair = some a0)
    (hne : a0 ≠ sum) (hz : z = s.getS Reg.CAL_TARGET_CAL_ZERO c) (hspan : span = s.getS Reg.CAL_TARGET_CAL_FULL c - z)
    (hs : span ≠ 0) (hg : gain = ratRound (span * 256 * 32768) (sum - a0))
    (ho : offset = ratRound (a0 * span - z * (sum - a0)) (256 * span)) :
    Completes (.calStepEnd c sum) s fun t => s.Signalled 78 t ∧
      if 0x4000 ≤ gain ∧ gain ≤ 0xFFFF ∧ -32768 ≤ offset ∧ offset ≤ 32767 then
        (t.get Reg.CAL_COEF_GAIN (64 * c + st.pair) : Int) = gain ∧ t.getS Reg.CAL_COEF_OFFSET (64 * c + st.pair) = offset ∧
        bitOf (t.get Reg.CAL_VALID_VALID c) st.pair = true ∧ t.flag Reg.ADC_FLAGS_CAL_DONE c = true ∧
        st.pair ∈ (t.adcv c).unsaved
      else t.flag Reg.ADC_FLAGS_CAL_FAIL c = true ∧
        t.get Reg.CAL_COEF_GAIN (64 * c + st.pair) = s.get Reg.CAL_COEF_GAIN (64 * c + st.pair) := by
  have zero := State.getS_of_get (s.get_calEnds (f := Reg.CAL_TARGET_CAL_ZERO) rfl (by decide) c st c)
  have full := State.getS_of_get (s.get_calEnds (f := Reg.CAL_TARGET_CAL_FULL) rfl (by decide) c st c)
  have hq := (s.doCalEnd_full h hf sum).trans
    ((s.calEnds c st).calFull_quotients (by rwa [s.zero_calEnds]) hne (by rwa [zero]) (by rwa [full]) hs hg ho)
  split at hq
  · next fits =>
    obtain ⟨glo, ghi, olo, ohi⟩ := fits
    refine completes_of_eq ha (exec_calStepEnd c sum s) hq ((State.pending_pairAccepted _ _ _ _ _).trans (s.pending_calEnds c st))
      ⟨(State.signalled_pairAccepted _ _ _ _ _).of_calEnds, ?_⟩
    rw [if_pos ⟨glo, ghi, olo, ohi⟩]
    have get {f : Field} (hr : Reg.raised f = false) (j : Nat) :=
      State.get_pairAccepted (s.calEnds c st) hr c st.pair offset gain j
    refine ⟨?_, ?_, ?_, ?_, State.unsaved_pairAccepted _ _ _ _ _⟩
    · rw [get rfl, State.gain_pairWritten _ (by omega) ghi]
    · rw [State.getS_of_get (get rfl _), State.offset_pairWritten _ olo ohi]
    · rw [get rfl, State.valid_pairWritten _ hp]
    · rw [State.flag_of_get (get rfl _), State.done_pairWritten]
  · next misfit =>
    obtain ⟨-, failed, signalled, kept, pending⟩ := s.calFailed_calEnds c st
    refine completes_of_eq ha (exec_calStepEnd c sum s) hq pending ⟨signalled, ?_⟩
    rw [if_neg misfit]
    exact ⟨failed, kept _⟩

theorem completes_calPairPersist {c : Fin 16} {i : Fin 64} (ha : s.alive = true) (h : i.val ∈ (s.adcv c).unsaved) :
    Completes (.calPairPersist c i) s fun t => i.val ∉ (t.adcv c).unsaved ∧
      t.flash.calPairs.get none (64 * c + i) =
        some (s.get Reg.CAL_COEF_OFFSET (64 * c + i), s.get Reg.CAL_COEF_GAIN (64 * c + i)) := by
  obtain ⟨adc, pairs, pending⟩ := s.doCalPersist_unsaved h
  refine completes_of_eq ha (exec_calPairPersist c i s) rfl pending ⟨?_, ?_⟩
  · rw [State.adcv_of_adc adc, State.adcv_onAdc_same]
    simp
  · rw [pairs, Tab.get_put_same]

/-- Settles O43: each command by what its operation leaves, the FULL step by `calFull_quotients`. -/
theorem converterCalibration : Obligations.ConverterCalibration := by
  intro s c ha
  refine ⟨fun m i d g full x hx => ⟨fun hm ho => ?_, fun hm ho => ?_, ?_, ?_⟩, fun sum hi => ?_,
    fun sum st h => ⟨fun hz => ?_, fun hf hz => ?_, ?_⟩, fun i => ⟨fun h => ?_, fun h => ?_⟩⟩
  · exact exec_eq_of_run ha (exec_calStep hx s) (by rw [s.doCalStep_foreign hm, ho]; rfl) rfl
  · exact exec_eq_of_run ha (exec_calStep hx s) (by rw [s.doCalStep_foreign hm, ho]; rfl) rfl
  · rintro rfl h
    exact completes_calStep_refused s ha (exec_calStep hx s) h
  · rintro rfl hen hidle
    exact completes_calStep_starts s ha (exec_calStep hx s) hen hidle
  · exact exec_eq_of_run ha (exec_calStepEnd c sum s) (s.doCalEnd_idle hi sum) rfl
  · exact completes_calStepEnd_zero s ha h hz sum
  · exact completes_calStepEnd_unusable s ha h hf hz
  · intro a0 z span gain offset hf hp h0 hne hz hspan hs hg ho
    exact completes_calStepEnd_quotients s ha h hf hp h0 hne hz hspan hs hg ho
  · exact exec_eq_of_run ha (exec_calPairPersist c i s) (s.doCalPersist_saved h) rfl
  · exact completes_calPairPersist s ha h

end Sys2Proof.Machine
end

section
/-!
SUPPORT. A step channel: the rules of its state beside its registers, and what its operations leave alone (R408 to R417).
-/
namespace Sys2Proof.Machine

variable (s : State)

/-! ### The channel beside its registers -/

@[simp] theorem State.step_onStep_same (ch : Nat) (f : StpState → StpState) : (s.onStep ch f).step ch = f (s.step ch) :=
  Tab.get_put_same _ _ _ _

@[simp] theorem State.step_answer (b : BusResp) (ch : Nat) : (s.answer b).step ch = s.step ch := rfl

theorem State.step_onStep_other {ch j : Nat} (h : ch ≠ j) (f : StpState → StpState) : (s.onStep ch f).step j = s.step j :=
  Tab.get_put_other _ _ h _

@[simp] theorem State.get_onStep (ch : Nat) (g : StpState → StpState) (f : Field) (i : Nat) :
    (s.onStep ch g).get f i = s.get f i := rfl

/-- The channels beside their registers depend on `stp` only. -/
theorem State.step_of_stp {s t : State} (h : t.stp = s.stp) (ch : Nat) : t.step ch = s.step ch :=
  congrArg (fun c : Tab StpState => c.get StpState.reset ch) h

/-! ### What an operation on a channel leaves alone -/

/-- `t` differs from `s` at most in the fields `ws`, in what events write and beside the registers, as far as the registers,
the clock and the queue go. -/
structure State.ChannelFrame (ws : List Field) (s t : State) : Prop where
  get : ∀ f i, Reg.raised f = false → (∀ g ∈ ws, g.id ≠ f.id) → t.get f i = s.get f i
  ticks : t.ticks = s.ticks
  pending : t.pending = s.pending

section
variable {s} {t u : State} {ws ws' : List Field}

theorem State.ChannelFrame.of_regs (hr : t.regs = s.regs) (ht : t.ticks = s.ticks) (hp : t.pending = s.pending) :
    s.ChannelFrame ws t := ⟨fun f i _ _ => State.get_of_regs hr f i, ht, hp⟩

theorem State.ChannelFrame.trans (h : s.ChannelFrame ws t) (h' : t.ChannelFrame ws u) : s.ChannelFrame ws u where
  get f i hr hf := (h'.get f i hr hf).trans (h.get f i hr hf)
  ticks := h'.ticks.trans h.ticks
  pending := h'.pending.trans h.pending

theorem State.ChannelFrame.mono (h : s.ChannelFrame ws t) (hw : ws ⊆ ws') : s.ChannelFrame ws' t :=
  ⟨fun f i hr hf => h.get f i hr fun g hg => hf g (hw hg), h.ticks, h.pending⟩

theorem State.ChannelFrame.flag (h : s.ChannelFrame ws t) (f : Field) (i : Nat) (hr : Reg.raised f = false)
    (hf : ∀ g ∈ ws, g.id ≠ f.id) : t.flag f i = s.flag f i := State.flag_of_get (h.get f i hr hf)

end

theorem State.channelFrame_refl (ws : List Field) : s.ChannelFrame ws s := .of_regs rfl rfl rfl

theorem State.channelFrame_set {ws : List Field} {f : Field} (hf : f ∈ ws) (i v : Nat) : s.ChannelFrame ws (s.set f i v) :=
  ⟨fun _ _ _ hg => s.get_set_other (hg f hf) _ _ _, rfl, rfl⟩

theorem State.channelFrame_setFlag {ws : List Field} {f : Field} (hf : f ∈ ws) (i : Nat) (b : Bool) :
    s.ChannelFrame ws (s.setFlag f i b) := s.channelFrame_set hf i _

theorem State.channelFrame_raise (ws : List Field) (n : Nat) : s.ChannelFrame ws (s.raise n) :=
  ⟨fun _ i hr _ => s.get_raise hr n i, s.raise_ticks n, s.raise_pending n⟩

theorem State.channelFrame_onStep (ws : List Field) (ch : Nat) (f : StpState → StpState) :
    s.ChannelFrame ws (s.onStep ch f) := .of_regs rfl rfl rfl

/-! ### Its state as it reads -/

/-- The fields of `STP_STATUS` that follow the channel. -/
def Reg.stepShown : List Field :=
  [Reg.STP_STATUS_STATE, Reg.STP_STATUS_DRVEN, Reg.STP_STATUS_DECEL_RAISED, Reg.STP_STATUS_OVERSHOOT, Reg.STP_STATUS_SPEED]

theorem State.channelFrame_showStep (ch : Nat) : s.ChannelFrame Reg.stepShown (s.showStep ch) :=
  ((((s.channelFrame_set (by simp [Reg.stepShown]) _ _).trans
    (State.channelFrame_setFlag _ (by simp [Reg.stepShown]) _ _)).trans
    (State.channelFrame_setFlag _ (by simp [Reg.stepShown]) _ _)).trans
    (State.channelFrame_setFlag _ (by simp [Reg.stepShown]) _ _)).trans
    (State.channelFrame_set _ (by simp [Reg.stepShown]) _ _)

@[simp] theorem State.step_showStep (ch j : Nat) : (s.showStep ch).step j = s.step j := rfl

/-- `STATE` shows the state of the channel. -/
theorem State.state_showStep (ch : Nat) : (s.showStep ch).get Reg.STP_STATUS_STATE ch = s.stepState ch % 8 := by
  simp only [State.showStep, State.setS]
  rw [State.get_set_other _ (by decide), State.get_setFlag_other _ (by decide), State.get_setFlag_other _ (by decide),
    State.get_setFlag_other _ (by decide), State.get_set_same]
  rfl

theorem State.stepParked_of_get {s t : State} {ch : Nat} (hp : t.get Reg.PWR_STATE_STATE 0 = s.get Reg.PWR_STATE_STATE 0)
    (hd : t.get Reg.STP_CTRL_DRV_PARK ch = s.get Reg.STP_CTRL_DRV_PARK ch) : t.stepParked ch = s.stepParked ch := by
  rw [State.stepParked, State.parked, hp, State.flag_of_get hd]
  rfl

/-- `DRV_PARK` parks the channel (R416). -/
theorem State.stepParked_of_drvPark {ch : Nat} (h : s.flag Reg.STP_CTRL_DRV_PARK ch = true) : s.stepParked ch = true := by
  rw [State.stepParked, h, Bool.or_true]

theorem State.stepState_parked {ch : Nat} (h : s.stepParked ch = true) : s.stepState ch = 6 := if_pos h

theorem State.driveOn_iff (ch : Nat) : s.driveOn ch = true ↔ s.flag Reg.STP_CTRL_ENABLE ch = true ∧
    s.stepParked ch = false ∧ bitsOf (s.get Reg.STP_HALT_CAUSES ch) 1 4 = 0 := by
  simp [State.driveOn, and_assoc]

theorem State.driveOn_disabled {ch : Nat} (h : s.flag Reg.STP_CTRL_ENABLE ch = false) : s.driveOn ch = false := by
  rw [State.driveOn, h]; rfl

/-- A driver fault switches the driver off (R413, R414). -/
theorem State.driveOn_drvflt {ch : Nat} (h : bitOf (s.get Reg.STP_HALT_CAUSES ch) haltDrvflt = true) :
    s.driveOn ch = false := by
  refine Bool.eq_false_iff.mpr fun hd => ?_
  obtain ⟨-, -, hc⟩ := (s.driveOn_iff ch).mp hd
  simp only [bitOf, bitsOf, haltDrvflt, beq_iff_eq] at h hc
  omega

/-- A channel with its driver on and a cause present is HALTED. -/
theorem State.stepState_halted {ch : Nat} (hd : s.driveOn ch = true) (hc : s.get Reg.STP_HALT_CAUSES ch ≠ 0) :
    s.stepState ch = 5 := by
  obtain ⟨-, hp, -⟩ := (s.driveOn_iff ch).mp hd
  rw [State.stepState, hp, hd, if_neg (by simp), if_neg (by simp), if_pos hc]

/-! ### Halts -/

/-- The fields that the begin of a halt may write, but for events. -/
def Reg.haltBegun : List Field := [Reg.STP_FLAGS_CMD_REFUSED, Reg.STP_FLAGS_POS_UNSURE, Reg.STOP_SPEED_SPEED]

/-- The begin of a halt: after flags, stop speed and event 81 the profile rests, and the tick is kept (R417 to R419). -/
theorem State.haltBegins_eq (ch : Nat) : ∃ u, s.ChannelFrame Reg.haltBegun u ∧ u.stp = s.stp ∧
    s.haltBegins ch = (u.stepRest ch).onStep ch fun c => { c with haltAt := some s.ticks } := by
  unfold State.haltBegins
  extract_lets c v refused unsure
  have first : s.ChannelFrame Reg.haltBegun refused ∧ refused.stp = s.stp := by
    simp only [refused]
    split
    · split
      · exact ⟨s.channelFrame_setFlag (by simp [Reg.haltBegun]) _ _, rfl⟩
      · exact ⟨s.channelFrame_refl _, rfl⟩
    · exact ⟨s.channelFrame_refl _, rfl⟩
  have second : refused.ChannelFrame Reg.haltBegun unsure ∧ unsure.stp = refused.stp := by
    simp only [unsure]
    split
    · exact ⟨((refused.channelFrame_setFlag (by simp [Reg.haltBegun]) _ _).trans
        (State.channelFrame_set _ (by simp [Reg.haltBegun]) _ _)).trans (State.channelFrame_raise _ _ _), by simp⟩
    · exact ⟨refused.channelFrame_refl _, rfl⟩
  clear_value unsure
  have frame := first.1.trans second.1
  refine ⟨unsure, frame, second.2.trans first.2, ?_⟩
  rw [← frame.ticks]

theorem State.channelFrame_haltBegins (ch : Nat) : s.ChannelFrame Reg.haltBegun (s.haltBegins ch) := by
  obtain ⟨u, frame, -, h⟩ := s.haltBegins_eq ch
  rw [h]
  exact frame.trans (.of_regs rfl rfl rfl)

theorem State.ChannelFrame.stepPos {s t : State} {ws : List Field} (h : s.ChannelFrame ws t) (ch : Nat)
    (hf : ∀ g ∈ ws, g.id ≠ Reg.STP_POS_COUNT.id) : t.stepPos ch = s.stepPos ch :=
  State.getS_of_get (h.get _ ch rfl hf)

@[simp] theorem State.step_stepRest (ch : Nat) :
    (s.stepRest ch).step ch = { s.step ch with prof := (s.step ch).prof.rest (s.stepPos ch), cmd := none } :=
  s.step_onStep_same ch _

theorem State.step_haltBegins (ch : Nat) : (s.haltBegins ch).step ch =
    { s.step ch with prof := (s.step ch).prof.rest (s.stepPos ch), cmd := none, haltAt := some s.ticks } := by
  obtain ⟨u, frame, stp, h⟩ := s.haltBegins_eq ch
  rw [h, State.step_onStep_same, State.step_stepRest, State.step_of_stp stp, frame.stepPos ch (by decide)]

/-- The fields that setting or clearing a halt cause may write, but for events. -/
def Reg.halted : List Field := Reg.STP_HALT_CAUSES :: Reg.haltBegun ++ Reg.stepShown

/-- A change of a halt cause, as it is written and shown. -/
theorem State.channelFrame_causes (ch v : Nat) : s.ChannelFrame Reg.halted ((s.set Reg.STP_HALT_CAUSES ch v).showStep ch) :=
  (s.channelFrame_set (by simp [Reg.halted]) ch v).trans ((State.channelFrame_showStep _ ch).mono (by simp [Reg.halted]))

theorem State.causes_shown (ch v : Nat) :
    ((s.set Reg.STP_HALT_CAUSES ch v).showStep ch).get Reg.STP_HALT_CAUSES ch = v % 2 ^ 6 :=
  ((State.channelFrame_showStep _ ch).get _ ch rfl (by decide)).trans (s.get_set_same _ ch v)

theorem State.setHalt_same {ch bit : Nat} {on : Bool} (h : bitOf (s.get Reg.STP_HALT_CAUSES ch) bit = on) :
    s.setHalt ch bit on = s := if_pos h

theorem State.setHalt_set {ch bit : Nat} (h : bitOf (s.get Reg.STP_HALT_CAUSES ch) bit = false) : s.setHalt ch bit true =
    ((if s.get Reg.STP_HALT_CAUSES ch = 0 then s.haltBegins ch else s).set Reg.STP_HALT_CAUSES ch
      (s.get Reg.STP_HALT_CAUSES ch + 2 ^ bit)).showStep ch := by
  rw [State.setHalt, h]; rfl

theorem State.setHalt_clear {ch bit : Nat} (h : bitOf (s.get Reg.STP_HALT_CAUSES ch) bit = true) : s.setHalt ch bit false =
    (s.set Reg.STP_HALT_CAUSES ch (s.get Reg.STP_HALT_CAUSES ch - 2 ^ bit)).showStep ch := by
  rw [State.setHalt, h]; rfl

theorem bitOf_zero (n : Nat) : bitOf 0 n = false := by simp [bitOf]

theorem State.channelFrame_setHalt (ch bit : Nat) (on : Bool) : s.ChannelFrame Reg.halted (s.setHalt ch bit on) := by
  by_cases h : bitOf (s.get Reg.STP_HALT_CAUSES ch) bit = on
  · rw [s.setHalt_same h]
    exact s.channelFrame_refl _
  · cases on with
    | true =>
      rw [s.setHalt_set (Bool.eq_false_iff.mpr h)]
      split
      · exact ((s.channelFrame_haltBegins ch).mono (by simp [Reg.halted])).trans (State.channelFrame_causes _ ch _)
      · exact s.channelFrame_causes ch _
    | false =>
      rw [s.setHalt_clear (Bool.of_not_eq_false h)]
      exact s.channelFrame_causes ch _

/-- A cause that has been set is present. -/
theorem State.causes_setHalt {bit : Nat} (hb : bit < 6) (ch : Nat) :
    bitOf ((s.setHalt ch bit true).get Reg.STP_HALT_CAUSES ch) bit = true := by
  by_cases h : bitOf (s.get Reg.STP_HALT_CAUSES ch) bit = true
  · rwa [s.setHalt_same h]
  · have h := Bool.eq_false_iff.mpr h
    rw [s.setHalt_set h, State.causes_shown]
    exact bitOf_add_two_pow hb h

/-- A driver fault that has been acknowledged is gone. -/
theorem State.causes_drvfltCleared (ch : Nat) :
    bitOf ((s.setHalt ch haltDrvflt false).get Reg.STP_HALT_CAUSES ch) haltDrvflt = false := by
  by_cases h : bitOf (s.get Reg.STP_HALT_CAUSES ch) haltDrvflt = false
  · rwa [s.setHalt_same h]
  · have h := Bool.of_not_eq_false h
    rw [s.setHalt_clear h, State.causes_shown]
    simp only [bitOf, haltDrvflt, beq_iff_eq, beq_eq_false_iff_ne] at h ⊢
    omega

theorem State.stp_setHalt_clear (ch bit : Nat) : (s.setHalt ch bit false).stp = s.stp := by
  by_cases h : bitOf (s.get Reg.STP_HALT_CAUSES ch) bit = false
  · rw [s.setHalt_same h]
  · rw [s.setHalt_clear (Bool.of_not_eq_false h)]
    rfl

/-- The first cause begins a halt. -/
theorem State.setHalt_first {ch : Nat} (h : s.get Reg.STP_HALT_CAUSES ch = 0) (bit : Nat) : s.setHalt ch bit true =
    ((s.haltBegins ch).set Reg.STP_HALT_CAUSES ch (2 ^ bit)).showStep ch := by
  rw [s.setHalt_set (by rw [h, bitOf_zero]), if_pos h, h, Nat.zero_add]

/-! ### Enabling -/

/-- What a write of `ENABLE` makes of it, of the halt causes and of the channel: a driver fault whose input is inactive is
acknowledged, and a channel that is switched off rests. -/
theorem State.writeEnable_eq (ch : Nat) (on : Bool) : ∃ u, (s.setFlag Reg.STP_CTRL_ENABLE ch on).ChannelFrame Reg.halted u ∧
    u.stp = s.stp ∧
    (s.flag Reg.STP_STATUS_FLT ch = false → bitOf (u.get Reg.STP_HALT_CAUSES ch) haltDrvflt = false) ∧
    s.writeEnable ch on = (if on then u else u.stepRest ch).showStep ch := by
  have input : (s.setFlag Reg.STP_CTRL_ENABLE ch on).flag Reg.STP_STATUS_FLT ch = s.flag Reg.STP_STATUS_FLT ch :=
    s.flag_setFlag_other (by decide) _ _ _
  unfold State.writeEnable
  extract_lets t u
  refine ⟨u, ?_⟩
  simp only [u]
  split
  · next h =>
    rw [input] at h
    exact ⟨t.channelFrame_refl _, rfl, by simp [h], trivial⟩
  · exact ⟨t.channelFrame_setHalt _ _ _, t.stp_setHalt_clear _ _, fun _ => t.causes_drvfltCleared ch, trivial⟩

/-- A write of `ENABLE` shows in it, leaves the step count and the queue, switches the driver off and brings the profile to rest
where it is 0, and acknowledges a driver fault whose input is inactive. -/
theorem State.writeEnable_spec (ch : Nat) (on : Bool) :
    (s.writeEnable ch on).flag Reg.STP_CTRL_ENABLE ch = on ∧ (s.writeEnable ch on).stepPos ch = s.stepPos ch ∧
      (s.writeEnable ch on).pending = s.pending ∧
      (on = false → (s.writeEnable ch on).step ch =
        { s.step ch with prof := (s.step ch).prof.rest (s.stepPos ch), cmd := none }) ∧
      (s.flag Reg.STP_STATUS_FLT ch = false →
        bitOf ((s.writeEnable ch on).get Reg.STP_HALT_CAUSES ch) haltDrvflt = false) := by
  obtain ⟨u, frame, stp, acknowledged, h⟩ := s.writeEnable_eq ch on
  have shown : u.ChannelFrame Reg.stepShown (s.writeEnable ch on) := by
    rw [h]
    cases on with
    | true => exact u.channelFrame_showStep ch
    | false => exact (u.channelFrame_onStep _ ch _).trans (State.channelFrame_showStep (u.stepRest ch) ch)
  have pos : u.stepPos ch = s.stepPos ch :=
    (frame.stepPos ch (by decide)).trans (State.getS_of_get (s.get_setFlag_other (by decide) _ _ _))
  refine ⟨?_, (shown.stepPos ch (by decide)).trans pos, shown.pending.trans frame.pending, ?_, fun hf => ?_⟩
  · rw [shown.flag _ ch rfl (by decide), frame.flag _ ch rfl (by decide), State.flag_setFlag_same _ (by decide)]
  · rintro rfl
    rw [h, State.step_showStep, if_neg Bool.false_ne_true, State.step_stepRest, State.step_of_stp stp, pos]
  · rw [shown.get _ ch rfl (by decide)]
    exact acknowledged hf

end Sys2Proof.Machine
end

section
/-!
The commands and writes of a step channel (R408, R413, R416, R417, R419 to R421).
-/
namespace Sys2Proof.Machine

variable (s : State)

/-- Ranger and the engine of the channel write it (R420). -/
theorem stepWriter_iff (m : Master) (ch : Nat) :
    stepWriter m ch = true ↔ m = .ranger ∨ ∃ k : Fin 64, m = .jce k ∧ k.val = 56 + ch / 4 := by
  cases m <;> simp [stepWriter]

theorem stepWriter_foreign {m : Master} {ch : Nat}
    (h : m ≠ .ranger ∧ ∀ k : Fin 64, m = .jce k → k.val ≠ 56 + ch / 4) : stepWriter m ch = false := by
  refine Bool.eq_false_iff.mpr fun hw => ?_
  obtain hm | ⟨k, hm, hk⟩ := (stepWriter_iff m ch).mp hw
  · exact h.1 hm
  · exact h.2 k hm hk

/-! ### The commands -/

/-- `c` is the write of `STP_CMD` with the code `code` (R408). -/
def StepCmdWrite (m : Master) (ch : Fin 32) (code : Nat) (c : Instr) : Prop :=
  (code, c) ∈ [(0, Instr.stpNone m ch), (1, .stpMove m ch), (2, .stpVelocity m ch), (3, .stpStop m ch), (4, .stpTrack m ch),
    (5, .stpAbort m ch)]

theorem exec_stepCmd {m : Master} {ch : Fin 32} {code : Nat} {c : Instr} (h : StepCmdWrite m ch code c) (s : State) :
    exec c s = s.run fun s => s.doStepCmd m ch code := by
  simp only [StepCmdWrite, List.mem_cons, List.not_mem_nil, Prod.mk.injEq, or_false] at h
  obtain ⟨rfl, rfl⟩ | ⟨rfl, rfl⟩ | ⟨rfl, rfl⟩ | ⟨rfl, rfl⟩ | ⟨rfl, rfl⟩ | ⟨rfl, rfl⟩ := h <;> rfl

theorem exec_stpEnable (m : Master) (ch : Fin 32) (on : Bool) (s : State) :
    exec (.stpEnable m ch on) s = s.run fun s => s.doStepEnable m ch on := rfl

theorem exec_ustepAlign (m : Master) (ch : Fin 32) (i : BitVec 13) (s : State) :
    exec (.ustepAlign m ch i) s = s.run fun s => s.doAlign m ch i.toNat := rfl

theorem exec_drvPark (m : Master) (ch : Fin 32) (on : Bool) (s : State) :
    exec (.drvPark m ch on) s = s.run fun s => s.doDrvPark m ch on := rfl

theorem exec_stpPosPreset (m : Master) (ch : Fin 32) (v : BitVec 48) (s : State) :
    exec (.stpPosPreset m ch v) s = s.run fun s => s.doStepPreset m ch v.toInt := rfl

/-- A write by another master changes nothing and answers a bus error. -/
theorem exec_foreignStepWrite {s : State} {m : Master} {ch : Fin 32} {c : Instr} (ha : s.alive = true)
    (hm : stepWriter m ch = false) (hc : (∃ code, StepCmdWrite m ch code c) ∨ (∃ b, c = .stpEnable m ch b) ∨
      (∃ i, c = .ustepAlign m ch i) ∨ (∃ b, c = .drvPark m ch b) ∨ ∃ v, c = .stpPosPreset m ch v) :
    exec c s = .next (s.answer .busError) := by
  obtain ⟨code, hc⟩ | ⟨b, rfl⟩ | ⟨i, rfl⟩ | ⟨b, rfl⟩ | ⟨v, rfl⟩ := hc
  · exact exec_eq_of_run ha (exec_stepCmd hc s) (by simp [State.doStepCmd, hm]) rfl
  · exact exec_eq_of_run ha (exec_stpEnable m ch b s) (by simp [State.doStepEnable, hm]) rfl
  · exact exec_eq_of_run ha (exec_ustepAlign m ch i s) (by simp [State.doAlign, hm]) rfl
  · exact exec_eq_of_run ha (exec_drvPark m ch b s) (by simp [State.doDrvPark, hm]) rfl
  · exact exec_eq_of_run ha (exec_stpPosPreset m ch v s) (by simp [State.doStepPreset, hm]) rfl

/-! ### Writes of `STP_CMD` -/

section
variable {s} {m : Master} {ch : Nat} (hm : stepWriter m ch = true)
include hm

theorem State.doStepCmd_none (h : s.get Reg.STP_HALT_CAUSES ch = 0 ∨ (s.step ch).haltAt ≠ some s.ticks) :
    s.doStepCmd m ch 0 = (s.onStep ch fun c => { c with cmd := some (s.stagedNone ch) }).answer .done := by
  rw [State.doStepCmd, hm, if_neg (by simp), if_neg (by simpa using fun ht => h.resolve_right (not_not_intro ht)), if_pos rfl]

/-- A command of a channel whose driver is off is refused, in the tick of a halt too (R413, R419). -/
theorem State.doStepCmd_off (hd : s.driveOn ch = false) {code : Nat} (hc : code ≠ 0) :
    s.doStepCmd m ch code = (s.cmdRefused ch).answer .done := by
  rw [State.doStepCmd, hm, hd, if_neg (by simp), if_neg hc]
  split <;> rfl

/-- An accepted command of a channel that is not halted finds no cause to end (R417). -/
theorem State.doStepCmd_on (hd : s.driveOn ch = true) (hh : s.get Reg.STP_HALT_CAUSES ch = 0) {code : Nat} (hc : code ≠ 0) :
    s.doStepCmd m ch code =
      if code = 5 then
        ((s.setHalt ch haltAbort true).onStep ch fun c => { c with cmd := some (s.stagedCmd ch 0) }).answer .done
      else (s.onStep ch fun c => { c with cmd := some (s.stagedCmd ch code) }).answer .done := by
  have same (bit : Nat) : s.setHalt ch bit false = s := s.setHalt_same (by rw [hh, bitOf_zero])
  rw [State.doStepCmd, hm, hd, if_neg (by simp), if_neg (by simp [hh]), if_neg hc, if_neg (by simp)]
  simp only [same]

/-- `STP_ENABLE` (R413, R417). -/
theorem State.doStepEnable_writer (on : Bool) : s.doStepEnable m ch on = (s.writeEnable ch on).answer .done := if_pos hm

theorem State.doAlign_writer (i : Nat) : s.doAlign m ch i =
    ((s.set Reg.STP_USTEP_USTEP_IDX ch i).setFlag Reg.STP_USTEP_IDX_VALID ch true).answer .done := if_pos hm

theorem State.doDrvPark_parks (hs : s.stepState ch = 0 ∨ s.stepState ch = 1) (hv : (s.step ch).prof.v = 0) :
    s.doDrvPark m ch true = (((s.setFlag Reg.STP_CTRL_DRV_PARK ch true).onStep ch fun c =>
      { c with settle := none }).showStep ch).answer .done := by
  rw [State.doDrvPark, hm, if_neg (by simp), if_pos rfl, if_pos ⟨hs, hv⟩]

theorem State.doDrvPark_refused (hs : s.stepState ch ∈ [2, 3, 4, 5]) :
    s.doDrvPark m ch true = (s.cmdRefused ch).answer .done := by
  simp only [List.mem_cons, List.not_mem_nil, or_false] at hs
  rw [State.doDrvPark, hm, if_neg (by simp), if_pos rfl, if_neg (by omega), if_neg (by omega)]

/-- Without `DRV_PARK` the channel leaves PARKED, unless the whole device is parked, and shows it. -/
theorem State.doDrvPark_leaves : ∃ u, (s.setFlag Reg.STP_CTRL_DRV_PARK ch false).ChannelFrame [] u ∧
    s.doDrvPark m ch false = (u.showStep ch).answer .done := by
  rw [State.doDrvPark, hm, if_neg (by simp), if_neg (by simp)]
  refine ⟨_, ?_, rfl⟩
  split <;> exact .of_regs rfl rfl rfl

theorem State.doStepPreset_writes (hs : s.stepState ch ∈ [0, 1, 6]) (v : Int) : s.doStepPreset m ch v =
    ((s.setS Reg.STP_POS_COUNT ch v).onStep ch fun c => { c with prof := c.prof.rest v }).answer .done := by
  rw [State.doStepPreset, hm, if_neg (by simp), if_pos (by simpa using hs)]

theorem State.doStepPreset_refused (hs : s.stepState ch ∈ [2, 3, 4, 5]) (v : Int) :
    s.doStepPreset m ch v = (s.cmdRefused ch).answer .done := by
  simp only [List.mem_cons, List.not_mem_nil, or_false] at hs
  rw [State.doStepPreset, hm, if_neg (by simp), if_neg (by omega)]

end

/-- `ABORT` of a channel that is not halted halts it (R417). -/
theorem State.setHalt_abort {ch : Nat} (hd : s.driveOn ch = true) (hh : s.get Reg.STP_HALT_CAUSES ch = 0) :
    s.ChannelFrame Reg.halted (s.setHalt ch haltAbort true) ∧ (s.setHalt ch haltAbort true).get Reg.STP_HALT_CAUSES ch = 1 ∧
      (s.setHalt ch haltAbort true).driveOn ch = true ∧ (s.setHalt ch haltAbort true).step ch =
        { s.step ch with prof := (s.step ch).prof.rest (s.stepPos ch), cmd := none, haltAt := some s.ticks } := by
  have frame := s.channelFrame_setHalt ch haltAbort true
  have causes : (s.setHalt ch haltAbort true).get Reg.STP_HALT_CAUSES ch = 1 := by
    rw [s.setHalt_first hh, State.causes_shown]; rfl
  obtain ⟨enabled, active, -⟩ := (s.driveOn_iff ch).mp hd
  refine ⟨frame, causes, (State.driveOn_iff _ ch).mpr ⟨?_, ?_, ?_⟩, ?_⟩
  · rwa [frame.flag _ ch rfl (by decide)]
  · rwa [State.stepParked_of_get (frame.get _ 0 rfl (by decide)) (frame.get _ ch rfl (by decide))]
  · rw [causes]; rfl
  · rw [s.setHalt_first hh, State.step_showStep]
    exact s.step_haltBegins ch

section
variable {s} {m : Master} {ch : Fin 32} (ha : s.alive = true) (hm : stepWriter m ch = true)
include ha hm

theorem completes_stpAbort (hd : s.driveOn ch = true) (hh : s.get Reg.STP_HALT_CAUSES ch = 0) :
    Completes (.stpAbort m ch) s fun t => t.get Reg.STP_HALT_CAUSES ch = 1 ∧ t.stepState ch = 5 ∧
      t.stepPos ch = s.stepPos ch ∧ (t.step ch).cmd = some (s.stagedCmd ch 0) ∧
      (t.step ch).prof = (s.step ch).prof.rest (s.stepPos ch) ∧ (t.step ch).haltAt = some s.ticks ∧ t.bus = .done := by
  obtain ⟨frame, causes, driven, step⟩ := s.setHalt_abort hd hh
  have run := (State.doStepCmd_on hm hd hh (code := 5) (by decide)).trans (if_pos rfl)
  generalize s.setHalt ch haltAbort true = u at frame causes driven step run
  refine completes_of_eq ha (exec_stepCmd (code := 5) (by simp [StepCmdWrite]) s) run frame.pending
    ⟨causes, State.stepState_halted _ driven fun h => absurd (causes.symm.trans h) (by decide),
      frame.stepPos ch (by decide), ?_, ?_, ?_, rfl⟩
  all_goals rw [State.step_answer, State.step_onStep_same, step]

theorem completes_stpEnable (on : Bool) : Completes (.stpEnable m ch on) s fun t =>
    t.flag Reg.STP_CTRL_ENABLE ch = on ∧ t.stepPos ch = s.stepPos ch ∧ t.bus = .done ∧
      (on = false → t.driveOn ch = false ∧ (t.step ch).cmd = none ∧
        (t.step ch).prof = (s.step ch).prof.rest (s.stepPos ch)) ∧
      (on = true → s.flag Reg.STP_STATUS_FLT ch = false → bitOf (t.get Reg.STP_HALT_CAUSES ch) 4 = false) := by
  obtain ⟨enable, pos, pending, rests, acknowledged⟩ := s.writeEnable_spec ch on
  have run := State.doStepEnable_writer (s := s) hm on
  generalize s.writeEnable ch on = u at enable pos pending rests acknowledged run
  refine completes_of_eq ha (exec_stpEnable m ch on s) run pending
    ⟨enable, pos, rfl, fun h => ⟨State.driveOn_disabled _ (enable.trans h), ?_, ?_⟩, fun _ => acknowledged⟩ <;>
    rw [State.step_answer, rests h]

theorem completes_drvPark_parks (hs : s.stepState ch = 0) (hv : (s.step ch).prof.v = 0) :
    Completes (.drvPark m ch true) s fun t => t.flag Reg.STP_CTRL_DRV_PARK ch = true ∧ t.stepState ch = 6 ∧
      t.get Reg.STP_STATUS_STATE ch = 6 ∧ t.stepPos ch = s.stepPos ch := by
  generalize hu : (s.setFlag Reg.STP_CTRL_DRV_PARK ch true).onStep ch (fun c => { c with settle := none }) = u
  have hf : s.doDrvPark m ch true = (u.showStep ch).answer .done := by rw [← hu, State.doDrvPark_parks hm (.inl hs) hv]
  have shown := u.channelFrame_showStep ch
  have park : u.flag Reg.STP_CTRL_DRV_PARK ch = true := by
    rw [← hu]; exact s.flag_setFlag_same (by decide) ch true
  have pos : u.stepPos ch = s.stepPos ch := by
    rw [← hu]; exact State.getS_of_get (s.get_setFlag_other (by decide) _ _ _)
  have kept : ((u.showStep ch).answer .done).flag Reg.STP_CTRL_DRV_PARK ch = true :=
    (shown.flag _ ch rfl (by decide)).trans park
  refine completes_of_eq ha (exec_drvPark m ch true s) hf (by rw [← hu]; rfl)
    ⟨kept, State.stepState_parked _ (State.stepParked_of_drvPark _ kept), ?_, (shown.stepPos ch (by decide)).trans pos⟩
  rw [State.get_answer, State.state_showStep, State.stepState_parked _ (u.stepParked_of_drvPark park)]

theorem completes_drvPark_leaves :
    Completes (.drvPark m ch false) s fun t => t.flag Reg.STP_CTRL_DRV_PARK ch = false ∧ t.bus = .done := by
  obtain ⟨u, frame, hf⟩ := State.doDrvPark_leaves (s := s) hm
  refine completes_of_eq ha (exec_drvPark m ch false s) hf frame.pending ⟨?_, rfl⟩
  rw [State.flag_answer, (u.channelFrame_showStep ch).flag _ ch rfl (by decide), frame.flag _ ch rfl (by simp)]
  exact s.flag_setFlag_same (by decide) ch false

theorem completes_stpPosPreset (hs : s.stepState ch ∈ [0, 1, 6]) (v : BitVec 48) :
    Completes (.stpPosPreset m ch v) s fun t => t.stepPos ch = v.toInt ∧
      (t.step ch).prof = (s.step ch).prof.rest v.toInt ∧ t.bus = .done := by
  have lo := BitVec.le_two_mul_toInt (x := v)
  have hi := BitVec.two_mul_toInt_lt (x := v)
  refine completes_of_eq ha (exec_stpPosPreset m ch v s) (State.doStepPreset_writes hm hs v.toInt) rfl ⟨?_, ?_, rfl⟩
  · exact s.getS_setS_same (f := Reg.STP_POS_COUNT) lo hi ch
  · rw [State.step_answer, State.step_onStep_same]
    rfl

end

/-- Settles O44: each write by what its operation leaves, for the writers of the channel and for every other master. -/
theorem stepCommandsAndWrites : Obligations.StepCommandsAndWrites := by
  intro s m ch ha
  refine ⟨fun hm c hc => ?_, fun hm => ?_⟩
  · refine exec_foreignStepWrite ha (stepWriter_foreign hm) (hc.imp_left fun hc => ?_)
    simpa [StepCmdWrite, exists_or] using hc
  have hw := (stepWriter_iff m ch).mpr hm
  refine ⟨fun h => ?_, fun c code hc => ?_, completes_stpEnable ha hw, fun i => ?_, completes_drvPark_parks ha hw,
    fun hs => ?_, completes_drvPark_leaves ha hw, fun v => ⟨fun hs => completes_stpPosPreset ha hw hs v, fun hs => ?_⟩⟩
  · exact exec_eq_of_run ha (exec_stepCmd (.head _) s) (State.doStepCmd_none hw h) rfl
  · have run := exec_stepCmd (List.mem_cons_of_mem _ hc) s
    have code0 : code ≠ 0 := by
      rintro rfl
      simp at hc
    refine ⟨fun hd => ?_, fun hd hh h5 => ?_, ?_⟩
    · exact exec_eq_of_run ha run (State.doStepCmd_off hw hd code0) rfl
    · exact exec_eq_of_run ha run ((State.doStepCmd_on hw hd hh code0).trans (by rw [if_neg h5])) rfl
    · rintro hd hh rfl
      obtain rfl : c = .stpAbort m ch := by simpa using hc
      exact completes_stpAbort ha hw hd hh
  · exact exec_eq_of_run ha (exec_ustepAlign m ch i s) (State.doAlign_writer hw i.toNat) rfl
  · exact exec_eq_of_run ha (exec_drvPark m ch true s) (State.doDrvPark_refused hw hs) rfl
  · exact exec_eq_of_run ha (exec_stpPosPreset m ch v s) (State.doStepPreset_refused hw hs v.toInt) rfl

end Sys2Proof.Machine
end

section
/-!
SUPPORT. What the timed events and inputs of a step channel do (R406 to R412, R414 to R416).
-/
namespace Sys2Proof.Machine

variable (s : State)

/-! ### Passing time -/

@[simp] theorem State.stp_moveTb (n ns k : Nat) : (s.moveTb n ns k).stp = s.stp := rfl

@[simp] theorem State.stp_yardClocks (n : Nat) : (s.yardClocks n).stp = s.stp := by
  unfold State.yardClocks
  extract_lets t
  have counted : t.stp = s.stp := by
    unfold t
    split <;> rfl
  split
  · exact (t.raiseIf_stp _ 45).trans counted
  · exact counted

/-- Passing time leaves the channels beside their registers alone. -/
theorem State.stp_advance (n : Nat) : (s.advance n).stp = s.stp := by
  unfold State.advance
  extract_lets t u on v
  have tb6 : u.stp = s.stp := by
    simp only [u, t]
    split <;> rfl
  have bases : v.stp = u.stp := by
    unfold v
    split
    · exact State.foldl_keeps (P := fun w => w.stp = u.stp) (fun w b h => (w.stp_moveTb b 8 n).trans h) _ rfl
    · rfl
  split
  · exact (v.stp_yardClocks _).trans (bases.trans tb6)
  · exact bases.trans tb6

@[simp] theorem State.stp_waitTill (t : Nat) : (s.waitTill t).stp = s.stp := s.stp_advance _

/-! ### Steps -/

/-- A step that is issued: after what its delay counts, the step count, the microstep index and the direction are written, and
its tick is kept (R407, R411, R412). -/
theorem State.issueStep_eq (ch : Nat) (down late : Bool) : ∃ u,
    s.ChannelFrame [Reg.RATE_CLAMP_COUNT, Reg.STP_FLAGS_RATE_CLAMP_SEEN] u ∧ u.stp = s.stp ∧
      s.issueStep ch down late = ((((u.setS Reg.STP_POS_COUNT ch (s.stepPos ch + if down then -1 else 1)).set
        Reg.STP_USTEP_USTEP_IDX ch ((s.get Reg.STP_USTEP_USTEP_IDX ch + if down then s.ustepCycle ch - 1 else 1) %
          s.ustepCycle ch)).setFlag Reg.STP_STATUS_DIR ch down).onStep ch fun c => { c with lastStep := some s.ticks }) := by
  unfold State.issueStep
  extract_lets n m i byRate counted seen w
  have first : s.ChannelFrame [Reg.RATE_CLAMP_COUNT, Reg.STP_FLAGS_RATE_CLAMP_SEEN] counted ∧ counted.stp = s.stp := by
    simp only [counted]
    split
    · exact ⟨s.channelFrame_set (by simp) _ _, rfl⟩
    · exact ⟨s.channelFrame_refl _, rfl⟩
  have second : counted.ChannelFrame [Reg.RATE_CLAMP_COUNT, Reg.STP_FLAGS_RATE_CLAMP_SEEN] seen ∧ seen.stp = counted.stp := by
    simp only [seen]
    split
    · exact ⟨(counted.channelFrame_setFlag (by simp) _ _).trans (State.channelFrame_raise _ _ _), by simp⟩
    · exact ⟨counted.channelFrame_refl _, rfl⟩
  clear_value seen
  have frame := first.1.trans second.1
  refine ⟨seen, frame, second.2.trans first.2, ?_⟩
  rw [← frame.ticks]
  rfl

theorem State.ustepCycle_bounds (ch : Nat) : 4 ≤ s.ustepCycle ch ∧ s.ustepCycle ch ≤ 4096 := by
  unfold State.ustepCycle clampN
  split
  · omega
  · split <;> omega

/-- What an issued step whose count stays in range leaves behind. -/
theorem State.issueStep_spec {ch : Nat} {down : Bool} {d : Int} (hd : d = if down then -1 else 1)
    (hlo : -(2 ^ 47) ≤ s.stepPos ch + d) (hhi : s.stepPos ch + d ≤ 2 ^ 47 - 1) (late : Bool) :
    (s.issueStep ch down late).pending = s.pending ∧ (s.issueStep ch down late).stepPos ch = s.stepPos ch + d ∧
      (s.issueStep ch down late).get Reg.STP_USTEP_USTEP_IDX ch =
        (s.get Reg.STP_USTEP_USTEP_IDX ch + (if down then s.ustepCycle ch - 1 else 1)) % s.ustepCycle ch ∧
      (s.issueStep ch down late).flag Reg.STP_STATUS_DIR ch = down ∧
      ((s.issueStep ch down late).step ch).lastStep = some s.ticks ∧ (s.issueStep ch down late).ticks = s.ticks ∧
      ∀ j, j ≠ ch → (s.issueStep ch down late).stepPos j = s.stepPos j ∧
        (s.issueStep ch down late).step j = s.step j := by
  obtain ⟨u, frame, stp, h⟩ := s.issueStep_eq ch down late
  obtain ⟨cycleLo, cycleHi⟩ := s.ustepCycle_bounds ch
  have indexLt (x : Nat) : x % s.ustepCycle ch < 2 ^ Reg.STP_USTEP_USTEP_IDX.width :=
    Nat.lt_trans (Nat.mod_lt x (by omega)) (show s.ustepCycle ch < 8192 by omega)
  rw [h, ← hd]
  refine ⟨frame.pending, ?_, ?_, ?_, ?_, frame.ticks, fun j hj => ⟨?_, ?_⟩⟩
  · have count := u.getS_setS_same (f := Reg.STP_POS_COUNT) (x := s.stepPos ch + d)
      (show -(2 ^ 48) ≤ 2 * (s.stepPos ch + d) by omega) (show 2 * (s.stepPos ch + d) < 2 ^ 48 by omega) ch
    refine Eq.trans (State.getS_of_get ?_) count
    rw [State.get_onStep, State.get_setFlag_other _ (by decide), State.get_set_other _ (by decide)]
  · rw [State.get_onStep, State.get_setFlag_other _ (by decide), State.get_set_same, Nat.mod_eq_of_lt (indexLt _)]
  · exact State.flag_setFlag_same _ (by decide) ch down
  · rw [State.step_onStep_same]
  · refine State.getS_of_get ?_
    rw [State.get_onStep, State.get_setFlag_other _ (by decide), State.get_set_other _ (by decide), State.setS,
      State.get_set_element _ hj.symm, frame.get _ j rfl (by decide)]
  · rw [State.step_onStep_other _ hj.symm]
    exact State.step_of_stp stp j

section
variable {s} {ch : Nat}

theorem State.doStepIssue_idle
    (h : s.driveOn ch = false ∨ s.get Reg.STP_HALT_CAUSES ch ≠ 0 ∨ s.stepDue ch s.ticks = none) : s.doStepIssue ch = s := by
  unfold State.doStepIssue
  split
  · rfl
  · next hn =>
    obtain ⟨hd, hh⟩ : s.driveOn ch = true ∧ s.get Reg.STP_HALT_CAUSES ch = 0 := by simpa using hn
    rw [(h.resolve_left (by simp [hd])).resolve_left (not_not_intro hh)]

/-- A step that is due waits until it may start, and is issued then, if its count stays in range. -/
theorem State.doStepIssue_due {down : Bool} {d : Int} (hd : s.driveOn ch = true) (hh : s.get Reg.STP_HALT_CAUSES ch = 0)
    (hs : s.stepDue ch s.ticks = some down) (hdir : d = if down then -1 else 1)
    (hlo : -(2 ^ 47) ≤ s.stepPos ch + d) (hhi : s.stepPos ch + d ≤ 2 ^ 47 - 1) :
    ∃ late, s.doStepIssue ch = if s.ticks < s.stepFree ch down then s else s.issueStep ch down late := by
  unfold State.doStepIssue
  rw [if_neg (by simp [hd, hh]), hs]
  simp only [← hdir]
  exact ⟨_, if_neg (by omega)⟩

/-! ### Profile updates -/

theorem State.doProfileUpdate_parked (h : s.stepParked ch = true) : s.doProfileUpdate ch = s := if_pos h

/-- An update of a channel that is not parked: at its time the profile advances, takes the waiting command and plans the coming
microsecond, and the channel shows it (R409). -/
theorem State.doProfileUpdate_eq (h : s.stepParked ch = false) : ∃ u soft,
    (s.waitTill ((s.step ch).base + 125)).ChannelFrame [] u ∧ (u.step ch).cmd = none ∧
      (u.step ch).base =
        (if (s.step ch).prof.busy then (s.step ch).base + 125 else (s.waitTill ((s.step ch).base + 125)).ticks) ∧
      (∀ k, (s.step ch).cmd = some k → (u.step ch).vStart = k.vStart) ∧
      s.doProfileUpdate ch =
        (u.onStep ch fun c => { c with prof := c.prof.plan soft (1 / 1000000) }).showStep ch := by
  unfold State.doProfileUpdate
  extract_lets c w advanced taken soft
  rw [if_neg (show ¬s.stepParked ch = true by simp [h])]
  have waited : w.step ch = s.step ch := State.step_of_stp (s.stp_waitTill _) ch
  have first : w.ChannelFrame [] advanced ∧ (advanced.step ch).cmd = c.cmd ∧
      (advanced.step ch).base = if c.prof.busy then c.base + 125 else w.ticks := by
    simp only [advanced]
    split
    · exact ⟨w.channelFrame_onStep _ _ _, by simp [waited, c], by simp [waited, c]⟩
    · exact ⟨w.channelFrame_onStep _ _ _, by simp [waited, c], by simp⟩
  clear_value advanced
  obtain ⟨frame, cmd, base⟩ := first
  refine ⟨taken, soft, ?_⟩
  cases hc : c.cmd with
  | none =>
    have same : taken = advanced := by simp only [taken, hc]
    rw [same]
    exact ⟨frame, cmd.trans hc, base, fun k hk => absurd hk (by simp), rfl⟩
  | some k =>
    have takes : taken = advanced.takeCmd ch k := by simp only [taken, hc]
    obtain ⟨q, hq⟩ : ∃ q, taken = advanced.onStep ch fun c => { c with prof := q, cmd := none, vStart := k.vStart } :=
      ⟨_, takes⟩
    refine ⟨?_, ?_, ?_, fun k' hk => ?_, rfl⟩
    · rw [hq]
      exact frame.trans (advanced.channelFrame_onStep _ _ _)
    · rw [hq, State.step_onStep_same]
    · rw [hq, State.step_onStep_same]
      exact base
    · obtain rfl := Option.some.inj hk
      rw [hq, State.step_onStep_same]

end

/-! ### Driver faults -/

theorem State.channelFrame_loseIndex (ch : Nat) :
    s.ChannelFrame [Reg.STP_USTEP_IDX_VALID, Reg.STP_FLAGS_INDEX_LOST_SEEN] (s.loseIndex ch) := by
  unfold State.loseIndex
  split
  · exact ((s.channelFrame_setFlag (by simp) _ _).trans (State.channelFrame_setFlag _ (by simp) _ _)).trans
      (State.channelFrame_raise _ _ _)
  · exact s.channelFrame_refl _

theorem State.idxValid_loseIndex (ch : Nat) : (s.loseIndex ch).flag Reg.STP_USTEP_IDX_VALID ch = false := by
  unfold State.loseIndex
  split
  · rw [State.flag_raise _ rfl, State.flag_setFlag_other _ (by decide), State.flag_setFlag_same _ (by decide)]
  · next h => exact Bool.eq_false_iff.mpr h

@[simp] theorem State.get_periphEvent (k : Nat) (f : Field) (i : Nat) : (s.periphEvent k).get f i = s.get f i := rfl

theorem State.channelFrame_periphEvent (ws : List Field) (k : Nat) : s.ChannelFrame ws (s.periphEvent k) :=
  .of_regs rfl rfl rfl

/-- A driver fault, up to event 80: the channel halts, the fault has been seen, the index is lost, the engine gets its event
(R414, R415). -/
def State.drvHalted (s : State) (ch : Nat) : State :=
  (((s.setHalt ch haltDrvflt true).setFlag Reg.STP_FLAGS_FLT_SEEN ch true).loseIndex ch).periphEvent (56 + ch / 4)

/-- The fields that a driver fault may write, but for events. -/
def Reg.drvFaulted : List Field :=
  Reg.STP_FLAGS_FLT_SEEN :: Reg.STP_USTEP_IDX_VALID :: Reg.STP_FLAGS_INDEX_LOST_SEEN :: Reg.halted

theorem State.channelFrame_drvHalted (ch : Nat) : s.ChannelFrame Reg.drvFaulted (s.drvHalted ch) :=
  ((((s.channelFrame_setHalt ch haltDrvflt true).mono fun _ h => by simp [Reg.drvFaulted, h]).trans
    (State.channelFrame_setFlag _ (by simp [Reg.drvFaulted]) ch true)).trans
    ((State.channelFrame_loseIndex _ ch).mono (by simp [Reg.drvFaulted]))).trans
    (State.channelFrame_periphEvent _ _ _)

theorem State.drvflt_drvHalted (ch : Nat) :
    bitOf ((s.drvHalted ch).get Reg.STP_HALT_CAUSES ch) haltDrvflt = true := by
  rw [State.drvHalted, State.get_periphEvent, (State.channelFrame_loseIndex _ ch).get _ ch rfl (by decide),
    State.get_setFlag_other _ (by decide)]
  exact s.causes_setHalt (by decide) ch

theorem State.fltSeen_drvHalted (ch : Nat) : (s.drvHalted ch).flag Reg.STP_FLAGS_FLT_SEEN ch = true := by
  rw [State.drvHalted, State.flag_periphEvent, (State.channelFrame_loseIndex _ ch).flag _ ch rfl (by decide)]
  exact State.flag_setFlag_same _ (by decide) ch true

theorem State.idxValid_drvHalted (ch : Nat) : (s.drvHalted ch).flag Reg.STP_USTEP_IDX_VALID ch = false := by
  rw [State.drvHalted, State.flag_periphEvent, State.idxValid_loseIndex]

theorem State.noteIf_keeps (axis : Nat) (b : Bool) (bit : Nat) :
    (s.noteIf axis b bit).regs = s.regs ∧ (s.noteIf axis b bit).pending = s.pending := by
  rw [State.noteIf]
  split <;> exact ⟨rfl, rfl⟩

/-- A fault that the channel does not ignore is an event and noted for the axis (R414). -/
theorem State.drvFault_eq {ch : Nat} (h : s.fltIgnored ch = false) :
    s.drvFault ch = (((s.drvHalted ch).raise 80).noteIf (224 + ch) true 5).noteIf (224 + ch) true 16 :=
  if_neg (by simp [h])

/-- What follows `drvHalted` changes no register but those that event 80 writes. -/
theorem State.drvFault_acts {ch : Nat} (h : s.fltIgnored ch = false) :
    (s.drvFault ch).regs = ((s.drvHalted ch).raise 80).regs ∧ (s.drvFault ch).pending = s.pending := by
  have pending := (s.channelFrame_drvHalted ch).pending
  rw [s.drvFault_eq h]
  generalize s.drvHalted ch = u at pending ⊢
  obtain ⟨regs1, pending1⟩ := (u.raise 80).noteIf_keeps (224 + ch) true 5
  obtain ⟨regs2, pending2⟩ := ((u.raise 80).noteIf (224 + ch) true 5).noteIf_keeps (224 + ch) true 16
  exact ⟨regs2.trans regs1, pending2.trans (pending1.trans ((u.raise_pending 80).trans pending))⟩

/-- What a driver fault that is not ignored leaves of the channel (R413 to R415). -/
theorem State.drvFault_spec {ch : Nat} (h : s.fltIgnored ch = false) :
    (s.drvFault ch).flag Reg.STP_STATUS_FLT ch = s.flag Reg.STP_STATUS_FLT ch ∧
      bitOf ((s.drvFault ch).get Reg.STP_HALT_CAUSES ch) haltDrvflt = true ∧
      (s.drvFault ch).flag Reg.STP_FLAGS_FLT_SEEN ch = true ∧ (s.drvFault ch).flag Reg.STP_USTEP_IDX_VALID ch = false ∧
      s.Signalled 80 (s.drvFault ch) ∧ (s.drvFault ch).pending = s.pending := by
  obtain ⟨regs, pending⟩ := s.drvFault_acts h
  have frame := s.channelFrame_drvHalted ch
  have raised {f : Field} (hr : Reg.raised f = false) : (s.drvFault ch).get f ch = (s.drvHalted ch).get f ch :=
    (State.get_of_regs regs f ch).trans (State.get_raise _ hr 80 ch)
  refine ⟨?_, ?_, ?_, ?_, ?_, pending⟩
  · rw [State.flag_of_get (raised rfl), frame.flag _ ch rfl (by decide)]
  · rw [raised rfl, s.drvflt_drvHalted]
  · rw [State.flag_of_get (raised rfl), s.fltSeen_drvHalted]
  · rw [State.flag_of_get (raised rfl), s.idxValid_drvHalted]
  · exact (State.signalled_raise (s.drvHalted ch) 80).of_get (frame.get _ 80 rfl (by decide))
      (frame.get _ 80 rfl (by decide)) (State.get_of_regs regs _) (State.get_of_regs regs _)

section
variable {s} {ch us : Nat} {high : Bool}

/-- A level that has not stood for `FLT_FILT` microseconds, or is not the level asked for, is not accepted (R414). -/
theorem State.doDrvflt_rejects (h : us < clampN 1 1000 (s.get Reg.STP_TIMING_FLT_FILT ch) ∨ s.fltActive ch high = false) :
    s.doDrvflt ch high us = s := by
  rw [State.doDrvflt, if_neg]
  simpa [State.fltAccepts] using fun hl => h.resolve_left (Nat.not_lt.mpr hl)

theorem State.doDrvfltOff_rejects (h : us < clampN 1 1000 (s.get Reg.STP_TIMING_FLT_FILT ch) ∨ s.fltActive ch high = true) :
    s.doDrvfltOff ch high us = s := by
  rw [State.doDrvfltOff, if_neg]
  simpa [State.fltAccepts] using fun hl => h.resolve_left (Nat.not_lt.mpr hl)

theorem State.doDrvflt_accepts (hl : clampN 1 1000 (s.get Reg.STP_TIMING_FLT_FILT ch) ≤ us)
    (h : s.fltActive ch high = true) : s.doDrvflt ch high us = (s.setFlag Reg.STP_STATUS_FLT ch true).drvFault ch := by
  rw [State.doDrvflt, if_pos (by simp [State.fltAccepts, hl, h])]

theorem State.doDrvfltOff_accepts (hl : clampN 1 1000 (s.get Reg.STP_TIMING_FLT_FILT ch) ≤ us)
    (h : s.fltActive ch high = false) : s.doDrvfltOff ch high us = s.setFlag Reg.STP_STATUS_FLT ch false := by
  rw [State.doDrvfltOff, if_pos (by simp [State.fltAccepts, hl, h])]

/-- Showing the input leaves the question whether it is ignored (R416). -/
theorem State.fltIgnored_shown (b : Bool) : (s.setFlag Reg.STP_STATUS_FLT ch b).fltIgnored ch = s.fltIgnored ch := by
  rw [State.fltIgnored, State.stepParked_of_get (s.get_setFlag_other (by decide) _ _ _) (s.get_setFlag_other (by decide) _ _ _)]
  rfl

/-! ### The settling time after PARKED -/

theorem State.doSettleEnd_none (h : (s.step ch).settle = none) : s.doSettleEnd ch = s := by rw [State.doSettleEnd, h]

/-- With the input inactive the settling time just ends (R416). -/
theorem State.doSettleEnd_inactive {w : Nat} (h : (s.step ch).settle = some w) (hf : s.flag Reg.STP_STATUS_FLT ch = false) :
    s.doSettleEnd ch = (s.waitTill w).onStep ch fun c => { c with settle := none } := by
  have input : ((s.waitTill w).onStep ch fun c => { c with settle := none }).flag Reg.STP_STATUS_FLT ch = false :=
    (State.flag_of_get (s.get_waitTill rfl w ch)).trans hf
  rw [State.doSettleEnd, h]
  simp only [input, Bool.false_and, if_neg Bool.false_ne_true]

end

end Sys2Proof.Machine
end

section
/-!
SUPPORT. The limit and home inputs of an axis (R422 to R424).
-/
namespace Sys2Proof.Machine

variable (s : State)

/-- The inputs of an axis once an input has been accepted at `level` in tick `now`, its first sample at `time`. -/
def AxisIn.accept (a : AxisIn) (input : Nat) (level : Bool) (now time : Nat) : AxisIn :=
  let a := { a with lastInput := input, edgeTime := time }
  match input with
  | 0 => { a with pos := level, posEdges := (now :: a.posEdges).take 5,
                  posChatter := a.posChatter || chatters ((now :: a.posEdges).take 5) }
  | 1 => { a with neg := level, negEdges := (now :: a.negEdges).take 5,
                  negChatter := a.negChatter || chatters ((now :: a.negEdges).take 5) }
  | _ => { a with home := level }

/-- A chatter bit is set in `b` that is not in `a`. -/
def AxisIn.chatterRose (a b : AxisIn) : Bool := (b.posChatter && !a.posChatter) || (b.negChatter && !a.negChatter)

/-- An accepted edge writes the level of its input, and with it the last input and its time. -/
theorem AxisIn.accept_spec (a : AxisIn) (i : Fin 3) (level : Bool) (now time : Nat) :
    (a.accept i level now time).lastInput = i ∧ (a.accept i level now time).edgeTime = time ∧
      (a.accept i level now time).pos = (if i = 0 then level else a.pos) ∧
      (a.accept i level now time).neg = (if i = 1 then level else a.neg) ∧
      (a.accept i level now time).home = (if i = 2 then level else a.home) :=
  match i with
  | 0 => ⟨rfl, rfl, rfl, rfl, rfl⟩
  | 1 => ⟨rfl, rfl, rfl, rfl, rfl⟩
  | 2 => ⟨rfl, rfl, rfl, rfl, rfl⟩

/-- The fifth edge of a limit input that does not chatter makes it chatter if it comes within 50 ms of the first (R424). -/
theorem AxisIn.posChatter_accept {a : AxisIn} {e1 e2 e3 e4 : Nat} {r : List Nat} (he : a.posEdges = e4 :: e3 :: e2 :: e1 :: r)
    (hc : a.posChatter = false) (level : Bool) (now time : Nat) :
    (a.accept 0 level now time).posChatter = decide (now ≤ e1 + msTicks 50) := by
  simp only [AxisIn.accept, hc, he]
  rfl

/-! ### The axis input point -/

/-- Writing the axis input point leaves everything but points and memory damage alone. -/
theorem State.writeAxisInput_keeps (x : Nat) : (s.writeAxisInput x).regs = s.regs ∧
    (s.writeAxisInput x).axisIn = s.axisIn ∧ (s.writeAxisInput x).ticks = s.ticks ∧
      (s.writeAxisInput x).pending = s.pending := by
  rw [State.writeAxisInput]
  split <;> exact ⟨rfl, rfl, rfl, rfl⟩

/-! ### Edges -/

section
variable {s} {x i us : Nat} {high : Bool}

theorem State.doInputEdge_absent (h : s.axisIo x = none ∨ ∃ d, s.axisIo x = some d ∧ axisHas d i = none) :
    s.doInputEdge x i high us = s := by
  rw [State.doInputEdge]
  obtain h | ⟨d, h, hi⟩ := h
  · simp only [h, Option.bind_none]
  · simp only [h, Option.bind_some, hi, Option.map_none]

/-- An input that the axis has: a new level that has stood for `LIMIT_FILT` is accepted (R422). -/
theorem State.doInputEdge_has {d : AxisIoDef} {act : Bool} {a b : AxisIn} (hd : s.axisIo x = some d) (hi : axisHas d i = some act)
    (ha : a = s.axisIn.get AxisIn.reset x) (hb : b = a.accept i (high == act) s.ticks (s.tb 0 - 1000 * us)) :
    s.doInputEdge x i high us = if a.level i != (high == act) && decide (clampN 100 100000 d.filt ≤ us) then
      (({ s with axisIn := s.axisIn.put AxisIn.reset x b } : State).raiseIf (a.chatterRose b) 84).writeAxisInput x
      else s := by
  subst ha hb
  rw [State.doInputEdge]
  simp only [hd, Option.bind_some, hi, Option.map_some]
  rfl

/-! ### Chatter -/

theorem State.doChatterClear_quiet {neg : Bool} {a : AxisIn} (ha : a = s.axisIn.get AxisIn.reset x)
    (h : (if neg then a.negChatter else a.posChatter) = false) : s.doChatterClear x neg = s := by
  subst ha
  rw [State.doChatterClear, if_neg (by simp [h])]

/-- A chatter bit clears 50 ms after the last edge of its input (R424). -/
theorem State.doChatterClear_clears {neg : Bool} {a : AxisIn} {e : Nat} {r : List Nat} (ha : a = s.axisIn.get AxisIn.reset x)
    (he : (if neg then a.negEdges else a.posEdges) = e :: r) (h : (if neg then a.negChatter else a.posChatter) = true) :
    s.doChatterClear x neg =
      ({ s.waitTill (e + msTicks 50) with
          axisIn := (s.waitTill (e + msTicks 50)).axisIn.put AxisIn.reset x
            (if neg then { a with negChatter := false, negEdges := [] } else { a with posChatter := false, posEdges := [] }) } :
        State).writeAxisInput x := by
  subst ha
  rw [State.doChatterClear, if_pos h, he]
  rfl

end

end Sys2Proof.Machine
end

section
/-!
The timed events and inputs of step channels and axes (R406 to R412, R414, R416, R422 to R424).
-/
namespace Sys2Proof.Machine

variable (s : State)

/-! ### The commands -/

theorem exec_stepIssue (ch : Fin 32) (s : State) : exec (.stepIssue ch) s = s.run fun s => s.doStepIssue ch := rfl

theorem exec_stpProfileUpdate (ch : Fin 32) (s : State) :
    exec (.stpProfileUpdate ch) s = s.run fun s => s.doProfileUpdate ch := rfl

theorem exec_drvfltAccept (ch : Fin 32) (high : Bool) (us : Fin 1001) (s : State) :
    exec (.drvfltAccept ⟨ch, high, us⟩) s = s.run fun s => s.doDrvflt ch high us := rfl

theorem exec_drvfltRelease (ch : Fin 32) (high : Bool) (us : Fin 1001) (s : State) :
    exec (.drvfltRelease ⟨ch, high, us⟩) s = s.run fun s => s.doDrvfltOff ch high us := rfl

theorem exec_parkSettleEnd (ch : Fin 32) (s : State) : exec (.parkSettleEnd ch) s = s.run fun s => s.doSettleEnd ch := rfl

theorem exec_axisInputEdge (x : Fin 256) (i : Fin 3) (high : Bool) (us : Fin 100001) (s : State) :
    exec (.axisInputEdge x i (high, us)) s = s.run fun s => s.doInputEdge x i high us := rfl

theorem exec_chatterClear (x : Fin 256) (neg : Bool) (s : State) :
    exec (.chatterClear x neg) s = s.run fun s => s.doChatterClear x neg := rfl

/-! ### Step channels -/

section
variable {s} {ch : Fin 32} (ha : s.alive = true)
include ha

theorem completes_stepIssue {down : Bool} {d : Int} (hd : s.driveOn ch = true) (hh : s.get Reg.STP_HALT_CAUSES ch = 0)
    (hs : s.stepDue ch s.ticks = some down) (hdir : d = if down then -1 else 1)
    (hlo : -(2 ^ 47) ≤ s.stepPos ch + d) (hhi : s.stepPos ch + d ≤ 2 ^ 47 - 1) :
    (s.ticks < s.stepFree ch down → exec (.stepIssue ch) s = .next s) ∧
      (s.stepFree ch down ≤ s.ticks → Completes (.stepIssue ch) s fun t => t.stepPos ch = s.stepPos ch + d ∧
        t.get Reg.STP_USTEP_USTEP_IDX ch =
          (s.get Reg.STP_USTEP_USTEP_IDX ch + (if down then s.ustepCycle ch - 1 else 1)) % s.ustepCycle ch ∧
        t.flag Reg.STP_STATUS_DIR ch = down ∧ (t.step ch).lastStep = some s.ticks ∧ t.ticks = s.ticks ∧
        ∀ j, j ≠ ch.val → t.stepPos j = s.stepPos j ∧ t.step j = s.step j) := by
  obtain ⟨late, hf⟩ := State.doStepIssue_due hd hh hs hdir hlo hhi
  obtain ⟨pending, issued⟩ := s.issueStep_spec hdir hlo hhi late
  refine ⟨fun hw => ?_, fun hw => ?_⟩
  · exact exec_eq_of_run ha (exec_stepIssue ch s) (hf.trans (if_pos hw)) rfl
  · exact completes_of_eq ha (exec_stepIssue ch s) (hf.trans (if_neg (Nat.not_lt.mpr hw))) pending issued

theorem completes_stpProfileUpdate (h : s.stepParked ch = false) :
    Completes (.stpProfileUpdate ch) s fun t => (t.step ch).cmd = none ∧ t.stepPos ch = s.stepPos ch ∧
      t.ticks = max s.ticks ((s.step ch).base + 125) ∧
      (t.step ch).base = (if (s.step ch).prof.busy then (s.step ch).base + 125 else t.ticks) ∧
      ∀ k, (s.step ch).cmd = some k → (t.step ch).vStart = k.vStart := by
  obtain ⟨u, soft, frame, cmd, base, vStart, hf⟩ := State.doProfileUpdate_eq h
  generalize ht : (u.onStep ch fun c => { c with prof := c.prof.plan soft (1 / 1000000) }).showStep ch = t at hf
  have shown : u.ChannelFrame Reg.stepShown t := by
    rw [← ht]
    exact (u.channelFrame_onStep _ ch _).trans (State.channelFrame_showStep _ ch)
  have step : t.step ch = { u.step ch with prof := (u.step ch).prof.plan soft (1 / 1000000) } := by
    rw [← ht, State.step_showStep, State.step_onStep_same]
  have ticks : t.ticks = (s.waitTill ((s.step ch).base + 125)).ticks := shown.ticks.trans frame.ticks
  refine completes_of_eq ha (exec_stpProfileUpdate ch s) hf
    (shown.pending.trans (frame.pending.trans (s.pending_waitTill _))) ⟨?_, ?_, ticks.trans (s.ticks_waitTill _), ?_, ?_⟩
  · rw [step, cmd]
  · exact (shown.stepPos ch (by decide)).trans ((frame.stepPos ch (by simp)).trans (State.getS_of_get (s.get_waitTill rfl _ ch)))
  · rw [step, base, ticks]
  · rwa [step]

theorem completes_drvfltAccept {high : Bool} {us : Fin 1001} (hl : clampN 1 1000 (s.get Reg.STP_TIMING_FLT_FILT ch) ≤ us.val)
    (h : s.fltActive ch high = true) (hp : s.stepParked ch = false) (hs : (s.step ch).settle = none) :
    Completes (.drvfltAccept ⟨ch, high, us⟩) s fun t => t.flag Reg.STP_STATUS_FLT ch = true ∧
      bitOf (t.get Reg.STP_HALT_CAUSES ch) 4 = true ∧ t.driveOn ch = false ∧ t.flag Reg.STP_FLAGS_FLT_SEEN ch = true ∧
      t.flag Reg.STP_USTEP_IDX_VALID ch = false ∧ s.Signalled 80 t := by
  have heard : (s.setFlag Reg.STP_STATUS_FLT ch true).fltIgnored ch = false := by
    rw [State.fltIgnored_shown, State.fltIgnored, hp, hs]; rfl
  obtain ⟨input, causes, seen, index, signalled, pending⟩ := State.drvFault_spec _ heard
  exact completes_of_eq ha (exec_drvfltAccept ch high us s) (State.doDrvflt_accepts hl h) pending
    ⟨input.trans (s.flag_setFlag_same (by decide) ch true), causes, State.driveOn_drvflt _ causes, seen, index,
      signalled.of_get (s.get_setFlag_other (by decide) _ _ _) (s.get_setFlag_other (by decide) _ _ _) (fun _ => rfl)
        fun _ => rfl⟩

/-- While the fault input is ignored, it is only shown. -/
theorem exec_drvfltAccept_ignored {high : Bool} {us : Fin 1001}
    (hl : clampN 1 1000 (s.get Reg.STP_TIMING_FLT_FILT ch) ≤ us.val) (h : s.fltActive ch high = true)
    (hi : s.stepParked ch = true ∨ (s.step ch).settle.isSome = true) :
    exec (.drvfltAccept ⟨ch, high, us⟩) s = .next (s.setFlag Reg.STP_STATUS_FLT ch true) := by
  have ignored : (s.setFlag Reg.STP_STATUS_FLT ch true).fltIgnored ch = true := by
    rw [State.fltIgnored_shown, State.fltIgnored, Bool.or_eq_true]
    exact hi
  refine exec_eq_of_run ha (exec_drvfltAccept ch high us s) ((State.doDrvflt_accepts hl h).trans ?_) rfl
  rw [State.drvFault, if_pos ignored]

theorem completes_parkSettleEnd {w : Nat} (h : (s.step ch).settle = some w) (hf : s.flag Reg.STP_STATUS_FLT ch = false) :
    Completes (.parkSettleEnd ch) s fun t => (t.step ch).settle = none ∧ t.ticks = max s.ticks w ∧
      t.get Reg.STP_HALT_CAUSES ch = s.get Reg.STP_HALT_CAUSES ch := by
  refine completes_of_eq ha (exec_parkSettleEnd ch s) (State.doSettleEnd_inactive h hf) (s.pending_waitTill w)
    ⟨?_, s.ticks_waitTill w, s.get_waitTill rfl w ch⟩
  rw [State.step_onStep_same]

end

/-! ### Axis inputs -/

section
variable {s} {x : Fin 256} (ha : s.alive = true)
include ha

theorem exec_axisInputEdge_idle {i : Fin 3} {high : Bool} {us : Fin 100001}
    (h : s.axisIo x = none ∨ (∃ d, s.axisIo x = some d ∧ (axisHas d i = none ∨ us.val < clampN 100 100000 d.filt ∨
      (∃ act, axisHas d i = some act ∧ (s.axisIn.get AxisIn.reset x).level i = (high == act))))) :
    exec (.axisInputEdge x i (high, us)) s = .next s := by
  refine exec_eq_of_run ha (exec_axisInputEdge x i high us s) ?_ rfl
  obtain h | ⟨d, hd, h⟩ := h
  · exact State.doInputEdge_absent (.inl h)
  · cases hi : axisHas d i with
    | none => exact State.doInputEdge_absent (.inr ⟨d, hd, hi⟩)
    | some act =>
      rw [State.doInputEdge_has hd hi rfl rfl, if_neg]
      obtain h | h | ⟨act', h, hl⟩ := h
      · simp [hi] at h
      · simp [Nat.not_le.mpr h]
      · obtain rfl := Option.some.inj (hi.symm.trans h)
        simp [hl]

theorem completes_axisInputEdge {i : Fin 3} {high act l : Bool} {us : Fin 100001} {d : AxisIoDef} {a : AxisIn}
    (hd : s.axisIo x = some d) (hi : axisHas d i = some act) (hl : l = (high == act)) (ho : a = s.axisIn.get AxisIn.reset x)
    (hn : a.level i ≠ l) (hf : clampN 100 100000 d.filt ≤ us.val) :
    Completes (.axisInputEdge x i (high, us)) s fun t =>
      (t.axisIn.get AxisIn.reset x).lastInput = i ∧ (t.axisIn.get AxisIn.reset x).edgeTime = s.tb 0 - 1000 * us.val ∧
      (t.axisIn.get AxisIn.reset x).pos = (if i = 0 then l else a.pos) ∧
      (t.axisIn.get AxisIn.reset x).neg = (if i = 1 then l else a.neg) ∧
      (t.axisIn.get AxisIn.reset x).home = (if i = 2 then l else a.home) ∧
      (∀ e1 e2 e3 e4 r, i = 0 → a.posEdges = e4 :: e3 :: e2 :: e1 :: r → a.posChatter = false →
        (s.ticks ≤ e1 + msTicks 50 → (t.axisIn.get AxisIn.reset x).posChatter = true ∧ s.Signalled 84 t) ∧
        (e1 + msTicks 50 < s.ticks → (t.axisIn.get AxisIn.reset x).posChatter = false)) ∧
      ∀ y, y ≠ x.val → t.axisIn.get AxisIn.reset y = s.axisIn.get AxisIn.reset y := by
  obtain ⟨b, hb⟩ : ∃ b, b = a.accept i l s.ticks (s.tb 0 - 1000 * us) := ⟨_, rfl⟩
  subst hl
  have run := State.doInputEdge_has hd hi ho hb
  rw [if_pos (by simp [hn, hf])] at run
  generalize hu : ({ s with axisIn := s.axisIn.put AxisIn.reset x b } : State) = u at run
  obtain ⟨regs, inputs, -, pending⟩ := (u.raiseIf (a.chatterRose b) 84).writeAxisInput_keeps x
  generalize (u.raiseIf (a.chatterRose b) 84).writeAxisInput x = t at run regs inputs pending
  have axisIn : t.axisIn = s.axisIn.put AxisIn.reset x b := by rw [inputs, State.raiseIf_axisIn, ← hu]
  have same : t.axisIn.get AxisIn.reset x = b := by rw [axisIn, Tab.get_put_same]
  obtain ⟨last, time, pos, neg, home⟩ := a.accept_spec i (high == act) s.ticks (s.tb 0 - 1000 * us)
  refine completes_of_eq ha (exec_axisInputEdge x i high us s) run (by rw [pending, State.raiseIf_pending, ← hu]) ?_
  rw [same]
  refine ⟨by rw [hb, last], by rw [hb, time], by rw [hb, pos], by rw [hb, neg], by rw [hb, home], ?_, fun y hy => ?_⟩
  · rintro e1 e2 e3 e4 r rfl he hc
    have chatter : b.posChatter = decide (s.ticks ≤ e1 + msTicks 50) := hb ▸ AxisIn.posChatter_accept he hc _ _ _
    refine ⟨fun h => ⟨by simp [chatter, h], ?_⟩, fun h => by simp [chatter, h]⟩
    have rose : a.chatterRose b = true := by simp [AxisIn.chatterRose, chatter, hc, h]
    replace regs : t.regs = (u.raise 84).regs := by rw [regs, rose, State.raiseIf, if_pos rfl]
    refine (u.signalled_raise 84).of_get ?_ ?_ (State.get_of_regs regs _) (State.get_of_regs regs _) <;>
      rw [← hu] <;> rfl
  · rw [axisIn, Tab.get_put_other _ _ hy.symm]

theorem completes_chatterClear {neg : Bool} {a : AxisIn} {e : Nat} {r : List Nat} (ho : a = s.axisIn.get AxisIn.reset x)
    (he : (if neg then a.negEdges else a.posEdges) = e :: r) (h : (if neg then a.negChatter else a.posChatter) = true) :
    Completes (.chatterClear x neg) s fun t => t.ticks = max s.ticks (e + msTicks 50) ∧
      t.axisIn.get AxisIn.reset x =
        (if neg then { a with negChatter := false, negEdges := [] } else { a with posChatter := false, posEdges := [] }) := by
  have run := State.doChatterClear_clears ho he h
  refine completes_of_run ha (exec_chatterClear x neg s) ?_
  rw [State.beside_ticks, State.beside_axisIn, run]
  obtain ⟨-, inputs, ticks, -⟩ := State.writeAxisInput_keeps _ x
  rw [inputs, ticks]
  exact ⟨s.ticks_waitTill _, Tab.get_put_same _ _ _ _⟩

end

/-- Settles O45: each event and input by what its operation leaves, the channels first, then the inputs of the axes. -/
theorem stepEventsAndInputs : Obligations.StepEventsAndInputs := by
  intro s ha
  refine ⟨fun ch => ⟨fun h => ?_, fun down d hd hh hs hdir hlo hhi => completes_stepIssue ha hd hh hs hdir hlo hhi,
    fun h => ?_, completes_stpProfileUpdate ha, fun high us act lim hact hlim => ?_, fun h => ?_,
    fun w => completes_parkSettleEnd ha⟩, fun x i high us => ⟨exec_axisInputEdge_idle ha,
    fun d act l a hd hi hl ho hn hf => completes_axisInputEdge ha hd hi hl ho hn hf, fun neg a ho h => ?_,
    fun e r a ho he hc => completes_chatterClear (neg := false) ha ho he hc,
    fun e r a ho he hc => completes_chatterClear (neg := true) ha ho he hc⟩⟩
  · exact exec_eq_of_run ha (exec_stepIssue ch s) (State.doStepIssue_idle h) rfl
  · exact exec_eq_of_run ha (exec_stpProfileUpdate ch s) (State.doProfileUpdate_parked h) rfl
  · subst hlim
    have active : s.fltActive ch high = act := hact.symm
    have accept := exec_drvfltAccept ch high us s
    have release := exec_drvfltRelease ch high us s
    refine ⟨fun hl => ⟨?_, ?_⟩, fun hl h => ⟨?_, ?_⟩, fun hl h => ?_,
      fun hl h => exec_drvfltAccept_ignored ha hl (active.trans h),
      fun hl h => completes_drvfltAccept ha hl (active.trans h)⟩
    · exact exec_eq_of_run ha accept (State.doDrvflt_rejects (.inl hl)) rfl
    · exact exec_eq_of_run ha release (State.doDrvfltOff_rejects (.inl hl)) rfl
    · exact exec_eq_of_run ha accept (State.doDrvflt_rejects (.inr (active.trans h))) rfl
    · exact exec_eq_of_run ha release (State.doDrvfltOff_accepts hl (active.trans h)) rfl
    · exact exec_eq_of_run ha release (State.doDrvfltOff_rejects (.inr (active.trans h))) rfl
  · exact exec_eq_of_run ha (exec_parkSettleEnd ch s) (State.doSettleEnd_none h) rfl
  · exact exec_eq_of_run ha (exec_chatterClear x neg s) (State.doChatterClear_quiet ho h) rfl

end Sys2Proof.Machine
end

section
/-!
SUPPORT. Events that are pending stay pending while others are raised (R648, R652).
-/
namespace Sys2Proof.Machine

variable (s : State)

/-- Adding the power of a bit that is clear leaves the other bits alone. -/
theorem bitOf_add_two_pow_other {x k j : Nat} (h : bitOf x k = false) (hj : j ≠ k) : bitOf (x + 2 ^ k) j = bitOf x j := by
  rw [bitOf_eq_testBit, bitOf_eq_testBit, Nat.add_comm]
  obtain hlt | hgt := Nat.lt_or_gt_of_ne hj
  · exact Nat.testBit_two_pow_add_gt hlt x
  · obtain ⟨d, rfl⟩ : ∃ d, j = d + 1 + k := ⟨j - k - 1, by omega⟩
    have clear : x / 2 ^ k % 2 = 0 := by simpa [bitOf] using h
    rw [Nat.testBit_add _ (d + 1), Nat.testBit_add _ (d + 1), Nat.testBit_succ, Nat.testBit_succ,
      Nat.add_div_left x (Nat.two_pow_pos k), show (x / 2 ^ k).succ / 2 = x / 2 ^ k / 2 by omega]

/-- The fields of pending events. -/
def Reg.pends : List Field := [Reg.HOST_PEND_PEND, Reg.AC_PEND_PEND]

/-- What is pending in `s`, for the host or for a core, is pending in `t`. -/
def State.PendKept (s t : State) : Prop :=
  ∀ f ∈ Reg.pends, ∀ i b, b < 64 → bitOf (s.get f i) b = true → bitOf (t.get f i) b = true

theorem State.PendKept.refl : s.PendKept s := fun _ _ _ _ _ h => h

theorem State.PendKept.trans {s t u : State} (h : s.PendKept t) (h' : t.PendKept u) : s.PendKept u :=
  fun f hf i b hb hs => h' f hf i b hb (h f hf i b hb hs)

theorem State.PendKept.of_get {s t : State} (h : ∀ f ∈ Reg.pends, ∀ i, t.get f i = s.get f i) : s.PendKept t :=
  fun f hf i _ _ hs => by rwa [h f hf i]

theorem State.pendKept_set {f : Field} (h : ∀ g ∈ Reg.pends, f.id ≠ g.id) (i v : Nat) : s.PendKept (s.set f i v) :=
  .of_get fun g hg _ => s.get_set_other (h g hg) _ _ _

/-- A further pending bit of a register leaves the others. -/
theorem State.pendKept_addBit {f : Field} (hf : f ∈ Reg.pends) {i k : Nat} (h : bitOf (s.get f i) k = false) :
    s.PendKept (s.set f i (s.get f i + 2 ^ k)) := by
  have width : ∀ f ∈ Reg.pends, f.width = 64 := by decide
  intro g hg j b hb hs
  by_cases hi : i = j
  · subst hi
    by_cases hid : f.id = g.id
    · have inj : ∀ f ∈ Reg.pends, ∀ g ∈ Reg.pends, f.id = g.id → f = g := by decide
      obtain rfl := inj f hf g hg hid
      have hk : b ≠ k := fun he => by simp [he, h] at hs
      rw [State.get_set_same, width f hf, bitOf_eq_testBit, Nat.testBit_mod_two_pow, ← bitOf_eq_testBit,
        bitOf_add_two_pow_other h hk, hs]
      simpa using hb
    · rwa [s.get_set_other hid]
  · rwa [s.get_set_element hi]

theorem State.pendKept_merge : s.PendKept (s.count Reg.EV_MERGED_COUNT 0 1) := s.pendKept_set (by decide) _ _

theorem State.pendKept_raiseHost (n : Nat) : s.PendKept (s.raiseHost n) := by
  unfold State.raiseHost
  split
  · split
    · exact s.pendKept_merge
    · next h =>
      exact (s.pendKept_addBit (by simp [Reg.pends]) (Bool.eq_false_iff.mpr h)).trans
        (.of_get fun f _ i => State.get_msix _ _ f i)
  · exact .refl s

theorem State.pendKept_raiseCore (n c : Nat) : s.PendKept (s.raiseCore n c) := by
  unfold State.raiseCore
  split
  · split
    · exact s.pendKept_merge
    · next h => exact s.pendKept_addBit (by simp [Reg.pends]) (Bool.eq_false_iff.mpr h)
  · exact .refl s

theorem State.pendKept_raise (n : Nat) : s.PendKept (s.raise n) :=
  ((s.pendKept_raiseHost n).trans (State.foldl_keeps (P := (s.raiseHost n).PendKept)
    (fun t c h => h.trans (t.pendKept_raiseCore n c)) _ (.refl _))).trans
    (.of_get fun f _ i => (s.get_raise_eq_raiseCores n f i))

/-- An event that shows goes on to show while nothing pending is lost. -/
theorem State.Signalled.kept {s t u : State} {n : Nat} (h : s.Signalled n t) (hk : t.PendKept u) : s.Signalled n u := by
  obtain ⟨host, cores⟩ := h
  have bit : n % 64 < 64 := Nat.mod_lt n (by decide)
  refine ⟨fun hm => hk _ ?_ _ _ bit (host hm), fun c hc hm => hk _ ?_ _ _ bit (cores c hc hm)⟩ <;> simp [Reg.pends]

end Sys2Proof.Machine
end

section
/-!
SUPPORT. What the decisions of an instant leave alone, and what a single demand for STO brings (R466, R468, R469).
-/
namespace Sys2Proof.Machine

variable (s : State)

/-- The register fields that decisions write, but for events. -/
def Reg.decided : List Field := [Reg.STOP_STATE_STOP_CAUSE, Reg.STOP_STATE_RESTART_PEND, Reg.SS1_START_TIME]

/-- `t` differs from `s`, as far as the registers, the sets, the connections and the STO of the axes go, at most in the
fields that decisions write and in events; `RESTART_PEND` is not taken back, and no event is lost. -/
structure State.DecideFrame (s t : State) : Prop where
  get : ∀ f i, Reg.raised f = false → (∀ g ∈ Reg.decided, g.id ≠ f.id) → t.get f i = s.get f i
  restart : s.flag Reg.STOP_STATE_RESTART_PEND 0 = true → t.flag Reg.STOP_STATE_RESTART_PEND 0 = true
  pends : s.PendKept t
  set : t.cal.set = s.cal.set
  waiting : t.cal.waiting = s.cal.waiting
  conns : t.cal.conns = s.cal.conns
  sto : ∀ a, (t.calAx a).sto = (s.calAx a).sto

theorem State.DecideFrame.refl : s.DecideFrame s := ⟨fun _ _ _ _ => rfl, id, .refl s, rfl, rfl, rfl, fun _ => rfl⟩

section
variable {s}

theorem State.DecideFrame.trans {t u : State} (h : s.DecideFrame t) (h' : t.DecideFrame u) : s.DecideFrame u where
  get f i hr hf := (h'.get f i hr hf).trans (h.get f i hr hf)
  restart hs := h'.restart (h.restart hs)
  pends := h.pends.trans h'.pends
  set := h'.set.trans h.set
  waiting := h'.waiting.trans h.waiting
  conns := h'.conns.trans h.conns
  sto a := (h'.sto a).trans (h.sto a)

/-- Every pass of a fold keeps the frame. -/
theorem State.DecideFrame.foldl {α : Type} {f : State → α → State} (h : ∀ (t : State) x, t.DecideFrame (f t x))
    (l : List α) : s.DecideFrame (l.foldl f s) :=
  State.foldl_keeps (P := s.DecideFrame) (fun t x ht => ht.trans (h t x)) l (.refl s)

end

/-- A change of Caldera beside its registers. -/
theorem State.decideFrame_of_regs {s t : State} (hr : t.regs = s.regs) (hset : t.cal.set = s.cal.set)
    (hw : t.cal.waiting = s.cal.waiting) (hc : t.cal.conns = s.cal.conns) (hsto : ∀ a, (t.calAx a).sto = (s.calAx a).sto) :
    s.DecideFrame t :=
  ⟨fun f i _ _ => State.get_of_regs hr f i, by simp [State.flag, State.get_of_regs hr],
    .of_get fun f _ i => State.get_of_regs hr f i, hset, hw, hc, hsto⟩

theorem State.decideFrame_onCal {f : CalState → CalState} (hs : ∀ k, (f k).set = k.set)
    (hw : ∀ k, (f k).waiting = k.waiting) (hc : ∀ k, (f k).conns = k.conns) (ha : ∀ k, (f k).axes = k.axes) :
    s.DecideFrame (s.onCal f) :=
  State.decideFrame_of_regs rfl (hs _) (hw _) (hc _) fun a => by rw [State.calAx, State.onCal, ha]; rfl

/-- A field that decisions write, other than `RESTART_PEND`. -/
theorem State.decideFrame_set {f : Field} (hf : f ∈ Reg.decided) (hp : f.id ≠ Reg.STOP_STATE_RESTART_PEND.id) (i v : Nat) :
    s.DecideFrame (s.set f i v) where
  get _ _ _ hg := s.get_set_other (hg f hf) _ _ _
  restart := by rw [State.flag, State.flag, s.get_set_other hp]; exact id
  pends := s.pendKept_set (by revert f; decide) i v
  set := rfl
  waiting := rfl
  conns := rfl
  sto _ := rfl

theorem State.decideFrame_restart : s.DecideFrame (s.setFlag Reg.STOP_STATE_RESTART_PEND 0 true) where
  get _ _ _ hg := s.get_set_other (hg _ (by simp [Reg.decided])) _ _ _
  restart _ := s.flag_setFlag_same (by decide) 0 true
  pends := s.pendKept_set (by decide) 0 _
  set := rfl
  waiting := rfl
  conns := rfl
  sto _ := rfl

theorem State.decideFrame_raise (n : Nat) : s.DecideFrame (s.raise n) where
  get f i hr _ := s.get_raise hr n i
  restart := by rw [s.flag_raise rfl]; exact id
  pends := s.pendKept_raise n
  set := by rw [s.raise_cal]
  waiting := by rw [s.raise_cal]
  conns := by rw [s.raise_cal]
  sto a := by rw [State.calAx, s.raise_cal]; rfl

@[simp] theorem State.cal_latchCause (c : Nat) : (s.latchCause c).cal = s.cal := by
  rw [State.latchCause]
  split <;> split <;> rfl

@[simp] theorem State.regs_stoAtRanger (c : Nat) : (s.stoAtRanger c).regs = s.regs := by
  unfold State.stoAtRanger
  split
  · exact (s.regs_latchCause 3).1
  · split
    · exact (State.regs_latchCause _ 11).1
    · rfl

@[simp] theorem State.cal_stoAtRanger (c : Nat) : (s.stoAtRanger c).cal = s.cal := by
  unfold State.stoAtRanger
  split
  · exact s.cal_latchCause 3
  · split
    · exact State.cal_latchCause _ 11
    · rfl

theorem State.decideFrame_stoAtRanger (c : Nat) : s.DecideFrame (s.stoAtRanger c) :=
  State.decideFrame_of_regs (by simp) (by simp) (by simp) (by simp) (by simp [State.calAx])

theorem State.calAx_onCalAx_same (a : Nat) (f : CalAxis → CalAxis) : (s.onCalAx a f).calAx a = f (s.calAx a) :=
  Tab.get_put_same _ _ _ _

theorem State.calAx_onCalAx_other {a b : Nat} (h : a ≠ b) (f : CalAxis → CalAxis) : (s.onCalAx a f).calAx b = s.calAx b :=
  Tab.get_put_other _ _ h _

/-- A change of an axis that leaves its STO leaves that of every axis. -/
theorem State.sto_onCalAx {f : CalAxis → CalAxis} (h : ∀ x, (f x).sto = x.sto) (a b : Nat) :
    ((s.onCalAx a f).calAx b).sto = (s.calAx b).sto := by
  by_cases hab : a = b
  · subst hab
    rw [State.calAx_onCalAx_same, h]
  · rw [State.calAx_onCalAx_other _ hab]

theorem State.decideFrame_onCalAx {f : CalAxis → CalAxis} (h : ∀ x, (f x).sto = x.sto) (a : Nat) :
    s.DecideFrame (s.onCalAx a f) := State.decideFrame_of_regs rfl rfl rfl rfl (s.sto_onCalAx h a)

@[simp] theorem State.get_wantSto (c : Nat) (f : Field) (i : Nat) : (s.wantSto c).get f i = s.get f i := rfl

theorem State.decideFrame_wantSto (c : Nat) : s.DecideFrame (s.wantSto c) :=
  s.decideFrame_onCal (fun _ => rfl) (fun _ => rfl) (fun _ => rfl) fun _ => rfl

theorem State.decideFrame_armSs1 (cause : Nat) : s.DecideFrame (s.armSs1 cause) := by
  unfold State.armSs1
  extract_lets caused timed armed
  have causing : s.DecideFrame caused := s.decideFrame_set (by simp [Reg.decided]) (by decide) _ _
  have timing : caused.DecideFrame timed := caused.decideFrame_set (by simp [Reg.decided]) (by decide) _ _
  have arming : timed.DecideFrame armed := .foldl (fun t a => t.decideFrame_onCalAx (fun _ => by rfl) a) _
  exact ((causing.trans timing).trans arming).trans
    (armed.decideFrame_onCal (fun _ => rfl) (fun _ => rfl) (fun _ => rfl) fun _ => rfl)

/-- One demand for STO, up to the sample at which it applies. -/
def State.stoDemand (s : State) (c : Nat) : State :=
  (((s.set Reg.STOP_STATE_STOP_CAUSE 0 c).setFlag Reg.STOP_STATE_RESTART_PEND 0 true).raise 202).stoAtRanger c

theorem State.decideFrame_stoDemand (c : Nat) : s.DecideFrame (s.stoDemand c) :=
  (((s.decideFrame_set (by simp [Reg.decided]) (by decide) 0 c).trans (State.decideFrame_restart _)).trans
    (State.decideFrame_raise _ 202)).trans (State.decideFrame_stoAtRanger _ c)

theorem State.decideFrame_decideSto (l : List Nat) : s.DecideFrame (s.decideSto l) := by
  unfold State.decideSto
  exact (State.DecideFrame.foldl (f := State.stoDemand) State.decideFrame_stoDemand l).trans
    (State.decideFrame_onCal _ (fun _ => rfl) (fun _ => rfl) (fun _ => rfl) fun _ => rfl)

theorem State.decideFrame_decideSs1 (l : List Nat) : s.DecideFrame (s.decideSs1 l) := by
  unfold State.decideSs1
  extract_lets busy demanded asked
  have frame : s.DecideFrame asked :=
    (State.DecideFrame.foldl (fun t _ => (t.decideFrame_restart).trans (State.decideFrame_raise _ 201)) l).trans
      (State.decideFrame_onCal _ (fun _ => rfl) (fun _ => rfl) (fun _ => rfl) fun _ => rfl)
  refine frame.trans ?_
  split
  · split
    · split
      · exact .refl _
      · exact State.decideFrame_set _ (by simp [Reg.decided]) (by decide) _ _
    · exact State.decideFrame_armSs1 _ _
  · exact .refl _

theorem State.decideFrame_calDecide : s.DecideFrame s.calDecide := by
  unfold State.calDecide
  extract_lets a b taken decided
  have taking : s.DecideFrame taken := s.decideFrame_onCal (fun _ => rfl) (fun _ => rfl) (fun _ => rfl) fun _ => rfl
  have deciding : taken.DecideFrame decided := by
    unfold decided
    split
    · exact .refl _
    · exact taken.decideFrame_decideSto a
  refine (taking.trans deciding).trans ?_
  split
  · exact .refl _
  · exact decided.decideFrame_decideSs1 b

/-- A single demand for STO: its cause, `RESTART_PEND`, event 202, and an STO that applies from now or before. -/
theorem State.calDecide_sto {c : Nat} (hc : c < 256) (hsto : s.cal.stoNow = [c]) (hss1 : s.cal.ss1Now = []) :
    s.calDecide.get Reg.STOP_STATE_STOP_CAUSE 0 = c ∧ s.calDecide.cal.stoAt.isSome = true ∧
      s.calDecide.flag Reg.STOP_STATE_RESTART_PEND 0 = true ∧ s.Signalled 202 s.calDecide := by
  generalize hu : s.onCal (fun k => { k with stoNow := [], ss1Now := [] }) = u
  have decided : s.calDecide = (u.stoDemand c).onCal fun k => { k with stoAt := some (k.stoAt.getD k.n) } := by
    rw [← hu, State.calDecide, hsto, hss1]; rfl
  generalize hv : (u.set Reg.STOP_STATE_STOP_CAUSE 0 c).setFlag Reg.STOP_STATE_RESTART_PEND 0 true = v
  have get (f : Field) (i : Nat) : s.calDecide.get f i = (v.raise 202).get f i := by
    rw [decided]
    exact State.get_of_regs (by rw [← hv]; exact State.regs_stoAtRanger _ c) f i
  refine ⟨?_, by rw [decided]; rfl, ?_, ?_⟩
  · rw [get, State.get_raise _ rfl, ← hv, State.get_setFlag_other _ (by decide), State.get_set_same]
    exact Nat.mod_eq_of_lt hc
  · rw [State.flag_of_get (get _ _), State.flag_raise _ rfl, ← hv]
    exact State.flag_setFlag_same _ (by decide) 0 true
  · refine (v.signalled_raise 202).of_get ?_ ?_ (get _) (get _) <;>
      (rw [← hv, State.get_setFlag_other _ (by decide), State.get_set_other _ (by decide), ← hu]; rfl)

end Sys2Proof.Machine
end

section
/-!
SUPPORT. Safety frames and the timeouts of their connections (R476 to R479).
-/
namespace Sys2Proof.Machine

variable (s : State)

/-! ### Passing time -/

@[simp] theorem State.cal_moveTb (n ns k : Nat) : (s.moveTb n ns k).cal = s.cal := rfl

@[simp] theorem State.cal_yardClocks (n : Nat) : (s.yardClocks n).cal = s.cal := by
  unfold State.yardClocks
  extract_lets t
  have counted : t.cal = s.cal := by
    unfold t
    split <;> rfl
  split
  · exact (t.raiseIf_cal _ 45).trans counted
  · exact counted

/-- Passing time leaves Caldera beside its registers alone. -/
theorem State.cal_advance (n : Nat) : (s.advance n).cal = s.cal := by
  unfold State.advance
  extract_lets t u on v
  have tb6 : u.cal = s.cal := by
    simp only [u, t]
    split <;> rfl
  have bases : v.cal = u.cal := by
    unfold v
    split
    · exact State.foldl_keeps (P := fun w => w.cal = u.cal) (fun w b h => (w.cal_moveTb b 8 n).trans h) _ rfl
    · rfl
  split
  · exact (v.cal_yardClocks _).trans (bases.trans tb6)
  · exact bases.trans tb6

@[simp] theorem State.cal_waitTb (n t : Nat) : (s.waitTb n t).cal = s.cal := s.cal_advance _

theorem State.get_waitTb {f : Field} (hf : Reg.clocked f = false) (n t i : Nat) : (s.waitTb n t).get f i = s.get f i :=
  (s.clockFrame_advance _).get f i hf

/-- An event that shows after some time has passed shows: passing time leaves its route alone. -/
theorem State.Signalled.of_waitTb {s t : State} {b w n : Nat} (h : (s.waitTb b w).Signalled n t) : s.Signalled n t :=
  h.of_get (s.get_waitTb rfl b w n) (s.get_waitTb rfl b w n) (fun _ => rfl) fun _ => rfl

/-! ### Connections -/

@[simp] theorem State.conn_onConn_same (c : Nat) (f : CalConn → CalConn) : (s.onConn c f).conn c = f (s.conn c) :=
  Tab.get_put_same _ _ _ _

theorem State.conn_onConn_other {c j : Nat} (h : c ≠ j) (f : CalConn → CalConn) : (s.onConn c f).conn j = s.conn j :=
  Tab.get_put_other _ _ h _

@[simp] theorem State.get_onConn (c : Nat) (g : CalConn → CalConn) (f : Field) (i : Nat) :
    (s.onConn c g).get f i = s.get f i := rfl

theorem State.conn_of_conns {s t : State} (h : t.cal.conns = s.cal.conns) (c : Nat) : t.conn c = s.conn c :=
  congrArg (fun k : Tab CalConn => k.get CalConn.reset c) h

theorem State.connOk_iff (c : Nat) : s.connOk c = true ↔ s.get Reg.CONN_STATE_STATE c = 2 := beq_iff_eq

/-- A connection that has timed out, before what Caldera decides of it (R479). -/
def State.timedOut (s : State) (c : Nat) : State :=
  (((s.set Reg.CONN_STATE_STATE c 3).count Reg.CONN_STATE_TIMEOUTS c 1).raise 207).onConn c fun k =>
    { k with tracks := [], used := [], crcAt := [] }

theorem State.get_timedOut {f : Field} (hr : Reg.raised f = false) (hs : Reg.CONN_STATE_STATE.id ≠ f.id)
    (ht : Reg.CONN_STATE_TIMEOUTS.id ≠ f.id) (c i : Nat) : (s.timedOut c).get f i = s.get f i := by
  rw [State.timedOut, State.get_onConn, State.get_raise _ hr, State.get_count_other _ ht, State.get_set_other _ hs]

theorem State.state_timedOut (c : Nat) : (s.timedOut c).get Reg.CONN_STATE_STATE c = 3 := by
  rw [State.timedOut, State.get_onConn, State.get_raise _ rfl, State.get_count_other _ (by decide), State.get_set_same]; rfl

theorem State.timeouts_timedOut (c : Nat) : (s.timedOut c).get Reg.CONN_STATE_TIMEOUTS c =
    min (s.get Reg.CONN_STATE_TIMEOUTS c + 1) (2 ^ Reg.CONN_STATE_TIMEOUTS.width - 1) := by
  rw [State.timedOut, State.get_onConn, State.get_raise _ rfl, State.get_count_same, State.get_set_other _ (by decide)]

theorem State.signalled_timedOut (c : Nat) : s.Signalled 207 (s.timedOut c) := by
  refine (State.signalled_raise _ 207).of_get ?_ ?_ (State.get_onConn _ c _ _) (State.get_onConn _ c _ _) <;>
    rw [State.get_count_other _ (by decide), State.get_set_other _ (by decide)]

theorem State.pendKept_timedOut (c : Nat) : s.PendKept (s.timedOut c) :=
  (((s.pendKept_set (by decide) _ _).trans (State.pendKept_set _ (by decide) _ _)).trans (State.pendKept_raise _ 207)).trans
    (.of_get fun f _ => State.get_onConn _ c _ f)

/-- Caldera beside its registers once a connection has timed out. -/
theorem State.cal_timedOut (c : Nat) : (s.timedOut c).cal = (s.onConn c fun k =>
    { k with tracks := [], used := [], crcAt := [] }).cal := by
  simp [State.timedOut, State.onConn, State.onCal]

theorem State.conn_timedOut (c : Nat) :
    (s.timedOut c).conn c = { s.conn c with tracks := [], used := [], crcAt := [] } := by
  rw [State.conn, State.cal_timedOut]
  exact s.conn_onConn_same c _

section
variable {s} {c : Nat}

theorem State.connTimeout_idle (h : s.get Reg.CONN_STATE_STATE c = 0 ∨ s.get Reg.CONN_STATE_STATE c = 3) :
    s.connTimeout c = s := if_pos h

theorem State.connTimeout_drive (h : ¬(s.get Reg.CONN_STATE_STATE c = 0 ∨ s.get Reg.CONN_STATE_STATE c = 3))
    (hc : c < 256) : s.connTimeout c = ((s.timedOut c).wantSto 7).calDecide := by
  rw [State.connTimeout, if_neg h, if_pos hc]; rfl

theorem State.connTimeout_sensor (h : ¬(s.get Reg.CONN_STATE_STATE c = 0 ∨ s.get Reg.CONN_STATE_STATE c = 3))
    (hc : 256 ≤ c) : s.connTimeout c = s.timedOut c := by
  rw [State.connTimeout, if_neg h, if_neg (Nat.not_lt.mpr hc)]; rfl

/-- What Caldera decides of a connection that has timed out leaves the connection alone. -/
theorem State.decideFrame_connTimeout
    (h : ¬(s.get Reg.CONN_STATE_STATE c = 0 ∨ s.get Reg.CONN_STATE_STATE c = 3)) :
    (s.timedOut c).DecideFrame (s.connTimeout c) := by
  obtain hc | hc := Nat.lt_or_ge c 256
  · rw [State.connTimeout_drive h hc]
    exact (State.decideFrame_wantSto _ 7).trans (State.decideFrame_calDecide _)
  · rw [State.connTimeout_sensor h hc]
    exact .refl _

end

/-- A timeout, also one that does not come about, counts no CRC error, keeps the instant of the last accepted frame and loses
no event. -/
theorem State.connTimeout_keeps (c : Nat) : s.PendKept (s.connTimeout c) ∧
    (s.connTimeout c).get Reg.CONN_STATE_CRC_ERR c = s.get Reg.CONN_STATE_CRC_ERR c ∧
    ((s.connTimeout c).conn c).acceptedAt = (s.conn c).acceptedAt := by
  by_cases h : s.get Reg.CONN_STATE_STATE c = 0 ∨ s.get Reg.CONN_STATE_STATE c = 3
  · rw [State.connTimeout_idle h]
    exact ⟨.refl s, rfl, rfl⟩
  · have frame := State.decideFrame_connTimeout h
    refine ⟨(s.pendKept_timedOut c).trans frame.pends, ?_, ?_⟩
    · rw [frame.get _ c rfl (by decide), s.get_timedOut rfl (by decide) (by decide)]
    · rw [State.conn_of_conns frame.conns, s.conn_timedOut]

/-- What the timeout of an accepted connection `c` brings: it is shown, counted and signalled, and the tracks are gone; that
of a drive demands STO with cause 7, that of a sensor demands none (R479). -/
structure State.TimeoutBrings (s : State) (c : Nat) (t : State) : Prop where
  state : t.get Reg.CONN_STATE_STATE c = 3
  counted : t.get Reg.CONN_STATE_TIMEOUTS c =
    min (s.get Reg.CONN_STATE_TIMEOUTS c + 1) (2 ^ Reg.CONN_STATE_TIMEOUTS.width - 1)
  signalled : s.Signalled 207 t
  tracks : (t.conn c).tracks = []
  drive : c < 256 → t.get Reg.STOP_STATE_STOP_CAUSE 0 = 7 ∧ t.cal.stoAt.isSome = true ∧
    t.flag Reg.STOP_STATE_RESTART_PEND 0 = true ∧ s.Signalled 202 t
  sensor : 256 ≤ c → t.cal.stoAt = s.cal.stoAt

section
variable {s} {c : Nat}

/-- The queue has no part in it. -/
theorem State.TimeoutBrings.queued {t : State} (h : s.TimeoutBrings c t) (q : List Instr) :
    s.TimeoutBrings c { t with pending := q } := ⟨h.state, h.counted, h.signalled, h.tracks, h.drive, h.sensor⟩

/-- Nor has the time that passes until then. -/
theorem State.TimeoutBrings.of_waitTb {t : State} {w : Nat} (h : (s.waitTb 6 w).TimeoutBrings c t) :
    s.TimeoutBrings c t where
  state := h.state
  counted := by rw [h.counted, s.get_waitTb rfl]
  signalled := h.signalled.of_waitTb
  tracks := h.tracks
  drive hc :=
    let ⟨cause, stoAt, restart, demand⟩ := h.drive hc
    ⟨cause, stoAt, restart, demand.of_waitTb⟩
  sensor hc := by rw [h.sensor hc, s.cal_waitTb]

theorem State.timeoutBrings_connTimeout (h : s.get Reg.CONN_STATE_STATE c = 2) (hsto : s.cal.stoNow = [])
    (hss1 : s.cal.ss1Now = []) : s.TimeoutBrings c (s.connTimeout c) := by
  have accepted : ¬(s.get Reg.CONN_STATE_STATE c = 0 ∨ s.get Reg.CONN_STATE_STATE c = 3) := by omega
  have frame := State.decideFrame_connTimeout accepted
  refine ⟨?_, ?_, (s.signalled_timedOut c).kept frame.pends, ?_, fun hc => ?_, fun hc => ?_⟩
  · rw [frame.get _ c rfl (by decide), s.state_timedOut]
  · rw [frame.get _ c rfl (by decide), s.timeouts_timedOut]
  · rw [State.conn_of_conns frame.conns, s.conn_timedOut]
  · rw [State.connTimeout_drive accepted hc]
    have stoNow : ((s.timedOut c).wantSto 7).cal.stoNow = [7] := by
      simp [State.wantSto, State.onCal, s.cal_timedOut, State.onConn, hsto]
    have ss1Now : ((s.timedOut c).wantSto 7).cal.ss1Now = [] := by
      simp [State.wantSto, State.onCal, s.cal_timedOut, State.onConn, hss1]
    obtain ⟨cause, stoAt, restart, demand⟩ := State.calDecide_sto _ (by decide : 7 < 256) stoNow ss1Now
    refine ⟨cause, stoAt, restart, demand.of_get ?_ ?_ (fun _ => rfl) fun _ => rfl⟩ <;>
      rw [State.get_wantSto, s.get_timedOut rfl (by decide) (by decide)]
  · rw [State.connTimeout_sensor accepted hc, s.cal_timedOut]
    rfl

end

/-- CONNECTION_TIMEOUT: the samples up to the instant of the timeout are made, then the connection times out. -/
def State.doConnTimeout (s : State) (c : Nat) : State :=
  if s.calRuns && s.connOk c then
    ((s.sampleTo (((s.conn c).acceptedAt + s.connWdt c - s.cal.start) / 250000)).waitTb 6
      ((s.conn c).acceptedAt + s.connWdt c)).connTimeout c
  else s

theorem State.sampleTo_past {n : Nat} (h : n ≤ s.cal.n) : s.sampleTo n = s := by
  rw [State.sampleTo, Nat.sub_eq_zero_of_le h]; rfl

section
variable {s} {c : Nat}

theorem State.doConnTimeout_idle (h : s.get Reg.CONN_STATE_STATE c ≠ 2 ∨ s.calRuns = false) : s.doConnTimeout c = s := by
  refine if_neg ?_
  rw [Bool.and_eq_true, State.connOk_iff]
  rintro ⟨runs, accepted⟩
  exact h.elim (· accepted) fun h => by simp [runs] at h

/-- Where the sample of the timeout has been made. -/
theorem State.doConnTimeout_due (hr : s.calRuns = true) (h : s.get Reg.CONN_STATE_STATE c = 2)
    (hn : ((s.conn c).acceptedAt + s.connWdt c - s.cal.start) / 250000 ≤ s.cal.n) :
    s.doConnTimeout c = (s.waitTb 6 ((s.conn c).acceptedAt + s.connWdt c)).connTimeout c := by
  rw [State.doConnTimeout, if_pos (by rw [hr, (s.connOk_iff c).mpr h]; rfl), s.sampleTo_past hn]

end

/-! ### Frames -/

/-- A frame with a wrong CRC, as it is rejected (R479). -/
def State.crcRejected (s : State) (c : Nat) (l : List Nat) : State :=
  ((s.onConn c fun k => { k with crcAt := l }).count Reg.CONN_STATE_CRC_ERR c 1).raise 208

theorem State.conn_crcRejected (c : Nat) (l : List Nat) : (s.crcRejected c l).conn c = { s.conn c with crcAt := l } := by
  have crcAt := s.conn_onConn_same c fun k => { k with crcAt := l }
  rw [State.conn, State.crcRejected, State.raise_cal]
  exact crcAt

theorem State.crcErr_crcRejected (c : Nat) (l : List Nat) : (s.crcRejected c l).get Reg.CONN_STATE_CRC_ERR c =
    min (s.get Reg.CONN_STATE_CRC_ERR c + 1) (2 ^ Reg.CONN_STATE_CRC_ERR.width - 1) :=
  (State.get_raise _ rfl 208 c).trans (State.get_count_same _ _ _ _)

theorem State.state_crcRejected (c : Nat) (l : List Nat) :
    (s.crcRejected c l).get Reg.CONN_STATE_STATE c = s.get Reg.CONN_STATE_STATE c :=
  (State.get_raise _ rfl 208 c).trans (State.get_count_other _ (by decide) _ _ _)

theorem State.signalled_crcRejected (c : Nat) (l : List Nat) : s.Signalled 208 (s.crcRejected c l) := by
  refine (State.signalled_raise _ 208).of_get ?_ ?_ (fun _ => rfl) (fun _ => rfl) <;>
    exact State.get_count_other _ (by decide) _ _ _

theorem State.frameCrc_eq {c : Nat} {l : List Nat}
    (h : s.tb 6 :: (s.conn c).crcAt.filter (fun u => decide (s.tb 6 < u + 1000000000)) = l) :
    s.frameCrc c = if 8 ≤ l.length then (s.crcRejected c l).connTimeout c else s.crcRejected c l := by
  subst h
  rfl

/-- A frame with a wrong CRC is rejected, counted and remembered; the first one of a connection does nothing else. -/
theorem State.frameCrc_spec (c : Nat) : s.Signalled 208 (s.frameCrc c) ∧
    (s.frameCrc c).get Reg.CONN_STATE_CRC_ERR c =
      min (s.get Reg.CONN_STATE_CRC_ERR c + 1) (2 ^ Reg.CONN_STATE_CRC_ERR.width - 1) ∧
    ((s.frameCrc c).conn c).acceptedAt = (s.conn c).acceptedAt ∧
    ((s.conn c).crcAt = [] → (s.frameCrc c).get Reg.CONN_STATE_STATE c = s.get Reg.CONN_STATE_STATE c ∧
      ((s.frameCrc c).conn c).crcAt = [s.tb 6]) := by
  generalize hl : s.tb 6 :: (s.conn c).crcAt.filter (fun u => decide (s.tb 6 < u + 1000000000)) = l
  rw [s.frameCrc_eq hl]
  split
  · next many =>
    obtain ⟨pends, crcErr, accepted⟩ := (s.crcRejected c l).connTimeout_keeps c
    refine ⟨(s.signalled_crcRejected c l).kept pends, crcErr.trans (s.crcErr_crcRejected c l), ?_, fun h => ?_⟩
    · rw [accepted, s.conn_crcRejected]
    · simp [← hl, h] at many
  · refine ⟨s.signalled_crcRejected c l, s.crcErr_crcRejected c l, ?_, fun h => ⟨s.state_crcRejected c l, ?_⟩⟩
    · rw [s.conn_crcRejected]
    · rw [s.conn_crcRejected]
      simp [← hl, h]

/-- What an accepted frame leaves of its connection and of the others (R478). -/
theorem State.frameAccept_spec (c : Nat) (f : List Byte) : (s.frameAccept c f).get Reg.CONN_STATE_STATE c = 2 ∧
    ((s.frameAccept c f).conn c).seq = uAt f 4 4 ∧ ((s.frameAccept c f).conn c).time = uAt f 8 4 ∧
    ((s.frameAccept c f).conn c).acceptedAt = s.tb 6 ∧ ∀ j, j ≠ c → (s.frameAccept c f).conn j = s.conn j := by
  obtain ⟨g, eq, seq, time, accepted⟩ : ∃ g, s.frameAccept c f = (s.onConn c g).set Reg.CONN_STATE_STATE c 2 ∧
      (g (s.conn c)).seq = uAt f 4 4 ∧ (g (s.conn c)).time = uAt f 8 4 ∧ (g (s.conn c)).acceptedAt = s.tb 6 :=
    ⟨_, rfl, rfl, rfl, rfl⟩
  have conn (j : Nat) : (s.frameAccept c f).conn j = (s.onConn c g).conn j := by rw [eq]; rfl
  refine ⟨?_, ?_, ?_, ?_, fun j hj => ?_⟩
  · rw [eq, State.get_set_same]; rfl
  · rw [conn, State.conn_onConn_same, seq]
  · rw [conn, State.conn_onConn_same, time]
  · rw [conn, State.conn_onConn_same, accepted]
  · rw [conn, State.conn_onConn_other _ hj.symm]

/-- A first frame from a port has no predecessor to be judged by (R478). -/
theorem State.frameSeq_first {s : State} {c : Nat} (h : s.get Reg.CONN_STATE_STATE c ≠ 2) (f : List Byte) :
    s.frameSeq c f true = s.frameAccept c f := by
  have old : s.connOk c = false := Bool.eq_false_iff.mpr fun ho => h ((s.connOk_iff c).mp ho)
  simp [State.frameSeq, old]

theorem State.calCatchUp_idle {s : State} (hb : s.boundaryDue = false) (hs : s.separationDue = false) : s.calCatchUp = s := by
  simp [State.calCatchUp, hb, hs]

theorem State.safetyFrame_stopped {s : State} (h : s.calRuns = false) (f : List Byte) (eth : Bool) :
    s.safetyFrame f eth = s := if_pos (by rw [h]; rfl)

section
variable {s} {f : List Byte} {c : Nat} (hr : s.calRuns = true)
include hr

theorem State.safetyFrame_unknown (h : connIndex (uAt f 0 2) = none) (eth : Bool) :
    s.safetyFrame f eth = s.frameRejected := by
  simp [State.safetyFrame, hr, h]

variable (hc : connIndex (uAt f 0 2) = some c)
include hc

theorem State.safetyFrame_unused (h : s.get Reg.CONN_STATE_STATE c = 0) (eth : Bool) :
    s.safetyFrame f eth = s.frameRejected := by
  rw [State.safetyFrame, hr, hc]; exact if_pos h

/-- The checks of a frame of a connection in use, in their order (R478). -/
theorem State.safetyFrame_used (h : s.get Reg.CONN_STATE_STATE c ≠ 0) {n : Nat} (hn : n = 4 * uAt f 3 1) (eth : Bool) :
    s.safetyFrame f eth =
      if f.length < 20 + n ∨ crcSafe (leBytes 4 (s.safe 0x0901 c) ++ f.take (16 + n)) ≠ uAt f (16 + n) 4 then s.frameCrc c
      else if uAt f 2 1 ≠ (if c < 256 then 1 else 3) ∨ s.frameLenOk c f = false ∨ uAt f 12 2 ≠ s.safe 0x0902 c then
        s.frameRejected
      else s.frameSeq c f eth := by
  subst hn
  rw [State.safetyFrame, hr, hc]; exact if_neg h

end

/-! ### The commands -/

theorem exec_safetyFrame (f : List Byte) (eth : Bool) (s : State) :
    exec (.safetyFrame f eth) s = s.run fun s => s.calCatchUp.safetyFrame f eth := rfl

theorem exec_connectionTimeout (c : Fin 272) (s : State) :
    exec (.connectionTimeout c) s = s.run fun s => s.doConnTimeout c := rfl

/-- A command that acts completes with what holds of its effect, whatever the queue. -/
theorem completes_of_effect {c : Instr} {s t : State} {f : State → State} {Q : State → Prop} (ha : s.alive = true)
    (hc : exec c s = s.run f) (hf : f s = t) (hq : Q { t with pending := s.pending }) : Completes c s Q :=
  completes_of_run ha hc (by rwa [State.beside, hf])

section
variable {s} (ha : s.alive = true) (hb : s.boundaryDue = false) (hs : s.separationDue = false) {f : List Byte} {eth : Bool}
include ha hb hs

theorem exec_safetyFrame_stopped (h : s.calRuns = false) : exec (.safetyFrame f eth) s = .next s := by
  refine exec_eq_of_run ha (exec_safetyFrame f eth s) ?_ rfl
  rw [State.calCatchUp_idle hb hs, State.safetyFrame_stopped h]

/-- A frame that is rejected without being counted. -/
theorem completes_frameRejected (h : s.safetyFrame f eth = s.frameRejected) :
    Completes (.safetyFrame f eth) s fun t => s.Signalled 208 t ∧ t.cal = s.cal := by
  have effect : s.calCatchUp.safetyFrame f eth = s.frameRejected := by rw [State.calCatchUp_idle hb hs, h]
  exact completes_of_eq ha (exec_safetyFrame f eth s) effect (s.raise_pending 208) ⟨s.signalled_raise 208, s.raise_cal 208⟩

theorem completes_safetyFrame {t : State} {Q : State → Prop} (h : s.safetyFrame f eth = t)
    (hq : Q { t with pending := s.pending }) : Completes (.safetyFrame f eth) s Q :=
  completes_of_effect ha (exec_safetyFrame f eth s) (by rw [State.calCatchUp_idle hb hs, h]) hq

end

theorem exec_connectionTimeout_idle {s : State} {c : Fin 272} (ha : s.alive = true)
    (h : s.get Reg.CONN_STATE_STATE c ≠ 2 ∨ s.calRuns = false) : exec (.connectionTimeout c) s = .next s :=
  exec_eq_of_run ha (exec_connectionTimeout c s) (State.doConnTimeout_idle h) rfl

/-- The timeout of an accepted connection, at its instant or later (R479). -/
theorem completes_connectionTimeout {s : State} {c : Fin 272} (ha : s.alive = true) (hr : s.calRuns = true)
    (h : s.get Reg.CONN_STATE_STATE c = 2) (hsto : s.cal.stoNow = []) (hss1 : s.cal.ss1Now = [])
    (hn : ((s.conn c).acceptedAt + s.connWdt c - s.cal.start) / 250000 ≤ s.cal.n) :
    Completes (.connectionTimeout c) s fun t => s.TimeoutBrings c t := by
  have effect := State.doConnTimeout_due hr h hn
  generalize (s.conn c).acceptedAt + s.connWdt c = w at effect
  have brings : (s.waitTb 6 w).TimeoutBrings c ((s.waitTb 6 w).connTimeout c) :=
    State.timeoutBrings_connTimeout ((s.get_waitTb rfl 6 w c).trans h) (by rw [s.cal_waitTb, hsto])
      (by rw [s.cal_waitTb, hss1])
  exact completes_of_effect ha (exec_connectionTimeout c s) effect (brings.of_waitTb.queued _)

end Sys2Proof.Machine
end

section
/-!
SUPPORT. What the application of a set makes and the rest of its boundary keeps, as one view of the state: the sets, the axes
that hold STO, the pairs in demand and `RESTART_PEND` (R494); and the operations of a boundary that keep it.
-/
namespace Sys2Proof.Machine

/-- The set in force and the one that waits, the STO of the axes, `DEMAND` of the pairs, `RESTART_PEND`. -/
structure SetView where
  set : Option SafetySet
  waiting : Option SafetySet
  sto : Nat → Bool
  demand : Nat → Nat
  restart : Nat

/-- What R494 speaks of in a state. -/
def State.setView (s : State) : SetView where
  set := s.cal.set
  waiting := s.cal.waiting
  sto a := (s.calAx a).sto
  demand := s.get Reg.SIP_STATUS_DEMAND
  restart := s.get Reg.STOP_STATE_RESTART_PEND 0

/-- The fields that the view shows. -/
def Reg.setView (f : Field) : Bool := f.id == Reg.SIP_STATUS_DEMAND.id || f.id == Reg.STOP_STATE_RESTART_PEND.id

variable (s : State)

/-- The view depends on those fields and on Caldera beside its registers. -/
theorem State.setView_of_get {s t : State} (hg : ∀ f i, Reg.setView f = true → t.get f i = s.get f i) (hc : t.cal = s.cal) :
    t.setView = s.setView := by
  have demand : t.get Reg.SIP_STATUS_DEMAND = s.get Reg.SIP_STATUS_DEMAND := funext fun i => hg _ i rfl
  simp only [State.setView, State.calAx, hc, demand, hg Reg.STOP_STATE_RESTART_PEND 0 rfl]

theorem State.setView_congr {s t : State} (hr : t.regs = s.regs) (hc : t.cal = s.cal) : t.setView = s.setView :=
  State.setView_of_get (fun f i _ => State.get_of_regs hr f i) hc

@[simp] theorem State.setView_ite (c : Prop) [Decidable c] (t : State) :
    (if c then s else t).setView = if c then s.setView else t.setView := apply_ite _ _ _ _

@[simp] theorem State.setView_foldl {α : Type} {f : State → α → State} (h : ∀ s x, (f s x).setView = s.setView)
    (l : List α) : (l.foldl f s).setView = s.setView :=
  State.foldl_keeps (P := fun t => t.setView = s.setView) (fun t x ht => (h t x).trans ht) l rfl

/-! ### Register fields, events, logs and points -/

@[simp] theorem State.setView_set {f : Field} (h : Reg.setView f = false) (i v : Nat) :
    (s.set f i v).setView = s.setView := by
  refine State.setView_of_get (fun g j hg => s.get_set_other (fun he => ?_) i j v) rfl
  rw [Reg.setView, he] at h
  rw [Reg.setView, h] at hg
  cases hg

@[simp] theorem State.setView_setFlag {f : Field} (h : Reg.setView f = false) (i : Nat) (b : Bool) :
    (s.setFlag f i b).setView = s.setView := s.setView_set h i _

@[simp] theorem State.setView_setS {f : Field} (h : Reg.setView f = false) (i : Nat) (x : Int) :
    (s.setS f i x).setView = s.setView := s.setView_set h i _

@[simp] theorem State.setView_setBit {f : Field} (h : Reg.setView f = false) (k i : Nat) (b : Bool) :
    (s.setBit f k i b).setView = s.setView := s.setView_set h k _

@[simp] theorem State.setView_count {f : Field} (h : Reg.setView f = false) (i n : Nat) :
    (s.count f i n).setView = s.setView := s.setView_set h i _

@[simp] theorem State.setView_raise (n : Nat) : (s.raise n).setView = s.setView := by
  refine State.setView_of_get (fun f i hf => s.get_raise ?_ n i) (s.raise_cal n)
  simp only [Reg.setView, Bool.or_eq_true, beq_iff_eq] at hf
  obtain hf | hf := hf <;> rw [Reg.raised, hf] <;> rfl

@[simp] theorem State.setView_raiseIf (b : Bool) (n : Nat) : (s.raiseIf b n).setView = s.setView := by
  simp [State.raiseIf]

@[simp] theorem State.setView_tookFree : s.tookFree.setView = s.setView := State.setView_congr rfl rfl

@[simp] theorem State.setView_putPoint (p v : Nat) : (s.putPoint p v).setView = s.setView := State.setView_congr rfl rfl

@[simp] theorem State.setView_latchCause (c : Nat) : (s.latchCause c).setView = s.setView :=
  State.setView_congr (s.regs_latchCause c).1 (s.cal_latchCause c)

@[simp] theorem State.setView_change (code status link mailbox detail : Nat) (text : List Byte) :
    (s.change code status link mailbox detail text).setView = s.setView := by
  rw [State.change, State.setView_raiseIf]; rfl

/-! ### Caldera beside its registers -/

@[simp] theorem State.setView_onCal {f : CalState → CalState} (hs : ∀ k, (f k).set = k.set)
    (hw : ∀ k, (f k).waiting = k.waiting) (ha : ∀ k, (f k).axes = k.axes) : (s.onCal f).setView = s.setView := by
  simp only [State.setView, State.calAx, State.onCal, hs, hw, ha]
  rfl

@[simp] theorem State.setView_onOut (n : Nat) (f : CalOut → CalOut) : (s.onOut n f).setView = s.setView :=
  s.setView_onCal (fun _ => rfl) (fun _ => rfl) fun _ => rfl

@[simp] theorem State.setView_onTps (t : Nat) (f : CalTps → CalTps) : (s.onTps t f).setView = s.setView :=
  s.setView_onCal (fun _ => rfl) (fun _ => rfl) fun _ => rfl

@[simp] theorem State.setView_onArm (g : Nat) (f : CalArm → CalArm) : (s.onArm g f).setView = s.setView :=
  s.setView_onCal (fun _ => rfl) (fun _ => rfl) fun _ => rfl

@[simp] theorem State.setView_onConn (c : Nat) (f : CalConn → CalConn) : (s.onConn c f).setView = s.setView :=
  s.setView_onCal (fun _ => rfl) (fun _ => rfl) fun _ => rfl

@[simp] theorem State.setView_onCalAx {f : CalAxis → CalAxis} (h : ∀ x, (f x).sto = x.sto) (a : Nat) :
    (s.onCalAx a f).setView = s.setView := by
  have sto : (fun b => ((s.onCalAx a f).calAx b).sto) = fun b => (s.calAx b).sto := funext (s.sto_onCalAx h a)
  simp only [State.setView, sto]
  rfl

/-! ### PWM pairs and step channels under STO -/

@[simp] theorem State.setView_onPair (p : Nat) (f : PwmPair → PwmPair) : (s.onPair p f).setView = s.setView :=
  State.setView_congr rfl rfl

@[simp] theorem State.setView_hOff (p t : Nat) : (s.hOff p t).setView = s.setView := by
  simp +decide [State.hOff]

@[simp] theorem State.setView_lOn (p t : Nat) : (s.lOn p t).setView = s.setView := by
  simp +decide [State.lOn]

@[simp] theorem State.setView_lOff (p : Nat) : (s.lOff p).setView = s.setView := by
  simp +decide [State.lOff]

@[simp] theorem State.setView_enterSafe (p t : Nat) : (s.enterSafe p t).setView = s.setView := by
  simp +decide [State.enterSafe]

@[simp] theorem State.setView_showCauses (p : Nat) : (s.showCauses p).setView = s.setView := by
  simp +decide [State.showCauses]

@[simp] theorem State.setView_judgeCauses (p t : Nat) : (s.judgeCauses p t).setView = s.setView := by
  simp [State.judgeCauses]

@[simp] theorem State.setView_setPairCaldera (p t : Nat) (on : Bool) : (s.setPairCaldera p t on).setView = s.setView := by
  simp [State.setPairCaldera]

@[simp] theorem State.setView_onStep (ch : Nat) (f : StpState → StpState) : (s.onStep ch f).setView = s.setView :=
  State.setView_congr rfl rfl

@[simp] theorem State.setView_showStep (ch : Nat) : (s.showStep ch).setView = s.setView := by
  simp +decide [State.showStep]

@[simp] theorem State.setView_haltBegins (ch : Nat) : (s.haltBegins ch).setView = s.setView := by
  cases h : (s.step ch).cmd <;> simp +decide [State.haltBegins, State.stepRest, h]

@[simp] theorem State.setView_setHalt (ch bit : Nat) (on : Bool) : (s.setHalt ch bit on).setView = s.setView := by
  simp +decide [State.setHalt]

/-! ### The boundary (R436) -/

@[simp] theorem State.setView_setTbState (n st : Nat) : (s.setTbState n st).setView = s.setView := by
  simp +decide [State.setTbState]

@[simp] theorem State.setView_steer : s.steer.setView = s.setView := by
  simp +decide [State.steer]

@[simp] theorem State.setView_levelBoundary (g : Nat) : (s.levelBoundary g).setView = s.setView := by
  rw [State.levelBoundary]
  split <;> simp +decide

@[simp] theorem State.setView_permitBoundary : s.permitBoundary.setView = s.setView := by
  simp +decide [State.permitBoundary]

@[simp] theorem State.setView_edmFault (n : Nat) (refused : Bool) : (s.edmFault n refused).setView = s.setView := by
  simp +decide [State.edmFault, State.outputFault]

@[simp] theorem State.setView_edmGate (n k : Nat) : (s.edmGate n k).setView = s.setView := by
  simp +decide [State.edmGate]

@[simp] theorem State.setView_soJoin (k : Nat) : (s.soJoin k).setView = s.setView := by
  rw [State.soJoin]
  split
  · rfl
  · split
    · exact State.setView_congr rfl rfl
    · split
      · exact State.setView_congr rfl rfl
      · rfl

@[simp] theorem State.setView_switchOut (k n : Nat) (on : Bool) : (s.switchOut k n on).setView = s.setView := by
  simp +decide [State.switchOut]

@[simp] theorem State.setView_discardTest (k n : Nat) : (s.discardTest k n).setView = s.setView := by
  simp +decide [State.discardTest]

@[simp] theorem State.setView_outputTestStart (n k : Nat) : (s.outputTestStart n k).setView = s.setView := by
  simp +decide [State.outputTestStart]

@[simp] theorem State.setView_noteLoad (n k : Nat) : (s.noteLoad n k).setView = s.setView := by
  simp +decide [State.noteLoad]

@[simp] theorem State.setView_soBoundary (n k : Nat) : (s.soBoundary n k).setView = s.setView := by
  simp +decide [State.soBoundary]

@[simp] theorem State.setView_outputsBoundary : s.outputsBoundary.setView = s.setView := by
  simp +decide [State.outputsBoundary]

@[simp] theorem State.setView_tpsPaired (n t : Nat) : (s.tpsPaired n t).setView = s.setView := by
  simp +decide [State.tpsPaired]

@[simp] theorem State.setView_tpsStart (n t : Nat) : (s.tpsStart n t).setView = s.setView := by
  simp +decide [State.tpsStart]

@[simp] theorem State.setView_tpsBoundary (n t : Nat) : (s.tpsBoundary n t).setView = s.setView := by
  unfold State.tpsBoundary
  split
  · simp
  · extract_lets u v
    have hv : v.setView = s.setView := by simp [v, u]
    clear_value v
    split <;> simp +decide [hv]

@[simp] theorem State.setView_crossCheck (a : Nat) : (s.crossCheck a).setView = s.setView := by
  simp +decide [State.crossCheck, State.wantSs1]

@[simp] theorem State.setView_ioPoints : s.ioPoints.setView = s.setView := by
  simp [State.ioPoints]

@[simp] theorem State.setView_sealSample (k : Nat) : (s.sealSample k).setView = s.setView := by
  rw [State.sealSample]
  split <;> simp

@[simp] theorem State.setView_sealLog (k : Nat) : (s.sealLog k).setView = s.setView := by
  simp [State.sealLog, State.calChange]

@[simp] theorem State.setView_seals : s.seals.setView = s.setView := by
  simp +decide [State.seals]

end Sys2Proof.Machine
end

section
/-!
A waiting set is applied at a boundary (R494), and what it makes outlasts the rest of the boundary.
-/
namespace Sys2Proof.Machine

variable (s : State)

/-! ### STO at a boundary -/

/-- The view with STO on the axes `l`. -/
def SetView.withSto (v : SetView) (l : List Nat) : SetView := { v with sto := fun a => decide (a ∈ l) || v.sto a }

theorem SetView.withSto_nil (v : SetView) : v.withSto [] = v := by
  simp [SetView.withSto]

theorem SetView.withSto_cons (v : SetView) (a : Nat) (l : List Nat) : (v.withSto [a]).withSto l = v.withSto (a :: l) := by
  simp only [SetView.withSto, SetView.mk.injEq, true_and, and_true]
  funext b
  by_cases h : b = a <;> simp [h]

/-- STO of one axis. -/
theorem State.setView_applySto (a : Nat) : (s.applySto a).setView = s.setView.withSto [a] := by
  have view (t : State) (ht : ∀ b, (t.calAx b).sto = (decide (b ∈ [a]) || (s.calAx b).sto))
      (hd : t.setView = { s.setView with sto := fun b => (t.calAx b).sto }) : t.setView = s.setView.withSto [a] := by
    rw [hd]
    simp only [ht]
    rfl
  unfold State.applySto
  split
  · next h =>
    refine view s (fun b => ?_) rfl
    by_cases hb : b = a <;> simp [hb, h]
  · simp only [State.setView_foldl, State.setView_setHalt, State.setView_setPairCaldera, implies_true]
    refine view _ (fun b => ?_) rfl
    by_cases hb : b = a
    · subst hb
      rw [State.calAx_onCalAx_same]
      simp
    · rw [State.calAx_onCalAx_other _ (Ne.symm hb)]
      simp [hb]

/-- STO of several axes. -/
theorem State.setView_applyStos (l : List Nat) :
    (l.foldl (fun s a => s.applySto a) s).setView = s.setView.withSto l := by
  induction l generalizing s with
  | nil => exact s.setView.withSto_nil.symm
  | cons a l ih => rw [List.foldl_cons, ih, s.setView_applySto a, SetView.withSto_cons]

/-- A boundary that brings an STO gives it to every axis. -/
theorem State.setView_stoBoundary : (s.stoBoundary true).setView = s.setView.withSto (List.range 256) := by
  rw [← s.setView_applyStos]
  unfold State.stoBoundary
  extract_lets demand stopped caused
  have causing : caused.setView = stopped.setView := by
    unfold caused
    split
    · rfl
    · simp +decide
  rw [if_pos (Bool.or_true _)]
  simp +decide [causing, stopped]

theorem State.axisStoBoundary_held {a : Nat} (h : (s.calAx a).sto = true) : s.axisStoBoundary a = s := by
  unfold State.axisStoBoundary
  split
  · simp [h]
  · rfl

/-- The axes that are enabled are among the 256. -/
theorem State.lt_of_mem_enabledAxes {a : Nat} (h : a ∈ s.enabledAxes) : a < 256 :=
  List.mem_range.mp (List.mem_filter.mp h).1

theorem State.axisStoBoundaries_held {l : List Nat} (h : ∀ a ∈ l, (s.calAx a).sto = true) :
    l.foldl State.axisStoBoundary s = s := by
  induction l with
  | nil => rfl
  | cons a l ih =>
    rw [List.foldl_cons, s.axisStoBoundary_held (h a List.mem_cons_self), ih fun b hb => h b (List.mem_cons_of_mem _ hb)]

/-- Where every axis holds STO, the rest of the stop state's boundary keeps the view. -/
theorem State.setView_stopBoundary {s : State} (h : ∀ a < 256, s.setView.sto a = true) :
    s.stopBoundary.setView = s.setView := by
  unfold State.stopBoundary
  extract_lets n started stopped confirmed
  have starting : started.setView = s.setView := by
    unfold started
    split <;> simp +decide
  have stopping : stopped = started :=
    started.axisStoBoundaries_held fun a ha => by
      have := h a (started.lt_of_mem_enabledAxes ha)
      rwa [← starting] at this
  have confirming : confirmed.setView = stopped.setView := by
    unfold confirmed
    split <;> simp +decide
  rw [State.setView_ite, State.setView_set _ rfl, ite_self, confirming, stopping, starting]

/-! ### The configuration of a set -/

/-- The view with the pairs `l` in demand as `b` says. -/
def SetView.withDemand (v : SetView) (b : Nat → Bool) (l : List Nat) : SetView :=
  { v with demand := fun i => if i ∈ l then b2n (b i) else v.demand i }

theorem SetView.withDemand_nil (v : SetView) (b : Nat → Bool) : v.withDemand b [] = v := by
  simp [SetView.withDemand]

theorem SetView.withDemand_cons (v : SetView) (b : Nat → Bool) (i : Nat) (l : List Nat) :
    (v.withDemand b [i]).withDemand b l = v.withDemand b (i :: l) := by
  simp only [SetView.withDemand, SetView.mk.injEq, true_and, and_true]
  funext j
  by_cases h : j = i <;> simp [h]

/-- A pair is put in demand or out of it. -/
theorem State.setView_setDemand (b : Nat → Bool) (i : Nat) :
    (s.setFlag Reg.SIP_STATUS_DEMAND i (b i)).setView = s.setView.withDemand b [i] := by
  have demand (j : Nat) : (s.setFlag Reg.SIP_STATUS_DEMAND i (b i)).get Reg.SIP_STATUS_DEMAND j =
      if j ∈ [i] then b2n (b j) else s.get Reg.SIP_STATUS_DEMAND j := by
    by_cases hj : j = i
    · subst hj
      rw [s.get_setFlag_same _ _ _ (by decide)]
      simp
    · rw [State.setFlag, s.get_set_element (Ne.symm hj)]
      simp [hj]
  have restart : (s.setFlag Reg.SIP_STATUS_DEMAND i (b i)).get Reg.STOP_STATE_RESTART_PEND 0 =
      s.get Reg.STOP_STATE_RESTART_PEND 0 := s.get_setFlag_other (by decide) _ _ _
  simp only [State.setView, SetView.withDemand, funext demand, restart]
  rfl

/-- Several pairs in turn. -/
theorem State.setView_setDemands {f : State → Nat → State} {b : Nat → Bool}
    (h : ∀ t i, (f t i).setView = t.setView.withDemand b [i]) (l : List Nat) :
    (l.foldl f s).setView = s.setView.withDemand b l := by
  induction l generalizing s with
  | nil => exact (s.setView.withDemand_nil b).symm
  | cons i l ih => rw [List.foldl_cons, ih, h s i, SetView.withDemand_cons]

/-- The configuration of the I/O puts every pair in use in demand (R494). -/
theorem State.setView_calConfigure {x : SafetySet} (h : s.cal.set = some x) :
    s.calConfigure.setView = s.setView.withDemand (fun i => x.nat 0x0101 i != 0) (List.range 16) := by
  unfold State.calConfigure
  extract_lets n first c pairs tests
  have set : c = x := by simp only [c, h, Option.getD_some]
  have demands : pairs.setView = s.setView.withDemand (fun i => x.nat 0x0101 i != 0) (List.range 16) := by
    refine s.setView_setDemands (fun t i => ?_) _
    rw [set, State.setView_setFlag _ rfl, State.setView_setDemand _ fun i => x.nat 0x0101 i != 0]
    simp +decide
  have testing : tests.setView = pairs.setView := by simp +decide [tests]
  rw [← demands, ← testing]
  simp +decide

/-- The view with set `x` in force and none that waits. -/
def SetView.withSet (v : SetView) (x : SafetySet) : SetView := { v with set := some x, waiting := none }

/-- The set that waited is in force, nothing waits, and its pairs in use are in demand. -/
theorem State.setView_setApply {x : SafetySet} (h : s.cal.waiting = some x) : s.setApply.setView =
    (s.setView.withSet x).withDemand (fun i => x.nat 0x0101 i != 0) (List.range 16) := by
  have configured (t : State) (ht : t.setView = s.setView.withSet x) : t.calConfigure.setView =
      (s.setView.withSet x).withDemand (fun i => x.nat 0x0101 i != 0) (List.range 16) := by
    rw [t.setView_calConfigure (congrArg SetView.set ht), ht]
  rw [State.setApply, h]
  refine configured _ ?_
  simp +decide only [State.setView_set, State.setView_foldl, State.setView_onConn, State.setView_onArm,
    State.setView_onCalAx, implies_true]
  rfl

/-! ### The boundary -/

/-- What the statement says of the state once set `x` has been applied. -/
structure SetView.Applied (x : SafetySet) (v : SetView) : Prop where
  set : v.set = some x
  waiting : v.waiting = none
  sto : ∀ a < 256, v.sto a = true
  demand : ∀ i < 16, v.demand i = b2n (x.nat 0x0101 i != 0)

/-- What is decided at a boundary leaves the set that was applied there. -/
theorem State.DecideFrame.applied {t u : State} {x : SafetySet} (h : t.DecideFrame u) (ht : t.setView.Applied x) :
    u.setView.Applied x where
  set := h.set.trans ht.set
  waiting := h.waiting.trans ht.waiting
  sto a ha := (h.sto a).trans (ht.sto a ha)
  demand i hi := (h.get Reg.SIP_STATUS_DEMAND i rfl (by decide)).trans (ht.demand i hi)

/-- `RESTART_PEND` is part of the view. -/
theorem State.restart_of_setView {s t : State} (h : t.setView.restart = s.setView.restart) :
    t.flag Reg.STOP_STATE_RESTART_PEND 0 = s.flag Reg.STOP_STATE_RESTART_PEND 0 :=
  State.flag_of_get h

theorem State.calRuns_iff : s.calRuns = true ↔ s.get Reg.CAL_STATE_STATE 0 = 1 ∧ s.cal.halted = false := by
  simp [State.calRuns]

/-- A boundary at which a set waits applies it, and takes `RESTART_PEND` back from nobody (R494). -/
theorem State.calBoundary_applies {s : State} {x : SafetySet} (hr : s.calRuns = true) (hw : s.cal.waiting = some x) :
    s.calBoundary.setView.Applied x ∧ (s.flag Reg.STOP_STATE_RESTART_PEND 0 = true →
      s.calBoundary.flag Reg.STOP_STATE_RESTART_PEND 0 = true) := by
  obtain ⟨state, running⟩ := s.calRuns_iff.mp hr
  unfold State.calBoundary
  extract_lets n started quiet applied taken stopped levels outputs tests crossed
  rw [if_neg (by simp [running]), if_pos state]
  have starting : started.setView = s.setView := by simp +decide [started]
  have waiting : started.cal.waiting = some x := (congrArg SetView.waiting starting).trans hw
  have isQuiet : quiet = true := by simp [quiet, waiting]
  have taking : taken.setView = applied.setView := State.setView_onCal _ (fun _ => rfl) (fun _ => rfl) fun _ => rfl
  have held : ∀ a < 256, (taken.stoBoundary quiet).setView.sto a = true := fun a ha => by
    rw [isQuiet, State.setView_stoBoundary]
    simp [SetView.withSto, ha]
  have stopping : stopped.setView = applied.setView.withSto (List.range 256) := by
    rw [show stopped.setView = _ from State.setView_stopBoundary held, isQuiet, State.setView_stoBoundary, taking]
  have kept : (tests.monitored.foldl State.crossCheck tests).setView = stopped.setView := by
    simp [tests, outputs, levels]
  have applying : (tests.monitored.foldl State.crossCheck tests).setView =
      ((s.setView.withSet x).withDemand (fun i => x.nat 0x0101 i != 0) (List.range 16)).withSto (List.range 256) := by
    rw [kept, stopping, show applied.setView = _ from started.setView_setApply waiting, starting]
  have decided := State.decideFrame_calDecide (tests.monitored.foldl State.crossCheck tests)
  have ending : crossed.seals.ioPoints.setView = crossed.setView := by simp
  rw [ending, State.restart_of_setView (congrArg SetView.restart ending)]
  refine ⟨decided.applied ?_, fun h => decided.restart ?_⟩
  · rw [applying]
    exact ⟨rfl, rfl, fun a ha => by simp [SetView.withSto, ha],
      fun i hi => by simp [SetView.withSto, SetView.withDemand, hi]⟩
  · rwa [State.restart_of_setView (s := s) (by rw [applying]; rfl)]

theorem State.setView_doBoundary : s.doBoundary.setView = s.calBoundary.setView := by
  simp [State.doBoundary]

theorem exec_setApply (s : State) :
    exec .setApply s = s.run fun s => if s.cal.waiting.isSome then s.nextBoundary else s := rfl

theorem exec_setApply_idle {s : State} (ha : s.alive = true) (h : s.cal.waiting = none) : exec .setApply s = .next s :=
  exec_eq_of_run ha (exec_setApply s) (if_neg (by simp [h])) rfl

theorem completes_setApply {s : State} {x : SafetySet} (ha : s.alive = true) (hr : s.calRuns = true)
    (hb : s.boundaryDue = true) (h : s.cal.waiting = some x) :
    Completes .setApply s fun t => t.cal.set = some x ∧ t.cal.waiting = none ∧ (∀ a < 256, (t.calAx a).sto = true) ∧
      (∀ i < 16, t.flag Reg.SIP_STATUS_DEMAND i = (x.nat 0x0101 i != 0)) ∧
      (s.flag Reg.STOP_STATE_RESTART_PEND 0 = true → t.flag Reg.STOP_STATE_RESTART_PEND 0 = true) := by
  have effect : (if s.cal.waiting.isSome then s.nextBoundary else s) = s.doBoundary := by
    rw [if_pos (by rw [h]; rfl), State.nextBoundary, if_pos hb]
  obtain ⟨applied, restart⟩ := State.calBoundary_applies hr h
  rw [← s.setView_doBoundary] at applied
  rw [← State.restart_of_setView (congrArg SetView.restart s.setView_doBoundary)] at restart
  obtain ⟨set, waiting, sto, demand⟩ := applied
  refine completes_of_effect ha (exec_setApply s) effect ⟨set, waiting, sto, fun i hi => ?_, restart⟩
  have shown : s.doBoundary.flag Reg.SIP_STATUS_DEMAND i = (b2n (x.nat 0x0101 i != 0) != 0) :=
    congrArg (· != 0) (demand i hi)
  refine shown.trans ?_
  cases x.nat 0x0101 i != 0 <;> rfl

/-- Settles O48: each check of a frame by what its branch leaves, the timeouts by what Caldera decides of them, the set by
what the rest of its boundary keeps. -/
theorem calderaConnectionsAndSets : Obligations.CalderaConnectionsAndSets := by
  intro s ha
  refine ⟨fun f eth hr hb hs => exec_safetyFrame_stopped ha hb hs hr, fun hr hb hs f eth => ⟨fun h => ?_, fun c hc =>
    ⟨fun h => ?_, fun n hn used => ?_⟩⟩, fun c h => exec_connectionTimeout_idle ha h, fun c w hr h hsto hss1 hw hn => ?_,
    exec_setApply_idle ha, fun x hr hb h => completes_setApply ha hr hb h⟩
  · exact completes_frameRejected ha hb hs (State.safetyFrame_unknown hr h eth)
  · exact completes_frameRejected ha hb hs (State.safetyFrame_unused hr hc h eth)
  · have checks := State.safetyFrame_used hr hc used hn eth
    refine ⟨fun bad => ?_, fun length crc => ⟨fun bad => ?_, fun type len wdt first port => ?_⟩⟩
    · exact completes_safetyFrame ha hb hs (checks.trans (if_pos bad)) (s.frameCrc_spec c)
    · rw [if_neg (by simp [crc, Nat.not_lt.mpr length]), if_pos bad] at checks
      exact completes_frameRejected ha hb hs checks
    · subst port
      rw [if_neg (by simp [crc, Nat.not_lt.mpr length]), if_neg (by simp [type, len, wdt]),
        State.frameSeq_first first] at checks
      exact completes_safetyFrame ha hb hs checks (s.frameAccept_spec c f)
  · subst hw
    exact (completes_connectionTimeout ha hr h hsto hss1 hn).imp fun t ⟨state, counted, signalled, tracks, drive, sensor⟩ =>
      ⟨state, counted, signalled, tracks, drive, sensor⟩

end Sys2Proof.Machine
end

section
/-!
SUPPORT. What passing time reads and writes (R567, R568): which parts of the state it may change at all, and that what it makes
of the time bases rests on the bases, their rates, the clock and the power state alone.
-/
namespace Sys2Proof.Machine

variable (s : State)

/-- `t` differs from `s` at most in the parts of the state that passing time may write. -/
def State.Passed (s t : State) : Prop :=
  ∃ r h o p y k, t = { s with regs := r, host := h, outbox := o, power := p, yard := y, ticks := k }

theorem State.Passed.refl : s.Passed s := ⟨_, _, _, _, _, _, rfl⟩

variable {s} in
theorem State.Passed.trans {t u : State} (h : s.Passed t) (h' : t.Passed u) : s.Passed u := by
  obtain ⟨_, _, _, _, _, _, rfl⟩ := h
  obtain ⟨_, _, _, _, _, _, rfl⟩ := h'
  exact ⟨_, _, _, _, _, _, rfl⟩

theorem State.passed_moveTb (n ns k : Nat) : s.Passed (s.moveTb n ns k) := ⟨_, _, _, _, _, _, rfl⟩

theorem State.passed_raiseIf (b : Bool) (n : Nat) : s.Passed (s.raiseIf b n) := by
  obtain ⟨-, r, m, o, h⟩ := s.raiseFrame_raiseIf b n
  exact ⟨r, _, o, _, _, _, h⟩

theorem State.passed_yardClocks (n : Nat) : s.Passed (s.yardClocks n) := by
  unfold State.yardClocks
  extract_lets t
  have counted : s.Passed t := by
    unfold t
    split
    · exact ⟨_, _, _, _, _, _, rfl⟩
    · exact .refl s
  refine counted.trans ?_
  split
  · exact (t.passed_raiseIf _ 45).trans ⟨_, _, _, _, _, _, rfl⟩
  · exact ⟨_, _, _, _, _, _, rfl⟩

theorem State.passed_advance (n : Nat) : s.Passed (s.advance n) := by
  unfold State.advance
  extract_lets t u on v
  have tb6 : s.Passed t := by
    unfold t
    split
    · exact .refl s
    · exact s.passed_moveTb _ _ _
  have ticked : t.Passed u := ⟨_, _, _, _, _, _, rfl⟩
  have bases : u.Passed v := by
    unfold v
    split
    · exact State.foldl_keeps (P := u.Passed) (fun w b h => h.trans (w.passed_moveTb _ _ _)) _ (.refl u)
    · exact .refl u
  refine (tb6.trans ticked).trans (bases.trans ?_)
  split
  · exact v.passed_yardClocks _
  · exact .refl v

/-- Passing time leaves PTP, the bridge and the gates alone. -/
@[simp] theorem State.time_advance (n : Nat) : (s.advance n).time = s.time := by
  obtain ⟨_, _, _, _, _, _, h⟩ := s.passed_advance n
  rw [h]

@[simp] theorem State.time_waitTb (b t : Nat) : (s.waitTb b t).time = s.time := s.time_advance _

theorem State.get_advance {f : Field} (hf : Reg.clocked f = false) (n i : Nat) : (s.advance n).get f i = s.get f i :=
  (s.clockFrame_advance n).get f i hf

theorem State.ticks_advance (n : Nat) : (s.advance n).ticks = s.ticks + n := (s.clockFrame_advance n).ticks

/-! ### The bases under passing time -/

/-- The fields from which the time bases move. -/
def Reg.bases : List Field := [Reg.TB_TIME_NS, Reg.TB_FRAC_FRAC, Reg.TB_RATE_PPB, Reg.TB_RATE_PPB_FRAC]

/-- What the movement of the time bases rests on: the bases and their rates, the power state, the clock. -/
structure ClockView where
  read : List (Nat → Nat)
  power : PowerState
  ticks : Nat
  alive : Bool

def State.clockView (s : State) : ClockView where
  read := Reg.bases.map s.get
  power := s.power
  ticks := s.ticks
  alive := s.alive

theorem State.clockView_of_get {t : State} (hg : ∀ f ∈ Reg.bases, ∀ i, t.get f i = s.get f i) (hp : t.power = s.power)
    (hk : t.ticks = s.ticks) (ha : t.alive = s.alive) : t.clockView = s.clockView := by
  simp only [State.clockView, hp, hk, ha, List.map_congr_left fun f hf => funext (hg f hf)]

/-- Writing a field on which the bases do not rest. -/
theorem State.clockView_set {f : Field} (hf : ∀ g ∈ Reg.bases, f.id ≠ g.id) (i v : Nat) :
    (s.set f i v).clockView = s.clockView :=
  s.clockView_of_get (fun g hg _ => s.get_set_other (hf g hg) _ _ _) rfl rfl rfl

theorem State.clockView_raiseIf (b : Bool) (n : Nat) : (s.raiseIf b n).clockView = s.clockView :=
  s.clockView_of_get (fun _ hf => s.get_raiseIf ((by decide : ∀ f ∈ Reg.bases, Reg.raised f = false) _ hf) b n)
    (s.raiseIf_power b n) (s.raiseIf_ticks b n) (s.raiseIf_alive b n)

theorem State.clockView_yardClocks (n : Nat) : (s.yardClocks n).clockView = s.clockView := by
  unfold State.yardClocks
  extract_lets t
  have counted : t.clockView = s.clockView := by
    unfold t
    split
    · exact s.clockView_set (by decide) _ _
    · rfl
  split
  · exact ((State.clockView_set _ (by decide) _ _).trans (t.clockView_raiseIf _ _)).trans counted
  · exact counted

variable {s} {t : State}

theorem State.get_of_clockView (h : t.clockView = s.clockView) : ∀ f ∈ Reg.bases, ∀ i, t.get f i = s.get f i := by
  have read : Reg.bases.map t.get = Reg.bases.map s.get := congrArg ClockView.read h
  exact fun f hf => congrFun (List.map_inj_left.mp read f hf)

theorem State.tb_of_clockView (h : t.clockView = s.clockView) (n : Nat) : t.tb n = s.tb n :=
  State.get_of_clockView h _ (by simp [Reg.bases]) n

/-- The same write in two states that the clock cannot tell apart. -/
theorem State.clockView_set_congr (h : t.clockView = s.clockView) {f : Field} (hf : f ∈ Reg.bases) (i v : Nat) :
    (t.set f i v).clockView = (s.set f i v).clockView := by
  refine State.clockView_of_get _ (fun g hg j => ?_) (congrArg ClockView.power h) (congrArg ClockView.ticks h)
    (congrArg ClockView.alive h)
  have kept := State.get_of_clockView h g hg j
  by_cases hid : f.id = g.id
  · obtain rfl := (by decide : ∀ f ∈ Reg.bases, ∀ g ∈ Reg.bases, f.id = g.id → f = g) f hf g hg hid
    by_cases hi : i = j
    · subst hi
      rw [State.get_set_same, State.get_set_same]
    · rw [State.get_set_index _ _ hi, State.get_set_index _ _ hi, kept]
  · rw [State.get_set_other _ hid, State.get_set_other _ hid, kept]

theorem State.clockView_moveTb (h : t.clockView = s.clockView) (n ns k : Nat) :
    (t.moveTb n ns k).clockView = (s.moveTb n ns k).clockView := by
  have read : ∀ f ∈ Reg.bases, t.get f n = s.get f n := fun f hf => State.get_of_clockView h f hf n
  have rate : t.rate16 n = s.rate16 n := by
    rw [State.rate16, State.rate16, State.getS_of_get (read _ (by simp [Reg.bases])), read _ (by simp [Reg.bases])]
  have power : t.power = s.power := congrArg ClockView.power h
  simp only [State.moveTb, State.set_power, rate, power, read Reg.TB_TIME_NS (by simp [Reg.bases]),
    read Reg.TB_FRAC_FRAC (by simp [Reg.bases])]
  generalize s.power.tbRest.put _ _ _ = rest
  have written (a b : Nat) := State.clockView_set_congr (f := Reg.TB_FRAC_FRAC)
    (State.clockView_set_congr (f := Reg.TB_TIME_NS) h (by simp [Reg.bases]) n a) (by simp [Reg.bases]) n b
  exact congrArg (fun v : ClockView => { v with power := { s.power with tbRest := rest } }) (written _ _)

/-- The bases that run with the clock move alike, one after another. -/
theorem State.clockView_moveTbs (h : t.clockView = s.clockView) (l : List Nat) (n : Nat) :
    (l.foldl (fun s b => s.moveTb b 8 n) t).clockView = (l.foldl (fun s b => s.moveTb b 8 n) s).clockView := by
  induction l generalizing s t with
  | nil => exact h
  | cons b l ih => exact ih (State.clockView_moveTb h b 8 n)

/-- The bases move alike in two states that differ in nothing on which they rest. -/
theorem State.clockView_advance (h : t.clockView = s.clockView) (n : Nat) :
    (t.advance n).clockView = (s.advance n).clockView := by
  have branch (b : Bool) {t t' s s' : State} (h : t.clockView = s.clockView) (h' : t'.clockView = s'.clockView) :
      (if b then t else t').clockView = (if b then s else s').clockView := by cases b <;> assumption
  have ended (s : State) (n : Nat) : (if s.alive then s.yardClocks n else s).clockView = s.clockView :=
    (branch s.alive (s.clockView_yardClocks n) rfl).trans (by rw [ite_self])
  have power : t.power = s.power := congrArg ClockView.power h
  have ticks : t.ticks = s.ticks := congrArg ClockView.ticks h
  have safe : t.safeTicks n = s.safeTicks n := by rw [State.safeTicks, ticks]; rfl
  unfold State.advance
  extract_lets t1 t2 onT t3 s1 s2 onS s3
  have tb6 : t1.clockView = s1.clockView := by
    simp only [t1, s1, power, safe]
    exact branch _ h (State.clockView_moveTb h 6 25 _)
  have ticked : t2.clockView = s2.clockView :=
    congrArg (fun v : ClockView => { v with ticks := v.ticks + n }) tb6
  have on : onT = onS := congrArg (fun v : ClockView => v.alive || v.power.held == some ResetLetter.d) ticked
  have moved : t3.clockView = s3.clockView := by
    simp only [t3, s3, on]
    exact branch _ (State.clockView_moveTbs ticked _ n) ticked
  exact (ended t3 _).trans (moved.trans (ended s3 _).symm)

end Sys2Proof.Machine
end

section
/-!
Steps of a time base: what its functions do of one leaves every other base alone (R572, R573, R584, R589).
-/
namespace Sys2Proof.Machine

variable (s : State)

/-- The register fields that a base's functions write when it steps, and the state of the base. -/
def Reg.followed : List Field := [Reg.TRIG_SKIP_COUNT, Reg.TB_STATE_STATE]

/-- As far as the registers and the clock go, `t` differs from `s` at most in what the functions of a time base write
when it steps or changes its state, and in events, none of which is lost. -/
structure State.FollowFrame (s t : State) : Prop where
  get : ∀ f i, Reg.raised f = false → (∀ g ∈ Reg.followed, g.id ≠ f.id) → t.get f i = s.get f i
  pends : s.PendKept t
  ticks : t.ticks = s.ticks

theorem State.FollowFrame.refl : s.FollowFrame s := ⟨fun _ _ _ _ => rfl, .refl s, rfl⟩

variable {s} in
theorem State.FollowFrame.trans {t u : State} (h : s.FollowFrame t) (h' : t.FollowFrame u) : s.FollowFrame u where
  get f i hr hf := (h'.get f i hr hf).trans (h.get f i hr hf)
  pends := h.pends.trans h'.pends
  ticks := h'.ticks.trans h.ticks

variable {s} in
theorem State.FollowFrame.tb {t : State} (h : s.FollowFrame t) (n : Nat) : t.tb n = s.tb n := h.get _ n rfl (by decide)

variable {s} in
theorem State.FollowFrame.flag {t : State} (h : s.FollowFrame t) {f : Field} (hr : Reg.raised f = false)
    (hf : ∀ g ∈ Reg.followed, g.id ≠ f.id) (i : Nat) : t.flag f i = s.flag f i :=
  State.flag_of_get (h.get f i hr hf)

theorem State.followFrame_set {f : Field} (hf : f ∈ Reg.followed) (i v : Nat) : s.FollowFrame (s.set f i v) where
  get _ _ _ hg := s.get_set_other (hg f hf) _ _ _
  pends := s.pendKept_set (fun _ hg => (by decide : ∀ f ∈ Reg.followed, ∀ g ∈ Reg.pends, f.id ≠ g.id) f hf _ hg) _ _
  ticks := rfl

theorem State.followFrame_raise (n : Nat) : s.FollowFrame (s.raise n) where
  get _ _ hr _ := s.get_raise hr n _
  pends := s.pendKept_raise n
  ticks := s.raise_ticks n

theorem State.followFrame_onTime (f : TimeState → TimeState) : s.FollowFrame (s.onTime f) :=
  ⟨fun _ _ _ _ => rfl, .of_get fun _ _ _ => rfl, rfl⟩

theorem State.followFrame_withYard (f : YarderState → YarderState) : s.FollowFrame (s.withYard f) :=
  ⟨fun _ _ _ _ => rfl, .of_get fun _ _ _ => rfl, rfl⟩

/-! ### Its functions -/

theorem State.followFrame_trigStep (b g : Nat) : s.FollowFrame (s.trigStep b g) := by
  unfold State.trigStep
  split
  · extract_lets now start per skipped t
    have done : s.FollowFrame t := s.followFrame_onTime _
    split
    · exact done
    · exact done.trans ((t.followFrame_set (by decide) g _).trans (State.followFrame_raise _ 186))
  · exact .refl s

theorem State.followFrame_gateRestart (p : Nat) : s.FollowFrame (s.gateRestart p) := by
  unfold State.gateRestart
  split
  · exact s.followFrame_onTime _
  · exact .refl s

/-- A step of a base is a write of the base, and what its functions do of it. -/
theorem State.followFrame_stepTb (n : Nat) (d : Int) :
    (s.set Reg.TB_TIME_NS n (max 0 ((s.tb n : Int) + d)).toNat).FollowFrame (s.stepTb n d) := by
  unfold State.stepTb
  extract_lets was written t
  have triggers : written.FollowFrame t :=
    State.foldl_keeps (P := written.FollowFrame) (fun u g h => h.trans (u.followFrame_trigStep n g)) _ (.refl written)
  split
  · exact (State.foldl_keeps (P := written.FollowFrame) (fun u p h => h.trans (u.followFrame_gateRestart p)) _ triggers).trans
      (State.followFrame_withYard _ _)
  · exact triggers

theorem State.tb_stepTb_same {n : Nat} {d : Int} (hlo : 0 ≤ (s.tb n : Int) + d) (hhi : (s.tb n : Int) + d < 2 ^ 64) :
    ((s.stepTb n d).tb n : Int) = (s.tb n : Int) + d := by
  rw [(s.followFrame_stepTb n d).tb n, State.tb, State.get_set_same, show Reg.TB_TIME_NS.width = 64 from rfl]
  omega

theorem State.tb_stepTb_other {n j : Nat} (h : j ≠ n) (d : Int) : (s.stepTb n d).tb j = s.tb j :=
  ((s.followFrame_stepTb n d).tb j).trans (s.get_set_index _ h.symm _)

theorem State.get_stepTb {f : Field} (hr : Reg.raised f = false) (hf : ∀ g ∈ Reg.followed, g.id ≠ f.id)
    (ht : Reg.TB_TIME_NS.id ≠ f.id) (n : Nat) (d : Int) (i : Nat) : (s.stepTb n d).get f i = s.get f i :=
  ((s.followFrame_stepTb n d).get f i hr hf).trans (s.get_set_other ht _ _ _)

theorem State.ticks_stepTb (n : Nat) (d : Int) : (s.stepTb n d).ticks = s.ticks := (s.followFrame_stepTb n d).ticks

/-! ### Its state -/

theorem State.followFrame_setTbState (n st : Nat) : s.FollowFrame (s.setTbState n st) := by
  unfold State.setTbState
  split
  · exact .refl s
  · exact (s.followFrame_set (by decide) n st).trans (State.followFrame_raise _ 178)

theorem State.followFrame_tbFollow (n : Nat) : s.FollowFrame (s.tbFollow n) := by
  unfold State.tbFollow
  split
  · exact s.followFrame_setTbState n _
  · exact .refl s

@[simp] theorem State.time_tbFollow (n : Nat) : (s.tbFollow n).time = s.time := by
  unfold State.tbFollow State.setTbState
  split
  · split
    · rfl
    · rw [State.raise_time, State.set_time]
  · rfl

theorem State.state_setTbState (n : Nat) {st : Nat} (h : st < 4) : (s.setTbState n st).get Reg.TB_STATE_STATE n = st := by
  unfold State.setTbState
  split
  · assumption
  · rw [State.get_raise _ rfl, State.get_set_same]
    exact Nat.mod_eq_of_lt h

/-- A base with a pending step is in HOLDOVER (R572). -/
theorem State.state_tbFollow_pending {n : Nat} (hn : steps n = true) (h : s.flag Reg.TB_STATE_STEP_PENDING n = true) :
    (s.tbFollow n).get Reg.TB_STATE_STATE n = 3 := by
  rw [State.tbFollow, if_pos hn, State.tbStateOf, if_pos h]
  exact s.state_setTbState n (by decide)

/-! ### The rows -/

theorem exec_tbCorrection (b : Fin 8) (d : Int) (s : State) :
    exec (.tbCorrection b d) s = s.run fun s => s.tbCorrect b d := rfl

theorem exec_stepApply (b : Fin 8) (s : State) : exec (.stepApply b) s = s.run fun s => s.applyStep b := rfl

theorem exec_tbSnap (m : Master) (b o : Fin 8) (s : State) : exec (.tbSnap m b o) s =
    s.run fun s => if m = .ranger then (s.tbSnap b o).answer .done else s.answer .busError := rfl

/-- The routes of an event are the same in the state in which it is raised. -/
theorem State.signalled_raise_of_get {s u : State} {n : Nat}
    (he : u.get Reg.EV_ROUTE_MSIX_EN n = s.get Reg.EV_ROUTE_MSIX_EN n)
    (hm : u.get Reg.EV_ROUTE_CORE_MASK n = s.get Reg.EV_ROUTE_CORE_MASK n) : s.Signalled n (u.raise n) :=
  (u.signalled_raise n).of_get he hm (fun _ => rfl) fun _ => rfl

section
variable {s} {b : Fin 8} (ha : s.alive = true)
include ha

theorem exec_tbCorrection_ignored (hb : steps b = false) (d : Int) : exec (.tbCorrection b d) s = .next s :=
  exec_eq_of_run ha (exec_tbCorrection b d s) (if_pos (by rw [hb]; rfl)) rfl

/-- A correction within the limit: no step is pending any more, a tick passes, and the base steps. -/
theorem completes_tbCorrection_within {d : Int} (hb : steps b = true) (hd : d.natAbs ≤ s.get Reg.JUMP_LIMIT_NS b)
    (hlo : 0 ≤ ((s.advance 1).tb b : Int) + d) (hhi : ((s.advance 1).tb b : Int) + d < 2 ^ 64) :
    Completes (.tbCorrection b d) s fun t => (t.tb b : Int) = ((s.advance 1).tb b : Int) + d ∧
      t.flag Reg.TB_STATE_STEP_PENDING b = false ∧ t.ticks = s.ticks + 1 ∧ ∀ j, j ≠ b.val → t.tb j = (s.advance 1).tb j := by
  generalize hu : (s.setFlag Reg.TB_STATE_STEP_PENDING b false).onTime (fun t =>
    { t with accept := t.accept.put false b false }) = u
  have effect : s.tbCorrect b d = ((u.advance 1).stepTb b d).tbFollow b := by
    rw [State.tbCorrect, if_neg (by simp [hb]), if_pos hd, ← hu]
  have clock : (u.advance 1).clockView = (s.advance 1).clockView := by
    refine State.clockView_advance ?_ 1
    rw [← hu]
    exact s.clockView_set (f := Reg.TB_STATE_STEP_PENDING) (by decide) b _
  have bases : ∀ j, (u.advance 1).tb j = (s.advance 1).tb j := State.tb_of_clockView clock
  have follow := ((u.advance 1).stepTb b d).followFrame_tbFollow b
  refine completes_of_effect ha (exec_tbCorrection b d s) effect ⟨?_, ?_, ?_, fun j hj => ?_⟩
  · refine (congrArg Nat.cast (follow.tb b)).trans ?_
    rw [← bases b] at hlo hhi ⊢
    exact State.tb_stepTb_same _ hlo hhi
  · refine (follow.flag rfl (by decide) b).trans ((State.flag_of_get ?_).trans (s.flag_setFlag_same (by decide) b false))
    rw [State.get_stepTb _ rfl (by decide) (by decide), State.get_advance _ rfl, ← hu]; rfl
  · refine follow.ticks.trans ?_
    rw [State.ticks_stepTb, State.ticks_advance, ← hu]; rfl
  · exact (follow.tb j).trans ((State.tb_stepTb_other _ hj d).trans (bases j))

/-- A correction beyond the limit is held pending. -/
theorem completes_tbCorrection_beyond {d : Int} (hb : steps b = true) (hd : s.get Reg.JUMP_LIMIT_NS b < d.natAbs)
    (hlo : -(2 ^ 63) ≤ d) (hhi : d < 2 ^ 63) :
    Completes (.tbCorrection b d) s fun t => t.getS Reg.PENDING_STEP_NS b = d ∧ t.flag Reg.TB_STATE_STEP_PENDING b = true ∧
      (∀ j, t.tb j = s.tb j) ∧ t.ticks = s.ticks ∧
      t.get Reg.TB_COUNT_STEPS_REFUSED b = min (s.get Reg.TB_COUNT_STEPS_REFUSED b + 1) 0xFFFF ∧
      t.get Reg.TB_STATE_STATE b = 3 ∧ (s.flag Reg.TB_STATE_STEP_PENDING b = false → s.Signalled 176 t) := by
  generalize hr : s.raiseIf (!s.flag Reg.TB_STATE_STEP_PENDING b) 176 = r
  generalize hu : (((r.count Reg.TB_COUNT_STEPS_REFUSED b 1).setS Reg.PENDING_STEP_NS b d).setFlag
    Reg.TB_STATE_STEP_PENDING b true) = u
  have effect : s.tbCorrect b d = u.tbFollow b := by
    rw [State.tbCorrect, if_neg (by simp [hb]), if_neg (by omega), ← hu, ← hr]
  have raised : ∀ f i, Reg.raised f = false → r.get f i = s.get f i := fun f i hf => by rw [← hr, s.get_raiseIf hf]
  have held : u.flag Reg.TB_STATE_STEP_PENDING b = true := by rw [← hu, State.flag_setFlag_same _ (by decide)]
  have other : ∀ f i, Reg.TB_COUNT_STEPS_REFUSED.id ≠ f.id → Reg.PENDING_STEP_NS.id ≠ f.id →
      Reg.TB_STATE_STEP_PENDING.id ≠ f.id → u.get f i = r.get f i := fun f i h1 h2 h3 => by
    rw [← hu, State.get_setFlag_other _ h3, State.setS, State.get_set_other _ h2, State.get_count_other _ h1]
  have follow := u.followFrame_tbFollow b
  refine completes_of_effect ha (exec_tbCorrection b d s) effect
    ⟨?_, (follow.flag rfl (by decide) b).trans held, fun j => ?_, ?_, ?_, u.state_tbFollow_pending hb held, fun h => ?_⟩
  · refine (State.getS_of_get (follow.get _ b rfl (by decide))).trans ?_
    rw [← hu, State.getS_of_get (State.get_setFlag_other _ (by decide) _ _ _)]
    have width : Reg.PENDING_STEP_NS.width = 64 := rfl
    exact State.getS_setS_same _ (by rw [width]; omega) (by rw [width]; omega) b
  · exact (follow.tb j).trans ((other _ j (by decide) (by decide) (by decide)).trans (raised _ j rfl))
  · refine follow.ticks.trans ?_
    rw [← hu, ← hr]
    exact s.raiseIf_ticks _ _
  · refine (follow.get _ b rfl (by decide)).trans ?_
    rw [← hu, State.get_setFlag_other _ (by decide), State.setS, State.get_set_other _ (by decide), State.get_count_same,
      raised _ _ rfl]; rfl
  · have shown : s.Signalled 176 r := by
      rw [← hr, h, Bool.not_false, State.raiseIf, if_pos rfl]
      exact s.signalled_raise 176
    refine (shown.kept (.of_get fun f hf i => ?_)).kept follow.pends
    have apart : ∀ f ∈ Reg.pends, Reg.TB_COUNT_STEPS_REFUSED.id ≠ f.id ∧ Reg.PENDING_STEP_NS.id ≠ f.id ∧
      Reg.TB_STATE_STEP_PENDING.id ≠ f.id := by decide
    obtain ⟨h1, h2, h3⟩ := apart f hf
    exact other f i h1 h2 h3

theorem exec_stepApply_idle (h : s.time.accept.get false b = false ∨ s.flag Reg.TB_STATE_STEP_PENDING b = false) :
    exec (.stepApply b) s = .next s := by
  refine exec_eq_of_run ha (exec_stepApply b s) (if_neg ?_) rfl
  obtain h | h := h <;> simp [h]

/-- An accepted step: a tick passes, the base steps by what was pending, and no step is pending or accepted any more. -/
theorem completes_stepApply {d : Int} (hacc : s.time.accept.get false b = true)
    (hp : s.flag Reg.TB_STATE_STEP_PENDING b = true) (hd : d = s.getS Reg.PENDING_STEP_NS b)
    (hlo : 0 ≤ ((s.advance 1).tb b : Int) + d) (hhi : ((s.advance 1).tb b : Int) + d < 2 ^ 64) :
    Completes (.stepApply b) s fun t => (t.tb b : Int) = ((s.advance 1).tb b : Int) + d ∧
      t.flag Reg.TB_STATE_STEP_PENDING b = false ∧ t.time.accept.get false b = false ∧
      t.get Reg.TB_COUNT_STEPS_APPLIED b = min (s.get Reg.TB_COUNT_STEPS_APPLIED b + 1) 0xFFFF ∧ s.Signalled 177 t := by
  generalize hu : (s.advance 1).stepTb b d = u
  generalize hw : (u.onTime fun t => { t with accept := t.accept.put false b false }).setFlag
    Reg.TB_STATE_STEP_PENDING b false = w
  generalize hc : w.count Reg.TB_COUNT_STEPS_APPLIED b 1 = c
  have effect : s.applyStep b = (c.raise 177).tbFollow b := by
    rw [State.applyStep, if_pos (by rw [hacc, hp]; rfl), ← hd, ← hc, ← hw, ← hu]
  have stepped : ∀ f i, Reg.clocked f = false → (∀ g ∈ Reg.followed, g.id ≠ f.id) → Reg.TB_TIME_NS.id ≠ f.id →
      u.get f i = s.get f i := fun f i h1 h2 h3 => by
    rw [← hu, State.get_stepTb _ (Reg.raised_of_clocked h1) h2 h3, State.get_advance _ h1]
  have other : ∀ f i, Reg.TB_STATE_STEP_PENDING.id ≠ f.id → Reg.TB_COUNT_STEPS_APPLIED.id ≠ f.id →
      c.get f i = u.get f i := fun f i h1 h2 => by
    rw [← hc, State.get_count_other _ h2, ← hw, State.get_setFlag_other _ h1]; rfl
  have follow := (c.followFrame_raise 177).trans ((c.raise 177).followFrame_tbFollow b)
  have shown : s.Signalled 177 (c.raise 177) := State.signalled_raise_of_get
    ((other _ _ (by decide) (by decide)).trans (stepped _ _ rfl (by decide) (by decide)))
    ((other _ _ (by decide) (by decide)).trans (stepped _ _ rfl (by decide) (by decide)))
  refine completes_of_effect ha (exec_stepApply b s) effect
    ⟨?_, ?_, ?_, ?_, shown.kept ((c.raise 177).followFrame_tbFollow b).pends⟩
  · refine (congrArg Nat.cast ((follow.tb b).trans (other _ _ (by decide) (by decide)))).trans ?_
    rw [← hu]
    exact State.tb_stepTb_same _ hlo hhi
  · refine (follow.flag rfl (by decide) b).trans ?_
    rw [← hc, State.flag_of_get (State.get_count_other _ (by decide) _ _ _), ← hw, State.flag_setFlag_same _ (by decide)]
  · refine (congrArg (fun x : TimeState => x.accept.get false b) ((State.time_tbFollow _ _).trans (c.raise_time 177))).trans ?_
    rw [← hc, ← hw]
    exact Tab.get_put_same _ _ _ _
  · refine (follow.get _ b rfl (by decide)).trans ?_
    rw [← hc, State.get_count_same, ← hw, State.get_setFlag_other _ (by decide)]
    exact congrArg (fun n => min (n + 1) 0xFFFF) (stepped _ b rfl (by decide) (by decide))

theorem exec_tbSnap_eq (m : Master) (o : Fin 8) : exec (.tbSnap m b o) s = .next (if m = .ranger then
    ((s.set Reg.SNAP_SELF_NS b (s.tb b)).set Reg.SNAP_OTHER_NS b (s.tb o)).answer .done else s.answer .busError) :=
  exec_eq_of_run ha (exec_tbSnap m b o s) rfl (by split <;> rfl)

end

end Sys2Proof.Machine
end

section
/-!
The PTP clocks of the time bases and their masters (R578 to R580).
-/
namespace Sys2Proof.Machine

variable (s : State)

theorem State.ptpOf_setPtp_same (n : Nat) (i : Option PtpInst) : (s.setPtp n i).ptpOf n = i := Tab.get_put_same _ _ _ _

theorem State.ptpOf_of_time {s t : State} (h : t.time = s.time) (n : Nat) : t.ptpOf n = s.ptpOf n :=
  congrArg (fun x : TimeState => x.ptp.get none n) h

/-- Neither an event nor the state of a base reaches the PTP clocks. -/
theorem State.ptpOf_tbFollow_raise (n e : Nat) : ((s.raise e).tbFollow n).ptpOf n = s.ptpOf n :=
  State.ptpOf_of_time ((State.time_tbFollow _ n).trans (s.raise_time e)) n

/-- A PTP clock without a master takes the better grandmaster that an Announce names. -/
theorem State.ptpAnnounce_better {i : PtpInst} {m : PtpMsg} (hg : i.gm = none) (hr : PtpMsg.rank m < ownRank) (n port : Nat) :
    s.ptpAnnounce n i port m = ((s.setPtp n (some { i with
      gm := some m.gm, rank := PtpMsg.rank m, slave := port, heard := s.ticks, good := 0, offs := [], settling := true })).raise
        179).tbFollow n := by
  have other : (i.gm == some m.gm) = false := by rw [hg]; rfl
  have better : (decide (PtpMsg.rank m < ownRank) && (i.gm == some m.gm || (i.gm.isNone || decide (PtpMsg.rank m < i.rank)))) =
      true := by
    rw [hg, decide_eq_true hr, Option.isNone_none, Bool.true_or, Bool.or_true]; rfl
  rw [State.ptpAnnounce]
  dsimp only
  rw [if_pos better, if_neg (by rw [other]; decide)]

theorem exec_ptpMessage (p : Fin 64) (m : PtpMsg) (s : State) : exec (.ptpMessage p m) s = s.run fun s => s.ptpMessage p m := rfl

theorem exec_ptpMessageTimer (b : Fin 4) (p : Fin 64) (k : Fin 3) (s : State) :
    exec (.ptpMessageTimer b p k) s = s.run fun s => s.ptpTimer (b + 1) p k := rfl

theorem exec_announceTimeout (b : Fin 4) (s : State) : exec (.announceTimeout b) s = s.run fun s => s.ptpTimeout (b + 1) := rfl

section
variable {s} (ha : s.alive = true)
include ha

/-! ### Messages -/

theorem exec_ptpMessage_foreign {p : Fin 64} {m : PtpMsg} (h : s.ptpHolder p m.domain = none) :
    exec (.ptpMessage p m) s = .next s :=
  exec_eq_of_run ha (exec_ptpMessage p m s) (by rw [State.ptpMessage, h]) rfl

theorem exec_ptpMessage_unused {p : Fin 64} {m : PtpMsg} {n : Nat} {i : PtpInst} (h : s.ptpHolder p m.domain = some (n, i))
    (hu : i.uses m.kind = false) : exec (.ptpMessage p m) s = .next (s.count Reg.PTP_DISCARD_COUNT 0 1) :=
  exec_eq_of_run ha (exec_ptpMessage p m s) (by rw [State.ptpMessage, h]; exact if_pos (by rw [hu]; rfl)) rfl

theorem completes_ptpMessage_announce {p : Fin 64} {m : PtpMsg} {n : Nat} {i : PtpInst}
    (h : s.ptpHolder p m.domain = some (n, i)) (hk : m.kind = 11) (hg : i.gm = none) (hr : PtpMsg.rank m < ownRank) :
    Completes (.ptpMessage p m) s fun t => s.Signalled 179 t ∧ t.ptpOf n = some { i with
      gm := some m.gm, rank := PtpMsg.rank m, slave := p, heard := s.ticks, good := 0, offs := [], settling := true } := by
  have effect : s.ptpMessage p m = s.ptpAnnounce n i p m := by
    have used : i.uses m.kind = true := by rw [hk]; rfl
    rw [State.ptpMessage, h]
    dsimp only
    rw [used, if_neg (by decide), if_pos hk]
  have taken := effect.trans (s.ptpAnnounce_better hg hr n p)
  generalize some { i with
    gm := some m.gm, rank := PtpMsg.rank m, slave := p.val, heard := s.ticks, good := 0, offs := [], settling := true } = j
    at taken ⊢
  have shown : s.Signalled 179 ((s.setPtp n j).raise 179) := State.signalled_raise_of_get rfl rfl
  exact completes_of_effect ha (exec_ptpMessage p m s) taken ⟨shown.kept (State.followFrame_tbFollow _ n).pends,
    (State.ptpOf_tbFollow_raise _ n 179).trans (s.ptpOf_setPtp_same n j)⟩

/-! ### Timers -/

section
variable {b : Fin 4} {i : PtpInst}

theorem exec_ptpMessageTimer_idle (h : s.ptpOf (b + 1) = none) (p : Fin 64) (k : Fin 3) :
    exec (.ptpMessageTimer b p k) s = .next s :=
  exec_eq_of_run ha (exec_ptpMessageTimer b p k s) (by rw [State.ptpTimer, h]) rfl

/-- An interval of a port without a slave's role ends: Sync and Follow_Up go out. -/
theorem completes_ptpMessageTimer_sync {p : Fin 64} (h : s.ptpOf (b + 1) = some i) (hp : i.ports.getLsbD p = true)
    (hg : i.gm = none) :
    Completes (.ptpMessageTimer b p 0) s fun t => t.outbox.take 2 = [.ptp (b + 1) p 8, .ptp (b + 1) p 0] ∧
      t.ticks = max s.ticks (i.sent.get 0 (4 * p) + msTicks (if i.profile = 0 then 125 else 1000)) := by
  have member : bitOf i.ports.toNat p = true := (bitOf_eq_testBit _ _).trans hp
  generalize hw : s.waitTill (i.sent.get 0 (4 * p) + msTicks (if i.profile = 0 then 125 else 1000)) = w
  have effect : s.ptpTimer (b + 1) p 0 = ((w.setPtp (b + 1) (some { i with
      sent := i.sent.put 0 (4 * p) w.ticks })).out (.ptp (b + 1) p 0)).out (.ptp (b + 1) p 8) := by
    rw [State.ptpTimer, h, ← hw]
    exact if_neg (by simp [member, hg])
  exact completes_of_effect ha (exec_ptpMessageTimer b p 0 s) effect ⟨rfl, by rw [← State.ticks_waitTill, hw]; rfl⟩

theorem exec_announceTimeout_idle (h : s.ptpOf (b + 1) = none) : exec (.announceTimeout b) s = .next s :=
  exec_eq_of_run ha (exec_announceTimeout b s) (by rw [State.ptpTimeout, h]) rfl

theorem exec_announceTimeout_masterless (h : s.ptpOf (b + 1) = some i) (hg : i.gm = none) :
    exec (.announceTimeout b) s = .next s :=
  exec_eq_of_run ha (exec_announceTimeout b s) (by rw [State.ptpTimeout, h]; exact if_pos (by rw [hg]; rfl)) rfl

/-- The announce receipt timeout: the PTP clock has no master then, which two events tell. -/
theorem completes_announceTimeout {g : Nat} (h : s.ptpOf (b + 1) = some i) (hg : i.gm = some g) :
    Completes (.announceTimeout b) s fun t => s.Signalled 180 t ∧ s.Signalled 179 t ∧
      t.ptpOf (b + 1) = some { i with gm := none, good := 0, offs := [], settling := false } ∧
      t.ticks = max s.ticks (i.heard + msTicks (if i.profile = 0 then 3000 else 6000)) := by
  have interval : 3 * ptpInterval i.profile 1 = if i.profile = 0 then 3000 else 6000 := by
    rw [ptpInterval]; split <;> rfl
  generalize hw : s.waitTill (i.heard + msTicks (if i.profile = 0 then 3000 else 6000)) = w
  generalize hu : w.setPtp (b + 1) (some { i with gm := none, good := 0, offs := [], settling := false }) = u
  have effect : s.ptpTimeout (b + 1) = ((u.raise 180).raise 179).tbFollow (b + 1) := by
    rw [State.ptpTimeout, h, ← hu, ← hw, ← interval]
    exact if_neg (by rw [hg]; simp)
  have route : ∀ f i, Reg.clocked f = false → u.get f i = s.get f i := fun f i hf => by
    rw [← hu, ← s.get_waitTill hf, hw]; rfl
  have shown180 : s.Signalled 180 (u.raise 180) := State.signalled_raise_of_get (route _ _ rfl) (route _ _ rfl)
  have shown179 : s.Signalled 179 ((u.raise 180).raise 179) := State.signalled_raise_of_get
    ((u.get_raise rfl _ _).trans (route _ _ rfl)) ((u.get_raise rfl _ _).trans (route _ _ rfl))
  have follow := ((u.raise 180).raise 179).followFrame_tbFollow (b + 1)
  refine completes_of_effect ha (exec_announceTimeout b s) effect
    ⟨(shown180.kept (State.pendKept_raise _ 179)).kept follow.pends, shown179.kept follow.pends, ?_, ?_⟩
  · refine (State.ptpOf_tbFollow_raise _ _ 179).trans ((State.ptpOf_of_time (u.raise_time 180) _).trans ?_)
    rw [← hu]
    exact w.ptpOf_setPtp_same _ _
  · refine follow.ticks.trans ?_
    rw [State.raise_ticks, State.raise_ticks, ← hu, ← State.ticks_waitTill, hw]; rfl

end

end

end Sys2Proof.Machine
end

section
/-!
Frames that the bridge receives (R583).
-/
namespace Sys2Proof.Machine

variable (s : State)

/-! ### Queues -/

theorem State.queue_setQueue {p q p' q' : Nat} (hq : q < 8) (hq' : q' < 8) (l : List TxFrame) :
    (s.setQueue p q l).queue p' q' = if p = p' ∧ q = q' then l else s.queue p' q' := by
  refine (Tab.get_put _ _ _ _ _).trans ?_
  by_cases h : p = p' ∧ q = q'
  · rw [if_pos h, if_pos (by omega)]
  · rw [if_neg h, if_neg (by omega)]; rfl

/-- Without a gate list, a frame without a launch time joins its queue. -/
theorem State.enqueue_open {p : Nat} {f : TxFrame} (hg : (s.gate p).run = none) (hl : f.launch = none) (q : Nat) :
    s.enqueue p q f = s.setQueue p q (s.queue p q ++ [f]) := by
  have late : s.lateFrame f = false := by rw [State.lateFrame, hl]
  rw [State.enqueue, hg]
  refine (if_neg Bool.false_ne_true).trans ?_
  split
  · next empty => rw [List.isEmpty_iff.mp empty, State.dropLate, late]; rfl
  · rfl

/-- A frame for several ports joins the queue of each of them, and no other. -/
theorem State.queue_enqueues {f : TxFrame} (hl : f.launch = none) {l : List Nat} (hd : l.Nodup)
    (hg : ∀ p, (s.gate p).run = none) (p : Nat) {k : Nat} (hk : k < 8) :
    (l.foldl (fun s o => s.enqueue o 0 f) s).queue p k = if p ∈ l ∧ k = 0 then s.queue p k ++ [f] else s.queue p k := by
  induction l generalizing s with
  | nil => simp
  | cons o l ih =>
    obtain ⟨fresh, hd⟩ := List.nodup_cons.mp hd
    rw [List.foldl_cons, State.enqueue_open s (hg o) hl, ih (s.setQueue o 0 _) hd hg, State.queue_setQueue _ (by decide) hk]
    by_cases ho : o = p
    · subst ho
      by_cases h0 : k = 0
      · subst h0; simp [fresh]
      · simp [h0, Ne.symm h0]
    · simp [ho, Ne.symm ho]

variable {s} in
theorem State.bridgeDomain_of_get {t : State} {p : Nat}
    (hc : t.get Reg.PORT_STATUS_PERSONALITY p = s.get Reg.PORT_STATUS_PERSONALITY p)
    (hl : t.get Reg.PORT_STATUS_LINK_STATE p = s.get Reg.PORT_STATUS_LINK_STATE p) : t.bridgeDomain p = s.bridgeDomain p := by
  rw [State.bridgeDomain, State.link, hc, hl]; rfl

/-- The ports to which a frame with a group address goes from port `p`. -/
def State.floodPorts (s : State) (p : Nat) : List Nat :=
  (List.range 64).filter fun q => q != p && s.bridgeDomain q == s.bridgeDomain p

theorem State.mem_floodPorts {p q : Nat} (hq : q < 64) :
    q ∈ s.floodPorts p ↔ q ≠ p ∧ s.bridgeDomain q = s.bridgeDomain p := by
  simp [State.floodPorts, hq]

theorem State.nodup_floodPorts (p : Nat) : (s.floodPorts p).Nodup := List.nodup_range.filter _

/-- A frame that the bridge takes is counted, and its source address learned (R583). -/
def State.bridgeTaken (s : State) (p : Nat) (f : List Byte) : State :=
  (s.set Reg.FRAMES_IN_COUNT p (s.get Reg.FRAMES_IN_COUNT p + 1)).learn p ((f.drop 6).take 6)

theorem State.bridgeDomain_bridgeTaken (p : Nat) (f : List Byte) (q : Nat) :
    (s.bridgeTaken p f).bridgeDomain q = s.bridgeDomain q :=
  State.bridgeDomain_of_get (s.get_set_other (by decide) _ _ _) (s.get_set_other (by decide) _ _ _)

theorem State.bridgeOut_group {p : Nat} {f : List Byte} (h : bitOf (uAt f 0 1) 0 = true) : s.bridgeOut p f = s.floodPorts p :=
  if_pos h

section
variable {s} {p : Nat} {f : List Byte}

/-- An untagged group frame without a function of its own is flooded. -/
theorem State.bridgeFrame_flooded (hd : s.bridgeDomain p ≠ 0)
    (hlen : f.length + 4 ≤ clampN 1518 2048 (s.get Reg.PORT_CFG_MTU p))
    (hpause : beAt f 12 2 ≠ 0x8808) (htag : beAt f 12 2 ≠ 0x8100) (hptp : ptpIn f = none) (hneg : f.take 6 ≠ negotiationMac)
    (hsafe : s.bridgeDomain p = 2 → beAt f 12 2 ≠ 0x88B6) (hgroup : bitOf (uAt f 0 1) 0 = true) :
    s.bridgeFrame p true f =
      (s.floodPorts p).foldl (fun s o => s.enqueue o 0 ⟨f, none, none, none⟩) (s.bridgeTaken p f) := by
  have ether : etherAt f = 12 := if_neg htag
  have ports : (s.bridgeTaken p f).bridgeOut p f = s.floodPorts p := by
    rw [State.bridgeOut_group _ hgroup, State.floodPorts, State.floodPorts]
    simp only [s.bridgeDomain_bridgeTaken]
  have event : ptpEvent f = false := by rw [ptpEvent, hptp]
  have safety : ¬((s.bridgeTaken p f).bridgeDomain p = 2 ∧ beAt f (etherAt f) 2 = 0x88B6) := by
    rw [s.bridgeDomain_bridgeTaken, ether]
    exact fun ⟨h2, h⟩ => hsafe h2 h
  have plain : ¬((false || f.take 6 == negotiationMac) = true) := by simpa using hneg
  rw [State.bridgeFrame, if_neg hd, if_neg (by decide), if_neg (by omega), if_neg hpause, hptp]
  dsimp only
  rw [if_neg plain]
  refine (if_neg safety).trans ?_
  rw [event, if_neg htag, if_neg Bool.false_ne_true, ← ports]; rfl

end

theorem exec_bridgeFrame (p : Fin 64) (fcs : Bool) (f : List Byte) (s : State) :
    exec (.bridgeFrame p fcs f) s = s.run fun s => s.bridgeFrame p fcs f := rfl

section
variable {s} {p : Fin 64} (ha : s.alive = true)
include ha

theorem exec_bridgeFrame_outside (h : s.bridgeDomain p = 0) (fcs : Bool) (f : List Byte) :
    exec (.bridgeFrame p fcs f) s = .next s :=
  exec_eq_of_run ha (exec_bridgeFrame p fcs f s) (if_pos h) rfl

theorem exec_bridgeFrame_wrongFcs (h : s.bridgeDomain p ≠ 0) (f : List Byte) :
    exec (.bridgeFrame p false f) s = .next (s.count Reg.FCS_ERR_COUNT p 1) :=
  exec_eq_of_run ha (exec_bridgeFrame p false f s) ((if_neg h).trans (if_pos rfl)) rfl

theorem completes_bridgeFrame_flooded {f : List Byte} (hd : s.bridgeDomain p ≠ 0)
    (hlen : f.length + 4 ≤ clampN 1518 2048 (s.get Reg.PORT_CFG_MTU p))
    (hpause : beAt f 12 2 ≠ 0x8808) (htag : beAt f 12 2 ≠ 0x8100) (hptp : ptpIn f = none) (hneg : f.take 6 ≠ negotiationMac)
    (hsafe : s.bridgeDomain p = 2 → beAt f 12 2 ≠ 0x88B6) (hgroup : bitOf (uAt f 0 1) 0 = true)
    (hg : ∀ q, (s.gate q).run = none) :
    Completes (.bridgeFrame p true f) s fun t => ∀ q < 64,
      t.queue q 0 = (if q ≠ p.val ∧ s.bridgeDomain q = s.bridgeDomain p then s.queue q 0 ++ [⟨f, none, none, none⟩]
        else s.queue q 0) ∧
      ∀ k, 0 < k → k < 8 → t.queue q k = s.queue q k := by
  have queued (q : Nat) {k : Nat} (hk : k < 8) := (s.bridgeTaken p f).queue_enqueues (f := ⟨f, none, none, none⟩) rfl
    (s.nodup_floodPorts p) hg q hk
  refine completes_of_effect ha (exec_bridgeFrame p true f s)
    (State.bridgeFrame_flooded hd hlen hpause htag hptp hneg hsafe hgroup) fun q hq => ⟨?_, fun k h0 hk => ?_⟩
  · refine (queued q (by decide)).trans ?_
    simp only [s.mem_floodPorts hq, and_true]; rfl
  · exact (queued q hk).trans (if_neg fun h => by omega)

end

end Sys2Proof.Machine
end

section
/-!
Frames that leave a port (R581, R585 to R587): what follows a frame's start takes back neither what was sent nor its count.
-/
namespace Sys2Proof.Machine

variable (s : State)

/-- Everything that `s` has sent is sent in `t`, and the frames that left are counted the same. -/
structure State.SentFrame (s t : State) : Prop where
  sent : s.outbox ⊆ t.outbox
  counted : ∀ p, t.get Reg.FRAMES_OUT_COUNT p = s.get Reg.FRAMES_OUT_COUNT p

theorem State.SentFrame.refl : s.SentFrame s := ⟨List.Subset.refl _, fun _ => rfl⟩

variable {s} in
theorem State.SentFrame.trans {t u : State} (h : s.SentFrame t) (h' : t.SentFrame u) : s.SentFrame u :=
  ⟨List.Subset.trans h.sent h'.sent, fun p => (h'.counted p).trans (h.counted p)⟩

theorem State.sentFrame_set {f : Field} (hf : f.id ≠ Reg.FRAMES_OUT_COUNT.id) (i v : Nat) : s.SentFrame (s.set f i v) :=
  ⟨List.Subset.refl _, fun _ => s.get_set_other hf _ _ _⟩

theorem State.sentFrame_count {f : Field} (hf : f.id ≠ Reg.FRAMES_OUT_COUNT.id) (i n : Nat) : s.SentFrame (s.count f i n) :=
  s.sentFrame_set hf _ _

theorem State.sentFrame_onTime (f : TimeState → TimeState) : s.SentFrame (s.onTime f) :=
  ⟨List.Subset.refl _, fun _ => rfl⟩

theorem State.sentFrame_setQueue (p q : Nat) (l : List TxFrame) : s.SentFrame (s.setQueue p q l) := s.sentFrame_onTime _

theorem State.sentFrame_out (o : Out) : s.SentFrame (s.out o) := ⟨List.subset_cons_self _ _, fun _ => rfl⟩

theorem State.sentFrame_msix (v : Nat) : s.SentFrame (s.msix v) := by
  unfold State.msix
  split
  · split
    · exact ⟨List.Subset.refl _, fun _ => rfl⟩
    · exact s.sentFrame_out _
  · exact .refl s

theorem State.sentFrame_raiseHost (n : Nat) : s.SentFrame (s.raiseHost n) := by
  unfold State.raiseHost
  split
  · split
    · exact s.sentFrame_count (by decide) _ _
    · exact (s.sentFrame_set (by decide) _ _).trans (State.sentFrame_msix _ _)
  · exact .refl s

theorem State.sentFrame_raiseCore (n c : Nat) : s.SentFrame (s.raiseCore n c) := by
  unfold State.raiseCore
  split
  · split
    · exact s.sentFrame_count (by decide) _ _
    · exact (s.sentFrame_set (by decide) _ _).trans (State.sentFrame_out _ _)
  · exact .refl s

theorem State.sentFrame_outIf (b : Bool) (o : Out) : s.SentFrame (if b then s.out o else s) := by
  cases b
  · exact .refl s
  · exact s.sentFrame_out o

theorem State.sentFrame_raise (n : Nat) : s.SentFrame (s.raise n) :=
  (((s.sentFrame_raiseHost n).trans (State.foldl_keeps (P := (s.raiseHost n).SentFrame)
    (fun t c h => h.trans (t.sentFrame_raiseCore n c)) _ (.refl _))).trans (State.sentFrame_outIf _ _ _)).trans
    (State.sentFrame_outIf _ _ _)

/-! ### Queues and rings -/

theorem State.sentFrame_ringDone (r : Option Nat) : s.SentFrame (s.ringDone r) := by
  unfold State.ringDone
  split
  · exact .refl s
  · exact (s.sentFrame_set (by decide) _ _).trans (State.sentFrame_onTime _ _)

theorem State.sentFrame_dropLate (p q : Nat) (l : List TxFrame) : s.SentFrame (s.dropLate p q l) := by
  induction l generalizing s with
  | nil => exact s.sentFrame_setQueue p q []
  | cons f l ih =>
    unfold State.dropLate
    split
    · exact (((s.sentFrame_count (by decide) p 1).trans (State.sentFrame_raise _ 182)).trans
        (State.sentFrame_ringDone _ f.ring)).trans (ih _)
    · exact s.sentFrame_setQueue p q _

theorem State.sentFrame_enqueue (p q : Nat) (f : TxFrame) : s.SentFrame (s.enqueue p q f) := by
  unfold State.enqueue
  extract_lets never
  split
  · exact ((s.sentFrame_count (by decide) p 1).trans (State.sentFrame_raise _ 183)).trans (State.sentFrame_ringDone _ f.ring)
  · split
    · exact s.sentFrame_dropLate p q [f]
    · exact s.sentFrame_setQueue p q _

theorem State.sentFrame_ringTake (r : Nat) : s.SentFrame (s.ringTake r) := by
  unfold State.ringTake
  extract_lets head d len p ctrl at0 bad
  split
  · exact (s.sentFrame_count (by decide) r 1).trans (State.sentFrame_ringDone _ (some r))
  · exact (s.sentFrame_onTime _).trans (State.sentFrame_enqueue _ p _ _)

theorem State.sentFrame_ringGo (r n : Nat) : s.SentFrame (s.ringGo r n) := by
  induction n generalizing s with
  | zero => exact .refl s
  | succ n ih =>
    unfold State.ringGo
    split
    · exact .refl s
    · exact (s.sentFrame_ringTake r).trans (ih _)

theorem State.sentFrame_ringsGo : s.SentFrame s.ringsGo :=
  State.foldl_keeps (P := s.SentFrame) (fun t r h => h.trans (t.sentFrame_ringGo r 4096)) _ (.refl s)

/-! ### The rows -/

/-- An unstamped frame at the head of the queue that starts first is sent as it is, and counted; the rest sends more at most. -/
theorem State.launch_spec {p q w : Nat} {f : TxFrame} {r : List TxFrame} (hn : s.nextQueue p = some (q, w))
    (hq : s.queue p q = f :: r) (hf : f.stamp = none) :
    (((s.waitTb 0 w).out (.frame p f.bytes)).set Reg.FRAMES_OUT_COUNT p
      ((s.waitTb 0 w).get Reg.FRAMES_OUT_COUNT p + 1)).SentFrame (s.launch p) := by
  rw [State.launch, hn]
  dsimp only
  rw [hq]
  dsimp only
  rw [hf]
  exact (((State.sentFrame_onTime _ _).trans (State.sentFrame_ringDone _ f.ring)).trans
    (State.sentFrame_dropLate _ p q r)).trans (State.sentFrame_ringsGo _)

theorem exec_frameLaunch (p : Fin 64) (s : State) : exec (.frameLaunch p) s = s.run fun s => s.launch p := rfl

theorem exec_txrTailWrite (m : Master) (r : Fin 8) (v : BitVec 12) (s : State) :
    exec (.txrTailWrite m r v) s = s.run fun s => s.tailWrite m r v.toNat := rfl

/-- A ring without a descriptor ahead of its head rests. -/
theorem State.ringGo_empty {r : Nat} (h : s.get Reg.TXR_IDX_TXR_HEAD r = s.get Reg.TXR_IDX_TXR_TAIL r) (n : Nat) :
    s.ringGo r n = s := by
  cases n with
  | zero => rfl
  | succ n => exact if_pos (by rw [h, beq_self_eq_true, Bool.or_true])

/-- A tail at the head leaves the ring empty. -/
theorem State.ringGo_tailAtHead {r v : Nat} (n : Nat)
    (h : s.get Reg.TXR_IDX_TXR_HEAD r = v % clampN 16 4096 (s.get Reg.TXR_CTRL_TXR_SIZE r)) :
    (s.set Reg.TXR_IDX_TXR_TAIL r (v % clampN 16 4096 (s.get Reg.TXR_CTRL_TXR_SIZE r))).ringGo r n =
      s.set Reg.TXR_IDX_TXR_TAIL r (v % clampN 16 4096 (s.get Reg.TXR_CTRL_TXR_SIZE r)) := by
  refine State.ringGo_empty _ ?_ n
  have size : 0 < clampN 16 4096 (s.get Reg.TXR_CTRL_TXR_SIZE r) ∧ clampN 16 4096 (s.get Reg.TXR_CTRL_TXR_SIZE r) ≤ 4096 := by
    unfold clampN
    split
    · omega
    · split <;> omega
  rw [State.get_set_other _ (by decide), State.get_set_same, h, show Reg.TXR_IDX_TXR_TAIL.width = 12 from rfl]
  exact (Nat.mod_eq_of_lt (Nat.lt_of_lt_of_le (Nat.mod_lt _ size.1) size.2)).symm

section
variable {s} (ha : s.alive = true)
include ha

theorem exec_frameLaunch_idle {p : Fin 64} (h : s.nextQueue p = none) : exec (.frameLaunch p) s = .next s :=
  exec_eq_of_run ha (exec_frameLaunch p s) (by rw [State.launch, h]) rfl

theorem completes_frameLaunch {p : Fin 64} {q w : Nat} {f : TxFrame} {r : List TxFrame} (hn : s.nextQueue p = some (q, w))
    (hq : s.queue p q = f :: r) (hf : f.stamp = none) :
    Completes (.frameLaunch p) s fun t =>
      Out.frame p f.bytes ∈ t.outbox ∧ t.get Reg.FRAMES_OUT_COUNT p = (s.get Reg.FRAMES_OUT_COUNT p + 1) % 2 ^ 64 := by
  obtain ⟨sent, counted⟩ := s.launch_spec hn hq hf
  refine completes_of_effect ha (exec_frameLaunch p s) rfl ⟨sent List.mem_cons_self, (counted p).trans ?_⟩
  rw [State.get_set_same, State.get_waitTb _ rfl]; rfl

theorem exec_txrTailWrite_foreign {m : Master} (hm : m = .pcie ∨ ∃ k, m = .jce k) (r : Fin 8) (v : BitVec 12) :
    exec (.txrTailWrite m r v) s = .next (s.answer .busError) := by
  obtain rfl | ⟨k, rfl⟩ := hm <;> exact exec_eq_of_run ha (exec_txrTailWrite _ r v s) rfl rfl

theorem exec_txrTailWrite_empty {m : Master} {r : Fin 8} {v : BitVec 12} (hm : m = .ranger ∨ ∃ k, m = .core k)
    (h : s.get Reg.TXR_IDX_TXR_HEAD r = v.toNat % clampN 16 4096 (s.get Reg.TXR_CTRL_TXR_SIZE r)) :
    exec (.txrTailWrite m r v) s =
      .next ((s.set Reg.TXR_IDX_TXR_TAIL r (v.toNat % clampN 16 4096 (s.get Reg.TXR_CTRL_TXR_SIZE r))).answer .done) := by
  have rests := congrArg (State.answer · .done) (s.ringGo_tailAtHead 4096 h)
  obtain rfl | ⟨k, rfl⟩ := hm <;> exact exec_eq_of_run ha (exec_txrTailWrite _ r v s) rests rfl

end

end Sys2Proof.Machine
end

section
/-!
Gate control lists (R584), captures and triggers (R588, R589).
-/
namespace Sys2Proof.Machine

variable (s : State)

/-! ### Gates -/

@[simp] theorem State.gate_onGate_same (p : Nat) (f : GateState → GateState) : (s.onGate p f).gate p = f (s.gate p) :=
  Tab.get_put_same _ _ _ _

theorem State.gate_of_time {s t : State} (h : t.time = s.time) (p : Nat) : t.gate p = s.gate p :=
  congrArg (fun x : TimeState => x.gates.get GateState.reset p) h

/-- The entry that begins shows, and its end is the next instant of the list. -/
theorem State.gate_gateEnter (p i mask len n : Nat) : (s.gateEnter p i mask len n).gate p =
    { s.gate p with next := (i + 1) % max 1 n, nextAt := (s.gate p).nextAt + len } := State.gate_onGate_same _ p _

theorem State.entry_gateEnter (p i mask len n : Nat) :
    (s.gateEnter p i mask len n).get Reg.GATE_STATUS_ENTRY p = i % 2 ^ Reg.GATE_STATUS_ENTRY.width :=
  State.get_set_same _ Reg.GATE_STATUS_ENTRY p i

theorem State.gates_gateEnter {mask : Nat} (h : mask < 256) (p i len n : Nat) :
    (s.gateEnter p i mask len n).get Reg.GATE_STATUS_GATES p = mask := by
  refine (State.get_set_other _ (f := Reg.GATE_STATUS_ENTRY) (by decide) p p i).trans ?_
  rw [State.get_set_same]
  exact Nat.mod_eq_of_lt h

theorem State.get_gateEnter {f : Field} (hg : Reg.GATE_STATUS_GATES.id ≠ f.id) (he : Reg.GATE_STATUS_ENTRY.id ≠ f.id)
    (p i mask len n j : Nat) : (s.gateEnter p i mask len n).get f j = s.get f j :=
  (State.get_set_other _ he _ _ _).trans (s.get_set_other hg _ _ _)

/-- A list that takes effect, before its event. -/
def State.gateLoaded (s : State) (p : Nat) (l : GateList) (t : Nat) : State :=
  let s := (s.onGate p fun _ => { run := some l, next := 0, nextAt := t, waiting := none }).setFlag
    Reg.GATE_STATUS_LIST_PENDING p false
  match l.entries with
  | (m, d) :: _ => s.gateEnter p 0 m d l.entries.length
  | [] => s

theorem State.gateSwitch_eq (p : Nat) (l : GateList) (t : Nat) : s.gateSwitch p l t = (s.gateLoaded p l t).raise 181 := rfl

theorem State.gate_gateLoaded (p : Nat) (l : GateList) (t : Nat) :
    ((s.gateLoaded p l t).gate p).run = some l ∧ ((s.gateLoaded p l t).gate p).waiting = none := by
  unfold State.gateLoaded
  extract_lets u
  have loaded : u.gate p = { run := some l, next := 0, nextAt := t, waiting := none } :=
    s.gate_onGate_same p fun _ => ⟨some l, 0, t, none⟩
  split
  · rw [State.gate_gateEnter, loaded]; exact ⟨rfl, rfl⟩
  · rw [loaded]; exact ⟨rfl, rfl⟩

theorem State.get_gateLoaded {f : Field} (hg : Reg.GATE_STATUS_GATES.id ≠ f.id) (he : Reg.GATE_STATUS_ENTRY.id ≠ f.id)
    (p : Nat) (l : GateList) (t j : Nat) :
    (s.gateLoaded p l t).get f j = (s.setFlag Reg.GATE_STATUS_LIST_PENDING p false).get f j := by
  unfold State.gateLoaded
  extract_lets u
  have loaded : u.get f j = (s.setFlag Reg.GATE_STATUS_LIST_PENDING p false).get f j := rfl
  split
  · rw [State.get_gateEnter _ hg he, loaded]
  · exact loaded

theorem exec_gateIntervalEnd (p : Fin 64) (s : State) : exec (.gateIntervalEnd p) s = s.run fun s => s.gateEnd p := rfl

theorem exec_gclSwitch (p : Fin 64) (s : State) : exec (.gclSwitch p) s = s.run fun s => s.gateChange p := rfl

section
variable {s} {p : Fin 64} (ha : s.alive = true)
include ha

theorem exec_gateIntervalEnd_idle (h : (s.gate p).run = none) : exec (.gateIntervalEnd p) s = .next s :=
  exec_eq_of_run ha (exec_gateIntervalEnd p s) (by rw [State.gateEnd, h]) rfl

theorem completes_gateIntervalEnd {l : GateList} {m d : Nat} {r : List (Nat × Nat)} (hr : (s.gate p).run = some l)
    (hw : (s.gate p).waiting = none) (hl : l.entries.drop (s.gate p).next = (m, d) :: r) (hm : m < 256) :
    Completes (.gateIntervalEnd p) s fun t => t.get Reg.GATE_STATUS_GATES p = m ∧
      t.get Reg.GATE_STATUS_ENTRY p = (s.gate p).next % 2 ^ Reg.GATE_STATUS_ENTRY.width ∧
      (t.gate p).next = ((s.gate p).next + 1) % l.entries.length ∧ (t.gate p).nextAt = (s.gate p).nextAt + d ∧
      (t.gate p).run = some l := by
  generalize hu : s.waitTb 0 (s.gate p).nextAt = u
  have kept : u.gate p = s.gate p := by rw [← hu]; exact State.gate_of_time (s.time_waitTb 0 _) p
  have effect : s.gateEnd p = u.gateEnter p (s.gate p).next m d l.entries.length := by
    rw [State.gateEnd, hr]
    dsimp only
    rw [hw, hl, hu]
  have count : max 1 l.entries.length = l.entries.length := by
    have := congrArg List.length hl
    rw [List.length_drop, List.length_cons] at this
    omega
  have gate : (u.gateEnter p (s.gate p).next m d l.entries.length).gate p =
      { s.gate p with next := ((s.gate p).next + 1) % l.entries.length, nextAt := (s.gate p).nextAt + d } := by
    rw [State.gate_gateEnter, kept, count]
  exact completes_of_effect ha (exec_gateIntervalEnd p s) effect 
    ⟨u.gates_gateEnter hm p _ d l.entries.length, u.entry_gateEnter p _ m d l.entries.length,
      congrArg GateState.next gate, congrArg GateState.nextAt gate, (congrArg GateState.run gate).trans hr⟩

theorem exec_gclSwitch_idle (h : (s.gate p).waiting = none) : exec (.gclSwitch p) s = .next s :=
  exec_eq_of_run ha (exec_gclSwitch p s) (by rw [State.gateChange, h]) rfl

theorem completes_gclSwitch {l : GateList} (h : (s.gate p).waiting = some l) :
    Completes (.gclSwitch p) s fun t => (t.gate p).run = some l ∧ (t.gate p).waiting = none ∧
      t.flag Reg.GATE_STATUS_LIST_PENDING p = false ∧ s.Signalled 181 t := by
  generalize hu : (s.waitTb 0 (s.switchAt p l)).gateLoaded p l (s.switchAt p l) = u
  have effect : s.gateChange p = u.raise 181 := by
    rw [State.gateChange, h, ← hu, ← State.gateSwitch_eq]
  have gate := (s.waitTb 0 (s.switchAt p l)).gate_gateLoaded p l (s.switchAt p l)
  have read : ∀ f, Reg.GATE_STATUS_GATES.id ≠ f.id → Reg.GATE_STATUS_ENTRY.id ≠ f.id → ∀ j,
      u.get f j = ((s.waitTb 0 (s.switchAt p l)).setFlag Reg.GATE_STATUS_LIST_PENDING p false).get f j :=
    fun f hg he j => by rw [← hu, State.get_gateLoaded _ hg he]
  have route : ∀ f j, Reg.clocked f = false → Reg.GATE_STATUS_GATES.id ≠ f.id → Reg.GATE_STATUS_ENTRY.id ≠ f.id →
      Reg.GATE_STATUS_LIST_PENDING.id ≠ f.id → u.get f j = s.get f j := fun f j hf hg he hl => by
    rw [read f hg he, State.get_setFlag_other _ hl, State.get_waitTb _ hf]
  have raised : (u.raise 181).gate p = u.gate p := State.gate_of_time (u.raise_time 181) p
  rw [hu, ← raised] at gate
  have shown : s.Signalled 181 (u.raise 181) := State.signalled_raise_of_get
    (route _ _ rfl (by decide) (by decide) (by decide)) (route _ _ rfl (by decide) (by decide) (by decide))
  have taken : (u.raise 181).flag Reg.GATE_STATUS_LIST_PENDING p = false := by
    rw [u.flag_raise rfl, State.flag_of_get (read _ (by decide) (by decide) p), State.flag_setFlag_same _ (by decide)]
  generalize u.raise 181 = t at effect gate taken shown
  exact completes_of_effect ha (exec_gclSwitch p s) effect ⟨gate.1, gate.2, taken, shown⟩

end

/-! ### Captures -/

theorem exec_captureEdge (g : Fin 64) (up : Bool) (s : State) :
    exec (.captureEdge g up) s = s.run fun s => s.captureEdge g up := rfl

theorem exec_triggerPulse (g : Fin 64) (s : State) : exec (.triggerPulse g) s = s.run fun s => s.triggerPulse g := rfl

/-- A capture of GPIO `g`, before its events. -/
def State.captured (s : State) (g : Nat) : State :=
  ((s.set Reg.CAP_TIME_NS g (s.tb (s.get Reg.TIME_CFG_BASE g))).count Reg.CAP_STATUS_CAP_COUNT g 1).onTime fun t =>
    { t with capUnread := t.capUnread ||| (1#64 <<< g) }

theorem State.get_captured {f : Field} (ht : Reg.CAP_TIME_NS.id ≠ f.id) (hc : Reg.CAP_STATUS_CAP_COUNT.id ≠ f.id) (g i : Nat) :
    (s.captured g).get f i = s.get f i :=
  (State.get_count_other _ hc _ _ _).trans (s.get_set_other ht _ _ _)

theorem State.capTime_captured (g : Nat) : (s.captured g).get Reg.CAP_TIME_NS g = s.tb (s.get Reg.TIME_CFG_BASE g) % 2 ^ 64 :=
  (State.get_count_other _ (f := Reg.CAP_STATUS_CAP_COUNT) (by decide) _ _ _).trans (s.get_set_same _ _ _)

theorem State.capCount_captured (g : Nat) : (s.captured g).get Reg.CAP_STATUS_CAP_COUNT g =
    min (s.get Reg.CAP_STATUS_CAP_COUNT g + 1) 0xFFFF := by
  refine (State.get_count_same _ Reg.CAP_STATUS_CAP_COUNT g 1).trans ?_
  rw [State.get_set_other _ (by decide)]; rfl

theorem State.capUnread_captured {g : Nat} (h : g < 64) : (s.captured g).time.capUnread.getLsbD g = true := by
  change (s.time.capUnread ||| (1#64 <<< g)).getLsbD g = true
  simp [h]

/-- An overrun that shows with its event, where the capture before was not read. -/
def State.overrunIf (s : State) (unread : Bool) (g : Nat) : State :=
  if unread then (s.setFlag Reg.CAP_STATUS_CAP_OVERRUN g true).raise 185 else s

theorem State.get_overrunIf {f : Field} (hr : Reg.raised f = false) (ho : Reg.CAP_STATUS_CAP_OVERRUN.id ≠ f.id)
    (unread : Bool) (g i : Nat) : (s.overrunIf unread g).get f i = s.get f i := by
  unfold State.overrunIf
  split
  · rw [State.get_raise _ hr, s.get_setFlag_other ho]
  · rfl

theorem State.time_overrunIf (unread : Bool) (g : Nat) : (s.overrunIf unread g).time = s.time := by
  unfold State.overrunIf
  split
  · rw [State.raise_time, s.setFlag_time]
  · rfl

theorem State.pendKept_overrunIf (unread : Bool) (g : Nat) : s.PendKept (s.overrunIf unread g) := by
  unfold State.overrunIf
  split
  · exact (s.pendKept_set (by decide) g _).trans (State.pendKept_raise _ 185)
  · exact .refl s

section
variable {s} {g : Fin 64}

/-- The chosen edge at a capture input that may act latches (R588). -/
theorem State.captureEdge_selected {up : Bool} (hf : s.get Reg.TIME_CFG_FUNC g = 1) (ht : s.gpioTimed g = true)
    (he : s.get Reg.TIME_CFG_EDGE g = (if up then 0 else 1) ∨ s.get Reg.TIME_CFG_EDGE g = 2) :
    s.captureEdge g up = ((s.captured g).raise 184).overrunIf (s.time.capUnread.getLsbD g) g := by
  have selected :
      (if s.get Reg.TIME_CFG_EDGE g = 1 then !up else if s.get Reg.TIME_CFG_EDGE g = 2 then true else up) = true := by
    obtain he | he := he
    · cases up <;> simp [he]
    · simp [he]
  exact if_pos ⟨hf, selected, ht⟩

variable (ha : s.alive = true)
include ha

theorem exec_captureEdge_idle (h : s.get Reg.TIME_CFG_FUNC g ≠ 1 ∨ s.gpioTimed g = false) (up : Bool) :
    exec (.captureEdge g up) s = .next s := by
  refine exec_eq_of_run ha (exec_captureEdge g up s) (if_neg fun ⟨hf, _, ht⟩ => ?_) rfl
  obtain h | h := h
  · exact h hf
  · rw [h] at ht; cases ht

theorem completes_captureEdge {up : Bool} (hf : s.get Reg.TIME_CFG_FUNC g = 1) (ht : s.gpioTimed g = true)
    (he : s.get Reg.TIME_CFG_EDGE g = (if up then 0 else 1) ∨ s.get Reg.TIME_CFG_EDGE g = 2) :
    Completes (.captureEdge g up) s fun t => t.get Reg.CAP_TIME_NS g = s.tb (s.get Reg.TIME_CFG_BASE g) % 2 ^ 64 ∧
      t.get Reg.CAP_STATUS_CAP_COUNT g = min (s.get Reg.CAP_STATUS_CAP_COUNT g + 1) 0xFFFF ∧
      t.time.capUnread.getLsbD g = true ∧ s.Signalled 184 t ∧
      (s.time.capUnread.getLsbD g = true → t.flag Reg.CAP_STATUS_CAP_OVERRUN g = true ∧ s.Signalled 185 t) := by
  generalize hc : (s.captured g).raise 184 = c
  have read : ∀ f i, Reg.raised f = false → c.get f i = (s.captured g).get f i := fun f i hr => by
    rw [← hc, State.get_raise _ hr]
  have route : ∀ f i, Reg.raised f = false → Reg.CAP_TIME_NS.id ≠ f.id → Reg.CAP_STATUS_CAP_COUNT.id ≠ f.id →
      c.get f i = s.get f i := fun f i hr h1 h2 => (read f i hr).trans (s.get_captured h1 h2 g i)
  have shown : s.Signalled 184 c := by
    rw [← hc]
    exact State.signalled_raise_of_get (s.get_captured (by decide) (by decide) g _)
      (s.get_captured (by decide) (by decide) g _)
  have unread : c.time.capUnread.getLsbD g = true := by
    rw [← hc, State.raise_time]
    exact s.capUnread_captured g.isLt
  have effect : s.captureEdge g up = c.overrunIf (s.time.capUnread.getLsbD g) g := by
    rw [← hc]; exact State.captureEdge_selected hf ht he
  have overrun : s.time.capUnread.getLsbD g = true → (c.overrunIf (s.time.capUnread.getLsbD g) g).flag
      Reg.CAP_STATUS_CAP_OVERRUN g = true ∧ s.Signalled 185 (c.overrunIf (s.time.capUnread.getLsbD g) g) := fun h => by
    rw [h, State.overrunIf, if_pos rfl, State.flag_raise _ rfl, State.flag_setFlag_same _ (by decide)]
    exact ⟨rfl, State.signalled_raise_of_get
      ((c.get_setFlag_other (by decide) _ _ _).trans (route _ _ rfl (by decide) (by decide)))
      ((c.get_setFlag_other (by decide) _ _ _).trans (route _ _ rfl (by decide) (by decide)))⟩
  have time := (c.get_overrunIf (f := Reg.CAP_TIME_NS) rfl (by decide) (s.time.capUnread.getLsbD g) g g).trans
    ((read _ _ rfl).trans (s.capTime_captured g))
  have count := (c.get_overrunIf (f := Reg.CAP_STATUS_CAP_COUNT) rfl (by decide) (s.time.capUnread.getLsbD g) g g).trans
    ((read _ _ rfl).trans (s.capCount_captured g))
  rw [← c.time_overrunIf (s.time.capUnread.getLsbD g) g] at unread
  have signalled := shown.kept (c.pendKept_overrunIf (s.time.capUnread.getLsbD g) g)
  generalize c.overrunIf _ g = t at effect time count unread signalled overrun
  exact completes_of_effect ha (exec_captureEdge g up s) effect ⟨time, count, unread, signalled, overrun⟩

/-! ### Triggers -/

theorem exec_triggerPulse_idle (h : s.get Reg.TIME_CFG_FUNC g ≠ 2 ∨ s.gpioTimed g = false ∨ s.trigNext g = none) :
    exec (.triggerPulse g) s = .next s := by
  refine exec_eq_of_run ha (exec_triggerPulse g s) ?_ rfl
  unfold State.triggerPulse
  split
  · next armed =>
    obtain h | h | h := h
    · exact absurd armed.1 h
    · rw [h] at armed; cases armed.2
    · rw [h]
  · rfl

theorem completes_triggerPulse {w : Nat} (hf : s.get Reg.TIME_CFG_FUNC g = 2) (ht : s.gpioTimed g = true)
    (hw : s.trigNext g = some w) :
    Completes (.triggerPulse g) s fun t =>
      t.outbox.head? = some (.pulse g (s.get Reg.TRIG_PERIOD_TRIG_WIDTH g) (!s.flag Reg.TIME_CFG_POL g)) ∧
      t.time.trig.get none g = some w := by
  generalize hu : s.waitTb (s.get Reg.TIME_CFG_BASE g) w = u
  have read : ∀ f, Reg.clocked f = false → (u.trigFrom g (some w)).get f g = s.get f g := fun f hf => by
    rw [← s.get_waitTb hf, hu]; rfl
  have effect : s.triggerPulse g = (u.trigFrom g (some w)).out
      (.pulse g (s.get Reg.TRIG_PERIOD_TRIG_WIDTH g) (!s.flag Reg.TIME_CFG_POL g)) := by
    rw [State.triggerPulse, if_pos ⟨hf, ht⟩, hw]
    dsimp only
    rw [hu, read _ rfl, State.flag_of_get (read Reg.TIME_CFG_POL rfl)]
  exact completes_of_effect ha (exec_triggerPulse g s) effect ⟨rfl, Tab.get_put_same _ _ _ _⟩

end

end Sys2Proof.Machine
end

section
/-!
Time bases, PTP, the bridge, its gates and rings, captures and triggers (chapter 18).
-/
namespace Sys2Proof.Machine

/-- Settles O50: each row by what its operation leaves: a correction and an accepted step by the step of one base, an Announce
and its timeout by what the PTP clock becomes, a bridged frame by the ports it joins, the rest by the one state they write. -/
theorem timeBasesAndBridge : Obligations.TimeBasesAndBridge := by
  intro s ha
  refine ⟨fun b d => ?bases, fun p m => ?messages, fun b p k => ?timers, fun p fcs f => ?bridge, fun p => ?gates,
    fun m r v => ?rings, fun g up => ?pins⟩
  case bases =>
    exact ⟨fun hb => exec_tbCorrection_ignored ha hb d, completes_tbCorrection_within ha, completes_tbCorrection_beyond ha,
      exec_stepApply_idle ha, completes_stepApply ha, exec_tbSnap_eq ha⟩
  case messages =>
    exact ⟨exec_ptpMessage_foreign ha, fun _ _ => exec_ptpMessage_unused ha, fun _ _ => completes_ptpMessage_announce ha⟩
  case timers =>
    refine ⟨fun h => ⟨exec_ptpMessageTimer_idle ha h p k, exec_announceTimeout_idle ha h⟩, fun i h hp hg hk => ?_,
      fun _ => exec_announceTimeout_masterless ha, fun _ _ => completes_announceTimeout ha⟩
    subst hk
    exact completes_ptpMessageTimer_sync ha h hp hg
  case bridge =>
    exact ⟨fun h => exec_bridgeFrame_outside ha h fcs f, fun h => exec_bridgeFrame_wrongFcs ha h f,
      completes_bridgeFrame_flooded ha⟩
  case gates =>
    exact ⟨exec_frameLaunch_idle ha, fun _ _ _ _ => completes_frameLaunch ha, exec_gateIntervalEnd_idle ha,
      fun _ _ _ _ hr hw hl hm _ => completes_gateIntervalEnd ha hr hw hl hm, exec_gclSwitch_idle ha,
      fun _ => completes_gclSwitch ha⟩
  case rings =>
    exact ⟨fun hm => exec_txrTailWrite_foreign ha hm r v, exec_txrTailWrite_empty ha⟩
  case pins =>
    exact ⟨fun h => exec_captureEdge_idle ha h up, completes_captureEdge ha, exec_triggerPulse_idle ha,
      fun _ => completes_triggerPulse ha⟩

end Sys2Proof.Machine
end

section
/-!
SUPPORT. What the commit of an uplink frame leaves of the redundant pair (R601, R603, R607), whatever Caldera makes of the frame:
role, synchronisation and divergence; what is pending; and that a node whose window has nothing to settle has nothing after it.
-/
namespace Sys2Proof.Machine

/-- The fields of the pair that a statement about the loss of synchronisation reads, and the routes of its events. -/
def Reg.twinKept : List Field :=
  [Reg.TWIN_STATE_ROLE, Reg.TWIN_STATE_SYNC, Reg.TWIN_FLAGS_DIVERGED, Reg.DIGEST_MISMATCH_COUNT, Reg.EV_ROUTE_MSIX_EN,
   Reg.EV_ROUTE_CORE_MASK]

/-- Nothing of node slot `i` waits for the partner's record. -/
def State.Settled (s : State) (i : Nat) : Prop := (s.node i).closed = false ∧ (s.node i).up = none

/-- From `s` to `t` those fields keep their values, no pending event is lost, and no node begins to wait. -/
structure State.TwinFrame (s t : State) : Prop where
  get : ∀ f ∈ Reg.twinKept, ∀ i, t.get f i = s.get f i
  pends : s.PendKept t
  settled : ∀ i, s.Settled i → t.Settled i

theorem State.TwinFrame.refl (s : State) : s.TwinFrame s := ⟨fun _ _ _ => rfl, .refl s, fun _ => id⟩

variable {s t : State}

theorem State.settled_of_star {i : Nat} (h : t.star.nodes = s.star.nodes) (hs : s.Settled i) : t.Settled i := by
  rw [State.Settled, State.node, h]; exact hs

/-- An event that shows, seen from before and after what keeps the pair. -/
theorem State.TwinFrame.signalled {u : State} {n : Nat} (h : s.TwinFrame t) (hs : t.Signalled n u) : s.Signalled n u :=
  hs.of_get (h.get _ (by simp [Reg.twinKept]) n) (h.get _ (by simp [Reg.twinKept]) n) (fun _ => rfl) fun _ => rfl

/-! ### Register fields, events and branches -/

/-- A change of parts of the state beside the registers and the nodes. -/
theorem State.TwinFrame.kept {u : State} (h : s.TwinFrame t) (hr : u.regs = t.regs) (hn : u.star.nodes = t.star.nodes) :
    s.TwinFrame u where
  get f hf i := (State.get_of_regs hr f i).trans (h.get f hf i)
  pends := h.pends.trans (.of_get fun f _ i => State.get_of_regs hr f i)
  settled i hi := State.settled_of_star hn (h.settled i hi)

theorem State.TwinFrame.set (h : s.TwinFrame t) {f : Field} {i v : Nat}
    (hf : ∀ g ∈ Reg.twinKept ++ Reg.pends, f.id ≠ g.id) : s.TwinFrame (t.set f i v) where
  get g hg j := (t.get_set_other (hf g (List.mem_append_left _ hg)) i j v).trans (h.get g hg j)
  pends := h.pends.trans (t.pendKept_set (fun g hg => hf g (List.mem_append_right _ hg)) i v)
  settled := h.settled

theorem State.TwinFrame.setFlag (h : s.TwinFrame t) {f : Field} {i : Nat} {b : Bool}
    (hf : ∀ g ∈ Reg.twinKept ++ Reg.pends, f.id ≠ g.id) : s.TwinFrame (t.setFlag f i b) := h.set hf

theorem State.TwinFrame.setS (h : s.TwinFrame t) {f : Field} {i : Nat} {x : Int}
    (hf : ∀ g ∈ Reg.twinKept ++ Reg.pends, f.id ≠ g.id) : s.TwinFrame (t.setS f i x) := h.set hf

theorem State.TwinFrame.setBit (h : s.TwinFrame t) {f : Field} {k i : Nat} {b : Bool}
    (hf : ∀ g ∈ Reg.twinKept ++ Reg.pends, f.id ≠ g.id) : s.TwinFrame (t.setBit f k i b) := h.set hf

theorem State.TwinFrame.count (h : s.TwinFrame t) {f : Field} {i n : Nat}
    (hf : ∀ g ∈ Reg.twinKept ++ Reg.pends, f.id ≠ g.id) : s.TwinFrame (t.count f i n) := h.set hf

theorem State.TwinFrame.raise (h : s.TwinFrame t) (n : Nat) : s.TwinFrame (t.raise n) where
  get f hf i := (t.get_raise ((by decide : ∀ f ∈ Reg.twinKept, Reg.raised f = false) f hf) n i).trans (h.get f hf i)
  pends := h.pends.trans (t.pendKept_raise n)
  settled i hi := State.settled_of_star (by rw [t.raise_star]) (h.settled i hi)

theorem State.TwinFrame.ite {u : State} {c : Prop} [Decidable c] (ht : s.TwinFrame t) (hu : s.TwinFrame u) :
    s.TwinFrame (if c then t else u) := by
  split
  · exact ht
  · exact hu

theorem State.TwinFrame.foldl {α : Type} {f : State → α → State} (h : s.TwinFrame t)
    (hf : ∀ {u} x, s.TwinFrame u → s.TwinFrame (f u x)) (l : List α) : s.TwinFrame (l.foldl f t) :=
  State.foldl_keeps (P := s.TwinFrame) (fun _ x hu => hf x hu) l h

theorem State.TwinFrame.raiseIf (h : s.TwinFrame t) (b : Bool) (n : Nat) : s.TwinFrame (t.raiseIf b n) := (h.raise n).ite h

theorem State.TwinFrame.putPoint (h : s.TwinFrame t) (p v : Nat) : s.TwinFrame (t.putPoint p v) := h.kept rfl rfl

theorem State.TwinFrame.change (h : s.TwinFrame t) (code status link mailbox detail : Nat) (text : List Byte) :
    s.TwinFrame (t.change code status link mailbox detail text) := by
  unfold State.change
  extract_lets f _ _ _ _ _ u
  have kept : s.TwinFrame u := h.kept rfl rfl
  exact kept.raiseIf _ _

theorem State.TwinFrame.latchCause (h : s.TwinFrame t) (c : Nat) : s.TwinFrame (t.latchCause c) := by
  refine h.kept (t.regs_latchCause c).1 ?_
  rw [State.latchCause]
  split <;> split <;> rfl

/-! ### Passing time -/

theorem State.TwinFrame.moveTb (h : s.TwinFrame t) (n ns k : Nat) : s.TwinFrame (t.moveTb n ns k) := by
  have moved (a b : Nat) (p : PowerState) :
      s.TwinFrame { (t.set Reg.TB_TIME_NS n a).set Reg.TB_FRAC_FRAC n b with power := p } :=
    .kept ((h.set (f := Reg.TB_TIME_NS) (by decide)).set (f := Reg.TB_FRAC_FRAC) (by decide)) rfl rfl
  exact moved _ _ _

theorem State.TwinFrame.yardClocks (h : s.TwinFrame t) (n : Nat) : s.TwinFrame (t.yardClocks n) := by
  unfold State.yardClocks
  extract_lets u
  have counted : s.TwinFrame u := (h.count (by decide)).ite h
  have stalled : s.TwinFrame ((u.raiseIf (!u.yard.stalled) 45).count Reg.YD_COUNT2_WINDOW_STALL 0 n) :=
    (counted.raiseIf _ 45).count (by decide)
  exact .ite (stalled.kept rfl rfl) (counted.kept rfl rfl)

theorem State.TwinFrame.advance (h : s.TwinFrame t) (n : Nat) : s.TwinFrame (t.advance n) := by
  unfold State.advance
  extract_lets u v on w
  have tb6 : s.TwinFrame u := h.ite (h.moveTb _ _ _)
  have ticked : s.TwinFrame v := tb6.kept rfl rfl
  have bases : s.TwinFrame w := (ticked.foldl (fun b hu => hu.moveTb b 8 n) _).ite ticked
  exact (bases.yardClocks _).ite bases

theorem State.TwinFrame.waitTb (h : s.TwinFrame t) (b w : Nat) : s.TwinFrame (t.waitTb b w) := h.advance _

/-! ### PWM pairs and step channels under STO -/

theorem State.TwinFrame.onPair (h : s.TwinFrame t) (p : Nat) (f : PwmPair → PwmPair) : s.TwinFrame (t.onPair p f) :=
  h.kept rfl rfl

theorem State.TwinFrame.hOff (h : s.TwinFrame t) (p w : Nat) : s.TwinFrame (t.hOff p w) :=
  .ite ((h.setFlag (by decide)).onPair p _) (h.onPair p _)

theorem State.TwinFrame.lOn (h : s.TwinFrame t) (p w : Nat) : s.TwinFrame (t.lOn p w) :=
  (h.setFlag (by decide)).onPair p _

theorem State.TwinFrame.lOff (h : s.TwinFrame t) (p : Nat) : s.TwinFrame (t.lOff p) :=
  (h.setFlag (by decide)).onPair p _

theorem State.TwinFrame.enterSafe (h : s.TwinFrame t) (p w : Nat) : s.TwinFrame (t.enterSafe p w) := by
  unfold State.enterSafe
  extract_lets _ u
  have forced : s.TwinFrame u := ((h.hOff p w).setFlag (by decide)).onPair p _
  exact .ite (.ite (forced.onPair p _) (.ite forced (.ite forced (.ite (forced.lOn p w) (forced.onPair p _)))))
    ((forced.lOff p).onPair p _)

theorem State.TwinFrame.setPairCaldera (h : s.TwinFrame t) (p w : Nat) (on : Bool) : s.TwinFrame (t.setPairCaldera p w on) := by
  unfold State.setPairCaldera State.judgeCauses
  have shown : s.TwinFrame ((t.onPair p _).showCauses p) := (h.onPair p fun q => { q with caldera := on }).set (by decide)
  exact .ite (shown.enterSafe p w) shown

theorem State.TwinFrame.showStep (h : s.TwinFrame t) (ch : Nat) : s.TwinFrame (t.showStep ch) :=
  ((((h.set (by decide)).setFlag (by decide)).setFlag (by decide)).setFlag (by decide)).setS (by decide)

theorem State.TwinFrame.haltBegins (h : s.TwinFrame t) (ch : Nat) : s.TwinFrame (t.haltBegins ch) := by
  unfold State.haltBegins
  extract_lets c v u w
  have refused : s.TwinFrame u := by
    unfold u
    split
    · exact (h.setFlag (by decide)).ite h
    · exact h
  have unsure : s.TwinFrame w := (((refused.setFlag (by decide)).set (by decide)).raise 81).ite refused
  exact unsure.kept rfl rfl

theorem State.TwinFrame.setHalt (h : s.TwinFrame t) (ch bit : Nat) (on : Bool) : s.TwinFrame (t.setHalt ch bit on) := by
  unfold State.setHalt
  extract_lets c u
  have begun : s.TwinFrame u := (h.haltBegins ch).ite h
  exact h.ite (((begun.set (by decide)).showStep ch).ite ((h.set (by decide)).showStep ch))

/-! ### Caldera's decisions -/

theorem State.TwinFrame.onCal (h : s.TwinFrame t) (f : CalState → CalState) : s.TwinFrame (t.onCal f) := h.kept rfl rfl

theorem State.TwinFrame.onOut (h : s.TwinFrame t) (n : Nat) (f : CalOut → CalOut) : s.TwinFrame (t.onOut n f) := h.onCal _

theorem State.TwinFrame.onCalAx (h : s.TwinFrame t) (a : Nat) (f : CalAxis → CalAxis) : s.TwinFrame (t.onCalAx a f) := h.onCal _

theorem State.TwinFrame.onConn (h : s.TwinFrame t) (c : Nat) (f : CalConn → CalConn) : s.TwinFrame (t.onConn c f) := h.onCal _

theorem State.TwinFrame.onArm (h : s.TwinFrame t) (g : Nat) (f : CalArm → CalArm) : s.TwinFrame (t.onArm g f) := h.onCal _

theorem State.TwinFrame.onTps (h : s.TwinFrame t) (n : Nat) (f : CalTps → CalTps) : s.TwinFrame (t.onTps n f) := h.onCal _

theorem State.TwinFrame.applySto (h : s.TwinFrame t) (a : Nat) : s.TwinFrame (t.applySto a) :=
  h.ite (((h.onCalAx a _).foldl (fun p hu => hu.setPairCaldera p _ true) _).foldl (fun ch hu => hu.setHalt ch _ true) _)

theorem State.TwinFrame.stoAtRanger (h : s.TwinFrame t) (c : Nat) : s.TwinFrame (t.stoAtRanger c) :=
  have noted : s.TwinFrame { t with mode := { t.mode with stops := t.mode.stops ++ [c] } } := h.kept rfl rfl
  .ite (h.latchCause 3) (.ite (noted.latchCause 11) h)

theorem State.TwinFrame.decideSto (h : s.TwinFrame t) (l : List Nat) : s.TwinFrame (t.decideSto l) := by
  unfold State.decideSto
  exact .onCal (.foldl h (fun c hu => .stoAtRanger (.raise (.setFlag (.set hu (by decide)) (by decide)) 202) c) l) _

theorem State.TwinFrame.armSs1 (h : s.TwinFrame t) (cause : Nat) : s.TwinFrame (t.armSs1 cause) := by
  unfold State.armSs1
  exact .onCal (.foldl (.set (.set h (by decide)) (by decide)) (fun a hu => hu.onCalAx a _) _) _

theorem State.TwinFrame.decideSs1 (h : s.TwinFrame t) (l : List Nat) : s.TwinFrame (t.decideSs1 l) := by
  unfold State.decideSs1
  extract_lets busy u w
  have asked : s.TwinFrame w := (h.foldl (fun _ hu => (hu.setFlag (by decide)).raise 201) l).onCal _
  split
  · exact .ite (asked.ite (asked.set (by decide))) (asked.armSs1 _)
  · exact asked

theorem State.TwinFrame.wantSs1 (h : s.TwinFrame t) (cause : Nat) : s.TwinFrame (t.wantSs1 cause) := h.onCal _

theorem State.TwinFrame.calDecide (h : s.TwinFrame t) : s.TwinFrame t.calDecide := by
  unfold State.calDecide
  extract_lets a b u w
  have decided : s.TwinFrame w := (h.onCal _).ite ((h.onCal _).decideSto a)
  exact decided.ite (decided.decideSs1 b)

/-! ### Caldera's boundary (R436) -/

theorem State.TwinFrame.setTbState (h : s.TwinFrame t) (n st : Nat) : s.TwinFrame (t.setTbState n st) :=
  h.ite ((h.set (by decide)).raise 178)

theorem State.TwinFrame.tookFree (h : s.TwinFrame t) : s.TwinFrame t.tookFree := h.kept rfl rfl

theorem State.TwinFrame.steer (h : s.TwinFrame t) : s.TwinFrame t.steer :=
  have shown : s.TwinFrame (t.set Reg.TB0_OFS_NS 0 (ofS 64 ((t.tb 0 : Int) - (t.tb 6 : Int)))) := h.set (by decide)
  .ite (((shown.tookFree.setS (by decide)).set (by decide)).setTbState 6 2) (shown.setTbState 6 3)

theorem State.TwinFrame.calConfigure (h : s.TwinFrame t) : s.TwinFrame t.calConfigure := by
  unfold State.calConfigure
  extract_lets n first c pairs tests
  have inputs : s.TwinFrame pairs := h.foldl (fun _ hu =>
    ((((((hu.set (by decide)).set (by decide)).set (by decide)).set (by decide)).set (by decide)).setFlag
      (by decide)).setFlag (by decide)) _
  have pulses : s.TwinFrame tests := inputs.foldl (fun _ hu =>
    (((((hu.set (by decide)).set (by decide)).set (by decide)).set (by decide)).setFlag (by decide)).onTps _ _) _
  exact pulses.foldl (fun _ hu =>
    (((((((hu.set (by decide)).set (by decide)).set (by decide)).set (by decide)).set (by decide)).set
      (by decide)).set (by decide)).onOut _ _) _

theorem State.TwinFrame.setApply (h : s.TwinFrame t) : s.TwinFrame t.setApply := by
  unfold State.setApply
  split
  · exact h
  · exact (((((h.onCal _).foldl (fun a hu => hu.onCalAx a _) _).foldl (fun g hu => hu.onArm g _) _).foldl
      (fun c hu => (hu.onConn c _).set (by decide)) _).set (by decide)).calConfigure

theorem State.TwinFrame.stoBoundary (h : s.TwinFrame t) (quiet : Bool) : s.TwinFrame (t.stoBoundary quiet) := by
  unfold State.stoBoundary
  extract_lets demand stopped caused
  have stopping : s.TwinFrame stopped := h.foldl (fun a hu => hu.applySto a) _
  have causing : s.TwinFrame caused := stopping.ite ((stopping.set (by decide)).raise 202)
  exact .ite ((causing.set (by decide)).onCal _) h

theorem State.TwinFrame.axisStoBoundary (h : s.TwinFrame t) (a : Nat) : s.TwinFrame (t.axisStoBoundary a) := by
  unfold State.axisStoBoundary
  split
  · exact .ite (((h.applySto a).onCalAx a _).raiseIf _ 210) h
  · exact h

theorem State.TwinFrame.stopBoundary (h : s.TwinFrame t) : s.TwinFrame t.stopBoundary := by
  unfold State.stopBoundary
  extract_lets n started stopped confirmed
  have starting : s.TwinFrame started := by
    unfold started
    split
    · exact (h.set (by decide)).ite h
    · exact h
  have stopping : s.TwinFrame stopped := starting.foldl (fun a hu => hu.axisStoBoundary a) _
  have confirming : s.TwinFrame confirmed := ((stopping.set (by decide)).onCal _).ite stopping
  exact (confirming.set (by decide)).ite confirming

theorem State.TwinFrame.levelBoundary (h : s.TwinFrame t) (g : Nat) : s.TwinFrame (t.levelBoundary g) :=
  .ite (h.onArm g _) ((((h.onArm g _).onArm g _).set (by decide)).raise 204)

theorem State.TwinFrame.permitBoundary (h : s.TwinFrame t) : s.TwinFrame t.permitBoundary :=
  h.foldl (fun _ hu => hu.set (by decide)) _

theorem State.TwinFrame.edmFault (h : s.TwinFrame t) (n : Nat) (refused : Bool) : s.TwinFrame (t.edmFault n refused) := by
  unfold State.edmFault
  extract_lets u
  have refusing : s.TwinFrame u := (h.setFlag (by decide)).ite h
  exact refusing.ite ((((refusing.setFlag (by decide)).raise 196).onCal _).latchCause 4)

theorem State.TwinFrame.edmGate (h : s.TwinFrame t) (n k : Nat) : s.TwinFrame (t.edmGate n k) := (h.edmFault k true).ite h

theorem State.TwinFrame.soJoin (h : s.TwinFrame t) (k : Nat) : s.TwinFrame (t.soJoin k) :=
  h.ite (.ite (h.kept rfl rfl) (.ite (h.kept rfl rfl) h))

theorem State.TwinFrame.switchOut (h : s.TwinFrame t) (k n : Nat) (on : Bool) : s.TwinFrame (t.switchOut k n on) :=
  (h.setFlag (by decide)).onOut k _

theorem State.TwinFrame.discardTest (h : s.TwinFrame t) (k n : Nat) : s.TwinFrame (t.discardTest k n) :=
  ((((h.setFlag (by decide)).setFlag (by decide)).onOut k _).count (by decide)).raise 197

theorem State.TwinFrame.outputTestStart (h : s.TwinFrame t) (n k : Nat) : s.TwinFrame (t.outputTestStart n k) :=
  .setFlag (.setFlag ((h.switchOut k n false).onOut k _) (by decide)) (by decide)

theorem State.TwinFrame.soBoundary (h : s.TwinFrame t) (n k : Nat) : s.TwinFrame (t.soBoundary n k) := by
  unfold State.soBoundary State.noteLoad
  extract_lets joined want wait switched tested on
  have joining : s.TwinFrame joined := h.soJoin k
  have switching : s.TwinFrame switched := .ite (joining.ite (joining.discardTest k n))
    (.ite ((joining.switchOut k n true).onOut k _) (.ite (joining.switchOut k n false) joining))
  have testing : s.TwinFrame tested := (switching.outputTestStart n k).ite switching
  exact (testing.onOut k _).ite testing

theorem State.TwinFrame.outputsBoundary (h : s.TwinFrame t) : s.TwinFrame t.outputsBoundary := by
  unfold State.outputsBoundary
  extract_lets n commanded gated switched
  have commanding : s.TwinFrame commanded := h.foldl (fun _ hu => hu.setFlag (by decide)) _
  have switching : s.TwinFrame switched := (commanding.foldl (fun k hu => hu.edmGate n k) _).foldl
    (fun k hu => hu.soBoundary n k) _
  exact switching.ite (switching.onCal _)

theorem State.TwinFrame.tpsPaired (h : s.TwinFrame t) (n k : Nat) : s.TwinFrame (t.tpsPaired n k) := (h.onTps k _).ite h

theorem State.TwinFrame.tpsStart (h : s.TwinFrame t) (n k : Nat) : s.TwinFrame (t.tpsStart n k) := by
  unfold State.tpsStart
  exact .onCal (.set (.setFlag (h.onTps k _) (by decide)) (by decide)) _

theorem State.TwinFrame.tpsBoundary (h : s.TwinFrame t) (n k : Nat) : s.TwinFrame (t.tpsBoundary n k) := by
  unfold State.tpsBoundary
  split
  · exact h.onCal _
  · extract_lets u w
    have paired : s.TwinFrame w := ((h.onCal _).ite h).tpsPaired n k
    split
    · exact paired.ite (.ite (paired.count (by decide)) (paired.ite (paired.tpsStart n k)))
    · exact paired

theorem State.TwinFrame.crossCheck (h : s.TwinFrame t) (a : Nat) : s.TwinFrame (t.crossCheck a) := by
  unfold State.crossCheck
  extract_lets n q x bad first noted
  have noting : s.TwinFrame noted := h.onCalAx a _
  have failing := (((noting.onCalAx a fun x => { x with crossed := true }).count (f := Reg.XCHK_FAIL_COUNT) (i := 0) (n := 1)
    (by decide)).raise 206).wantSs1 5
  exact .ite (h.onCalAx a _) (.ite (h.onCalAx a _) (.ite failing noting))

theorem State.TwinFrame.sealLog (h : s.TwinFrame t) (k : Nat) : s.TwinFrame (t.sealLog k) :=
  h.ite (h.ite ((h.onCal _).change _ _ _ _ _ _))

theorem State.TwinFrame.sealSample (h : s.TwinFrame t) (k : Nat) : s.TwinFrame (t.sealSample k) := by
  unfold State.sealSample
  exact h.onCal _

theorem State.TwinFrame.seals (h : s.TwinFrame t) : s.TwinFrame t.seals := by
  unfold State.seals
  extract_lets sampled logged shown
  have sampling : s.TwinFrame sampled := h.foldl (fun k hu => hu.sealSample k) _
  have showing : s.TwinFrame shown := ((sampling.sealLog 0).sealLog 1).foldl (fun _ hu => hu.setBit (by decide)) _
  exact .set (.set showing (by decide)) (by decide)

theorem State.TwinFrame.ioPoints (h : s.TwinFrame t) : s.TwinFrame t.ioPoints := h.kept rfl rfl

theorem State.TwinFrame.calBoundary (h : s.TwinFrame t) : s.TwinFrame t.calBoundary := by
  unfold State.calBoundary
  extract_lets n steered quiet applied told stopped levelled permitted tests checked
  have stopping : s.TwinFrame stopped := (((h.set (by decide)).steer.setApply.onCal _).stoBoundary quiet).stopBoundary
  have permitting : s.TwinFrame permitted := (stopping.foldl (fun g hu => hu.levelBoundary g) _).permitBoundary.outputsBoundary
  have checking : s.TwinFrame checked := ((permitting.foldl (fun k hu => hu.tpsBoundary n k) _).foldl
    (fun a hu => hu.crossCheck a) _).calDecide
  exact h.ite (.ite checking.seals.ioPoints (h.seals.ioPoints.ite h))

theorem State.TwinFrame.doBoundary (h : s.TwinFrame t) : s.TwinFrame t.doBoundary :=
  .ite ((h.calBoundary.onCal _).foldl (fun _ hu => hu.onConn _ _) _) (h.calBoundary.onCal _)

/-! ### Separation (R481) and safety frames (R478, R479) -/

theorem State.TwinFrame.armCycle (h : s.TwinFrame t) (g : Nat) : s.TwinFrame (t.armCycle g) :=
  .ite ((((h.onArm g _).onArm g _).raise 205).wantSs1 4) ((h.onArm g _).onArm g _)

/-- The distances that are shown are free values where there is no person. -/
theorem State.TwinFrame.armSeparation (h : s.TwinFrame t) (g : Nat) : s.TwinFrame (t.armSeparation g) := by
  unfold State.armSeparation
  extract_lets l vr sp stop u f d p w
  have levelled : s.TwinFrame u := h.onArm g _
  have shown {v : State} (o : Option Rat) (hv : s.TwinFrame v) : s.TwinFrame (f o v).2 := by
    cases o with
    | some q => exact hv
    | none => exact hv.tookFree
  have pointed : s.TwinFrame w := (shown _ (shown _ levelled)).putPoint _ _
  exact .ite (((pointed.count (by decide)).raise 209).wantSs1 6) pointed

theorem State.TwinFrame.sepRegs (h : s.TwinFrame t) : s.TwinFrame t.sepRegs := by
  unfold State.sepRegs
  extract_lets u
  have tracks : s.TwinFrame u := h.set (by decide)
  split
  · exact ((tracks.set (by decide)).set (by decide)).set (by decide)
  · exact tracks

theorem State.TwinFrame.stopPoints (h : s.TwinFrame t) : s.TwinFrame t.stopPoints :=
  ((h.putPoint _ _).foldl (fun _ hu => hu.putPoint _ _) _).foldl (fun _ hu => hu.putPoint _ _) _

theorem State.TwinFrame.doSeparation (h : s.TwinFrame t) : s.TwinFrame t.doSeparation :=
  .onCal (h.ite ((h.foldl (fun g hu => hu.armCycle g) _).foldl (fun g hu => hu.armSeparation g) _).calDecide.sepRegs.stopPoints) _

theorem State.TwinFrame.calCatchUp (h : s.TwinFrame t) : s.TwinFrame t.calCatchUp := by
  unfold State.calCatchUp
  extract_lets u
  have bounded : s.TwinFrame u := h.doBoundary.ite h
  exact bounded.doSeparation.ite bounded

theorem State.TwinFrame.connTimeout (h : s.TwinFrame t) (c : Nat) : s.TwinFrame (t.connTimeout c) :=
  h.ite (.ite (((((h.set (by decide)).count (by decide)).raise 207).onConn c _).onCal _).calDecide
    ((((h.set (by decide)).count (by decide)).raise 207).onConn c _))

theorem State.TwinFrame.frameCrc (h : s.TwinFrame t) (c : Nat) : s.TwinFrame (t.frameCrc c) := by
  unfold State.frameCrc
  extract_lets now l u
  have counted : s.TwinFrame u := ((h.onConn c _).count (by decide)).raise 208
  exact (counted.connTimeout c).ite counted

theorem State.TwinFrame.frameSeq (h : s.TwinFrame t) (c : Nat) (f : List Byte) (eth : Bool) : s.TwinFrame (t.frameSeq c f eth) :=
  .ite (h.onConn c _) (.ite (h.raise 208) ((((h.count (by decide)).ite h).onConn c _).set (by decide)))

theorem State.TwinFrame.safetyFrame (h : s.TwinFrame t) (f : List Byte) (eth : Bool) : s.TwinFrame (t.safetyFrame f eth) := by
  unfold State.safetyFrame
  split
  · exact h
  · split
    · exact h.raise 208
    · exact .ite (h.raise 208) (.ite (h.frameCrc _) (.ite (h.raise 208) (h.frameSeq _ f eth)))

/-! ### The commit of a frame (R538, R546) -/

theorem State.TwinFrame.holdItem (h : s.TwinFrame t) (producer prio flow src count : Nat) (arg0 arg1 : Word64)
    (due : Option Nat) : s.TwinFrame (t.holdItem producer prio flow src count arg0 arg1 due) :=
  .ite (h.kept rfl rfl) ((h.raiseIf _ 43).kept rfl rfl)

theorem State.TwinFrame.postHw (h : s.TwinFrame t) (producer prio flow src count : Nat) (arg0 arg1 : Word64) :
    s.TwinFrame (t.postHw producer prio flow src count arg0 arg1) :=
  .ite ((h.count (by decide)).raise 46) (.ite (h.holdItem _ _ _ _ _ _ _ none) (h.kept rfl rfl))

theorem State.TwinFrame.commitUp (h : s.TwinFrame t) (f : UpFrame) : s.TwinFrame (t.commitUp f) := by
  unfold State.commitUp
  split
  · exact h
  · extract_lets stored region told
    have storing : s.TwinFrame stored := h.ite (h.foldl (fun _ hu => hu.ite (hu.putPoint _ _)) _)
    have telling : s.TwinFrame told := storing.ite (storing.calCatchUp.safetyFrame region false)
    exact (telling.postHw _ _ _ _ _ _ _).ite telling

theorem State.TwinFrame.ingressGo (h : s.TwinFrame t) (p : Nat) (l : List UpFrame) : s.TwinFrame (t.ingressGo p l) := by
  induction l generalizing t with
  | nil => exact h.kept rfl rfl
  | cons f r ih => exact .ite (h.kept rfl rfl) (ih (h.commitUp f))

theorem State.TwinFrame.ingress (h : s.TwinFrame t) (p : Nat) (f : UpFrame) : s.TwinFrame (t.ingress p f) := by
  unfold State.ingress
  extract_lets u l
  have drained : s.TwinFrame u := h.ingressGo p _
  exact .ite ((drained.count (by decide)).raise 140) (drained.ingressGo p _)

/-! ### The loss of synchronisation (R607) -/

theorem State.node_onNode_same (i : Nat) (f : NodeRun → NodeRun) : (s.onNode i f).node i = f (s.node i) :=
  Tab.get_put_same _ _ _ _

theorem State.node_onNode_other {i j : Nat} (h : i ≠ j) (f : NodeRun → NodeRun) : (s.onNode i f).node j = s.node j :=
  Tab.get_put_other _ _ h _

/-- Nothing waits at a slot any more. -/
def NodeRun.cleared (x : NodeRun) : NodeRun := { x with up := none, record := none, closed := false }

theorem State.settled_cleared (i : Nat) : (s.onNode i NodeRun.cleared).Settled i := by
  rw [State.Settled, State.node_onNode_same]; exact ⟨rfl, rfl⟩

theorem State.TwinFrame.cleared (h : s.TwinFrame t) (i : Nat) : s.TwinFrame (t.onNode i NodeRun.cleared) where
  get := h.get
  pends := h.pends
  settled j hj := by
    by_cases hij : i = j
    · subst hij
      exact State.settled_cleared i
    · rw [State.Settled, State.node_onNode_other hij]
      exact h.settled j hj

theorem State.TwinFrame.commitAlone (h : s.TwinFrame t) (i : Nat) : s.TwinFrame (t.commitAlone i) := by
  unfold State.commitAlone
  extract_lets up u
  have clear : s.TwinFrame u := h.cleared i
  clear_value up
  cases up with
  | some f => exact clear.ingress _ f
  | none => exact clear

/-- A synchronised unit that loses synchronisation says so, and what it commits alone then leaves that. -/
theorem State.twinFrame_unsync (h : s.get Reg.TWIN_STATE_SYNC 0 = 2) :
    ((s.set Reg.TWIN_STATE_SYNC 0 0).raise 229).TwinFrame s.unsync := by
  rw [State.unsync, if_pos h]
  exact (State.TwinFrame.refl _).foldl (fun i hu => hu.commitAlone i) _

end Sys2Proof.Machine
end

section
/-!
The lanes of the twin link (R530, R607).
-/
namespace Sys2Proof.Machine

variable {s : State}

/-! ### A unit that has nothing to lose -/

theorem State.standbyLost_idle (h : s.pairOn = false ∨ s.get Reg.TWIN_STATE_ROLE 0 ≠ 2) : s.standbyLost = s := by
  refine if_neg ?_
  obtain h | h := h <;> simp [h]

theorem State.loseSync_idle (hs : s.get Reg.TWIN_STATE_SYNC 0 ≠ 2)
    (h : s.pairOn = false ∨ s.get Reg.TWIN_STATE_ROLE 0 ≠ 2) : s.loseSync = s := by
  rw [State.loseSync, State.unsync, if_neg hs, State.standbyLost_idle h]

/-! ### What the lanes show -/

/-- The flag of lane `l`. -/
def Reg.laneUp (l : Fin 2) : Field := if l = 0 then Reg.TWIN_LANES_LANE0_UP else Reg.TWIN_LANES_LANE1_UP

/-- The flag of the lane beside lane `l`. -/
def Reg.laneBeside (l : Fin 2) : Field := if l = 0 then Reg.TWIN_LANES_LANE1_UP else Reg.TWIN_LANES_LANE0_UP

/-- The count of damaged blocks of lane `l`. -/
def Reg.laneErr (l : Fin 2) : Field := if l = 0 then Reg.TWIN_LANE_ERR_LANE0 else Reg.TWIN_LANE_ERR_LANE1

/-- `DEGRADED` and `LINK_UP` are as the lanes say. -/
def State.lanesShown (s : State) : State :=
  (s.setFlag Reg.TWIN_LANES_DEGRADED 0 (s.flag Reg.TWIN_LANES_LANE0_UP 0 != s.flag Reg.TWIN_LANES_LANE1_UP 0)).setFlag
    Reg.TWIN_STATE_LINK_UP 0 (s.flag Reg.TWIN_LANES_LANE0_UP 0 || s.flag Reg.TWIN_LANES_LANE1_UP 0)

theorem State.get_lanesShown {f : Field} (hd : Reg.TWIN_LANES_DEGRADED.id ≠ f.id) (hl : Reg.TWIN_STATE_LINK_UP.id ≠ f.id)
    (i : Nat) : s.lanesShown.get f i = s.get f i := by
  rw [State.lanesShown, State.get_setFlag_other _ hl, State.get_setFlag_other _ hd]

theorem State.linkUp_lanesShown : s.lanesShown.flag Reg.TWIN_STATE_LINK_UP 0 =
    (s.flag Reg.TWIN_LANES_LANE0_UP 0 || s.flag Reg.TWIN_LANES_LANE1_UP 0) :=
  State.flag_setFlag_same _ (by decide) 0 _

theorem State.degraded_lanesShown : s.lanesShown.flag Reg.TWIN_LANES_DEGRADED 0 =
    (s.flag Reg.TWIN_LANES_LANE0_UP 0 != s.flag Reg.TWIN_LANES_LANE1_UP 0) :=
  (State.flag_setFlag_other _ (by decide) 0 0 _).trans (State.flag_setFlag_same _ (by decide) 0 _)

/-- With a lane up the link is up; `EV232` where the lanes have just begun to differ. -/
theorem State.showLanes_up (h : (s.flag Reg.TWIN_LANES_LANE0_UP 0 || s.flag Reg.TWIN_LANES_LANE1_UP 0) = true) :
    s.showLanes = s.lanesShown.raiseIf ((s.flag Reg.TWIN_LANES_LANE0_UP 0 != s.flag Reg.TWIN_LANES_LANE1_UP 0) &&
      !s.flag Reg.TWIN_LANES_DEGRADED 0) 232 := if_pos h

/-- Without a lane the pair is unsynchronised; a unit that has none to lose only shows the lanes. -/
theorem State.showLanes_down (h : (s.flag Reg.TWIN_LANES_LANE0_UP 0 || s.flag Reg.TWIN_LANES_LANE1_UP 0) = false)
    (hp : s.pairOn = false) (hs : s.get Reg.TWIN_STATE_SYNC 0 ≠ 2) : s.showLanes = s.lanesShown := by
  obtain ⟨h0, h1⟩ := Bool.or_eq_false_iff.mp h
  have pair : s.lanesShown.pairOn = false := (State.flag_of_get (s.get_lanesShown (by decide) (by decide) 0)).trans hp
  have sync : s.lanesShown.get Reg.TWIN_STATE_SYNC 0 ≠ 2 := by rwa [State.get_lanesShown (by decide) (by decide)]
  have unchanged : s.showLanes = (s.lanesShown.raiseIf ((s.flag Reg.TWIN_LANES_LANE0_UP 0 !=
      s.flag Reg.TWIN_LANES_LANE1_UP 0) && !s.flag Reg.TWIN_LANES_DEGRADED 0) 232).loseSync :=
    if_neg (Bool.eq_false_iff.mp h)
  rw [unchanged, h0, h1]
  exact State.loseSync_idle sync (.inl pair)

/-! ### A lane comes up or goes down -/

/-- Setting the flag of a lane leaves that of the lane beside it. -/
theorem State.lanes_setFlag (l : Fin 2) (up : Bool) :
    (s.setFlag (Reg.laneUp l) 0 up).flag Reg.TWIN_LANES_LANE0_UP 0 =
        (if l = 0 then up else s.flag Reg.TWIN_LANES_LANE0_UP 0) ∧
      (s.setFlag (Reg.laneUp l) 0 up).flag Reg.TWIN_LANES_LANE1_UP 0 =
        (if l = 0 then s.flag Reg.TWIN_LANES_LANE1_UP 0 else up) := by
  unfold Reg.laneUp
  split
  · exact ⟨State.flag_setFlag_same _ (by decide) 0 up, State.flag_setFlag_other _ (by decide) 0 0 up⟩
  · exact ⟨State.flag_setFlag_other _ (by decide) 0 0 up, State.flag_setFlag_same _ (by decide) 0 up⟩

theorem State.get_lane_other {f : Field} (h0 : Reg.TWIN_LANES_LANE0_UP.id ≠ f.id) (h1 : Reg.TWIN_LANES_LANE1_UP.id ≠ f.id)
    (l : Fin 2) (up : Bool) (i : Nat) : (s.setFlag (Reg.laneUp l) 0 up).get f i = s.get f i := by
  unfold Reg.laneUp
  split
  · exact s.get_setFlag_other h0 0 i up
  · exact s.get_setFlag_other h1 0 i up

/-- A lane that goes down, its damaged blocks counted, before the link shows it. -/
def State.laneLost (s : State) (l : Fin 2) (e : Nat) : State :=
  (s.count (Reg.laneErr l) 0 e).setFlag (Reg.laneUp l) 0 false

theorem State.get_laneLost {f : Field} (h0 : Reg.TWIN_LANES_LANE0_UP.id ≠ f.id) (h1 : Reg.TWIN_LANES_LANE1_UP.id ≠ f.id)
    (e0 : Reg.TWIN_LANE_ERR_LANE0.id ≠ f.id) (e1 : Reg.TWIN_LANE_ERR_LANE1.id ≠ f.id) (l : Fin 2) (e i : Nat) :
    (s.laneLost l e).get f i = s.get f i := by
  rw [State.laneLost, State.get_lane_other h0 h1]
  unfold Reg.laneErr
  split
  · exact s.get_count_other e0 0 i e
  · exact s.get_count_other e1 0 i e

theorem State.errs_laneLost (l : Fin 2) (e : Nat) : (s.laneLost l e).get (Reg.laneErr l) 0 =
    min (s.get (Reg.laneErr l) 0 + e) (2 ^ Reg.TWIN_LANE_ERR_LANE0.width - 1) := by
  have width : (Reg.laneErr l).width = Reg.TWIN_LANE_ERR_LANE0.width := by unfold Reg.laneErr; split <;> rfl
  have apart (f : Field) (hf : f.id = Reg.TWIN_LANES_LANE0_UP.id ∨ f.id = Reg.TWIN_LANES_LANE1_UP.id) :
      f.id ≠ (Reg.laneErr l).id := by
    unfold Reg.laneErr
    obtain hf | hf := hf <;> rw [hf] <;> split <;> decide
  rw [State.laneLost, State.get_lane_other (apart _ (.inl rfl)) (apart _ (.inr rfl)), State.get_count_same, width]

/-- What is left of the link is the lane beside the lost one. -/
theorem State.lanes_laneLost (l : Fin 2) (e : Nat) :
    ((s.laneLost l e).flag Reg.TWIN_LANES_LANE0_UP 0 || (s.laneLost l e).flag Reg.TWIN_LANES_LANE1_UP 0) =
        s.flag (Reg.laneBeside l) 0 ∧
      ((s.laneLost l e).flag Reg.TWIN_LANES_LANE0_UP 0 != (s.laneLost l e).flag Reg.TWIN_LANES_LANE1_UP 0) =
        s.flag (Reg.laneBeside l) 0 := by
  have counted (f : Field) (h0 : Reg.TWIN_LANE_ERR_LANE0.id ≠ f.id) (h1 : Reg.TWIN_LANE_ERR_LANE1.id ≠ f.id) :
      (s.count (Reg.laneErr l) 0 e).flag f 0 = s.flag f 0 := by
    refine State.flag_of_get ?_
    unfold Reg.laneErr
    split
    · exact s.get_count_other h0 0 0 e
    · exact s.get_count_other h1 0 0 e
  obtain ⟨h0, h1⟩ := (s.count (Reg.laneErr l) 0 e).lanes_setFlag l false
  rw [State.laneLost, h0, h1, counted _ (by decide) (by decide), counted _ (by decide) (by decide), Reg.laneBeside]
  split <;> simp

/-! ### The commands -/

theorem exec_twinLaneUp (l : Fin 2) (s : State) :
    exec (.twinLaneUp l) s = s.run fun s => (s.setFlag (Reg.laneUp l) 0 true).showLanes := by
  match l with
  | 0 => rfl
  | 1 => rfl

theorem exec_twinLaneDown (l : Fin 2) (e : Word16) (s : State) :
    exec (.twinLaneDown ⟨l, e⟩) s = s.run fun s => (s.laneLost l e.toNat).showLanes := by
  match l with
  | 0 => rfl
  | 1 => rfl

section
variable (ha : s.alive = true)
include ha

theorem completes_twinLaneUp (l : Fin 2) : Completes (.twinLaneUp l) s fun t => t.flag Reg.TWIN_STATE_LINK_UP 0 = true ∧
    t.flag Reg.TWIN_LANES_LANE0_UP 0 = (decide (l = 0) || s.flag Reg.TWIN_LANES_LANE0_UP 0) ∧
    t.flag Reg.TWIN_LANES_LANE1_UP 0 = (decide (l = 1) || s.flag Reg.TWIN_LANES_LANE1_UP 0) ∧
    t.get Reg.TWIN_STATE_SYNC 0 = s.get Reg.TWIN_STATE_SYNC 0 := by
  generalize hu : s.setFlag (Reg.laneUp l) 0 true = u
  have lanes : u.flag Reg.TWIN_LANES_LANE0_UP 0 = (decide (l = 0) || s.flag Reg.TWIN_LANES_LANE0_UP 0) ∧
      u.flag Reg.TWIN_LANES_LANE1_UP 0 = (decide (l = 1) || s.flag Reg.TWIN_LANES_LANE1_UP 0) := by
    rw [← hu, (s.lanes_setFlag l true).1, (s.lanes_setFlag l true).2]
    match l with
    | 0 => simp
    | 1 => simp
  have up : (u.flag Reg.TWIN_LANES_LANE0_UP 0 || u.flag Reg.TWIN_LANES_LANE1_UP 0) = true := by
    rw [lanes.1, lanes.2]
    match l with
    | 0 => simp
    | 1 => simp
  have kept {f : Field} (hr : Reg.raised f = false) (hd : Reg.TWIN_LANES_DEGRADED.id ≠ f.id)
      (hl : Reg.TWIN_STATE_LINK_UP.id ≠ f.id) (b : Bool) : (u.lanesShown.raiseIf b 232).get f 0 = u.get f 0 :=
    (State.get_raiseIf _ hr b 232 0).trans (State.get_lanesShown hd hl 0)
  refine completes_of_eq ha (exec_twinLaneUp l s) ((congrArg State.showLanes hu).trans (State.showLanes_up up)) ?_
    ⟨?_, ?_, ?_, ?_⟩
  · rw [State.raiseIf_pending, ← hu]; rfl
  · exact ((State.flag_of_get (State.get_raiseIf _ rfl _ 232 0)).trans State.linkUp_lanesShown).trans up
  · exact (State.flag_of_get (kept rfl (by decide) (by decide) _)).trans lanes.1
  · exact (State.flag_of_get (kept rfl (by decide) (by decide) _)).trans lanes.2
  · rw [kept rfl (by decide) (by decide), ← hu, State.get_lane_other (by decide) (by decide)]

/-- One of two lanes is left. -/
theorem completes_twinLaneDown_degraded {l : Fin 2} (h : s.flag (Reg.laneBeside l) 0 = true) (e : Word16) :
    Completes (.twinLaneDown ⟨l, e⟩) s fun t =>
      t.get (Reg.laneErr l) 0 = min (s.get (Reg.laneErr l) 0 + e.toNat) (2 ^ Reg.TWIN_LANE_ERR_LANE0.width - 1) ∧
      t.flag Reg.TWIN_STATE_LINK_UP 0 = true ∧ t.flag Reg.TWIN_LANES_DEGRADED 0 = true ∧
      (s.flag Reg.TWIN_LANES_DEGRADED 0 = false → s.Signalled 232 t) := by
  obtain ⟨up, differ⟩ := s.lanes_laneLost l e.toNat
  rw [h] at up differ
  have was : (s.laneLost l e.toNat).flag Reg.TWIN_LANES_DEGRADED 0 = s.flag Reg.TWIN_LANES_DEGRADED 0 :=
    State.flag_of_get (State.get_laneLost (by decide) (by decide) (by decide) (by decide) l _ 0)
  have effect := State.showLanes_up up
  rw [differ, was, Bool.true_and] at effect
  have errs := s.errs_laneLost l e.toNat
  have shown (f : Field) (h0 : Reg.TWIN_LANES_LANE0_UP.id ≠ f.id) (h1 : Reg.TWIN_LANES_LANE1_UP.id ≠ f.id)
      (e0 : Reg.TWIN_LANE_ERR_LANE0.id ≠ f.id) (e1 : Reg.TWIN_LANE_ERR_LANE1.id ≠ f.id)
      (hd : Reg.TWIN_LANES_DEGRADED.id ≠ f.id) (hl : Reg.TWIN_STATE_LINK_UP.id ≠ f.id) (i : Nat) :
      (s.laneLost l e.toNat).lanesShown.get f i = s.get f i :=
    (State.get_lanesShown hd hl i).trans (State.get_laneLost h0 h1 e0 e1 l _ i)
  refine completes_of_eq ha (exec_twinLaneDown l e s) effect (State.raiseIf_pending _ _ 232) ⟨?_, ?_, ?_, fun hw => ?_⟩
  · rw [← errs]
    unfold Reg.laneErr
    split <;> exact (State.get_raiseIf _ rfl _ 232 0).trans (State.get_lanesShown (by decide) (by decide) 0)
  · exact ((State.flag_of_get (State.get_raiseIf _ rfl _ 232 0)).trans State.linkUp_lanesShown).trans up
  · exact ((State.flag_of_get (State.get_raiseIf _ rfl _ 232 0)).trans State.degraded_lanesShown).trans differ
  · rw [hw]
    exact State.signalled_raise_of_get (shown _ (by decide) (by decide) (by decide) (by decide) (by decide) (by decide) 232)
      (shown _ (by decide) (by decide) (by decide) (by decide) (by decide) (by decide) 232)

/-- No lane is left, and the unit is not synchronised. -/
theorem completes_twinLaneDown_last {l : Fin 2} (h : s.flag (Reg.laneBeside l) 0 = false) (hp : s.pairOn = false)
    (hs : s.get Reg.TWIN_STATE_SYNC 0 ≠ 2) (e : Word16) : Completes (.twinLaneDown ⟨l, e⟩) s fun t =>
      t.flag Reg.TWIN_STATE_LINK_UP 0 = false ∧ t.flag Reg.TWIN_LANES_DEGRADED 0 = false := by
  obtain ⟨up, differ⟩ := s.lanes_laneLost l e.toNat
  rw [h] at up differ
  have lost (f : Field) (h0 : Reg.TWIN_LANES_LANE0_UP.id ≠ f.id) (h1 : Reg.TWIN_LANES_LANE1_UP.id ≠ f.id)
      (e0 : Reg.TWIN_LANE_ERR_LANE0.id ≠ f.id) (e1 : Reg.TWIN_LANE_ERR_LANE1.id ≠ f.id) :
      (s.laneLost l e.toNat).get f 0 = s.get f 0 := State.get_laneLost h0 h1 e0 e1 l _ 0
  have effect := State.showLanes_down up
    ((State.flag_of_get (lost _ (by decide) (by decide) (by decide) (by decide))).trans hp)
    (by rwa [lost _ (by decide) (by decide) (by decide) (by decide)])
  exact completes_of_eq ha (exec_twinLaneDown l e s) effect rfl
    ⟨State.linkUp_lanesShown.trans up, State.degraded_lanesShown.trans differ⟩

end

end Sys2Proof.Machine
end

section
/-!
The token: samples of `INTLK_IN`, the check after a take, release (R594 to R596).
-/
namespace Sys2Proof.Machine

variable {s : State}

@[simp] theorem State.twin_advance (s : State) (n : Nat) : (s.advance n).twin = s.twin := by
  obtain ⟨_, _, _, _, _, _, h⟩ := s.passed_advance n
  rw [h]

@[simp] theorem State.twin_waitTb (s : State) (b t : Nat) : (s.waitTb b t).twin = s.twin := s.twin_advance _

@[simp] theorem State.twin_waitTill (s : State) (t : Nat) : (s.waitTill t).twin = s.twin := s.twin_advance _

/-! ### What a change of `INTLK_OUT` leaves -/

theorem State.get_setToken {f : Field} (ht : Reg.TWIN_STATE_TOKEN.id ≠ f.id) (hr : Reg.TWIN_STATE_ROLE.id ≠ f.id) (b : Bool)
    (i : Nat) : (s.setToken b).get f i = s.get f i := by
  rw [State.setToken, State.showRole, State.get_set_other _ hr, State.get_setFlag_other _ ht]

theorem State.token_setToken (b : Bool) : (s.setToken b).token = b := by
  have shown : (s.setToken b).token = (s.setFlag Reg.TWIN_STATE_TOKEN 0 b).token :=
    State.flag_of_get (State.get_set_other _ (by decide) 0 0 _)
  rw [shown]
  exact State.flag_setFlag_same _ (by decide) 0 b

theorem State.role_setToken (b : Bool) :
    (s.setToken b).get Reg.TWIN_STATE_ROLE 0 = if s.pairOn then (if b then 1 else 2) else 0 := by
  have pair : (s.setFlag Reg.TWIN_STATE_TOKEN 0 b).flag Reg.TWIN_CFG_PAIR_EN 0 = s.pairOn :=
    State.flag_setFlag_other _ (by decide) 0 0 b
  have held : (s.setFlag Reg.TWIN_STATE_TOKEN 0 b).token = b := State.flag_setFlag_same _ (by decide) 0 b
  rw [State.setToken, State.showRole, State.get_set_same, pair, held]
  cases s.pairOn <;> cases b <;> rfl

/-! ### Samples -/

/-- The clock stands at the sample, whose level shows. -/
def State.sampled (s : State) (level : Bool) : State :=
  (s.waitTb 0 (s.star.start + 2000)).setFlag Reg.TWIN_STATE_PARTNER_TOKEN 0 level

theorem State.get_sampled {f : Field} (hc : Reg.clocked f = false) (hp : Reg.TWIN_STATE_PARTNER_TOKEN.id ≠ f.id)
    (level : Bool) (i : Nat) : (s.sampled level).get f i = s.get f i := by
  rw [State.sampled, State.get_setFlag_other _ hp, State.get_waitTb _ hc]

theorem State.token_sampled (level : Bool) : (s.sampled level).token = s.token :=
  State.flag_of_get (State.get_sampled rfl (by decide) level 0)

theorem State.partner_sampled (level : Bool) : (s.sampled level).flag Reg.TWIN_STATE_PARTNER_TOKEN 0 = level :=
  State.flag_setFlag_same _ (by decide) 0 level

theorem State.twin_sampled (level : Bool) : (s.sampled level).twin = s.twin := s.twin_waitTb 0 _

theorem State.pending_sampled (level : Bool) : (s.sampled level).pending = s.pending := (s.clockFrame_advance _).pending

theorem State.mayTake_of_get {t : State} (hs : t.get Reg.TWIN_STATE_SYNC 0 = s.get Reg.TWIN_STATE_SYNC 0)
    (hp : t.get Reg.TWIN_CFG_PRIO 0 = s.get Reg.TWIN_CFG_PRIO 0) (hb : t.get Reg.TWIN_STATE_HB_OK 0 = s.get Reg.TWIN_STATE_HB_OK 0)
    (ht : t.twin = s.twin) : t.mayTake = s.mayTake := by
  simp only [State.mayTake, State.prio, State.partnerGone, State.flag, hs, hp, hb, ht]
  rfl

theorem State.mayTake_sampled (level : Bool) : (s.sampled level).mayTake = s.mayTake :=
  State.mayTake_of_get (State.get_sampled rfl (by decide) level 0) (State.get_sampled rfl (by decide) level 0)
    (State.get_sampled rfl (by decide) level 0) (State.twin_sampled level)

/-- What a sample leaves of the pair: the partner's token, and the run of samples at which the token was free. -/
def State.sampleKept (s : State) (level : Bool) : State :=
  (s.sampled level).onTwin fun t => { t with partnerHeld := level, free := if level || s.token then 0 else t.free + 1 }

theorem State.tokenSample_single (h : s.pairOn = false) (level : Bool) : s.tokenSample level = s := by
  rw [State.tokenSample, h]; rfl

/-- A high sample while no handover waits for the partner. -/
theorem State.tokenSample_high (hp : s.pairOn = true) (hm : s.twin.handMb = none) : s.tokenSample true = s.sampleKept true := by
  have mailbox : (s.sampled true).twin.handMb = none := by rw [State.twin_sampled, hm]
  have unfolded : s.tokenSample true = (if (true && !(s.sampled true).token) then
      (match (s.sampled true).twin.handMb with
        | some n => ((s.sampled true).setDone n).onTwin fun t => { t with handMb := none }
        | none => s.sampled true) else s.sampled true).onTwin fun t => { t with partnerHeld := true, free := 0 } := by
    rw [State.tokenSample, hp]; rfl
  rw [unfolded, mailbox]
  dsimp only
  rw [ite_self]
  rfl

/-- A low sample. -/
theorem State.tokenSample_low (hp : s.pairOn = true) : s.tokenSample false =
    if !s.token && s.mayTake then (s.sampleKept false).takeToken else s.sampleKept false := by
  have unfolded : s.tokenSample false = if (!false && !(s.sampled false).token && (s.sampled false).mayTake) then
      ((s.sampled false).onTwin fun t =>
        { t with partnerHeld := false, free := if false || (s.sampled false).token then 0 else t.free + 1 }).takeToken
      else (s.sampled false).onTwin fun t =>
        { t with partnerHeld := false, free := if false || (s.sampled false).token then 0 else t.free + 1 } := by
    rw [State.tokenSample, hp]; rfl
  rw [unfolded, State.token_sampled, State.mayTake_sampled]
  rfl

/-! ### The take of the token, and its release -/

theorem State.token_takeToken : s.takeToken.token = true :=
  (State.flag_of_get (State.get_count_other _ (by decide) 0 0 1)).trans (State.token_setToken true)

theorem State.role_takeToken (hp : s.pairOn = true) : s.takeToken.get Reg.TWIN_STATE_ROLE 0 = 1 := by
  have role := s.role_setToken true
  rw [hp] at role
  exact (State.get_count_other _ (by decide) 0 0 1).trans role

theorem State.takeovers_takeToken : s.takeToken.get Reg.TAKEOVERS_COUNT 0 =
    min (s.get Reg.TAKEOVERS_COUNT 0 + 1) (2 ^ Reg.TAKEOVERS_COUNT.width - 1) := by
  have counted := (s.setToken true).get_count_same Reg.TAKEOVERS_COUNT 0 1
  rwa [State.get_setToken (by decide) (by decide)] at counted

theorem State.twin_takeToken (s : State) :
    s.takeToken.twin = { s.twin with takeAt := some s.ticks, confirmed := false, free := 0 } := rfl

theorem State.ticks_takeToken (s : State) : s.takeToken.ticks = s.ticks := rfl

theorem State.pending_takeToken (s : State) : s.takeToken.pending = s.pending := rfl

/-- The state in which the release of the token is reported. -/
def State.tokenDropped (s : State) : State := (s.onTwin fun t => { t with confirmed := false, takeAt := none }).setToken false

theorem State.dropToken_held (h : s.token = true) : s.dropToken = s.tokenDropped.raise 225 := if_pos h

theorem State.dropToken_free (h : s.token = false) : s.dropToken = s := if_neg (Bool.eq_false_iff.mp h)

theorem State.get_tokenDropped {f : Field} (ht : Reg.TWIN_STATE_TOKEN.id ≠ f.id) (hr : Reg.TWIN_STATE_ROLE.id ≠ f.id)
    (i : Nat) : s.tokenDropped.get f i = s.get f i := State.get_setToken ht hr false i

/-- What the release of a held token leaves (R596). -/
theorem State.dropToken_spec (h : s.token = true) : s.dropToken.token = false ∧
    s.dropToken.get Reg.TWIN_STATE_ROLE 0 = (if s.pairOn then 2 else 0) ∧ s.dropToken.twin.confirmed = false ∧
    s.dropToken.twin.takeAt = none ∧ s.Signalled 225 s.dropToken := by
  rw [State.dropToken_held h]
  refine ⟨?_, ?_, ?_, ?_, ?_⟩
  · exact (State.flag_raise _ rfl 225 0).trans (State.token_setToken false)
  · exact (State.get_raise _ rfl 225 0).trans (State.role_setToken false)
  · rw [State.raise_twin]; rfl
  · rw [State.raise_twin]; rfl
  · exact State.signalled_raise_of_get (State.get_tokenDropped (by decide) (by decide) 225)
      (State.get_tokenDropped (by decide) (by decide) 225)

/-- The release leaves every field but the token, the role and what its event writes. -/
theorem State.get_dropToken {f : Field} (hr : Reg.raised f = false) (ht : Reg.TWIN_STATE_TOKEN.id ≠ f.id)
    (ho : Reg.TWIN_STATE_ROLE.id ≠ f.id) (i : Nat) : s.dropToken.get f i = s.get f i := by
  unfold State.dropToken
  split
  · exact (State.get_raise _ hr 225 i).trans (State.get_tokenDropped ht ho i)
  · rfl

theorem State.pendKept_dropToken : s.PendKept s.dropToken := by
  unfold State.dropToken
  split
  · have dropped : s.PendKept s.tokenDropped := .of_get fun f hf i =>
      State.get_tokenDropped ((by decide : ∀ f ∈ Reg.pends, Reg.TWIN_STATE_TOKEN.id ≠ f.id) f hf)
        ((by decide : ∀ f ∈ Reg.pends, Reg.TWIN_STATE_ROLE.id ≠ f.id) f hf) i
    exact dropped.trans (State.pendKept_raise _ 225)
  · exact .refl s

theorem State.ticks_dropToken : s.dropToken.ticks = s.ticks := by
  unfold State.dropToken
  split
  · exact State.raise_ticks _ 225
  · rfl

theorem State.pending_dropToken : s.dropToken.pending = s.pending := by
  unfold State.dropToken
  split
  · exact State.raise_pending _ 225
  · rfl

/-! ### The check after a take -/

/-- The second sample after the take at `w`, whose event is raised. -/
def State.checked (s : State) (w : Nat) (level : Bool) : State :=
  (((s.waitTill (w + 125)).onTwin fun t => { t with takeAt := none }).setFlag Reg.TWIN_STATE_PARTNER_TOKEN 0 level).raise 224

theorem State.get_checked {f : Field} (hc : Reg.clocked f = false) (hp : Reg.TWIN_STATE_PARTNER_TOKEN.id ≠ f.id) (w : Nat)
    (level : Bool) (i : Nat) : (s.checked w level).get f i = s.get f i := by
  rw [State.checked, State.get_raise _ (Reg.raised_of_clocked hc), State.get_setFlag_other _ hp]
  exact s.get_waitTill hc _ i

theorem State.twin_checked (w : Nat) (level : Bool) : (s.checked w level).twin = { s.twin with takeAt := none } := by
  rw [State.checked, State.raise_twin, State.setFlag_twin, State.onTwin, State.twin_waitTill]

theorem State.ticks_checked (w : Nat) (level : Bool) : (s.checked w level).ticks = max s.ticks (w + 125) := by
  rw [State.checked, State.raise_ticks]
  exact s.ticks_waitTill (w + 125)

theorem State.pending_checked (w : Nat) (level : Bool) : (s.checked w level).pending = s.pending := by
  rw [State.checked, State.raise_pending]
  exact s.pending_waitTill (w + 125)

theorem State.signalled_checked (w : Nat) (level : Bool) : s.Signalled 224 (s.checked w level) := by
  refine State.signalled_raise_of_get ?_ ?_ <;>
    exact (State.get_setFlag_other _ (by decide) _ _ _).trans (s.get_waitTill rfl _ 224)

/-- A lost arbitration, before the token is given up. -/
def State.arbLost (s : State) : State := (s.setFlag Reg.TWIN_FLAGS_ARB_LOST 0 true).raise 231

theorem State.get_arbLost {f : Field} (hr : Reg.raised f = false) (ha : Reg.TWIN_FLAGS_ARB_LOST.id ≠ f.id) (i : Nat) :
    s.arbLost.get f i = s.get f i :=
  (State.get_raise _ hr 231 i).trans (State.get_setFlag_other _ ha 0 i true)

theorem State.ticks_arbLost : s.arbLost.ticks = s.ticks := State.raise_ticks _ 231

theorem State.pending_arbLost : s.arbLost.pending = s.pending := State.raise_pending _ 231

theorem State.pendKept_arbLost : s.PendKept s.arbLost :=
  (s.pendKept_set (by decide) 0 _).trans (State.pendKept_raise _ 231)

theorem State.arbitrate_none (h : s.twin.takeAt = none) (level : Bool) : s.arbitrate level = s := by
  rw [State.arbitrate, h]

/-- The unit of lower priority gives the token up to a partner that holds it too; else the take is confirmed. -/
theorem State.arbitrate_taken {w : Nat} (h : s.twin.takeAt = some w) (level : Bool) : s.arbitrate level =
    if level && !s.prio then (s.checked w level).arbLost.dropToken
    else (s.checked w level).onTwin fun t => { t with confirmed := true } := by
  have prio : (s.checked w level).prio = s.prio := State.flag_of_get (State.get_checked rfl (by decide) w level 0)
  rw [State.arbitrate, h, ← prio]
  rfl

/-! ### The commands -/

theorem exec_tokenSample (level : Bool) (s : State) : exec (.tokenSample level) s = s.run fun s => s.tokenSample level := rfl

theorem exec_arbitrationCheck (level : Bool) (s : State) :
    exec (.arbitrationCheck level) s = s.run fun s => s.arbitrate level := rfl

theorem exec_tokenRelease (s : State) : exec .tokenRelease s = s.run State.dropToken := rfl

section
variable (ha : s.alive = true)
include ha

theorem completes_tokenSample_high (hp : s.pairOn = true) (hm : s.twin.handMb = none) :
    Completes (.tokenSample true) s fun t => t.token = s.token ∧ t.flag Reg.TWIN_STATE_PARTNER_TOKEN 0 = true ∧
      t.twin.free = 0 ∧ t.twin.partnerHeld = true :=
  completes_of_eq ha (exec_tokenSample true s) (State.tokenSample_high hp hm) (State.pending_sampled true)
    ⟨State.token_sampled true, State.partner_sampled true, rfl, rfl⟩

theorem completes_tokenSample_low (hp : s.pairOn = true) (h : s.token = true ∨ s.mayTake = false) :
    Completes (.tokenSample false) s fun t => t.token = s.token ∧ t.flag Reg.TWIN_STATE_PARTNER_TOKEN 0 = false ∧
      t.twin.partnerHeld = false ∧ t.twin.free = (if s.token then 0 else s.twin.free + 1) := by
  have effect : s.tokenSample false = s.sampleKept false := by
    rw [State.tokenSample_low hp]
    obtain h | h := h <;> simp [h]
  refine completes_of_eq ha (exec_tokenSample false s) effect (State.pending_sampled false)
    ⟨State.token_sampled false, State.partner_sampled false, rfl, ?_⟩
  rw [State.sampleKept, State.onTwin, State.twin_sampled, Bool.false_or]

theorem completes_tokenSample_take (hp : s.pairOn = true) (ht : s.token = false) (hm : s.mayTake = true) :
    Completes (.tokenSample false) s fun t => t.token = true ∧ t.get Reg.TWIN_STATE_ROLE 0 = 1 ∧ t.twin.confirmed = false ∧
      t.twin.takeAt = some t.ticks ∧
      t.get Reg.TAKEOVERS_COUNT 0 = min (s.get Reg.TAKEOVERS_COUNT 0 + 1) (2 ^ Reg.TAKEOVERS_COUNT.width - 1) := by
  have effect : s.tokenSample false = (s.sampleKept false).takeToken := by
    rw [State.tokenSample_low hp, ht, hm]; rfl
  have kept (f : Field) (hc : Reg.clocked f = false) (hf : Reg.TWIN_STATE_PARTNER_TOKEN.id ≠ f.id) :
      (s.sampleKept false).get f 0 = s.get f 0 := State.get_sampled hc hf false 0
  have pending : (s.sampleKept false).pending = s.pending := State.pending_sampled false
  generalize s.sampleKept false = u at effect kept pending
  have pair : u.pairOn = true := (State.flag_of_get (kept _ rfl (by decide))).trans hp
  have takeovers := u.takeovers_takeToken
  rw [kept _ rfl (by decide)] at takeovers
  refine completes_of_eq ha (exec_tokenSample false s) effect (u.pending_takeToken.trans pending)
    ⟨State.token_takeToken, State.role_takeToken pair, ?_, ?_, takeovers⟩
  · rw [u.twin_takeToken]
  · rw [u.twin_takeToken, u.ticks_takeToken]

theorem completes_arbitrationCheck {w : Nat} (hw : s.twin.takeAt = some w) (ht : s.token = true) (l : Bool) :
    Completes (.arbitrationCheck l) s fun t => t.twin.takeAt = none ∧ t.ticks = max s.ticks (w + 125) ∧ s.Signalled 224 t ∧
      t.token = !(l && !s.prio) ∧ t.twin.confirmed = !(l && !s.prio) ∧
      ((l && !s.prio) = true → t.flag Reg.TWIN_FLAGS_ARB_LOST 0 = true ∧ s.Signalled 231 t ∧ s.Signalled 225 t) := by
  have effect := State.arbitrate_taken hw l
  have kept (f : Field) (hc : Reg.clocked f = false) (hp : Reg.TWIN_STATE_PARTNER_TOKEN.id ≠ f.id) (i : Nat) :
      (s.checked w l).get f i = s.get f i := State.get_checked hc hp w l i
  have twin := s.twin_checked w l
  have ticks := s.ticks_checked w l
  have pending := s.pending_checked w l
  have shown := s.signalled_checked w l
  generalize s.checked w l = u at effect kept twin ticks pending shown
  have held : u.token = true := (State.flag_of_get (kept _ rfl (by decide) 0)).trans ht
  cases lost : l && !s.prio
  · rw [lost, if_neg (by decide)] at effect
    have untaken : (u.onTwin fun t => { t with confirmed := true }).twin.takeAt = none := by rw [State.onTwin, twin]
    exact completes_of_eq ha (exec_arbitrationCheck l s) effect pending
      ⟨untaken, ticks, shown, held, rfl, fun h => absurd h (by decide)⟩
  · rw [lost, if_pos rfl] at effect
    have losing : u.arbLost.token = true := (State.flag_of_get (State.get_arbLost rfl (by decide) 0)).trans held
    have route (f : Field) (hc : Reg.clocked f = false) (hp : Reg.TWIN_STATE_PARTNER_TOKEN.id ≠ f.id)
        (hl : Reg.TWIN_FLAGS_ARB_LOST.id ≠ f.id) (i : Nat) : u.arbLost.get f i = s.get f i :=
      (State.get_arbLost (Reg.raised_of_clocked hc) hl i).trans (kept f hc hp i)
    have reported : s.Signalled 231 u.arbLost := State.signalled_raise_of_get
      ((State.get_setFlag_other _ (by decide) _ _ _).trans (kept _ rfl (by decide) 231))
      ((State.get_setFlag_other _ (by decide) _ _ _).trans (kept _ rfl (by decide) 231))
    have arbLost : u.arbLost.flag Reg.TWIN_FLAGS_ARB_LOST 0 = true :=
      (State.flag_raise _ rfl 231 0).trans (State.flag_setFlag_same _ (by decide) 0 true)
    obtain ⟨dropped, -, unconfirmed, untaken, released⟩ := State.dropToken_spec losing
    exact completes_of_eq ha (exec_arbitrationCheck l s) effect
      (State.pending_dropToken.trans (State.pending_arbLost.trans pending))
      ⟨untaken, State.ticks_dropToken.trans (State.ticks_arbLost.trans ticks),
        shown.kept (State.pendKept_arbLost.trans State.pendKept_dropToken), dropped, unconfirmed, fun _ =>
        ⟨(State.flag_of_get (State.get_dropToken rfl (by decide) (by decide) 0)).trans arbLost,
          reported.kept State.pendKept_dropToken,
          released.of_get (route _ rfl (by decide) (by decide) 225) (route _ rfl (by decide) (by decide) 225)
            (fun _ => rfl) fun _ => rfl⟩⟩

theorem exec_tokenRelease_free (h : s.token = false) : exec .tokenRelease s = .next s :=
  exec_eq_of_run ha (exec_tokenRelease s) (State.dropToken_free h) rfl

theorem completes_tokenRelease (h : s.token = true) : Completes .tokenRelease s fun t => t.token = false ∧
    t.get Reg.TWIN_STATE_ROLE 0 = (if s.pairOn then 2 else 0) ∧ t.twin.confirmed = false ∧ s.Signalled 225 t := by
  obtain ⟨dropped, role, unconfirmed, -, released⟩ := State.dropToken_spec h
  exact completes_of_eq ha (exec_tokenRelease s) rfl State.pending_dropToken ⟨dropped, role, unconfirmed, released⟩

end

end Sys2Proof.Machine
end

section
/-!
Heartbeat, digests and the messages of the partner that are not about a node (R597, R603, R227, R598, R610).
-/
namespace Sys2Proof.Machine

variable {s : State}

/-! ### The loss of synchronisation of an ACTIVE unit -/

/-- What the loss of synchronisation leaves of a synchronised unit that is not STANDBY: it says so, and keeps what the commits
of the frames that wait keep. -/
theorem State.twinFrame_loseSync (hs : s.get Reg.TWIN_STATE_SYNC 0 = 2) (hr : s.get Reg.TWIN_STATE_ROLE 0 ≠ 2) :
    ((s.set Reg.TWIN_STATE_SYNC 0 0).raise 229).TwinFrame s.loseSync := by
  have frame := State.twinFrame_unsync hs
  have role : s.unsync.get Reg.TWIN_STATE_ROLE 0 = s.get Reg.TWIN_STATE_ROLE 0 := by
    rw [frame.get _ (by simp [Reg.twinKept]), State.get_raise _ rfl, State.get_set_other _ (by decide)]
  rwa [State.loseSync, State.standbyLost_idle (.inr (by rwa [role]))]

/-- Synchronisation is lost with `EV229`, and nothing that was pending before. -/
theorem State.loseSync_spec (hs : s.get Reg.TWIN_STATE_SYNC 0 = 2) (hr : s.get Reg.TWIN_STATE_ROLE 0 ≠ 2) :
    s.loseSync.get Reg.TWIN_STATE_SYNC 0 = 0 ∧ s.Signalled 229 s.loseSync ∧ s.PendKept s.loseSync ∧
    (∀ f ∈ Reg.twinKept, Reg.TWIN_STATE_SYNC.id ≠ f.id → ∀ i, s.loseSync.get f i = s.get f i) ∧
    ∀ i, s.Settled i → s.loseSync.Settled i := by
  have frame := State.twinFrame_loseSync hs hr
  have raised : ∀ f ∈ Reg.twinKept, Reg.raised f = false := by decide
  refine ⟨?_, ?_, ?_, fun f hf hd i => ?_, fun i hi => frame.settled i (State.settled_of_star ?_ hi)⟩
  · rw [frame.get _ (by simp [Reg.twinKept]), State.get_raise _ rfl, State.get_set_same]; rfl
  · exact (State.signalled_raise_of_get (State.get_set_other _ (by decide) _ _ _)
      (State.get_set_other _ (by decide) _ _ _)).kept frame.pends
  · exact ((s.pendKept_set (by decide) 0 0).trans (State.pendKept_raise _ 229)).trans frame.pends
  · rw [frame.get f hf, State.get_raise _ (raised f hf), State.get_set_other _ hd]
  · rw [State.raise_star]; rfl

/-! ### Heartbeat -/

theorem State.heartbeat_partnerBeats : s.partnerBeats.flag Reg.TWIN_STATE_HB_OK 0 = true :=
  State.flag_setFlag_same _ (by decide) 0 true

@[simp] theorem State.points_waitTb (s : State) (b t : Nat) : (s.waitTb b t).points = s.points := by
  obtain ⟨_, _, _, _, _, _, h⟩ := s.passed_advance (s.ticksTill b t)
  rw [State.waitTb, h]

theorem State.heartbeatFails_idle (h : s.pairOn = false ∨ s.flag Reg.TWIN_STATE_HB_OK 0 = false ∨ s.twin.misses < 2) :
    s.heartbeatFails = s := by
  refine if_neg ?_
  obtain h | h | h := h
  · simp [h]
  · simp [h]
  · simp [h]

/-- The failure of the heartbeat, before what it means for the link. -/
def State.heartbeatLost (s : State) : State := (s.setFlag Reg.TWIN_STATE_HB_OK 0 false).raise 226

/-- A failed heartbeat on a held token of the partner is a fault of the twin link. -/
def State.linkJudged (s : State) : State :=
  if !s.token && s.flag Reg.TWIN_STATE_PARTNER_TOKEN 0 then (s.setFlag Reg.TWIN_FLAGS_TWIN_LINK_FAULT 0 true).raise 227 else s

theorem State.get_linkJudged {f : Field} (hr : Reg.raised f = false) (hf : Reg.TWIN_FLAGS_TWIN_LINK_FAULT.id ≠ f.id) (i : Nat) :
    s.linkJudged.get f i = s.get f i := by
  unfold State.linkJudged
  split
  · rw [State.get_raise _ hr, State.get_setFlag_other _ hf]
  · rfl

theorem State.pendKept_linkJudged : s.PendKept s.linkJudged := by
  unfold State.linkJudged
  split
  · exact (s.pendKept_set (by decide) 0 _).trans (State.pendKept_raise _ 227)
  · exact .refl s

theorem State.pending_linkJudged : s.linkJudged.pending = s.pending := by
  unfold State.linkJudged
  split
  · exact State.raise_pending _ 227
  · rfl

theorem State.heartbeatFails_missed (hp : s.pairOn = true) (hb : s.flag Reg.TWIN_STATE_HB_OK 0 = true) (hm : 2 ≤ s.twin.misses) :
    s.heartbeatFails = s.heartbeatLost.linkJudged.loseSync := if_pos (by simp [hp, hb, hm])

theorem State.get_heartbeatLost {f : Field} (hr : Reg.raised f = false) (hf : Reg.TWIN_STATE_HB_OK.id ≠ f.id) (i : Nat) :
    s.heartbeatLost.get f i = s.get f i := by
  rw [State.heartbeatLost, State.get_raise _ hr, State.get_setFlag_other _ hf]

/-! ### Digests -/

/-- The CYCLE message of cycle `n` is noted. -/
def State.cycleNoted (s : State) (n : Nat) (p : TwinPartner) (d : List Byte) : State :=
  s.partnerBeats.onTwin fun t => { t with partner := some p, theirs := some (n - 1, d) }

theorem State.cycleMessage_eq (n mode role : Nat) (token sync : Bool) (d : List Byte) :
    s.cycleMessage n mode role token sync d = (s.cycleNoted n ⟨mode, role, token, sync⟩ d).compareDigests := rfl

/-- The partner's digest of a cycle waits until the unit's own is known. -/
theorem State.compareDigests_waits {n : Nat} {d : List Byte} (ht : s.twin.theirs = some (n, d)) (hd : s.twin.digests = []) :
    s.compareDigests = s := by
  rw [State.compareDigests, ht]
  simp only [hd, List.find?_nil]

/-- Both digests of a cycle are shown. -/
def State.digestsShown (s : State) (own d : List Byte) : State :=
  ((s.onTwin fun t => { t with theirs := none }).putDigest Reg.LOCAL_DIGEST_DIGEST own).putDigest Reg.PARTNER_DIGEST_DIGEST d

/-- The digests of a cycle of a synchronised pair differ. -/
theorem State.compareDigests_differ {n : Nat} {own d : List Byte} {r : List (Nat × List Byte)}
    (ht : s.twin.theirs = some (n, d)) (hd : s.twin.digests = (n, own) :: r) (hs : s.get Reg.TWIN_STATE_SYNC 0 = 2)
    (hne : own ≠ d) : s.compareDigests = (s.digestsShown own d).digestsDiffer n := by
  have found : s.twin.digests.find? (fun e => e.1 == n) = some (n, own) := by simp [hd]
  rw [State.compareDigests, ht]
  simp only [found]
  rw [if_pos (.inl hs), if_neg hne]
  rfl

theorem State.TwinFrame.putDigest {t : State} (h : s.TwinFrame t) {f : Field}
    (hf : ∀ g ∈ Reg.twinKept ++ Reg.pends, f.id ≠ g.id) (d : List Byte) : s.TwinFrame (t.putDigest f d) :=
  h.foldl (fun _ hu => hu.set hf) _

theorem State.twin_putDigest (f : Field) (d : List Byte) : (s.putDigest f d).twin = s.twin :=
  State.foldl_keeps (P := fun t => t.twin = s.twin) (fun t i h => (t.set_twin f i (uAt d (8 * i) 8)).trans h) (List.range 4) rfl

theorem State.twinFrame_digestsShown (own d : List Byte) : s.TwinFrame (s.digestsShown own d) :=
  have taken : s.TwinFrame (s.onTwin fun t => { t with theirs := none }) := (State.TwinFrame.refl s).kept rfl rfl
  (taken.putDigest (f := Reg.LOCAL_DIGEST_DIGEST) (by decide) own).putDigest (f := Reg.PARTNER_DIGEST_DIGEST) (by decide) d

theorem State.twin_digestsShown (own d : List Byte) : (s.digestsShown own d).twin = { s.twin with theirs := none } := by
  rw [State.digestsShown, State.twin_putDigest, State.twin_putDigest]; rfl

theorem State.twinFrame_cycleNoted (n : Nat) (p : TwinPartner) (d : List Byte) : s.TwinFrame (s.cycleNoted n p d) :=
  have beats : s.TwinFrame s.partnerBeats := ((State.TwinFrame.refl s).setFlag (f := Reg.TWIN_STATE_HB_OK) (by decide)).kept rfl rfl
  beats.kept rfl rfl

/-- The cycle of the first mismatch is kept while `DIVERGED` stands. -/
def State.mismatchNoted (s : State) (n : Nat) : State :=
  if s.flag Reg.TWIN_FLAGS_DIVERGED 0 then s else s.set Reg.FIRST_MISMATCH_CYCLE 0 n

theorem State.twin_mismatchNoted (n : Nat) : (s.mismatchNoted n).twin = s.twin := by
  unfold State.mismatchNoted
  split <;> rfl

/-- A mismatch is counted and shown. -/
def State.mismatchCounted (s : State) : State :=
  (s.count Reg.DIGEST_MISMATCH_COUNT 0 1).setFlag Reg.TWIN_FLAGS_DIVERGED 0 true

theorem State.get_mismatchCounted {f : Field} (hc : Reg.DIGEST_MISMATCH_COUNT.id ≠ f.id)
    (hd : Reg.TWIN_FLAGS_DIVERGED.id ≠ f.id) (i : Nat) : s.mismatchCounted.get f i = s.get f i := by
  rw [State.mismatchCounted, State.get_setFlag_other _ hd, State.get_count_other _ hc]

/-- Outside a resynchronisation a mismatch costs the pair its synchronisation (R603). -/
theorem State.digestsDiffer_eq (h : s.twin.compare = false) (n : Nat) :
    s.digestsDiffer n = ((s.mismatchNoted n).mismatchCounted.raise 228).loseSync := by
  have compare : ((s.mismatchNoted n).mismatchCounted.raise 228).twin.compare = false := by
    rw [State.raise_twin, State.mismatchCounted, State.setFlag_twin, State.count_twin, State.twin_mismatchNoted, h]
  have unfolded : s.digestsDiffer n = (if ((s.mismatchNoted n).mismatchCounted.raise 228).twin.compare then
      ((s.mismatchNoted n).mismatchCounted.raise 228).endResync Status.E_TWIN_NOT_SYNC
      else (s.mismatchNoted n).mismatchCounted.raise 228).loseSync := rfl
  rw [unfolded, compare]
  rfl

/-- What a mismatch on a synchronised pair leaves of an ACTIVE unit (R603, R607). -/
theorem State.digestsDiffer_spec (hc : s.twin.compare = false) (hs : s.get Reg.TWIN_STATE_SYNC 0 = 2)
    (hr : s.get Reg.TWIN_STATE_ROLE 0 ≠ 2) (n : Nat) :
    (s.digestsDiffer n).flag Reg.TWIN_FLAGS_DIVERGED 0 = true ∧ s.Signalled 228 (s.digestsDiffer n) ∧
    s.Signalled 229 (s.digestsDiffer n) ∧ (s.digestsDiffer n).get Reg.TWIN_STATE_SYNC 0 = 0 ∧
    (s.digestsDiffer n).get Reg.DIGEST_MISMATCH_COUNT 0 =
      min (s.get Reg.DIGEST_MISMATCH_COUNT 0 + 1) (2 ^ Reg.DIGEST_MISMATCH_COUNT.width - 1) := by
  rw [State.digestsDiffer_eq hc]
  have noted : s.TwinFrame (s.mismatchNoted n) :=
    (State.TwinFrame.refl s).ite ((State.TwinFrame.refl s).set (by decide))
  have read {f : Field} (hf : f ∈ Reg.twinKept) (h1 : Reg.DIGEST_MISMATCH_COUNT.id ≠ f.id)
      (h2 : Reg.TWIN_FLAGS_DIVERGED.id ≠ f.id) (i : Nat) : (s.mismatchNoted n).mismatchCounted.get f i = s.get f i :=
    (State.get_mismatchCounted h1 h2 i).trans (noted.get f hf i)
  have diverged : (s.mismatchNoted n).mismatchCounted.flag Reg.TWIN_FLAGS_DIVERGED 0 = true :=
    State.flag_setFlag_same _ (by decide) 0 true
  have counted : (s.mismatchNoted n).mismatchCounted.get Reg.DIGEST_MISMATCH_COUNT 0 =
      min (s.get Reg.DIGEST_MISMATCH_COUNT 0 + 1) (2 ^ Reg.DIGEST_MISMATCH_COUNT.width - 1) := by
    rw [State.mismatchCounted, State.get_setFlag_other _ (by decide), State.get_count_same,
      noted.get _ (by simp [Reg.twinKept])]
  generalize (s.mismatchNoted n).mismatchCounted = u at read diverged counted
  have raised {f : Field} (hf : Reg.raised f = false) (i : Nat) : (u.raise 228).get f i = u.get f i := u.get_raise hf 228 i
  have sync : (u.raise 228).get Reg.TWIN_STATE_SYNC 0 = 2 := by
    rw [raised rfl, read (by simp [Reg.twinKept]) (by decide) (by decide), hs]
  have role : (u.raise 228).get Reg.TWIN_STATE_ROLE 0 ≠ 2 := by
    rwa [raised rfl, read (by simp [Reg.twinKept]) (by decide) (by decide)]
  have shown : s.Signalled 228 (u.raise 228) := State.signalled_raise_of_get
    (read (by simp [Reg.twinKept]) (by decide) (by decide) 228) (read (by simp [Reg.twinKept]) (by decide) (by decide) 228)
  obtain ⟨lost, told, pends, get, -⟩ := State.loseSync_spec sync role
  refine ⟨?_, shown.kept pends, told.of_get ?_ ?_ (fun _ => rfl) (fun _ => rfl), lost, ?_⟩
  · exact (State.flag_of_get ((get _ (by simp [Reg.twinKept]) (by decide) 0).trans (raised rfl 0))).trans diverged
  · exact (raised rfl 229).trans (read (by simp [Reg.twinKept]) (by decide) (by decide) 229)
  · exact (raised rfl 229).trans (read (by simp [Reg.twinKept]) (by decide) (by decide) 229)
  · exact (get _ (by simp [Reg.twinKept]) (by decide) 0).trans ((raised rfl 0).trans counted)

/-! ### Pair exchange and resynchronisation -/

theorem State.inst_onRun_same (n : Nat) (f : SawRun → SawRun) :
    (s.onRun n f).inst n = { s.inst n with run := (s.inst n).run.map f } :=
  Tab.get_put_same _ _ _ _

theorem State.doPairExchange_idle {n : Nat} (h : (s.inst n).run = none) (iters outcome : Nat) :
    s.doPairExchange n iters outcome = s := by
  rw [State.doPairExchange, h]

/-- The partner's count comes before the run has ended: it waits (R228). -/
theorem State.doPairExchange_early {n : Nat} {r : SawRun} (h : (s.inst n).run = some r) (hw : r.wrap = none)
    (iters outcome : Nat) : s.doPairExchange n iters outcome = s.onRun n fun r => { r with partner := some (iters, outcome) } := by
  simp only [State.doPairExchange, h, hw]

theorem State.resyncMessage_idle (h : s.pairOn = false ∨ s.flag Reg.TWIN_STATE_LINK_UP 0 = false ∨
    s.get Reg.TWIN_STATE_SYNC 0 = 2) (phase dirty : Nat) (parts : List ResyncPart) : s.resyncMessage phase dirty parts = s := by
  refine if_pos ?_
  obtain h | h | h := h
  · simp [h]
  · simp [h]
  · simp [h]

/-- The bulk phase as the ACTIVE unit sees it: progress is shown (R610). -/
def State.bulkShown (s : State) (dirty : Nat) : State :=
  ((s.set Reg.TWIN_STATE_SYNC 0 1).set Reg.RESYNC_PROGRESS_MIB_DIRTY 0 dirty).set Reg.RESYNC_PROGRESS_PHASE 0 1

theorem State.resyncMessage_bulk (hp : s.pairOn = true) (hl : s.flag Reg.TWIN_STATE_LINK_UP 0 = true)
    (hs : s.get Reg.TWIN_STATE_SYNC 0 ≠ 2) (hr : s.get Reg.TWIN_STATE_ROLE 0 = 1) (dirty : Nat) :
    s.resyncMessage 1 dirty [] = s.bulkShown dirty := by
  have role : (s.get Reg.TWIN_STATE_ROLE 0 == 2) = false := by rw [hr]; rfl
  unfold State.resyncMessage
  rw [role]
  exact if_neg (by simp [hp, hl, hs])

/-! ### The commands -/

theorem exec_heartbeatPulse (partner : Bool) (s : State) : exec (.heartbeatPulse partner) s =
    s.run fun s => if !s.pairOn then s else if partner then s.partnerBeats else s.ownBeat := rfl

theorem exec_heartbeatFail (s : State) : exec .heartbeatFail s = s.run State.heartbeatFails := rfl

theorem exec_cycleMessage (n mode role : Nat) (token sync : Bool) (d : List Byte) (s : State) :
    exec (.cycleMessage n mode role token sync d) s =
      s.run fun s => if s.pairOn then s.cycleMessage n mode role token sync d else s := rfl

theorem exec_solveMessage (i : Fin 8) (n : Word16) (o : Fin 16) (s : State) : exec (.solveMessage i n o) s =
    s.run fun s => if s.pairOn then s.doPairExchange i n.toNat o else s := rfl

theorem exec_handoverMessage (n : Nat) (s : State) : exec (.handoverMessage n) s =
    s.run fun s => if s.pairOn then s.onTwin fun t => { t with handover := some n } else s := rfl

theorem exec_resyncMessage (phase : Fin 3) (dirty : Nat) (parts : List ResyncPart) (s : State) :
    exec (.resyncMessage phase dirty parts) s = s.run fun s => s.resyncMessage phase dirty parts := rfl

section
variable (ha : s.alive = true)
include ha

/-- Without a configured pair the partner's signals and messages do nothing. -/
theorem exec_twinMessages_single (h : s.pairOn = false) :
    (∀ l, exec (.tokenSample l) s = .next s) ∧ (∀ b, exec (.heartbeatPulse b) s = .next s) ∧
      exec .heartbeatFail s = .next s ∧
      (∀ a b c d e f, exec (.cycleMessage a b c d e f) s = .next s) ∧ (∀ i n o, exec (.solveMessage i n o) s = .next s) ∧
      (∀ n, exec (.handoverMessage n) s = .next s) ∧ ∀ a b c, exec (.resyncMessage a b c) s = .next s := by
  have single {t : State} : (if s.pairOn then t else s) = s := if_neg (Bool.eq_false_iff.mp h)
  refine ⟨fun l => ?_, fun b => ?_, ?_, fun a b c d e f => ?_, fun i n o => ?_, fun n => ?_, fun a b c => ?_⟩
  · exact exec_eq_of_run ha (exec_tokenSample l s) (State.tokenSample_single h l) rfl
  · exact exec_eq_of_run ha (exec_heartbeatPulse b s) (if_pos (by simp [h])) rfl
  · exact exec_eq_of_run ha (exec_heartbeatFail s) (State.heartbeatFails_idle (.inl h)) rfl
  · exact exec_eq_of_run ha (exec_cycleMessage a b c d e f s) single rfl
  · exact exec_eq_of_run ha (exec_solveMessage i n o s) single rfl
  · exact exec_eq_of_run ha (exec_handoverMessage n s) single rfl
  · exact exec_eq_of_run ha (exec_resyncMessage a b c s) (State.resyncMessage_idle (.inl h) a b c) rfl

variable (hp : s.pairOn = true)
include hp

theorem completes_heartbeatPulse_partner : Completes (.heartbeatPulse true) s fun t =>
    t.flag Reg.TWIN_STATE_HB_OK 0 = true ∧ t.twin.hbSeen = true ∧ t.outbox = s.outbox := by
  have effect : (if !s.pairOn then s else if true then s.partnerBeats else s.ownBeat) = s.partnerBeats := by rw [hp]; rfl
  exact completes_of_eq ha (exec_heartbeatPulse true s) effect rfl ⟨State.heartbeat_partnerBeats, rfl, rfl⟩

theorem completes_heartbeatPulse_own : Completes (.heartbeatPulse false) s fun t =>
    t.outbox.head? = some .heartbeat ∧ t.points = s.points ∧ t.token = s.token := by
  have effect : (if !s.pairOn then s else if false then s.partnerBeats else s.ownBeat) = s.ownBeat := by rw [hp]; rfl
  exact completes_of_eq ha (exec_heartbeatPulse false s) effect (s.clockFrame_advance _).pending
    ⟨rfl, s.points_waitTb 0 _, State.flag_of_get (s.get_waitTb rfl 0 _ 0)⟩

omit hp in
theorem exec_heartbeatFail_idle (h : s.flag Reg.TWIN_STATE_HB_OK 0 = false ∨ s.twin.misses < 2) :
    exec .heartbeatFail s = .next s :=
  exec_eq_of_run ha (exec_heartbeatFail s) (State.heartbeatFails_idle (.inr h)) rfl

theorem completes_heartbeatFail (hb : s.flag Reg.TWIN_STATE_HB_OK 0 = true) (hm : 2 ≤ s.twin.misses)
    (hs : s.get Reg.TWIN_STATE_SYNC 0 ≠ 2) (hr : s.get Reg.TWIN_STATE_ROLE 0 ≠ 2) : Completes .heartbeatFail s fun t =>
      t.flag Reg.TWIN_STATE_HB_OK 0 = false ∧ s.Signalled 226 t ∧ t.token = s.token := by
  have kept (f : Field) (hf : Reg.raised f = false) (h1 : Reg.TWIN_STATE_HB_OK.id ≠ f.id)
      (h2 : Reg.TWIN_FLAGS_TWIN_LINK_FAULT.id ≠ f.id) : s.heartbeatLost.linkJudged.get f 0 = s.get f 0 :=
    (State.get_linkJudged hf h2 0).trans (State.get_heartbeatLost hf h1 0)
  have settled : s.heartbeatLost.linkJudged.loseSync = s.heartbeatLost.linkJudged :=
    State.loseSync_idle (by rwa [kept _ rfl (by decide) (by decide)]) (.inr (by rwa [kept _ rfl (by decide) (by decide)]))
  have shown : s.Signalled 226 s.heartbeatLost :=
    State.signalled_raise_of_get (State.get_setFlag_other _ (by decide) _ _ _) (State.get_setFlag_other _ (by decide) _ _ _)
  have failed : s.heartbeatLost.flag Reg.TWIN_STATE_HB_OK 0 = false :=
    (State.flag_raise _ rfl 226 0).trans (State.flag_setFlag_same _ (by decide) 0 false)
  exact completes_of_eq ha (exec_heartbeatFail s) ((State.heartbeatFails_missed hp hb hm).trans settled)
    (State.pending_linkJudged.trans (State.raise_pending _ 226))
    ⟨(State.flag_of_get (State.get_linkJudged rfl (by decide) 0)).trans failed, shown.kept State.pendKept_linkJudged,
      State.flag_of_get (kept _ rfl (by decide) (by decide))⟩

theorem completes_cycleMessage_waits (n mode role : Nat) (tk sy : Bool) (d : List Byte) (hd : s.twin.digests = []) :
    Completes (.cycleMessage n mode role tk sy d) s fun t =>
      t.twin.partner = some ⟨mode, role, tk, sy⟩ ∧ t.twin.theirs = some (n - 1, d) ∧
      t.flag Reg.TWIN_STATE_HB_OK 0 = true := by
  have waits : (s.cycleNoted n ⟨mode, role, tk, sy⟩ d).compareDigests = s.cycleNoted n ⟨mode, role, tk, sy⟩ d :=
    State.compareDigests_waits rfl hd
  exact completes_of_eq ha (exec_cycleMessage n mode role tk sy d s) ((if_pos hp).trans waits) rfl
    ⟨rfl, rfl, State.heartbeat_partnerBeats⟩

theorem completes_cycleMessage_differs {n mode role : Nat} {tk sy : Bool} {d own : List Byte} {r : List (Nat × List Byte)}
    (hd : s.twin.digests = (n - 1, own) :: r) (hne : own ≠ d) (hs : s.get Reg.TWIN_STATE_SYNC 0 = 2)
    (hc : s.twin.compare = false) (hr : s.get Reg.TWIN_STATE_ROLE 0 = 1) :
    Completes (.cycleMessage n mode role tk sy d) s fun t => t.flag Reg.TWIN_FLAGS_DIVERGED 0 = true ∧ s.Signalled 228 t ∧
      s.Signalled 229 t ∧ t.get Reg.TWIN_STATE_SYNC 0 = 0 ∧
      t.get Reg.DIGEST_MISMATCH_COUNT 0 =
        min (s.get Reg.DIGEST_MISMATCH_COUNT 0 + 1) (2 ^ Reg.DIGEST_MISMATCH_COUNT.width - 1) := by
  have noted := State.twinFrame_cycleNoted (s := s) n ⟨mode, role, tk, sy⟩ d
  have effect := State.compareDigests_differ (s := s.cycleNoted n ⟨mode, role, tk, sy⟩ d) (n := n - 1) (own := own) rfl hd
    ((noted.get _ (by simp [Reg.twinKept]) 0).trans hs) hne
  have compare : ((s.cycleNoted n ⟨mode, role, tk, sy⟩ d).digestsShown own d).twin.compare = false := by
    rw [State.twin_digestsShown]; exact hc
  have shown := State.twinFrame_digestsShown (s := s.cycleNoted n ⟨mode, role, tk, sy⟩ d) own d
  generalize hu : (s.cycleNoted n ⟨mode, role, tk, sy⟩ d).digestsShown own d = u at effect compare shown
  have read {f : Field} (hf : f ∈ Reg.twinKept) (i : Nat) : u.get f i = s.get f i :=
    (shown.get f hf i).trans (noted.get f hf i)
  obtain ⟨diverged, told, lost, sync, counted⟩ := State.digestsDiffer_spec compare
    ((read (by simp [Reg.twinKept]) 0).trans hs) (by rw [read (by simp [Reg.twinKept]), hr]; decide) (n - 1)
  rw [read (by simp [Reg.twinKept])] at counted
  have route (k : Nat) {t : State} (h : u.Signalled k t) : s.Signalled k t :=
    h.of_get (read (by simp [Reg.twinKept]) k) (read (by simp [Reg.twinKept]) k) (fun _ => rfl) fun _ => rfl
  have told := route 228 told
  have lost := route 229 lost
  generalize u.digestsDiffer (n - 1) = t at effect diverged told lost sync counted
  exact completes_of_effect ha (exec_cycleMessage n mode role tk sy d s) ((if_pos hp).trans effect)
    ⟨diverged, told, lost, sync, counted⟩

theorem exec_solveMessage_idle {i : Fin 8} (h : (s.inst i).run = none) (n : Word16) (o : Fin 16) :
    exec (.solveMessage i n o) s = .next s :=
  exec_eq_of_run ha (exec_solveMessage i n o s) ((if_pos hp).trans (State.doPairExchange_idle h _ _)) rfl

theorem completes_solveMessage {i : Fin 8} {r : SawRun} (h : (s.inst i).run = some r) (hw : r.wrap = none) (n : Word16)
    (o : Fin 16) : Completes (.solveMessage i n o) s fun t =>
      (t.inst i).run = some { r with partner := some (n.toNat, o.val) } := by
  refine completes_of_eq ha (exec_solveMessage i n o s) ((if_pos hp).trans (State.doPairExchange_early h hw _ _)) rfl ?_
  rw [State.inst_onRun_same, h]
  rfl

theorem exec_handoverMessage_pair (n : Nat) : exec (.handoverMessage n) s =
    .next (s.beside fun s => s.onTwin fun t => { t with handover := some n }) := by
  rw [exec_handoverMessage, State.run_alive ha]
  exact congrArg _ (congrArg (fun t : State => { t with pending := s.pending }) (if_pos hp))

omit hp in
theorem exec_resyncMessage_idle (h : s.flag Reg.TWIN_STATE_LINK_UP 0 = false ∨ s.get Reg.TWIN_STATE_SYNC 0 = 2) (phase : Fin 3)
    (dirty : Nat) (parts : List ResyncPart) : exec (.resyncMessage phase dirty parts) s = .next s :=
  exec_eq_of_run ha (exec_resyncMessage phase dirty parts s) (State.resyncMessage_idle (.inr h) _ _ _) rfl

theorem completes_resyncMessage_bulk (d : Nat) (hl : s.flag Reg.TWIN_STATE_LINK_UP 0 = true)
    (hs : s.get Reg.TWIN_STATE_SYNC 0 ≠ 2) (hr : s.get Reg.TWIN_STATE_ROLE 0 = 1) : Completes (.resyncMessage 1 d []) s fun t =>
      t.get Reg.TWIN_STATE_SYNC 0 = 1 ∧ t.get Reg.RESYNC_PROGRESS_PHASE 0 = 1 ∧
      t.get Reg.RESYNC_PROGRESS_MIB_DIRTY 0 = d % 2 ^ Reg.RESYNC_PROGRESS_MIB_DIRTY.width ∧
      t.mem = s.mem ∧ t.points = s.points := by
  refine completes_of_eq ha (exec_resyncMessage 1 d [] s) (State.resyncMessage_bulk hp hl hs hr d) rfl ⟨?_, ?_, ?_, rfl, rfl⟩
  · rw [State.bulkShown, State.get_set_other _ (by decide), State.get_set_other _ (by decide), State.get_set_same]; rfl
  · rw [State.bulkShown, State.get_set_same]; rfl
  · rw [State.bulkShown, State.get_set_other _ (by decide), State.get_set_same]

end

end Sys2Proof.Machine
end

section
/-!
The records of a node's window and the commands of the partner (R96, R601, R606).
-/
namespace Sys2Proof.Machine

variable {s : State}

/-! ### Records (R601) -/

theorem State.sync_of_pairSync (h : s.pairSync = true) : s.get Reg.TWIN_STATE_SYNC 0 = 2 := by
  simp only [State.pairSync, Bool.and_eq_true, beq_iff_eq] at h
  exact h.2

/-- Records and their timeout act on a node of a synchronised pair alone. -/
theorem State.acceptMessage_idle {m : Nat} (h : s.pairSync = false ∨ s.slotOf m = none) (ok : Bool) (crc : Nat) :
    s.acceptMessage m ok crc = s := by
  unfold State.acceptMessage
  split
  · next hm => exact if_neg (Bool.eq_false_iff.mp (h.resolve_right (by simp [hm])))
  · rfl

theorem State.inputMessage_idle {m : Nat} (h : s.pairSync = false ∨ s.slotOf m = none) (nul : Bool) (p : List Byte) :
    s.inputMessage m nul p = s := by
  unfold State.inputMessage
  split
  · next hm => exact if_neg (Bool.eq_false_iff.mp (h.resolve_right (by simp [hm])))
  · rfl

theorem State.acceptTimeout_idle {m : Nat}
    (h : s.pairSync = false ∨ s.slotOf m = none ∨ ∃ i, s.slotOf m = some i ∧ (s.node i).closed = false) :
    s.acceptTimeout m = s := by
  unfold State.acceptTimeout
  split
  · next i hm =>
    refine if_neg ?_
    obtain h | h | ⟨j, hj, h⟩ := h
    · simp [h]
    · simp [hm] at h
    · obtain rfl : i = j := Option.some.inj (hm.symm.trans hj)
      simp [h]
  · rfl

/-- The partner's record comes before the window has closed: it waits. -/
theorem State.acceptMessage_open {m i : Nat} (hp : s.pairSync = true) (hm : s.slotOf m = some i)
    (hc : (s.node i).closed = false) (ok : Bool) (crc : Nat) :
    s.acceptMessage m ok crc = s.onNode i fun x => { x with record := some (ok, crc), other := ok } := by
  have node : (s.onNode i fun x => { x with record := some (ok, crc), other := ok }).node i =
      { s.node i with record := some (ok, crc), other := ok } := State.node_onNode_same i _
  simp only [State.acceptMessage, hm, hp, if_pos, State.settleUp, node, hc]
  rfl

@[simp] theorem State.star_waitTb (s : State) (b t : Nat) : (s.waitTb b t).star = s.star := by
  obtain ⟨_, _, _, _, _, _, h⟩ := s.passed_advance (s.ticksTill b t)
  rw [State.waitTb, h]

/-- A slot at which no frame waits has nothing to commit. -/
theorem State.commitAlone_none {i : Nat} (h : (s.node i).up = none) : s.commitAlone i = s.onNode i NodeRun.cleared := by
  rw [State.commitAlone, h]
  rfl

/-- The clock stands 4 µs after the end of a node's window. -/
def State.recordDue (s : State) (i : Nat) : State :=
  s.waitTb 0 (s.star.start + s.get Reg.NODE_CFG_ARRIVE i + s.guardNs + 4000)

theorem State.acceptTimeout_missing {m i : Nat} (hp : s.pairSync = true) (hm : s.slotOf m = some i)
    (hc : (s.node i).closed = true) (hr : (s.node i).record = none) (hu : (s.node i).up = none) :
    s.acceptTimeout m = ((s.recordDue i).onNode i NodeRun.cleared).loseSync := by
  have up : ((s.recordDue i).node i).up = none := by rw [State.node, State.recordDue, State.star_waitTb]; exact hu
  rw [← State.commitAlone_none up, State.acceptTimeout, hm]
  exact if_pos (by simp [hp, hc, hr])

theorem State.twinFrame_recordDue (i : Nat) : s.TwinFrame ((s.recordDue i).onNode i NodeRun.cleared) :=
  ((State.TwinFrame.refl s).waitTb 0 _).cleared i

/-! ### A full ingress buffer (R546) -/

theorem State.portHeld_of_star {t : State} (hr : t.regs = s.regs) (hy : t.yard = s.yard) (p : Nat) :
    t.portHeld p = s.portHeld p := by
  simp only [State.portHeld, State.slots, State.flag, State.get_of_regs hr, hy]

/-- A frame that finds the buffer of its port full, with an item held, is dropped. -/
theorem State.ingress_full {p : Nat} (hl : 8 ≤ (s.star.ingress.get [] p).length) (hh : s.portHeld p = true) (f : UpFrame) :
    s.ingress p f = ((s.onStar fun t => { t with ingress := t.ingress.put [] p (s.star.ingress.get [] p) }).count
      Reg.RX_DROP_COUNT p 1).raise 140 := by
  have stuck : s.ingressGo p (s.star.ingress.get [] p) =
      s.onStar fun t => { t with ingress := t.ingress.put [] p (s.star.ingress.get [] p) } := by
    cases hb : s.star.ingress.get [] p with
    | nil => rw [hb] at hl; exact absurd hl (by decide)
    | cons g r => exact if_pos hh
  have length : ((s.onStar fun t => { t with ingress := t.ingress.put [] p (s.star.ingress.get [] p) }).star.ingress.get [] p) =
      s.star.ingress.get [] p := Tab.get_put_same _ _ _ _
  rw [State.ingress, stuck, length]
  exact if_pos hl

theorem State.inputMessage_slot {m i : Nat} (hp : s.pairSync = true) (hm : s.slotOf m = some i) (nul : Bool) (p : List Byte) :
    s.inputMessage m nul p = (s.onNode i NodeRun.cleared).ingress (s.slotPort i)
      { node := m, nul := nul, payload := p, crc := 0 } := by
  rw [State.inputMessage, hm]
  exact if_pos hp

/-! ### The commands -/

theorem exec_acceptMessage (m : Fin 256) (ok : Bool) (crc : Nat) (s : State) :
    exec (.acceptMessage m ok crc) s = s.run fun s => s.acceptMessage m ok crc := rfl

theorem exec_acceptTimeout (m : Fin 256) (s : State) : exec (.acceptTimeout m) s = s.run fun s => s.acceptTimeout m := rfl

theorem exec_inputMessage (m : Fin 256) (nul : Bool) (p : List Byte) (s : State) :
    exec (.inputMessage m nul p) s = s.run fun s => s.inputMessage m nul p := rfl

theorem exec_commandMessage_command (n c mb : Nat) (b : List Byte) (s : State) :
    exec (.commandMessage (.command n c mb b)) s = s.run fun s => if s.pairOn && s.flag Reg.TWIN_STATE_LINK_UP 0 then
      s.onTwin fun t => { t with waiting := t.waiting ++ [.command n c 32 b] } else s := rfl

theorem exec_commandMessage_window (n p v : Nat) (s : State) :
    exec (.commandMessage (.window n p v)) s = s.run fun s => if s.pairSync then
      s.onTwin fun t => { t with waiting := t.waiting ++ [.window n p v] } else s := rfl

section
variable (ha : s.alive = true)
include ha

theorem exec_nodeRecords_idle {m : Fin 256} (h : s.pairSync = false ∨ s.slotOf m = none) :
    (∀ o c, exec (.acceptMessage m o c) s = .next s) ∧ exec (.acceptTimeout m) s = .next s ∧
      ∀ z p, exec (.inputMessage m z p) s = .next s :=
  ⟨fun o c => exec_eq_of_run ha (exec_acceptMessage m o c s) (State.acceptMessage_idle h o c) rfl,
    exec_eq_of_run ha (exec_acceptTimeout m s) (State.acceptTimeout_idle (h.imp_right .inl)) rfl,
    fun z p => exec_eq_of_run ha (exec_inputMessage m z p s) (State.inputMessage_idle h z p) rfl⟩

theorem exec_windowMessage_idle (h : s.pairSync = false) (n p v : Nat) :
    exec (.commandMessage (.window n p v)) s = .next s :=
  exec_eq_of_run ha (exec_commandMessage_window n p v s) (if_neg (Bool.eq_false_iff.mp h)) rfl

theorem exec_windowMessage_waits (h : s.pairSync = true) (n p v : Nat) : exec (.commandMessage (.window n p v)) s =
    .next (s.beside fun s => s.onTwin fun t => { t with waiting := t.waiting ++ [.window n p v] }) := by
  rw [exec_commandMessage_window, State.run_alive ha]
  exact congrArg _ (congrArg (fun t : State => { t with pending := s.pending }) (if_pos h))

theorem exec_commandMessage_idle (h : s.pairOn = false ∨ s.flag Reg.TWIN_STATE_LINK_UP 0 = false) (n c mb : Nat)
    (b : List Byte) : exec (.commandMessage (.command n c mb b)) s = .next s := by
  refine exec_eq_of_run ha (exec_commandMessage_command n c mb b s) (if_neg ?_) rfl
  obtain h | h := h <;> simp [h]

theorem exec_commandMessage_waits (hp : s.pairOn = true) (hl : s.flag Reg.TWIN_STATE_LINK_UP 0 = true) (n c mb : Nat)
    (b : List Byte) : exec (.commandMessage (.command n c mb b)) s =
      .next (s.beside fun s => s.onTwin fun t => { t with waiting := t.waiting ++ [.command n c 32 b] }) := by
  rw [exec_commandMessage_command, State.run_alive ha]
  exact congrArg _ (congrArg (fun t : State => { t with pending := s.pending }) (if_pos (by simp [hp, hl])))

variable (hp : s.pairSync = true) {m : Fin 256} {i : Nat} (hm : s.slotOf m = some i)
include hp hm

theorem completes_acceptMessage_open (hc : (s.node i).closed = false) (o : Bool) (c : Nat) :
    Completes (.acceptMessage m o c) s fun t => (t.node i).record = some (o, c) ∧ (t.node i).up = (s.node i).up := by
  refine completes_of_eq ha (exec_acceptMessage m o c s) (State.acceptMessage_open hp hm hc o c) rfl ?_
  rw [State.node_onNode_same]
  exact ⟨rfl, rfl⟩

omit hp in
theorem exec_acceptTimeout_open (hc : (s.node i).closed = false) : exec (.acceptTimeout m) s = .next s :=
  exec_eq_of_run ha (exec_acceptTimeout m s) (State.acceptTimeout_idle (.inr (.inr ⟨i, hm, hc⟩))) rfl

theorem completes_acceptTimeout (hc : (s.node i).closed = true) (hr : (s.node i).record = none)
    (hu : (s.node i).up = none) (ho : s.get Reg.TWIN_STATE_ROLE 0 = 1) : Completes (.acceptTimeout m) s fun t =>
      t.get Reg.TWIN_STATE_SYNC 0 = 0 ∧ (t.node i).closed = false ∧ (t.node i).up = none ∧ s.Signalled 229 t := by
  have effect := State.acceptTimeout_missing hp hm hc hr hu
  have kept := s.twinFrame_recordDue i
  have clear : ((s.recordDue i).onNode i NodeRun.cleared).Settled i := State.settled_cleared i
  generalize (s.recordDue i).onNode i NodeRun.cleared = u at effect kept clear
  obtain ⟨sync, told, -, -, settled⟩ := State.loseSync_spec (s := u)
    ((kept.get _ (by simp [Reg.twinKept]) 0).trans (State.sync_of_pairSync hp))
    (by rw [kept.get _ (by simp [Reg.twinKept]), ho]; decide)
  obtain ⟨closed, up⟩ := settled i clear
  have shown := kept.signalled told
  generalize u.loseSync = t at effect sync closed up shown
  exact completes_of_effect ha (exec_acceptTimeout m s) effect ⟨sync, closed, up, shown⟩

theorem completes_inputMessage_full (hl : 8 ≤ (s.star.ingress.get [] (s.slotPort i)).length)
    (hh : s.portHeld (s.slotPort i) = true) (z : Bool) (p : List Byte) : Completes (.inputMessage m z p) s fun t =>
      (t.node i).up = none ∧ (t.node i).record = none ∧ (t.node i).closed = false ∧ s.Signalled 140 t := by
  have held : (s.onNode i NodeRun.cleared).portHeld (s.slotPort i) = true := (State.portHeld_of_star rfl rfl _).trans hh
  have effect := (State.inputMessage_slot hp hm z p).trans
    (State.ingress_full (s := s.onNode i NodeRun.cleared) hl held _)
  have node {u : State} (hn : u.star.nodes = (s.onNode i NodeRun.cleared).star.nodes) : u.node i = (s.node i).cleared := by
    rw [State.node, hn]
    exact State.node_onNode_same i _
  refine completes_of_eq ha (exec_inputMessage m z p s) effect (State.raise_pending _ 140) ?_
  rw [node (by rw [State.raise_star]; rfl)]
  exact ⟨rfl, rfl, rfl, State.signalled_raise_of_get (State.get_count_other _ (by decide) _ _ _)
    (State.get_count_other _ (by decide) _ _ _)⟩

end

end Sys2Proof.Machine
end

section
/-!
The twin link (chapter 19).
-/
namespace Sys2Proof.Machine

/-- Settles O51: each command by what its operation leaves; where synchronisation is lost, by what the frames that are then
committed alone leave of the pair (`State.TwinFrame`). -/
theorem redundantPair : Obligations.RedundantPair := by
  intro s ha
  refine ⟨completes_twinLaneUp ha, ?laneDegraded, fun l h hp hs e => completes_twinLaneDown_last ha h hp hs e,
    exec_twinMessages_single ha, fun hp => ?pair, ?checkIdle, fun w l hw ht => completes_arbitrationCheck ha hw ht l,
    exec_tokenRelease_free ha, completes_tokenRelease ha, fun h m => ?unsynchronised,
    fun n c mb b h => exec_commandMessage_idle ha h n c mb b, fun n c mb b hp hl => exec_commandMessage_waits ha hp hl n c mb b,
    fun hp => ?synchronised⟩
  case laneDegraded =>
    rintro l _ rfl h e
    exact completes_twinLaneDown_degraded ha h e
  case checkIdle =>
    exact fun h l => exec_eq_of_run ha (exec_arbitrationCheck l s) (State.arbitrate_none h l) rfl
  case pair =>
    exact ⟨completes_tokenSample_high ha hp, completes_tokenSample_low ha hp, completes_tokenSample_take ha hp,
      completes_heartbeatPulse_partner ha hp, completes_heartbeatPulse_own ha hp, exec_heartbeatFail_idle ha,
      completes_heartbeatFail ha hp, fun n mode role tk sy d hd _ => completes_cycleMessage_waits ha hp n mode role tk sy d hd,
      fun n mode role tk sy d own r hd hne hs hc hr => completes_cycleMessage_differs ha hp hd hne hs hc hr,
      fun i n o h => exec_solveMessage_idle ha hp h n o, fun i n o r h hw => completes_solveMessage ha hp h hw n o,
      exec_handoverMessage_pair ha hp, fun h phase dirty parts => exec_resyncMessage_idle ha h phase dirty parts,
      completes_resyncMessage_bulk ha hp⟩
  case unsynchronised =>
    obtain ⟨accepts, timeout, inputs⟩ := exec_nodeRecords_idle ha (m := m) (.inl h)
    exact ⟨accepts, timeout, inputs, exec_windowMessage_idle ha h⟩
  case synchronised =>
    exact ⟨exec_windowMessage_waits ha hp, fun m h => exec_nodeRecords_idle ha (.inr h),
      fun m i o c hm hc => completes_acceptMessage_open ha hp hm hc o c, fun m i hm hc => exec_acceptTimeout_open ha hm hc,
      fun m i hm hc hr hu ho => completes_acceptTimeout ha hp hm hc hr hu ho,
      fun m i z p hm hl hh => completes_inputMessage_full ha hp hm hl hh z p⟩

end Sys2Proof.Machine
end

section
/-!
SUPPORT. What a reaction to poison leaves alone (R440, R622): memory, its damage and the points, scrubbing and its records, the
counts of poisoned reads, and what is pending.
-/
namespace Sys2Proof.Machine

/-- Memory, its damage and the points. -/
def State.stored (s : State) : Tab Byte × Tab Nat × Tab Word64 := (s.mem, s.memErr, s.points)

/-- From `s` to `t` memory, damage, points and the part of chapter 20 are the same, no count of poisoned reads moves, and no
pending event is lost. -/
structure State.MemFrame (s t : State) : Prop where
  stored : t.stored = s.stored
  memory : t.memory = s.memory
  count : ∀ i, t.get Reg.UE_COUNT_COUNT i = s.get Reg.UE_COUNT_COUNT i
  pends : s.PendKept t

theorem State.MemFrame.refl (s : State) : s.MemFrame s := ⟨rfl, rfl, fun _ => rfl, .refl s⟩

variable {s t : State}

/-! ### Register fields, events and branches -/

/-- A change of parts of the state that the frame does not speak of. -/
theorem State.MemFrame.kept {u : State} (h : s.MemFrame t) (hr : u.regs = t.regs) (hs : u.stored = t.stored)
    (hm : u.memory = t.memory) : s.MemFrame u where
  stored := hs.trans h.stored
  memory := hm.trans h.memory
  count i := (State.get_of_regs hr _ i).trans (h.count i)
  pends := h.pends.trans (.of_get fun f _ i => State.get_of_regs hr f i)

theorem State.MemFrame.set (h : s.MemFrame t) {f : Field} {i v : Nat}
    (hf : ∀ g ∈ Reg.UE_COUNT_COUNT :: Reg.pends, f.id ≠ g.id) : s.MemFrame (t.set f i v) where
  stored := h.stored
  memory := h.memory
  count j := (t.get_set_other (hf _ List.mem_cons_self) i j v).trans (h.count j)
  pends := h.pends.trans (t.pendKept_set (fun g hg => hf g (List.mem_cons_of_mem _ hg)) i v)

theorem State.MemFrame.setFlag (h : s.MemFrame t) {f : Field} {i : Nat} {b : Bool}
    (hf : ∀ g ∈ Reg.UE_COUNT_COUNT :: Reg.pends, f.id ≠ g.id) : s.MemFrame (t.setFlag f i b) := h.set hf

theorem State.MemFrame.setS (h : s.MemFrame t) {f : Field} {i : Nat} {x : Int}
    (hf : ∀ g ∈ Reg.UE_COUNT_COUNT :: Reg.pends, f.id ≠ g.id) : s.MemFrame (t.setS f i x) := h.set hf

theorem State.stored_raise (s : State) (n : Nat) : (s.raise n).stored = s.stored := by
  simp only [State.stored, State.raise_mem, State.raise_memErr, State.raise_points]

theorem State.MemFrame.raise (h : s.MemFrame t) (n : Nat) : s.MemFrame (t.raise n) where
  stored := (t.stored_raise n).trans h.stored
  memory := (t.raise_memory n).trans h.memory
  count i := (t.get_raise rfl n i).trans (h.count i)
  pends := h.pends.trans (t.pendKept_raise n)

theorem State.MemFrame.ite {u : State} {c : Prop} [Decidable c] (ht : s.MemFrame t) (hu : s.MemFrame u) :
    s.MemFrame (if c then t else u) := by
  split
  · exact ht
  · exact hu

theorem State.MemFrame.foldl {α : Type} {f : State → α → State} (h : s.MemFrame t)
    (hf : ∀ {u} x, s.MemFrame u → s.MemFrame (f u x)) (l : List α) : s.MemFrame (l.foldl f t) :=
  State.foldl_keeps (P := s.MemFrame) (fun _ x hu => hf x hu) l h

theorem State.MemFrame.latchCause (h : s.MemFrame t) (c : Nat) : s.MemFrame (t.latchCause c) := by
  have same : (t.latchCause c).stored = t.stored ∧ (t.latchCause c).memory = t.memory := by
    rw [State.latchCause]
    split <;> split <;> exact ⟨rfl, rfl⟩
  exact h.kept (t.regs_latchCause c).1 same.1 same.2

/-! ### PWM pairs and step channels that are stopped -/

theorem State.MemFrame.onPair (h : s.MemFrame t) (p : Nat) (f : PwmPair → PwmPair) : s.MemFrame (t.onPair p f) :=
  h.kept rfl rfl rfl

theorem State.MemFrame.hOff (h : s.MemFrame t) (p w : Nat) : s.MemFrame (t.hOff p w) :=
  .ite ((h.setFlag (by decide)).onPair p _) (h.onPair p _)

theorem State.MemFrame.lOn (h : s.MemFrame t) (p w : Nat) : s.MemFrame (t.lOn p w) := (h.setFlag (by decide)).onPair p _

theorem State.MemFrame.lOff (h : s.MemFrame t) (p : Nat) : s.MemFrame (t.lOff p) := (h.setFlag (by decide)).onPair p _

theorem State.MemFrame.enterSafe (h : s.MemFrame t) (p w : Nat) : s.MemFrame (t.enterSafe p w) := by
  unfold State.enterSafe
  extract_lets _ u
  have forced : s.MemFrame u := ((h.hOff p w).setFlag (by decide)).onPair p _
  have lowDriven (v : Nat) : s.MemFrame (u.onPair p fun q => { q with lDue := some v }) := forced.onPair p _
  exact .ite (.ite (lowDriven _) (.ite forced (.ite forced (.ite (forced.lOn p w) (lowDriven _))))) ((forced.lOff p).onPair p _)

theorem State.MemFrame.judgeCauses (h : s.MemFrame t) (p w : Nat) : s.MemFrame (t.judgeCauses p w) :=
  have shown : s.MemFrame (t.showCauses p) := h.set (by decide)
  (shown.enterSafe p w).ite shown

theorem State.MemFrame.setPairCaldera (h : s.MemFrame t) (p w : Nat) (on : Bool) : s.MemFrame (t.setPairCaldera p w on) :=
  (h.onPair p _).judgeCauses p w

theorem State.MemFrame.setPairEngine (h : s.MemFrame t) (p w : Nat) (on : Bool) : s.MemFrame (t.setPairEngine p w on) :=
  (h.onPair p _).judgeCauses p w

theorem State.MemFrame.showStep (h : s.MemFrame t) (ch : Nat) : s.MemFrame (t.showStep ch) :=
  ((((h.set (by decide)).setFlag (by decide)).setFlag (by decide)).setFlag (by decide)).setS (by decide)

theorem State.MemFrame.haltBegins (h : s.MemFrame t) (ch : Nat) : s.MemFrame (t.haltBegins ch) := by
  unfold State.haltBegins
  extract_lets c v u w
  have refused : s.MemFrame u := by
    unfold u
    split
    · exact (h.setFlag (by decide)).ite h
    · exact h
  have unsure : s.MemFrame w := (((refused.setFlag (by decide)).set (by decide)).raise 81).ite refused
  exact unsure.kept rfl rfl rfl

theorem State.MemFrame.setHalt (h : s.MemFrame t) (ch bit : Nat) (on : Bool) : s.MemFrame (t.setHalt ch bit on) := by
  unfold State.setHalt
  extract_lets c u
  have begun : s.MemFrame u := (h.haltBegins ch).ite h
  exact h.ite (((begun.set (by decide)).showStep ch).ite ((h.set (by decide)).showStep ch))

/-! ### A failed diagnostic of Caldera (R440) -/

theorem State.MemFrame.onCal (h : s.MemFrame t) (f : CalState → CalState) : s.MemFrame (t.onCal f) := h.kept rfl rfl rfl

theorem State.MemFrame.applySto (h : s.MemFrame t) (a : Nat) : s.MemFrame (t.applySto a) :=
  h.ite (((h.onCal _).foldl (fun p hu => hu.setPairCaldera p _ true) _).foldl (fun ch hu => hu.setHalt ch _ true) _)

theorem State.MemFrame.stoAll (h : s.MemFrame t) : s.MemFrame t.stoAll := by
  unfold State.stoAll
  extract_lets u v
  have axes : s.MemFrame u := h.foldl (fun a hu => hu.applySto a) _
  have pairs : s.MemFrame v := axes.foldl (fun p hu => hu.ite (hu.setPairCaldera p _ true)) _
  exact pairs.foldl (fun ch hu => hu.ite (hu.setHalt ch _ true)) _

theorem State.MemFrame.diagnostic (h : s.MemFrame t) (code : Nat) : s.MemFrame (t.diagnostic code) := by
  unfold State.diagnostic
  extract_lets first fault outputs tests stopped quiet
  have failed : s.MemFrame first := (h.set (by decide)).ite h
  have faulted : s.MemFrame fault := ((failed.raise 198).ite failed).set (by decide)
  have off : s.MemFrame outputs :=
    faulted.foldl (fun _ hu => ((hu.setFlag (by decide)).setFlag (by decide)).setFlag (by decide)) _
  have untested : s.MemFrame tests := off.foldl (fun _ hu => (hu.onCal _).setFlag (by decide)) _
  have sto : s.MemFrame stopped := (untested.foldl (fun _ hu => hu.set (by decide)) _).stoAll
  exact (sto.onCal _).latchCause _

/-! ### The reaction of each master (R622) -/

theorem State.MemFrame.engineOutputs (h : s.MemFrame t) (k : Nat) (safe : Bool) : s.MemFrame (t.engineOutputs k safe) :=
  (h.foldl (fun p hu => hu.setPairEngine p _ safe) _).foldl (fun ch hu => hu.setHalt ch _ safe) _

theorem State.MemFrame.onEng (h : s.MemFrame t) (k : Nat) (f : JceState → JceState) : s.MemFrame (t.onEng k f) :=
  h.kept rfl rfl rfl

theorem State.MemFrame.engineCause (h : s.MemFrame t) (k : Nat) : s.MemFrame (t.engineCause k) :=
  have noted : s.MemFrame { t with mode := { t.mode with engines := t.mode.engines ++ [k] } } := h.kept rfl rfl rfl
  (noted.latchCause 6).ite h

theorem State.MemFrame.jceTrapIn (h : s.MemFrame t) (k cause : Nat) : s.MemFrame (t.jceTrapIn k cause) :=
  have halted : s.MemFrame (t.jceHaltIn k jceTrapped) := ((h.set (by decide)).onEng k _).engineOutputs k true
  ((halted.set (by decide)).raise 64).engineCause k

theorem State.MemFrame.onInst (h : s.MemFrame t) (n : Nat) (f : SawInst → SawInst) : s.MemFrame (t.onInst n f) :=
  h.kept rfl rfl rfl

theorem State.MemFrame.ringDrop (h : s.MemFrame t) (n : Nat) : s.MemFrame (t.ringDrop n) := h.onInst n _

theorem State.MemFrame.poisonCause (h : s.MemFrame t) (k : Nat) : s.MemFrame (t.poisonCause k) :=
  ((h.latchCause 10).raise 26).ite h

theorem State.MemFrame.answer (h : s.MemFrame t) (b : BusResp) : s.MemFrame (t.answer b) := h.kept rfl rfl rfl

theorem State.MemFrame.poisonReact (h : s.MemFrame t) (r : MemReader) (n : Nat) : s.MemFrame (t.poisonReact r n) := by
  cases r with
  | ranger | core | pcie => exact h.answer _
  | sawmill i => exact ((h.onInst _ _).onInst _ _).ite h
  | jceOwn k code => exact (h.jceTrapIn _ _).ite h
  | jcePoint k => exact (h.jceTrapIn _ _).ite h
  | deltaQueue q => exact (h.ringDrop q).kept rfl rfl rfl
  | bridge ring => exact h.set (by decide)
  | scrubber | star | caldera | yarder => exact h

end Sys2Proof.Machine
end

section
/-!
SUPPORT. The bookkeeping of errors (R615, R624, R625, R628, R632, R633): records, counts and queued blocks, and what it leaves
alone.
-/
namespace Sys2Proof.Machine

/-- The fields that show error records, the place of the last error and queued blocks. -/
def Reg.errShown : List Field :=
  [Reg.ERR_LEVEL_LEVEL, Reg.ERR_LEVEL_ERR_LOST, Reg.ERR_REC_WORD, Reg.PRIO_STATUS_LEVEL, Reg.PRIO_STATUS_PRIO_DROP,
   Reg.LAST_ADDR_ADDR]

/-- `t` differs from `s` at most in events, the fields that show errors, and the part of chapter 20; no pending event is
lost. -/
structure State.RecordFrame (s t : State) : Prop where
  get : ∀ f i, Reg.raised f = false → (∀ g ∈ Reg.errShown, g.id ≠ f.id) → t.get f i = s.get f i
  pends : s.PendKept t
  parts : ∃ r h o m, t = { s with regs := r, host := h, outbox := o, memory := m }

theorem State.RecordFrame.refl (s : State) : s.RecordFrame s := ⟨fun _ _ _ _ => rfl, .refl s, _, _, _, _, rfl⟩

variable {s t : State}

theorem State.RecordFrame.trans {u : State} (h : s.RecordFrame t) (h' : t.RecordFrame u) : s.RecordFrame u where
  get f i hr hf := (h'.get f i hr hf).trans (h.get f i hr hf)
  pends := h.pends.trans h'.pends
  parts := by
    obtain ⟨-, -, _, _, _, _, rfl⟩ := h
    obtain ⟨-, -, _, _, _, _, rfl⟩ := h'
    exact ⟨_, _, _, _, rfl⟩

theorem State.RecordFrame.set (h : s.RecordFrame t) {f : Field} {i v : Nat} (hf : f ∈ Reg.errShown) :
    s.RecordFrame (t.set f i v) :=
  h.trans { get := fun g j _ hg => t.get_set_other (hg f hf) i j v
            pends := t.pendKept_set ((by decide : ∀ f ∈ Reg.errShown, ∀ g ∈ Reg.pends, f.id ≠ g.id) f hf) i v
            parts := ⟨_, _, _, _, rfl⟩ }

theorem State.RecordFrame.onMem (h : s.RecordFrame t) (f : MemState → MemState) : s.RecordFrame (t.onMem f) :=
  h.trans ⟨fun _ _ _ _ => rfl, .refl t, _, _, _, _, rfl⟩

theorem State.RecordFrame.raise (h : s.RecordFrame t) (n : Nat) : s.RecordFrame (t.raise n) :=
  h.trans { get := fun f i hr _ => t.get_raise hr n i
            pends := t.pendKept_raise n
            parts := by
              obtain ⟨-, _, _, _, raised⟩ := t.raiseFrame_raise n
              exact ⟨_, _, _, _, raised⟩ }

theorem State.RecordFrame.ite {u : State} {c : Prop} [Decidable c] (ht : s.RecordFrame t) (hu : s.RecordFrame u) :
    s.RecordFrame (if c then t else u) := by
  split
  · exact ht
  · exact hu

theorem State.RecordFrame.stored (h : s.RecordFrame t) : t.stored = s.stored := by
  obtain ⟨-, -, _, _, _, _, rfl⟩ := h; rfl

theorem State.RecordFrame.bus (h : s.RecordFrame t) : t.bus = s.bus := by
  obtain ⟨-, -, _, _, _, _, rfl⟩ := h; rfl

theorem State.RecordFrame.flash (h : s.RecordFrame t) : t.flash = s.flash := by
  obtain ⟨-, -, _, _, _, _, rfl⟩ := h; rfl

theorem State.RecordFrame.logs (h : s.RecordFrame t) : t.logs = s.logs := by
  obtain ⟨-, -, _, _, _, _, rfl⟩ := h; rfl

/-- Bookkeeping moves no route of an event. -/
theorem State.RecordFrame.signalled {u : State} {n : Nat} (h : s.RecordFrame t) (hs : t.Signalled n u) : s.Signalled n u :=
  hs.of_get (h.get _ n rfl (by decide)) (h.get _ n rfl (by decide)) (fun _ => rfl) fun _ => rfl

/-! ### Records -/

theorem State.RecordFrame.showFifo (h : s.RecordFrame t) : s.RecordFrame t.showFifo :=
  State.foldl_keeps (P := s.RecordFrame) (fun _ _ hu => hu.set (by decide)) _ (h.set (by decide))

theorem State.level_showFifo (s : State) :
    s.showFifo.get Reg.ERR_LEVEL_LEVEL 0 = s.memory.fifo.length % 2 ^ Reg.ERR_LEVEL_LEVEL.width := by
  rw [← State.get_set_same s Reg.ERR_LEVEL_LEVEL 0 s.memory.fifo.length]
  refine State.foldl_keeps (P := fun u => u.get Reg.ERR_LEVEL_LEVEL 0 = _) (fun u i hu => ?_) (List.range 4) rfl
  rw [u.get_set_other (by decide), hu]

theorem State.RecordFrame.errPop (h : s.RecordFrame t) : s.RecordFrame t.errPop := (h.onMem _).showFifo

theorem State.memory_errPop (s : State) : s.errPop.memory = { s.memory with fifo := s.memory.fifo.drop 1 } := rfl

theorem State.RecordFrame.errRecord (h : s.RecordFrame t) (code source addr syn init extra : Nat) :
    s.RecordFrame (t.errRecord code source addr syn init extra) :=
  .ite ((h.set (by decide)).raise 23) (h.onMem _).showFifo

/-- A record changes the FIFO at most. -/
theorem State.memory_errRecord (s : State) (code source addr syn init extra : Nat) :
    ∃ l, (s.errRecord code source addr syn init extra).memory = { s.memory with fifo := l } := by
  unfold State.errRecord
  split
  · exact ⟨s.memory.fifo, State.raise_memory _ 23⟩
  · exact ⟨_, rfl⟩

/-! ### Queued blocks and the tracker -/

theorem State.RecordFrame.queueScrub (h : s.RecordFrame t) (b : Nat) : s.RecordFrame (t.queueScrub b) :=
  h.ite (.ite (h.set (by decide)) ((h.onMem _).set (by decide)))

/-- The first block that is queued. -/
theorem State.memory_queueScrub_first {s : State} (h : s.memory.prio = []) (b : Nat) :
    (s.queueScrub b).memory = { s.memory with prio := [b] } := by
  simp [State.queueScrub, State.onMem, h]

theorem State.RecordFrame.track (h : s.RecordFrame t) (b : Nat) : s.RecordFrame (t.track b) := h.onMem _

/-- The tracker keeps the records, the queue and the totals. -/
theorem State.memory_track (s : State) (b : Nat) : ∃ l, (s.track b).memory = { s.memory with tracker := l } := by
  unfold State.track State.onMem
  dsimp only
  split <;> exact ⟨_, rfl⟩

/-! ### Counts of a memory -/

/-- The bytes of DRAM count at their channel (R613). -/
theorem memUnit_dram {a : Nat} (h : a < 2 ^ 33) : memUnit a = some (bitsOf a 8 3) := by
  have channel : bitsOf a 8 3 < 8 := Nat.mod_lt _ (by decide)
  have source : memSource a = 0x100 + bitsOf a 8 3 := by
    rw [memSource, if_neg (by omega), if_neg (by omega), if_neg (by rw [csramBase]; omega)]
  simp only [memUnit, source]
  rw [if_pos (by omega), Nat.add_sub_cancel_left]

theorem State.countAt_dram {s : State} {a : Nat} (h : a < 2 ^ 33) (f : Field) : s.countAt f a =
    (s.count f (bitsOf a 8 3) 1).set Reg.LAST_ADDR_ADDR (bitsOf a 8 3) (memAddress a) := by
  rw [State.countAt, memUnit_dram h]

theorem State.count_countAt {s : State} {a : Nat} (h : a < 2 ^ 33) {f : Field} (hf : Reg.LAST_ADDR_ADDR.id ≠ f.id) :
    (s.countAt f a).get f (bitsOf a 8 3) = min (s.get f (bitsOf a 8 3) + 1) (2 ^ f.width - 1) := by
  rw [State.countAt_dram h, State.get_set_other _ hf, State.get_count_same]

/-- Counting an error changes the counter and the address of the last error. -/
theorem State.countAt_eq (s : State) (f : Field) (k : Nat) : s.countAt f k = s ∨
    ∃ u, s.countAt f k = (s.count f u 1).set Reg.LAST_ADDR_ADDR u (memAddress k) := by
  unfold State.countAt
  split
  · exact .inr ⟨_, rfl⟩
  · exact .inl rfl

theorem State.get_countAt (s : State) {f g : Field} (hf : f.id ≠ g.id) (hl : Reg.LAST_ADDR_ADDR.id ≠ g.id) (k i : Nat) :
    (s.countAt f k).get g i = s.get g i := by
  obtain h | ⟨u, h⟩ := s.countAt_eq f k
  · rw [h]
  · rw [h, State.get_set_other _ hl, State.get_count_other _ hf]

/-- Counting an error moves no route of an event. -/
theorem State.Signalled.of_countAt {s u : State} {f : Field} {g : MemState → MemState} {k n : Nat}
    (h : ((s.countAt f k).onMem g).Signalled n u)
    (hf : f.id ≠ Reg.EV_ROUTE_MSIX_EN.id ∧ f.id ≠ Reg.EV_ROUTE_CORE_MASK.id) : s.Signalled n u :=
  h.of_get (s.get_countAt hf.1 (by decide) k n) (s.get_countAt hf.2 (by decide) k n) (fun _ => rfl) fun _ => rfl

theorem State.memory_countAt (s : State) (f : Field) (k : Nat) : (s.countAt f k).memory = s.memory := by
  obtain h | ⟨u, h⟩ := s.countAt_eq f k
  · rw [h]
  · rw [h]; rfl

theorem State.stored_countAt (s : State) (f : Field) (k : Nat) : (s.countAt f k).stored = s.stored := by
  obtain h | ⟨u, h⟩ := s.countAt_eq f k
  · rw [h]
  · rw [h]; rfl

end Sys2Proof.Machine
end

section
/-!
What the commands of the memories may do to memory, its damage and the points (R614, R616, R624, R629, R632).
-/
namespace Sys2Proof.Machine

variable {s t : State} {p : Prop}

/-- From `s` to `t` memory, damage and points keep their canonical form, and under `p` no data byte changes. -/
structure State.MemSafe (p : Prop) (s t : State) : Prop where
  mem : p → t.mem = s.mem
  wf : Memory.wf s = true → Memory.wf t = true

theorem State.MemSafe.refl (p : Prop) (s : State) : s.MemSafe p s := ⟨fun _ => rfl, id⟩

theorem State.MemSafe.trans {u : State} (h : s.MemSafe p t) (h' : t.MemSafe p u) : s.MemSafe p u :=
  ⟨fun hp => (h'.mem hp).trans (h.mem hp), fun hs => h'.wf (h.wf hs)⟩

/-- A change of anything but memory, damage and points. -/
theorem State.MemSafe.kept {u : State} (h : s.MemSafe p t) (hu : u.stored = t.stored) : s.MemSafe p u := by
  have parts := hu
  simp only [State.stored, Prod.mk.injEq] at parts
  obtain ⟨hm, he, hp⟩ := parts
  exact h.trans ⟨fun _ => hm, fun hw => by rwa [Memory.wf, hm, he, hp]⟩

theorem State.MemSafe.recorded {u : State} (h : s.MemSafe p t) (hr : t.RecordFrame u) : s.MemSafe p u := h.kept hr.stored

/-- Damage of a byte is noted or repaired. -/
theorem State.MemSafe.putErr (h : s.MemSafe p t) (k d : Nat) : s.MemSafe p { t with memErr := t.memErr.put 0 k d } := by
  refine h.trans ⟨fun _ => rfl, fun hw => ?_⟩
  obtain ⟨mem, err, points⟩ := (Memory.wf_iff t).1 hw
  exact (Memory.wf_iff _).2 ⟨mem, Tab.wf_put k d err, points⟩

theorem State.MemSafe.inject (h : s.MemSafe p t) {e : MemErr} (he : p → e.kind ≠ 2) (k : Nat) : s.MemSafe p (t.inject k e) :=
  h.trans ⟨fun hp => by simp [State.inject, he hp], Memory.wf_inject k e⟩

theorem State.MemSafe.set (h : s.MemSafe p t) (f : Field) (i v : Nat) : s.MemSafe p (t.set f i v) := h.kept rfl

theorem State.MemSafe.count (h : s.MemSafe p t) (f : Field) (i n : Nat) : s.MemSafe p (t.count f i n) := h.kept rfl

theorem State.MemSafe.answer (h : s.MemSafe p t) (b : BusResp) : s.MemSafe p (t.answer b) := h.kept rfl

theorem State.MemSafe.onMem (h : s.MemSafe p t) (f : MemState → MemState) : s.MemSafe p (t.onMem f) := h.kept rfl

theorem State.MemSafe.countAt (h : s.MemSafe p t) (f : Field) (k : Nat) : s.MemSafe p (t.countAt f k) :=
  h.kept (t.stored_countAt f k)

theorem State.MemSafe.raise (h : s.MemSafe p t) (n : Nat) : s.MemSafe p (t.raise n) := h.kept (t.stored_raise n)

theorem State.MemSafe.ite {u : State} {c : Prop} [Decidable c] (ht : s.MemSafe p t) (hu : s.MemSafe p u) :
    s.MemSafe p (if c then t else u) := by
  split
  · exact ht
  · exact hu

theorem State.MemSafe.foldl {α : Type} {f : State → α → State} (h : s.MemSafe p t)
    (hf : ∀ {u} x, s.MemSafe p u → s.MemSafe p (f u x)) (l : List α) : s.MemSafe p (l.foldl f t) :=
  State.foldl_keeps (P := s.MemSafe p) (fun _ x hu => hf x hu) l h

/-- Time passes. -/
theorem State.MemSafe.waitTill (h : s.MemSafe p t) (w : Nat) : s.MemSafe p (t.waitTill w) := by
  obtain ⟨_, _, _, _, _, _, passed⟩ := t.passed_advance (w - t.ticks)
  exact h.kept (by rw [State.waitTill, passed]; rfl)

/-- The damage that an access shows. -/
theorem State.MemSafe.injects {errs : List MemErr} (h : s.MemSafe p t) (he : p → ∀ x ∈ errs, x.kind ≠ 2) (n k : Nat) :
    s.MemSafe p (errs.foldl (fun s e => if e.off < n ∧ e.kind ≠ 0 then s.inject k e else s) t) := by
  induction errs generalizing t with
  | nil => exact h
  | cons e errs ih =>
    exact ih (.ite (h.inject (fun hp => he hp e List.mem_cons_self) k) h) fun hp x hx => he hp x (List.mem_cons_of_mem _ hx)

/-! ### Reads and scrubs -/

theorem State.MemSafe.readCorrected (h : s.MemSafe p t) (r : MemReader) (syn k : Nat) :
    s.MemSafe p (t.readCorrected r syn k) := by
  unfold State.readCorrected
  extract_lets counted same lost recorded noticed
  have counting : s.MemSafe p counted := (h.countAt _ k).onMem _
  have recording : s.MemSafe p recorded :=
    counting.ite (counting.recorded (((State.RecordFrame.refl counted).errRecord _ _ _ _ _ _).onMem _))
  have noticing : s.MemSafe p noticed := recording.raise 16
  exact noticing.ite (noticing.recorded ((State.RecordFrame.refl noticed).queueScrub _))

theorem State.MemSafe.readPoisoned (h : s.MemSafe p t) (r : MemReader) (syn k n : Nat) :
    s.MemSafe p (t.readPoisoned r syn k n) := by
  unfold State.readPoisoned
  extract_lets counted recorded
  have counting : s.MemSafe p counted := (h.countAt _ k).onMem _
  have recording : s.MemSafe p recorded :=
    counting.recorded (((State.RecordFrame.refl counted).errRecord _ _ _ _ _ _).raise 17)
  exact recording.kept (((State.MemFrame.refl recorded).poisonCause k).poisonReact r n).stored

theorem State.MemSafe.parkAccess (h : s.MemSafe p t) (k : Nat) : s.MemSafe p (t.parkAccess k) :=
  ((h.count _ _ 1).raise 27).answer _

theorem State.MemSafe.codeRead {errs : List MemErr} (h : s.MemSafe p t) (he : p → ∀ x ∈ errs, x.kind ≠ 2) (r : MemReader)
    (m : MemPlace) (n : Nat) (clean : Bool) : s.MemSafe p (t.codeRead r m n clean errs) := by
  unfold State.codeRead
  extract_lets k shown bad fixed answered corrected refetched
  have showing : s.MemSafe p shown := h.injects he n k
  have answering : s.MemSafe p answered := showing.answer _
  have correcting : s.MemSafe p corrected := answering.foldl (fun i hu => hu.readCorrected r _ _) _
  have refetching : s.MemSafe p refetched := correcting.foldl (fun j hu => hu.putErr (k + j) 0) bad
  clear_value refetched bad
  split
  · exact h.parkAccess k
  · split
    · exact correcting
    · split
      · exact (refetching.countAt _ _).onMem _
      · exact correcting.readPoisoned r _ _ n

theorem State.MemSafe.safetyRead (h : s.MemSafe p t) (r : MemReader) (off n : Nat) (errs : List MemErr) :
    s.MemSafe p (t.safetyRead r off n errs) := by
  unfold State.safetyRead
  extract_lets answered
  have answering : s.MemSafe p answered := h.answer _
  exact .ite (h.answer _) (.ite (answering.kept ((State.MemFrame.refl answered).diagnostic 3).stored) answering)

theorem State.MemSafe.scrubByte (h : s.MemSafe p t) (init syn k : Nat) : s.MemSafe p (t.scrubByte init syn k) := by
  unfold State.scrubByte
  extract_lets fixed totalled
  have fixing : s.MemSafe p fixed := ((h.putErr k 0).count _ 0 1).onMem _
  have totalling : s.MemSafe p totalled := fixing.onMem _
  have counting : s.MemSafe p (t.count Reg.SCRUB_UE_COUNT 0 1) := h.count _ 0 1
  exact .ite (totalling.recorded (((State.RecordFrame.refl _).errRecord _ _ _ _ _ _).raise 18))
    (.ite (counting.recorded (((State.RecordFrame.refl _).errRecord _ _ _ _ _ _).raise 19)) h)

theorem State.MemSafe.scrub {errs : List MemErr} (h : s.MemSafe p t) (he : p → ∀ x ∈ errs, x.kind ≠ 2) (init b : Nat) :
    s.MemSafe p (t.scrub init b errs) :=
  (h.injects he 64 (64 * b)).foldl (fun _ hu => hu.scrubByte init _ _) _

theorem State.MemSafe.scrubWalk {errs : List MemErr} (h : s.MemSafe p t) (he : p → ∀ x ∈ errs, x.kind ≠ 2) :
    s.MemSafe p (t.scrubWalk errs) := by
  unfold State.scrubWalk
  extract_lets rate waited
  split
  · exact h
  · split
    · exact h
    · next k _ =>
      extract_lets scrubbed passed
      have scrubbing : s.MemSafe p scrubbed := ((h.waitTill _).onMem _).scrub he 0 (k / 64)
      split
      · exact scrubbing.set _ _ _
      · exact ((scrubbing.count _ 0 1).raise 22).set _ _ _

theorem State.MemSafe.scrubQueued {errs : List MemErr} (h : s.MemSafe p t) (he : p → ∀ x ∈ errs, x.kind ≠ 2) :
    s.MemSafe p (t.scrubQueued errs) := by
  unfold State.scrubQueued
  split
  · exact h
  · next b _ _ => exact ((h.onMem _).set _ _ _).scrub he 0 b

/-! ### Remaps, records and flash -/

theorem State.MemSafe.remapStart (h : s.MemSafe p t) (dram : Bool) (e v : Nat) : s.MemSafe p (t.remapStart dram e v) := by
  exact h.ite (.onMem (.ite (h.set _ e v) (h.set _ e v)) _)

theorem State.MemSafe.remapWrite (h : s.MemSafe p t) (dram : Bool) (e v : Nat) (valid : Bool) :
    s.MemSafe p (t.remapWrite dram e v valid) :=
  .ite (h.remapStart dram e v) (h.ite (.ite (h.set _ e v) (h.set _ e v)))

theorem State.MemSafe.remapAuto (h : s.MemSafe p t) (b : Nat) : s.MemSafe p (t.remapAuto b) := by
  refine h.ite ?_
  split
  · exact h.remapStart _ _ _
  · have took : s.MemSafe p t.tookFree := h.kept rfl
    exact took.recorded (((State.RecordFrame.refl _).errRecord _ _ _ _ _ _).raise 21)

theorem State.MemSafe.remapEnd (h : s.MemSafe p t) (dram : Bool) (e : Nat) : s.MemSafe p (t.remapEnd dram e) := by
  unfold State.remapEnd
  extract_lets k copied valid listed
  have copying : s.MemSafe p copied := h.foldl (fun i hu => .ite (hu.putErr _ 0) hu) _
  have validated : s.MemSafe p valid := .ite (copying.set _ e _) (copying.set _ e _)
  have listing : s.MemSafe p listed := validated.onMem _
  exact listing.recorded (((State.RecordFrame.refl _).errRecord _ _ _ _ _ _).raise 20)

theorem State.MemSafe.setResult (h : s.MemSafe p t) (n : Nat) (r : MbResult) : s.MemSafe p (t.setResult n r) :=
  .ite (h.kept rfl) h

theorem State.MemSafe.remapSaved (h : s.MemSafe p t) (dram : Bool) (e : Nat) :
    s.MemSafe p ((t.remapSave dram e).remapAnswer dram e) := by
  unfold State.remapAnswer
  extract_lets saved
  have saving : s.MemSafe p saved := by
    cases dram <;> exact h.kept rfl
  exact saving.foldl (fun x hu => hu.setResult _ _) _

theorem State.MemSafe.errDrain (h : s.MemSafe p t) : s.MemSafe p t.errDrain := by
  unfold State.errDrain
  split
  · exact h
  · next =>
    have logged (c o : Nat) (d : List Byte) : s.MemSafe p (t.log 3 c o d) := h.kept rfl
    exact (logged _ _ _).recorded (State.RecordFrame.refl _).errPop

theorem State.MemSafe.flashPage (h : s.MemSafe p t) (off syn : Nat) (ok : Bool) : s.MemSafe p (t.flashPage off syn ok) := by
  unfold State.flashPage
  extract_lets failed
  have recording (code n : Nat) : s.MemSafe p ((t.errRecord code 0x200 off syn 1 0).raise n) :=
    h.recorded (((State.RecordFrame.refl t).errRecord _ _ _ _ _ _).raise n)
  have failing : s.MemSafe p failed := recording 9 25
  clear_value failed
  have object (f : FlashState) : s.MemSafe p { failed with flash := f } := failing.kept rfl
  split
  · exact recording 8 24
  · repeat' split
    all_goals exact object _

/-! ### The commands -/

theorem exec_codeWordRead {m : MemPlace} (hm : ∀ o, m ≠ .safety o) (r : MemReader) (n : Fin 65) (clean : Bool)
    (errs : List MemErr) (s : State) :
    exec (.codeWordRead r m n clean errs) s = s.run fun s => s.codeRead r m n.val clean errs := by
  cases m with
  | safety o => exact absurd rfl (hm o)
  | dram | csram | group | l1 => rfl

theorem exec_codeWordRead_safety (r : MemReader) (o : Nat) (n : Fin 65) (clean : Bool) (errs : List MemErr) (s : State) :
    exec (.codeWordRead r (.safety o) n clean errs) s = s.run fun s => s.safetyRead r o n.val errs := rfl

theorem exec_scrubBlock (errs : List MemErr) (s : State) : exec (.scrubBlock errs) s = s.run fun s => s.scrubWalk errs := rfl

theorem exec_priorityScrub (errs : List MemErr) (s : State) :
    exec (.priorityScrub errs) s = s.run fun s => s.scrubQueued errs := rfl

theorem exec_localScrub (g : Fin 169) (b : Nat) (errs : List MemErr) (s : State) : exec (.localScrub g b errs) s = s.run fun s =>
    if g.val < 88 ∨ (g.val < 168 ∧ s.parked = true) then s
    else s.scrub 25 (MemPlace.key (.group g.val (64 * (b % 32768))) / 64) errs := rfl

theorem exec_remapAuto (m : MemPlace) (s : State) :
    exec (.remapAuto m) s = s.run fun s => s.remapAuto (MemPlace.key m / 64) := rfl

theorem exec_remapValidWrite (m : Master) (dram : Bool) (w v : Nat) (valid : Bool) (s : State) :
    exec (.remapValidWrite m dram w v valid) s = s.run fun s => if m ≠ .ranger then s.answer .busError
      else (s.remapWrite dram (w % (if dram then 256 else 1352)) v valid).answer .done := rfl

/-- The oldest copy in progress ends. -/
def State.copyEnd (s : State) : State := s.memory.copying.head?.elim s fun w => s.remapEnd w.1 w.2

theorem exec_remapCopyEnd (s : State) : exec .remapCopyEnd s = s.run State.copyEnd := by
  show s.run _ = _
  congr 1
  funext u
  rw [State.copyEnd]
  cases u.memory.copying <;> rfl

/-- The oldest word that is not in flash goes there. -/
def State.wordSaved (s : State) : State :=
  s.memory.unsaved.head?.elim s fun w => (s.remapSave w.1 w.2).remapAnswer w.1 w.2

theorem exec_remapFlashWrite (s : State) : exec .remapFlashWrite s = s.run State.wordSaved := by
  show s.run _ = _
  congr 1
  funext u
  rw [State.wordSaved]
  cases u.memory.unsaved <;> rfl

theorem exec_errPop (m : Master) (s : State) : exec (.errPop m) s = s.run fun s =>
    if m = .ranger then s.errPop.answer .done else s.answer .busError := rfl

theorem exec_errorDrain (s : State) : exec .errorDrain s = s.run State.errDrain := rfl

theorem exec_flashCorrection (page : Fin 2097152) (syn : Byte) (ok : Bool) (s : State) :
    exec (.flashCorrection page syn ok) s = s.run fun s => s.flashPage (64 * page.val) syn.toNat ok := rfl

/-- A command completes and does to memory what its effect does, or nothing while the device is held. -/
theorem completes_memSafe {c : Instr} {f : State → State} (hc : exec c s = s.run f) (hf : s.MemSafe p (f s)) :
    Completes c s fun t => s.MemSafe p t := by
  have besides : s.MemSafe p (s.beside f) := hf.kept rfl
  exact ⟨_, hc, besides.ite (.refl p s)⟩

/-- Reads and scrubs with the damage `errs`. -/
theorem completes_memSafe_damaging {errs : List MemErr} (he : p → ∀ x ∈ errs, x.kind ≠ 2) {c : Instr}
    (hc : (∃ r m n cl, c = .codeWordRead r m n cl errs) ∨ c = .scrubBlock errs ∨ c = .priorityScrub errs ∨
      ∃ g b, c = .localScrub g b errs) : Completes c s fun t => s.MemSafe p t := by
  have start := State.MemSafe.refl p s
  obtain ⟨r, m, n, cl, rfl⟩ | rfl | rfl | ⟨g, b, rfl⟩ := hc
  · by_cases hm : ∀ o, m ≠ .safety o
    · exact completes_memSafe (exec_codeWordRead hm r n cl errs s) (start.codeRead he r m n cl)
    · obtain ⟨o, rfl⟩ := by simpa using hm
      exact completes_memSafe (exec_codeWordRead_safety r o n cl errs s) (start.safetyRead r o n errs)
  · exact completes_memSafe (exec_scrubBlock errs s) (start.scrubWalk he)
  · exact completes_memSafe (exec_priorityScrub errs s) (start.scrubQueued he)
  · exact completes_memSafe (exec_localScrub g b errs s) (start.ite (start.scrub he 25 _))

/-- Remaps, records and pages of flash. -/
theorem completes_memSafe_repairing {c : Instr}
    (hc : (∃ m, c = .remapAuto m) ∨ (∃ m d w b v, c = .remapValidWrite m d w b v) ∨ c = .remapCopyEnd ∨ c = .remapFlashWrite ∨
      (∃ m, c = .errPop m) ∨ c = .errorDrain ∨ ∃ g y k, c = .flashCorrection g y k) : Completes c s fun t => s.MemSafe p t := by
  have start := State.MemSafe.refl p s
  obtain ⟨m, rfl⟩ | ⟨m, d, w, b, v, rfl⟩ | rfl | rfl | ⟨m, rfl⟩ | rfl | ⟨g, y, k, rfl⟩ := hc
  · exact completes_memSafe (exec_remapAuto m s) (start.remapAuto _)
  · exact completes_memSafe (exec_remapValidWrite m d w b v s) (.ite (start.answer _) ((start.remapWrite d _ b v).answer _))
  · refine completes_memSafe (exec_remapCopyEnd s) ?_
    rw [State.copyEnd]
    cases s.memory.copying with
    | nil => exact start
    | cons w _ => exact start.remapEnd w.1 w.2
  · refine completes_memSafe (exec_remapFlashWrite s) ?_
    rw [State.wordSaved]
    cases s.memory.unsaved with
    | nil => exact start
    | cons w _ => exact start.remapSaved w.1 w.2
  · have popped : s.MemSafe p s.errPop := start.recorded (State.RecordFrame.refl s).errPop
    exact completes_memSafe (exec_errPop m s) (.ite (popped.answer _) (start.answer _))
  · exact completes_memSafe (exec_errorDrain s) start.errDrain
  · exact completes_memSafe (exec_flashCorrection g y k s) (start.flashPage _ _ k)

/-- Settles O60: reads and scrubs write memory where damage of two bits shows and nowhere else, the others never; what they all
write of the damage is written in canonical form. -/
theorem memoryKeepsCanonicalForm : Obligations.MemoryKeepsCanonicalForm := by
  intro s hw
  refine ⟨fun c hc => ?canonical, fun e he c hc => ?undamaged, fun c hc => ?repairing⟩
  case canonical =>
    have keeps {c : Instr} (h : Completes c s fun t => s.MemSafe False t) : Completes c s fun t => Memory.wf t = true :=
      h.imp fun t ht => ht.wf hw
    obtain ⟨r, m, n, cl, e, rfl⟩ | ⟨e, rfl⟩ | ⟨e, rfl⟩ | ⟨g, b, e, rfl⟩ | others := hc
    · exact keeps (completes_memSafe_damaging False.elim (.inl ⟨r, m, n, cl, rfl⟩))
    · exact keeps (completes_memSafe_damaging False.elim (.inr (.inl rfl)))
    · exact keeps (completes_memSafe_damaging False.elim (.inr (.inr (.inl rfl))))
    · exact keeps (completes_memSafe_damaging False.elim (.inr (.inr (.inr ⟨g, b, rfl⟩))))
    · exact keeps (completes_memSafe_repairing others)
  case undamaged =>
    exact (completes_memSafe_damaging (p := True) (fun _ => he) hc).imp fun t ht => ht.mem trivial
  case repairing =>
    exact (completes_memSafe_repairing (p := True) hc).imp fun t ht => ht.mem trivial

end Sys2Proof.Machine
end

section
/-!
Reads of code words (R614 to R617, R622, R636).
-/
namespace Sys2Proof.Machine

variable {s t : State}

/-! ### What a byte shows -/

theorem State.sapwood_of_regs (h : t.regs = s.regs) (k : Nat) : t.sapwood k = s.sapwood k := by
  have same : t.sapwood k = State.sapwood { s with regs := t.regs } k := rfl
  rw [same, h]

theorem State.dataByte_dram {a : Nat} (h : a < 2 ^ 33) : s.dataByte a = s.mem.get 0 a := by
  have below : ¬ (csramBase + 0x3800000 ≤ a ∧ a < csramBase + 0x4000000) := by
    unfold csramBase
    omega
  exact if_neg below

/-- The bytes that DRAM holds at `a` once it shows the damage `e` there. -/
def State.byteMem (s : State) (a : Nat) (e : MemErr) : Tab Byte :=
  if e.kind = 2 then s.mem.put 0 a (s.mem.get 0 a ^^^ e.flip) else s.mem

/-- DRAM byte `a` shows the damage `e`. -/
def State.byteTaken (s : State) (a : Nat) (e : MemErr) : State :=
  { s with memErr := s.memErr.put 0 a (min 3 e.kind), mem := s.byteMem a e }

/-- DRAM byte `a` shows the damage `e`, and is the answer of the read. -/
def State.byteShown (s : State) (a : Nat) (e : MemErr) : State :=
  (s.byteTaken a e).answer (.data ((s.byteMem a e).get 0 a).toNat)

theorem State.inject_byte {a : Nat} (ha : a < 2 ^ 33) {e : MemErr} (he : e.off = 0) : s.inject a e = s.byteTaken a e := by
  have reach : a < 2 ^ 48 := by omega
  unfold State.inject State.byteTaken State.byteMem
  simp only [he, Nat.add_zero, reach, and_true]
  split <;> rfl

theorem State.byteMem_intact {e : MemErr} (h : e.kind ≠ 2) (a : Nat) : s.byteMem a e = s.mem := if_neg h

theorem State.bus_byteShown (a : Nat) (e : MemErr) : (s.byteShown a e).bus = .data ((s.byteMem a e).get 0 a).toNat := rfl

theorem State.memErr_byteShown (a : Nat) (e : MemErr) : (s.byteShown a e).memErr.get 0 a = min 3 e.kind :=
  Tab.get_put_same _ _ _ _

/-- What an error of one bit, of two bits and a poison pattern read as in each class (R614). -/
theorem State.poisonedAt_byteShown (a : Nat) (e : MemErr) : (s.byteShown a e).poisonedAt a =
    (decide (3 ≤ e.kind) || decide (e.kind = 1) && s.sapwood a || decide (e.kind = 2) && !s.sapwood a) := by
  have class_same : (s.byteShown a e).sapwood a = s.sapwood a := State.sapwood_of_regs rfl a
  rw [State.poisonedAt, State.memErr_byteShown]
  obtain h | h | h | h : e.kind = 0 ∨ e.kind = 1 ∨ e.kind = 2 ∨ 3 ≤ e.kind := by omega
  · simp [h]
  · simp [h, class_same]
  · simp [h, class_same]
  · simp [h, show e.kind ≠ 1 by omega, show e.kind ≠ 2 by omega]

theorem State.correctedAt_byteShown (a : Nat) (e : MemErr) :
    (s.byteShown a e).correctedAt a = (decide (e.kind = 1) && !s.sapwood a) := by
  have class_same : (s.byteShown a e).sapwood a = s.sapwood a := State.sapwood_of_regs rfl a
  rw [State.correctedAt, State.memErr_byteShown, class_same]
  have : (min 3 e.kind == 1) = decide (e.kind = 1) := by
    by_cases h : e.kind = 1
    · simp [h]
    · simp only [h, decide_false, beq_eq_false_iff_ne]
      omega
  rw [this]

/-! ### The read -/

theorem State.codeRead_intact {m : MemPlace} {n : Nat} (hp : s.parked = false)
    (h : ∀ i < n, s.memErr.get 0 (MemPlace.key m + i) = 0) (r : MemReader) (clean : Bool) : s.codeRead r m n clean [] =
      s.answer (if MemPlace.key m < 2 ^ 48 then .data (leNat ((List.range n).map fun i => s.dataByte (MemPlace.key m + i)))
        else .done) := by
  have sound : ((List.range n).filter fun i => s.poisonedAt (MemPlace.key m + i)) = [] :=
    List.filter_eq_nil_iff.mpr fun i hi => Bool.eq_false_iff.mp (s.poisonedAt_of_intact (h i (List.mem_range.mp hi)))
  have right : ((List.range n).filter fun i => s.correctedAt (MemPlace.key m + i)) = [] :=
    List.filter_eq_nil_iff.mpr fun i hi => Bool.eq_false_iff.mp (s.correctedAt_of_intact (h i (List.mem_range.mp hi)))
  simp only [State.codeRead, hp, Bool.false_eq_true, and_false, if_false, List.foldl_nil, sound, right]

/-- A poisoned byte of a clean line is refetched (R617). -/
def State.refetched (s : State) (a : Nat) : State :=
  ({ s with memErr := s.memErr.put 0 a 0 }.countAt Reg.CE_COUNT_COUNT a).onMem fun m => { m with corrected := bump m.corrected }

/-- A read of one byte of DRAM that shows one damage. -/
theorem State.codeRead_byte {a : Nat} (ha : a < 2 ^ 33) (hp : s.parked = false) {e : MemErr} (he : e.off = 0)
    (hk : e.kind ≠ 0) (r : MemReader) (clean : Bool) {u v : State} (hu : u = s.byteShown a e)
    (hv : v = if u.correctedAt a then u.readCorrected r e.syn a else u) : s.codeRead r (.dram a) 1 clean [e] =
      if u.poisonedAt a then if clean then v.refetched a else v.readPoisoned r e.syn a 1 else v := by
  have taken : (if e.off < 1 ∧ e.kind ≠ 0 then s.inject a e else s) = s.byteTaken a e := by
    rw [if_pos ⟨by omega, hk⟩, State.inject_byte ha he]
  have syn : errSyn [e] 0 = e.syn := by simp [errSyn, he]
  have poison : (s.byteTaken a e).poisonedAt a = u.poisonedAt a := by rw [hu]; rfl
  have right : (s.byteTaken a e).correctedAt a = u.correctedAt a := by rw [hu]; rfl
  have answered : (s.byteTaken a e).answer (.data (leNat [(s.byteTaken a e).dataByte a])) = u := by
    rw [hu, State.dataByte_dram ha]
    simp [leNat, State.byteShown, State.byteTaken]
  have key : MemPlace.key (.dram a) = a := rfl
  have reach : a < 2 ^ 48 := by omega
  simp only [State.codeRead, key, hp, Bool.false_eq_true, and_false, if_false, List.foldl_cons, List.foldl_nil, taken,
    show List.range 1 = [0] from rfl, List.filter_cons, List.filter_nil, Nat.add_zero, poison, right, List.map_cons, List.map_nil,
    answered, reach, if_true]
  have corrected : (if u.correctedAt a = true then [0] else []).foldl
      (fun s i => s.readCorrected r (errSyn [e] i) (a + i)) u = v := by
    rw [hv]
    split
    · simp only [List.foldl_cons, List.foldl_nil, syn, Nat.add_zero]
    · rfl
  rw [corrected]
  cases u.poisonedAt a with
  | false => rfl
  | true => simp only [if_true, List.foldl_cons, List.foldl_nil, syn, Nat.add_zero, State.refetched]

/-! ### A corrected byte (R614, R625, R632) -/

/-- A corrected byte in a state that has none in mind: it counts, is recorded, raises event 16, and its block is queued unless a
scrubber reads. -/
theorem State.readCorrected_first (hl : s.memory.lastRead = none) (r : MemReader) (syn k : Nat) {v w : State}
    (hv : v = (s.countAt Reg.CE_COUNT_COUNT k).onMem fun m => { m with corrected := bump m.corrected })
    (hw : w = (v.errRecord 1 (memSource k) (memAddress k) syn (MemReader.code r) 0).onMem fun m =>
      { m with lastRead := if decide (64 ≤ v.memory.fifo.length) then m.lastRead else some (k / 64, v.ticks) }) :
    s.readCorrected r syn k = if r = .scrubber then w.raise 16 else (w.raise 16).queueScrub (k / 64) := by
  have unread : v.memory.lastRead = none := by rw [hv, ← hl, ← s.memory_countAt Reg.CE_COUNT_COUNT k]; rfl
  unfold State.readCorrected
  simp only [← hv, unread, Bool.false_eq_true, if_false, ← hw]

theorem State.readCorrected_spec {a : Nat} (ha : a < 2 ^ 33) (hl : s.memory.lastRead = none) (hq : s.memory.prio = [])
    (r : MemReader) (syn : Nat) (ht : t = s.readCorrected r syn a) :
    t.stored = s.stored ∧ t.bus = s.bus ∧ s.Signalled 16 t ∧ t.get Reg.CE_COUNT_COUNT (bitsOf a 8 3) =
        min (s.get Reg.CE_COUNT_COUNT (bitsOf a 8 3) + 1) (2 ^ Reg.CE_COUNT_COUNT.width - 1) ∧
      t.memory.corrected = bump s.memory.corrected ∧ t.memory.poisoned = s.memory.poisoned ∧
      t.memory.prio = (if r = .scrubber then [] else [a / 64]) ∧
      t.memory.lastRead = (if 64 ≤ s.memory.fifo.length then none else some (a / 64, s.ticks)) := by
  obtain ⟨v, hv⟩ : ∃ v, v = (s.countAt Reg.CE_COUNT_COUNT a).onMem fun m => { m with corrected := bump m.corrected } :=
    ⟨_, rfl⟩
  obtain ⟨x, hx⟩ : ∃ x, x = v.errRecord 1 (memSource a) (memAddress a) syn (MemReader.code r) 0 := ⟨_, rfl⟩
  obtain ⟨w, hw⟩ : ∃ w, w = x.onMem fun m =>
    { m with lastRead := if decide (64 ≤ v.memory.fifo.length) then m.lastRead else some (a / 64, v.ticks) } := ⟨_, rfl⟩
  have read : s.readCorrected r syn a = if r = .scrubber then w.raise 16 else (w.raise 16).queueScrub (a / 64) :=
    State.readCorrected_first hl r syn a hv (by rw [hw, hx])
  have total : v.memory = { s.memory with corrected := bump s.memory.corrected } := by
    rw [hv, ← s.memory_countAt Reg.CE_COUNT_COUNT a]; rfl
  have counted : s.stored = v.stored ∧ s.bus = v.bus ∧ s.ticks = v.ticks := by
    rw [hv, State.countAt_dram ha]; exact ⟨rfl, rfl, rfl⟩
  have routes {u : State} (h : v.Signalled 16 u) : s.Signalled 16 u := by rw [hv] at h; exact h.of_countAt (by decide)
  have recorded : v.RecordFrame w := by
    rw [hw, hx]; exact ((State.RecordFrame.refl v).errRecord _ _ _ _ _ _).onMem _
  have ending : (w.raise 16).RecordFrame t := by
    rw [ht, read]; exact (State.RecordFrame.refl _).ite ((State.RecordFrame.refl _).queueScrub _)
  have all : v.RecordFrame t := (recorded.raise 16).trans ending
  refine ⟨all.stored.trans counted.1.symm, all.bus.trans counted.2.1.symm,
    routes (recorded.signalled ((w.signalled_raise 16).kept ending.pends)), ?_, ?_⟩
  · rw [all.get _ _ rfl (by decide), hv]
    exact State.count_countAt ha (by decide)
  · obtain ⟨l, hl'⟩ := v.memory_errRecord 1 (memSource a) (memAddress a) syn (MemReader.code r) 0
    have noted : (w.raise 16).memory = { s.memory with
        corrected := bump s.memory.corrected, fifo := l
        lastRead := if 64 ≤ s.memory.fifo.length then none else some (a / 64, s.ticks) } := by
      rw [w.raise_memory, hw, State.onMem, hx, hl', total, counted.2.2]
      simp [hl]
    have queued : t.memory = { (w.raise 16).memory with prio := if r = .scrubber then [] else [a / 64] } := by
      rw [ht, read]
      split
      · rw [← hq, noted]
      · exact State.memory_queueScrub_first (by rw [noted]; exact hq) _
    rw [queued, noted]
    exact ⟨rfl, rfl, rfl, rfl⟩

/-! ### A poisoned read (R615, R622) -/

theorem State.readPoisoned_spec {a : Nat} (ha : a < 2 ^ 33) (r : MemReader) (syn n : Nat) (ht : t = s.readPoisoned r syn a n) :
    t.stored = s.stored ∧ s.Signalled 17 t ∧ t.memory.poisoned = bump s.memory.poisoned ∧
      t.memory.corrected = s.memory.corrected ∧
      t.get Reg.UE_COUNT_COUNT (bitsOf a 8 3) =
        min (s.get Reg.UE_COUNT_COUNT (bitsOf a 8 3) + 1) (2 ^ Reg.UE_COUNT_COUNT.width - 1) ∧
      (r = .ranger ∨ (∃ c, r = .core c) → t.bus = .busError) ∧ (r = .pcie → t.bus = .data (2 ^ (8 * n) - 1)) := by
  obtain ⟨v, hv⟩ : ∃ v, v = (s.countAt Reg.UE_COUNT_COUNT a).onMem fun m => { m with poisoned := bump m.poisoned } :=
    ⟨_, rfl⟩
  obtain ⟨x, hx⟩ : ∃ x, x = v.errRecord 2 (memSource a) (memAddress a) syn (MemReader.code r) 0 := ⟨_, rfl⟩
  have read : t = ((x.raise 17).poisonCause a).poisonReact r n := by rw [ht, hx, hv]; rfl
  have total : v.memory = { s.memory with poisoned := bump s.memory.poisoned } := by
    rw [hv, ← s.memory_countAt Reg.UE_COUNT_COUNT a]; rfl
  have routes {u : State} (h : v.Signalled 17 u) : s.Signalled 17 u := by rw [hv] at h; exact h.of_countAt (by decide)
  have recorded : v.RecordFrame x := by rw [hx]; exact (State.RecordFrame.refl v).errRecord _ _ _ _ _ _
  have reacting : (x.raise 17).MemFrame t := by
    rw [read]; exact ((State.MemFrame.refl _).poisonCause a).poisonReact r n
  obtain ⟨l, fifo⟩ := v.memory_errRecord 2 (memSource a) (memAddress a) syn (MemReader.code r) 0
  have memory : t.memory = { s.memory with poisoned := bump s.memory.poisoned, fifo := l } := by
    rw [reacting.memory, x.raise_memory, hx, fifo, total]
  have shown : s.Signalled 17 t := routes (recorded.signalled ((x.signalled_raise 17).kept reacting.pends))
  refine ⟨?_, shown, by rw [memory], by rw [memory], ?_, ?_, ?_⟩
  · rw [reacting.stored, (recorded.raise 17).stored, hv]
    exact s.stored_countAt _ a
  · rw [reacting.count, (recorded.raise 17).get _ _ rfl (by decide), hv]
    exact State.count_countAt ha (by decide)
  · rintro (rfl | ⟨c, rfl⟩) <;> rw [read] <;> rfl
  · rintro rfl
    rw [read]; rfl

/-! ### A read of DRAM in PARK (R636) -/

theorem State.parkAccess_spec {k : Nat} (ht : s.parkAccess k = t) :
    t.bus = .busError ∧ s.Signalled 27 t ∧ t.mem = s.mem ∧ t.memErr = s.memErr := by
  obtain ⟨u, hu⟩ : ∃ u, u = s.count Reg.PARK_ACCESS_COUNT (bitsOf k 8 3) 1 := ⟨_, rfl⟩
  have routes {f : Field} (hf : Reg.PARK_ACCESS_COUNT.id ≠ f.id) : u.get f 27 = s.get f 27 := by
    rw [hu]; exact s.get_count_other hf _ _ _
  have shown : s.Signalled 27 (u.raise 27) := State.signalled_raise_of_get (routes (by decide)) (routes (by decide))
  have same : (u.raise 27).mem = s.mem ∧ (u.raise 27).memErr = s.memErr := by
    rw [u.raise_mem, u.raise_memErr, hu]; exact ⟨rfl, rfl⟩
  have answered : t = (u.raise 27).answer .busError := by rw [← ht, hu]; rfl
  rw [answered]
  generalize u.raise 27 = v at shown same
  exact ⟨rfl, shown, same⟩

/-! ### The commands -/

theorem exec_codeWordRead_intact (ha : s.alive = true) {m : MemPlace} (hm : ∀ o, m ≠ .safety o) (hp : s.parked = false)
    {n : Fin 65} (h : ∀ i < n.val, s.memErr.get 0 (MemPlace.key m + i) = 0) (r : MemReader) (clean : Bool) :
    exec (.codeWordRead r m n clean []) s = .next (s.answer (if MemPlace.key m < 2 ^ 48 then
      .data (leNat ((List.range n.val).map fun i => s.dataByte (MemPlace.key m + i))) else .done)) :=
  exec_eq_of_run ha (exec_codeWordRead hm r n clean [] s) (State.codeRead_intact hp h r clean) rfl

theorem exec_codeWordRead_foreignSafety (ha : s.alive = true) {r : MemReader} (hr : r ≠ .caldera) (o : Nat) (n : Fin 65)
    (clean : Bool) (errs : List MemErr) : exec (.codeWordRead r (.safety o) n clean errs) s = .next (s.answer .busError) :=
  exec_eq_of_run ha (exec_codeWordRead_safety r o n clean errs s) (if_pos hr) rfl

theorem exec_codeWordRead_ownSafety (ha : s.alive = true) (o : Nat) (n : Fin 65) (clean : Bool) :
    exec (.codeWordRead .caldera (.safety o) n clean []) s = .next (s.answer (.data (leNat (s.cal.sram.getAll 0 o n.val)))) :=
  exec_eq_of_run ha (exec_codeWordRead_safety .caldera o n clean [] s) rfl rfl

section
variable (ha : s.alive = true) {a : Nat} (hr : a < 2 ^ 33)
include ha hr

theorem completes_codeWordRead_parked (hp : s.parked = true) (r : MemReader) (n : Fin 65) (clean : Bool) (errs : List MemErr) :
    Completes (.codeWordRead r (.dram a) n clean errs) s fun t =>
      t.bus = .busError ∧ s.Signalled 27 t ∧ t.mem = s.mem ∧ t.memErr = s.memErr := by
  obtain ⟨u, hu⟩ : ∃ u, s.parkAccess a = u := ⟨_, rfl⟩
  have refused : s.codeRead r (.dram a) n clean errs = s.parkAccess a := if_pos ⟨hr, hp⟩
  have effect := State.parkAccess_spec hu
  exact completes_of_effect ha (exec_codeWordRead (by simp) r n clean errs s) (refused.trans hu) effect

variable (hp : s.parked = false) {e : MemErr} (he : e.off = 0)
include hp he

theorem completes_codeWordRead_corrected (hk : e.kind = 1) (hs : s.sapwood a = false) (hl : s.memory.lastRead = none)
    (hq : s.memory.prio = []) (r : MemReader) (clean : Bool) : Completes (.codeWordRead r (.dram a) 1 clean [e]) s fun t =>
      t.bus = .data (s.mem.get 0 a).toNat ∧ t.mem = s.mem ∧ t.memErr.get 0 a = 1 ∧ s.Signalled 16 t ∧
        t.memory.corrected = min (s.memory.corrected + 1) 0xFFFFFFFF ∧
        t.get Reg.CE_COUNT_COUNT (bitsOf a 8 3) =
          min (s.get Reg.CE_COUNT_COUNT (bitsOf a 8 3) + 1) (2 ^ Reg.CE_COUNT_COUNT.width - 1) ∧
        t.memory.poisoned = s.memory.poisoned ∧ t.memory.prio = (if r = .scrubber then [] else [a / 64]) ∧
        t.memory.lastRead = (if 64 ≤ s.memory.fifo.length then none else some (a / 64, s.ticks)) := by
  have right : (s.byteShown a e).correctedAt a = true := by simp [State.correctedAt_byteShown, hk, hs]
  have sound : (s.byteShown a e).poisonedAt a = false := by simp [State.poisonedAt_byteShown, hk, hs]
  have data : s.byteMem a e = s.mem := State.byteMem_intact (by omega) a
  have read := State.codeRead_byte hr hp he (by omega) r clean rfl (if_pos right).symm
  rw [sound, if_neg (by decide)] at read
  obtain ⟨stored, bus, event, count, corrected, poisoned, prio, lastRead⟩ :=
    State.readCorrected_spec (s := s.byteShown a e) hr hl hq r e.syn rfl
  simp only [State.stored, Prod.mk.injEq] at stored
  obtain ⟨mem, err, -⟩ := stored
  refine completes_of_effect ha (exec_codeWordRead (by simp) r 1 clean [e] s) read
    ⟨bus.trans ?_, mem.trans data, ?_, event, corrected, count, poisoned, prio, lastRead⟩
  · rw [State.bus_byteShown, data]
  · rw [err, State.memErr_byteShown, hk]; rfl

theorem completes_codeWordRead_poisoned
    (hk : e.kind = 1 ∧ s.sapwood a = true ∨ e.kind = 2 ∧ s.sapwood a = false ∨ e.kind = 3) (r : MemReader) :
    Completes (.codeWordRead r (.dram a) 1 false [e]) s fun t => s.Signalled 17 t ∧
      t.memory.poisoned = min (s.memory.poisoned + 1) 0xFFFFFFFF ∧ t.memory.corrected = s.memory.corrected ∧
      t.memErr.get 0 a = e.kind ∧
      t.get Reg.UE_COUNT_COUNT (bitsOf a 8 3) =
        min (s.get Reg.UE_COUNT_COUNT (bitsOf a 8 3) + 1) (2 ^ Reg.UE_COUNT_COUNT.width - 1) ∧
      (r = .ranger ∨ (∃ c, r = .core c) → t.bus = .busError) ∧ (r = .pcie → t.bus = .data (2 ^ 8 - 1)) := by
  have wrong : (s.byteShown a e).correctedAt a = false ∧ (s.byteShown a e).poisonedAt a = true := by
    rw [State.correctedAt_byteShown, State.poisonedAt_byteShown]
    obtain ⟨hk, hs⟩ | ⟨hk, hs⟩ | hk := hk
    · simp [hk, hs]
    · simp [hk, hs]
    · simp [hk]
  have known : e.kind ≠ 0 ∧ e.kind ≤ 3 := by omega
  have read := State.codeRead_byte hr hp he known.1 r false rfl (if_neg (Bool.eq_false_iff.mp wrong.1)).symm
  rw [wrong.2, if_pos rfl, if_neg (by decide)] at read
  obtain ⟨stored, event, poisoned, corrected, count, error, ones⟩ :=
    State.readPoisoned_spec (s := s.byteShown a e) hr r e.syn 1 rfl
  simp only [State.stored, Prod.mk.injEq] at stored
  obtain ⟨-, err, -⟩ := stored
  refine completes_of_effect ha (exec_codeWordRead (by simp) r 1 false [e] s) read
    ⟨event, poisoned, corrected, ?_, count, error, ones⟩
  rw [err, State.memErr_byteShown]
  omega

theorem completes_codeWordRead_unseen (hk : e.kind = 2) (hs : s.sapwood a = true) (r : MemReader) (clean : Bool) :
    Completes (.codeWordRead r (.dram a) 1 clean [e]) s fun t =>
      t.bus = .data (s.mem.get 0 a ^^^ e.flip).toNat ∧ t.memory = s.memory ∧ t.regs = s.regs := by
  have unseen : (s.byteShown a e).correctedAt a = false ∧ (s.byteShown a e).poisonedAt a = false := by
    simp [State.correctedAt_byteShown, State.poisonedAt_byteShown, hk, hs]
  have read := State.codeRead_byte hr hp he (by omega) r clean rfl (if_neg (Bool.eq_false_iff.mp unseen.1)).symm
  rw [unseen.2, if_neg (by decide)] at read
  refine completes_of_effect ha (exec_codeWordRead (by simp) r 1 clean [e] s) read ⟨?_, rfl, rfl⟩
  show (s.byteShown a e).bus = _
  simp [State.bus_byteShown, State.byteMem, hk]

theorem completes_codeWordRead_refetched (hk : e.kind = 3) (r : MemReader) :
    Completes (.codeWordRead r (.dram a) 1 true [e]) s fun t => t.memErr.get 0 a = 0 ∧
      t.memory.poisoned = s.memory.poisoned ∧ t.memory.corrected = min (s.memory.corrected + 1) 0xFFFFFFFF ∧
      t.bus = .data (s.mem.get 0 a).toNat := by
  have wrong : (s.byteShown a e).correctedAt a = false ∧ (s.byteShown a e).poisonedAt a = true := by
    simp [State.correctedAt_byteShown, State.poisonedAt_byteShown, hk]
  have data : s.byteMem a e = s.mem := State.byteMem_intact (by omega) a
  have read := State.codeRead_byte hr hp he (by omega) r true rfl (if_neg (Bool.eq_false_iff.mp wrong.1)).symm
  rw [wrong.2, if_pos rfl, if_pos rfl, State.refetched, State.countAt_dram hr] at read
  refine completes_of_effect ha (exec_codeWordRead (by simp) r 1 true [e] s) read ⟨Tab.get_put_same _ _ _ _, rfl, rfl, ?_⟩
  show (s.byteShown a e).bus = _
  rw [State.bus_byteShown, data]

end

end Sys2Proof.Machine
end

section
/-!
Scrubs (R623 to R626).
-/
namespace Sys2Proof.Machine

variable {s t : State}

/-! ### A block without damage, and one with a single corrected byte -/

theorem State.scrubByte_intact {k : Nat} (h : s.memErr.get 0 k = 0) (init syn : Nat) : s.scrubByte init syn k = s := by
  simp only [State.scrubByte, s.correctedAt_of_intact h, s.poisonedAt_of_intact h, Bool.false_eq_true, if_false]

theorem State.scrubBytes_intact {l : List Nat} {k : Nat} (h : ∀ i ∈ l, s.memErr.get 0 (k + i) = 0) (init : Nat)
    (syn : Nat → Nat) : l.foldl (fun s i => s.scrubByte init (syn i) (k + i)) s = s := by
  induction l with
  | nil => rfl
  | cons i l ih =>
    rw [List.foldl_cons, State.scrubByte_intact (h i List.mem_cons_self)]
    exact ih fun j hj => h j (List.mem_cons_of_mem _ hj)

theorem State.scrub_intact {b : Nat} (h : ∀ i < 64, s.memErr.get 0 (64 * b + i) = 0) (init : Nat) : s.scrub init b [] = s :=
  State.scrubBytes_intact (fun i hi => h i (List.mem_range.mp hi)) init fun i => errSyn [] i

/-- A corrected byte of a scrubbed block: it is written back, counts, is tracked and recorded, and raises event 18. -/
theorem State.scrubByte_spec {k : Nat} (hc : s.correctedAt k = true) (init syn : Nat) (ht : t = s.scrubByte init syn k) :
    t.memErr = s.memErr.put 0 k 0 ∧ s.Signalled 18 t ∧ t.memory.corrected = bump s.memory.corrected ∧
      t.get Reg.SCRUB_CE_COUNT 0 = min (s.get Reg.SCRUB_CE_COUNT 0 + 1) (2 ^ Reg.SCRUB_CE_COUNT.width - 1) := by
  obtain ⟨u, hu⟩ : ∃ u : State, u = { s with memErr := s.memErr.put 0 k 0 }.count Reg.SCRUB_CE_COUNT 0 1 := ⟨_, rfl⟩
  obtain ⟨v, hv⟩ : ∃ v, v = (u.track (k / 64)).onMem fun m => { m with corrected := bump m.corrected } := ⟨_, rfl⟩
  obtain ⟨x, hx⟩ : ∃ x, x = v.errRecord 3 (memSource k) (memAddress k) syn init (v.blockCount (k / 64)) := ⟨_, rfl⟩
  have scrubbed : t = x.raise 18 := by
    rw [ht, State.scrubByte, if_pos hc, hx, hv, hu]
  have recorded : u.RecordFrame x := by
    rw [hx, hv]; exact (((State.RecordFrame.refl u).track _).onMem _).errRecord _ _ _ _ _ _
  have routes {f : Field} (hf : Reg.SCRUB_CE_COUNT.id ≠ f.id) : u.get f 18 = s.get f 18 := by
    rw [hu]; exact State.get_count_other _ hf _ _ _
  have shown : u.Signalled 18 t := by rw [scrubbed]; exact recorded.signalled (x.signalled_raise 18)
  refine ⟨?_, shown.of_get (routes (by decide)) (routes (by decide)) (fun _ => rfl) fun _ => rfl, ?_, ?_⟩
  · have stored : t.stored = u.stored := by rw [scrubbed]; exact (recorded.raise 18).stored
    simp only [State.stored, Prod.mk.injEq] at stored
    obtain ⟨-, err, -⟩ := stored
    rw [err, hu]; rfl
  · obtain ⟨l, tracked⟩ := u.memory_track (k / 64)
    obtain ⟨l', fifo⟩ := v.memory_errRecord 3 (memSource k) (memAddress k) syn init (v.blockCount (k / 64))
    rw [scrubbed, x.raise_memory, hx, fifo, hv, State.onMem, tracked, hu]
    rfl
  · rw [scrubbed, (recorded.raise 18).get _ _ rfl (by decide), hu, State.get_count_same]
    rfl

/-- A block whose first byte shows one error of one bit, and which is sound beside it. -/
theorem State.scrub_first {b : Nat} {e : MemErr} (he : e.off = 0) (hk : e.kind = 1)
    (h : ∀ i < 64, s.memErr.get 0 (64 * b + i) = 0) {u : State}
    (hu : u = { s with memErr := s.memErr.put 0 (64 * b) 1 }) (hc : u.correctedAt (64 * b) = true) (init : Nat) :
    s.scrub init b [e] = u.scrubByte init e.syn (64 * b) := by
  have shown : (if e.off < 64 ∧ e.kind ≠ 0 then s.inject (64 * b) e else s) = u := by
    rw [if_pos ⟨by omega, by omega⟩, hu]
    simp [State.inject, he, hk]
  have syn : errSyn [e] 0 = e.syn := by simp [errSyn, he]
  obtain ⟨t, ht⟩ : ∃ t, t = u.scrubByte init e.syn (64 * b) := ⟨_, rfl⟩
  obtain ⟨err, -⟩ := State.scrubByte_spec hc init e.syn ht
  have rest : ∀ i ∈ List.range' 1 63, t.memErr.get 0 (64 * b + i) = 0 := by
    intro i hi
    obtain ⟨low, high⟩ := List.mem_range'_1.mp hi
    rw [err, hu, Tab.get_put_other _ _ (by omega), Tab.get_put_other _ _ (by omega)]
    exact h i (by omega)
  have bytes : List.range 64 = 0 :: List.range' 1 63 := by rw [List.range_eq_range', List.range'_succ]
  rw [State.scrub, List.foldl_cons, List.foldl_nil, shown, bytes, List.foldl_cons, syn, Nat.add_zero, ← ht]
  exact State.scrubBytes_intact rest init fun i => errSyn [e] i

/-! ### The walk -/

/-- The fields from which the walk finds the next heartwood block. -/
def Reg.walked : List Field :=
  [Reg.PWR_STATE_STATE, Reg.REGION_CFG_VALID, Reg.REGION_CFG_CLASS, Reg.REGION_BASE_BASE, Reg.REGION_SIZE_SIZE]

theorem State.heartFrom_of_get (h : ∀ f ∈ Reg.walked, ∀ i, t.get f i = s.get f i) (k n : Nat) :
    t.heartFrom k n = s.heartFrom k n := by
  simp only [Reg.walked, List.forall_mem_cons] at h
  obtain ⟨power, valid, sap, base, size, -⟩ := h
  have parked : t.parked = s.parked := by simp only [State.parked, power]
  have ranges : t.walkRanges = s.walkRanges := by rw [State.walkRanges, parked]; rfl
  have ends (k : Nat) : t.sapEnd k = s.sapEnd k := by simp only [State.sapEnd, State.flag, valid, sap, base, size]
  induction n generalizing k with
  | zero => rfl
  | succ n ih => simp only [State.heartFrom, ranges, ends, ih]

theorem State.memView_waitTill (s : State) (w : Nat) : (s.waitTill w).stored = s.stored ∧ (s.waitTill w).memory = s.memory := by
  obtain ⟨_, _, _, _, _, _, passed⟩ := s.passed_advance (w - s.ticks)
  rw [State.waitTill, passed]
  exact ⟨rfl, rfl⟩

/-- The walk over a sound block. -/
theorem State.scrubWalk_intact {k n w : Nat} (hr : s.get Reg.SCRUB_RATE_KIB_S 0 ≠ 0)
    (hk : s.heartFrom (s.get Reg.SCRUB_POS_ADDR 0) 200 = some k) (hn : s.heartFrom (k + 64) 200 = some n)
    (h : ∀ i < 64, s.memErr.get 0 (64 * (k / 64) + i) = 0)
    (hw : w = s.memory.walked + 62500000 / min 1048576 (s.get Reg.SCRUB_RATE_KIB_S 0) / 8) : s.scrubWalk [] =
      ((s.waitTill w).onMem fun m => { m with walked := (s.waitTill w).ticks }).set Reg.SCRUB_POS_ADDR 0 n := by
  have rate : ¬ min 1048576 (s.get Reg.SCRUB_RATE_KIB_S 0) = 0 := by omega
  obtain ⟨u, hu⟩ : ∃ u, u = (s.waitTill w).onMem fun m => { m with walked := (s.waitTill w).ticks } := ⟨_, rfl⟩
  obtain ⟨stored, -⟩ := s.memView_waitTill w
  simp only [State.stored, Prod.mk.injEq] at stored
  obtain ⟨-, err, -⟩ := stored
  have sound : u.scrub 0 (k / 64) [] = u := State.scrub_intact (fun i hi => by
    rw [hu]; exact (congrArg (fun m => Tab.get m 0 _) err).trans (h i hi)) 0
  have next : u.heartFrom (k + 64) 200 = some n := by
    rw [← hn]
    refine State.heartFrom_of_get (fun f hf i => ?_) _ _
    rw [hu]
    exact s.get_waitTill ((by decide : ∀ f ∈ Reg.walked, Reg.clocked f = false) f hf) w i
  rw [State.scrubWalk, if_neg rate, hk]
  simp only [← hw, ← hu, sound, next]

/-! ### The commands -/

section
variable (ha : s.alive = true)
include ha

theorem exec_scrubBlock_stopped (h : s.get Reg.SCRUB_RATE_KIB_S 0 = 0) (errs : List MemErr) :
    exec (.scrubBlock errs) s = .next s :=
  exec_eq_of_run ha (exec_scrubBlock errs s) (if_pos (by rw [h]; rfl)) rfl

theorem completes_scrubBlock_intact {k n : Nat} (hr : s.get Reg.SCRUB_RATE_KIB_S 0 ≠ 0)
    (hk : s.heartFrom (s.get Reg.SCRUB_POS_ADDR 0) 200 = some k) (hn : s.heartFrom (k + 64) 200 = some n) (hb : n < 2 ^ 48)
    (h : ∀ i < 64, s.memErr.get 0 (64 * (k / 64) + i) = 0) : Completes (.scrubBlock []) s fun t =>
      t.get Reg.SCRUB_POS_ADDR 0 = n ∧ t.memErr = s.memErr ∧ t.mem = s.mem ∧
        t.ticks = max s.ticks (s.memory.walked + 62500000 / min 1048576 (s.get Reg.SCRUB_RATE_KIB_S 0) / 8) ∧
        t.memory.walked = t.ticks := by
  obtain ⟨w, hw⟩ : ∃ w, w = s.memory.walked + 62500000 / min 1048576 (s.get Reg.SCRUB_RATE_KIB_S 0) / 8 := ⟨_, rfl⟩
  obtain ⟨stored, -⟩ := s.memView_waitTill w
  simp only [State.stored, Prod.mk.injEq] at stored
  obtain ⟨mem, err, -⟩ := stored
  have place : (((s.waitTill w).onMem fun m => { m with walked := (s.waitTill w).ticks }).set Reg.SCRUB_POS_ADDR 0 n).get
      Reg.SCRUB_POS_ADDR 0 = n := (State.get_set_same _ _ _ _).trans (Nat.mod_eq_of_lt hb)
  exact completes_of_effect ha (exec_scrubBlock [] s) (State.scrubWalk_intact hr hk hn h hw)
    ⟨place, err, mem, hw ▸ s.ticks_waitTill w, rfl⟩

theorem exec_priorityScrub_empty (h : s.memory.prio = []) (errs : List MemErr) : exec (.priorityScrub errs) s = .next s :=
  exec_eq_of_run ha (exec_priorityScrub errs s) (by rw [State.scrubQueued, h]) rfl

theorem completes_priorityScrub_intact {b : Nat} {r : List Nat} (hq : s.memory.prio = b :: r)
    (h : ∀ i < 64, s.memErr.get 0 (64 * b + i) = 0) : Completes (.priorityScrub []) s fun t =>
      t.memory.prio = r ∧ t.get Reg.PRIO_STATUS_LEVEL 0 = r.length % 2 ^ Reg.PRIO_STATUS_LEVEL.width ∧ t.memErr = s.memErr ∧
        t.memory.fifo = s.memory.fifo := by
  obtain ⟨u, hu⟩ : ∃ u, u = (s.onMem fun m => { m with prio := r }).set Reg.PRIO_STATUS_LEVEL 0 r.length := ⟨_, rfl⟩
  have sound : u.scrub 0 b [] = u := State.scrub_intact (by rw [hu]; exact h) 0
  have taken : s.scrubQueued [] = (s.onMem fun m => { m with prio := r }).set Reg.PRIO_STATUS_LEVEL 0 r.length := by
    rw [State.scrubQueued, hq]
    simp only [← hu, sound]
  exact completes_of_effect ha (exec_priorityScrub [] s) taken ⟨rfl, State.get_set_same _ _ _ _, rfl, rfl⟩

theorem exec_localScrub_unserved {g : Fin 169} (h : g.val < 88 ∨ (g.val < 168 ∧ s.parked = true)) (b : Nat)
    (errs : List MemErr) : exec (.localScrub g b errs) s = .next s :=
  exec_eq_of_run ha (exec_localScrub g b errs s) (if_pos h) rfl

theorem completes_localScrub_corrected {g : Fin 169} {b : Nat} {e : MemErr} (hg : 88 ≤ g.val) (hp : s.parked = false)
    (he : e.off = 0) (hk : e.kind = 1) (hb : b < 32768) (h : ∀ i < 64, s.memErr.get 0 (groupKey g.val (64 * b) + i) = 0)
    (hs : ∀ i < 64, s.sapwood (groupKey g.val (64 * b) + i) = false) : Completes (.localScrub g b [e]) s fun t =>
      (∀ k, t.memErr.get 0 k = s.memErr.get 0 k) ∧ s.Signalled 18 t ∧
        t.memory.corrected = min (s.memory.corrected + 1) 0xFFFFFFFF ∧
        t.get Reg.SCRUB_CE_COUNT 0 = min (s.get Reg.SCRUB_CE_COUNT 0 + 1) (2 ^ Reg.SCRUB_CE_COUNT.width - 1) := by
  have key : MemPlace.key (.group g.val (64 * (b % 32768))) = groupKey g.val (64 * b) := by
    rw [MemPlace.key, if_neg (by omega), if_neg (by omega), Nat.mod_eq_of_lt hb]
  obtain ⟨c, hc⟩ : ∃ c, groupKey g.val (64 * b) = 64 * c :=
    ⟨2 ^ 42 * (1 + g.val) + b, by rw [groupKey]; omega⟩
  rw [hc] at h hs
  obtain ⟨u, hu⟩ : ∃ u : State, u = { s with memErr := s.memErr.put 0 (64 * c) 1 } := ⟨_, rfl⟩
  have right : u.correctedAt (64 * c) = true := by
    have heart : u.sapwood (64 * c) = false := by
      rw [hu]
      exact (State.sapwood_of_regs rfl _).trans (hs 0 (by omega))
    rw [State.correctedAt, heart, hu, Tab.get_put_same]; rfl
  obtain ⟨t, ht⟩ : ∃ t, t = u.scrubByte 25 e.syn (64 * c) := ⟨_, rfl⟩
  have effect : (if g.val < 88 ∨ (g.val < 168 ∧ s.parked = true) then s
      else s.scrub 25 (MemPlace.key (.group g.val (64 * (b % 32768))) / 64) [e]) = t := by
    rw [if_neg (by simp [hp]; omega), key, hc, Nat.mul_div_cancel_left c (by decide), ht]
    exact State.scrub_first he hk h hu right 25
  obtain ⟨err, event, corrected, count⟩ := State.scrubByte_spec right 25 e.syn ht
  have mended (k : Nat) : t.memErr.get 0 k = s.memErr.get 0 k := by
    rw [err, hu, Tab.get_put, Tab.get_put]
    split
    · next hk => rw [← hk]; exact (h 0 (by omega)).symm
    · rfl
  have routes : s.Signalled 18 t := by rw [hu] at event; exact event
  rw [hu] at corrected count
  exact completes_of_effect ha (exec_localScrub g b [e] s) effect ⟨mended, routes, corrected, count⟩

end

end Sys2Proof.Machine
end

section
/-!
Remap words, error records and pages of flash (R627 to R633, R635, R638).
-/
namespace Sys2Proof.Machine

variable {s t : State}

/-! ### A word that is being made (R628, R629) -/

theorem State.remapStart_valid {dram : Bool} {e : Nat} (h : s.remapValid dram e = true) (v : Nat) :
    s.remapStart dram e v = s := by
  have taken : (s.remapValid dram e || s.memory.copying.contains (dram, e)) = true := by rw [h]; rfl
  exact if_pos taken

/-- The block of a DRAM word is set, and its copy starts. -/
def State.dramCopy (s : State) (e v : Nat) : State :=
  (s.set Reg.REMAP_DRAM_BLOCK e v).onMem fun m => { m with copying := m.copying ++ [(true, e)] }

theorem State.remapStart_dram {e : Nat} (hv : s.flag Reg.REMAP_DRAM_VALID e = false)
    (hc : s.memory.copying.contains (true, e) = false) (v : Nat) : s.remapStart true e v = s.dramCopy e v := by
  have valid : s.remapValid true e = false := hv
  rw [State.remapStart, valid, hc]; rfl

theorem State.remapWrite_dram {e : Nat} (hv : s.flag Reg.REMAP_DRAM_VALID e = false)
    (hc : s.memory.copying.contains (true, e) = false) (v : Nat) :
    s.remapWrite true e v false = s.set Reg.REMAP_DRAM_BLOCK e v := by
  have valid : s.remapValid true e = false := hv
  rw [State.remapWrite, valid, hc]; rfl

theorem State.remapWrite_valid {e : Nat} (h : s.flag Reg.REMAP_DRAM_VALID e = true) (v : Nat) (valid : Bool) :
    s.remapWrite true e v valid = s := by
  have is : s.remapValid true e = true := h
  cases valid with
  | true => exact State.remapStart_valid is v
  | false => rw [State.remapWrite, is]; rfl

/-- The block of a word reads what was written, and the word is as valid as before. -/
theorem State.dramBlock_set {v : Nat} (h : v < 2 ^ 42) (s : State) (e : Nat) :
    (s.set Reg.REMAP_DRAM_BLOCK e v).get Reg.REMAP_DRAM_BLOCK e = v ∧
      (s.set Reg.REMAP_DRAM_BLOCK e v).flag Reg.REMAP_DRAM_VALID e = s.flag Reg.REMAP_DRAM_VALID e :=
  ⟨(s.get_set_same _ e v).trans (Nat.mod_eq_of_lt h), State.flag_of_get (s.get_set_other (by decide) e e v)⟩

/-- The words of a block of DRAM name it by its number. -/
theorem remapBank_dram {b : Nat} (h : b < 2 ^ 27) : (remapBank b).1 = true := by
  have low : 64 * b < csramBase := by unfold csramBase; omega
  have source : 0x100 ≤ memSource (64 * b) := by
    rw [memSource, if_neg (by omega), if_neg (by omega), if_neg (by omega)]
    omega
  rw [remapBank, if_pos source]

theorem State.remapAuto_idle {b : Nat}
    (h : s.blockCount b < 3 ∨ s.sapwood (64 * b) = true ∨ (s.remapOf b).isSome = true) : s.remapAuto b = s := if_pos h

theorem State.remapAuto_dram {b e : Nat} (hb : b < 2 ^ 27) (hc : 3 ≤ s.blockCount b) (hs : s.sapwood (64 * b) = false)
    (hr : s.remapOf b = none) (hf : s.remapFree b = some e) :
    s.flag Reg.REMAP_DRAM_VALID e = false ∧ s.remapAuto b = s.dramCopy e b := by
  have bank := remapBank_dram hb
  have free := List.find?_some hf
  rw [bank, Bool.and_eq_true, Bool.not_eq_true', Bool.not_eq_true'] at free
  obtain ⟨valid, copying⟩ := free
  have name : remapName b = b := by rw [remapName, if_pos bank]
  refine ⟨valid, ?_⟩
  rw [State.remapAuto, if_neg (by simp [hs, hr]; omega), hf]
  simp only [bank, name]
  exact State.remapStart_dram valid copying b

/-! ### A copy that ends (R629) -/

theorem State.remapEnd_dram {e : Nat} (hc : s.memory.copying = [(true, e)]) (ht : t = s.remapEnd true e) :
    t.flag Reg.REMAP_DRAM_VALID e = true ∧ t.memory.copying = [] ∧ t.memory.unsaved = s.memory.unsaved ++ [(true, e)] ∧
      s.Signalled 20 t ∧ t.mem = s.mem := by
  obtain ⟨k, hk⟩ : ∃ k, k = s.remapKey true e := ⟨_, rfl⟩
  obtain ⟨c, hcopy⟩ : ∃ c, c = (List.range 64).foldl (fun (u : State) i => if u.correctedAt (k + i) then
    { u with memErr := u.memErr.put 0 (k + i) 0 } else u) s := ⟨_, rfl⟩
  obtain ⟨v, hv⟩ : ∃ v, v = (c.setFlag Reg.REMAP_DRAM_VALID e true).onMem fun m =>
    { m with copying := m.copying.filter (· != (true, e)), unsaved := m.unsaved ++ [(true, e)] } := ⟨_, rfl⟩
  obtain ⟨x, hx⟩ : ∃ x, x = v.errRecord 5 (memSource k) (memAddress k) 0 1 (remapWordNumber true e) := ⟨_, rfl⟩
  have ended : t = x.raise 20 := by rw [ht, hx, hv, hcopy, hk]; rfl
  have copied : c.regs = s.regs ∧ c.memory = s.memory ∧ c.mem = s.mem := by
    rw [hcopy]
    refine State.foldl_keeps (P := fun u => u.regs = s.regs ∧ u.memory = s.memory ∧ u.mem = s.mem) (fun u i hu => ?_) _
      ⟨rfl, rfl, rfl⟩
    split <;> exact hu
  obtain ⟨regs, memory, mem⟩ := copied
  have recorded : v.RecordFrame x := by rw [hx]; exact (State.RecordFrame.refl v).errRecord _ _ _ _ _ _
  have routes {f : Field} (hf : Reg.REMAP_DRAM_VALID.id ≠ f.id) : v.get f 20 = s.get f 20 := by
    rw [hv]; exact (c.get_setFlag_other hf e 20 true).trans (State.get_of_regs regs f 20)
  have shown : v.Signalled 20 t := by rw [ended]; exact recorded.signalled (x.signalled_raise 20)
  obtain ⟨l, fifo⟩ := v.memory_errRecord 5 (memSource k) (memAddress k) 0 1 (remapWordNumber true e)
  have after : t.memory = { s.memory with copying := [], unsaved := s.memory.unsaved ++ [(true, e)], fifo := l } := by
    rw [ended, x.raise_memory, hx, fifo, hv, State.onMem, State.setFlag, State.set, memory, hc]
    simp
  have event : s.Signalled 20 t := shown.of_get (routes (by decide)) (routes (by decide)) (fun _ => rfl) fun _ => rfl
  refine ⟨?_, by rw [after], by rw [after], event, ?_⟩
  · have kept : t.get Reg.REMAP_DRAM_VALID e = v.get Reg.REMAP_DRAM_VALID e := by
      rw [ended]; exact (recorded.raise 20).get _ _ rfl (by decide)
    rw [State.flag_of_get kept, hv]
    exact c.flag_setFlag_same (by decide) e true
  · have stored : t.stored = v.stored := by rw [ended]; exact (recorded.raise 20).stored
    simp only [State.stored, Prod.mk.injEq] at stored
    rw [stored.1, hv]
    exact mem

/-! ### Flash (R628, R635) -/

theorem State.remapSaved_dram {e : Nat} (hu : s.memory.unsaved = [(true, e)]) (ht : t = (s.remapSave true e).remapAnswer true e) :
    t.memory.unsaved = [] ∧ t.flash.remapDram.get none e = some (s.get Reg.REMAP_DRAM_BLOCK e) ∧ t.regs = s.regs := by
  obtain ⟨x, hx⟩ : ∃ x, x = (s.remapSave true e).onMem fun m =>
    { m with adding := m.adding.filter fun x => x.2 != (true, e) } := ⟨_, rfl⟩
  have answered : t.memory = x.memory ∧ t.flash = x.flash ∧ t.regs = x.regs := by
    rw [ht, State.remapAnswer, ← hx]
    refine State.foldl_keeps (P := fun u => u.memory = x.memory ∧ u.flash = x.flash ∧ u.regs = x.regs) (fun u a hu => ?_) _
      ⟨rfl, rfl, rfl⟩
    rw [State.setResult]
    split <;> exact hu
  obtain ⟨memory, flash, regs⟩ := answered
  rw [memory, flash, regs, hx]
  refine ⟨?_, Tab.get_put_same _ _ _ _, rfl⟩
  show s.memory.unsaved.filter _ = _
  simp [hu]

theorem State.flashPage_corrected (off syn : Nat) (ht : t = s.flashPage off syn true) :
    s.Signalled 24 t ∧ t.flash = s.flash := by
  have recorded := (State.RecordFrame.refl s).errRecord 8 0x200 off syn 1 0
  have page : t = (s.errRecord 8 0x200 off syn 1 0).raise 24 := ht
  rw [page]
  exact ⟨recorded.signalled (State.signalled_raise _ 24), (recorded.raise 24).flash⟩

/-- A page of cell image slot `k` that is uncorrectable. -/
theorem State.flashPage_cellSlot {k : Nat} (hk : k < 2) (syn : Nat) (ht : t = s.flashPage (0x14C0000 + 0x3000000 * k) syn false) :
    s.Signalled 25 t ∧ (t.flash.slots.get CellSlot.empty k).state ≠ .valid ∧
      t.flash.slots.get CellSlot.empty (1 - k) = s.flash.slots.get CellSlot.empty (1 - k) := by
  obtain ⟨x, hx⟩ : ∃ x, x = s.errRecord 9 0x200 (0x14C0000 + 0x3000000 * k) syn 1 0 := ⟨_, rfl⟩
  have recorded : s.RecordFrame x := by rw [hx]; exact (State.RecordFrame.refl s).errRecord _ _ _ _ _ _
  obtain ⟨u, hu⟩ : ∃ u, u = x.raise 25 := ⟨_, rfl⟩
  have flash : u.flash = s.flash := by rw [hu]; exact (recorded.raise 25).flash
  have shown : s.Signalled 25 u := by rw [hu]; exact recorded.signalled (x.signalled_raise 25)
  have slot : (0x14C0000 + 0x3000000 * k - 0x14C0000) / 0x3000000 = k := by omega
  have page : t = if (s.flash.slots.get CellSlot.empty k).state = .valid then { u with flash := { u.flash with
      slots := u.flash.slots.put CellSlot.empty k { s.flash.slots.get CellSlot.empty k with state := .invalid } } } else u := by
    rw [ht, State.flashPage, if_neg (by decide)]
    simp only [← hx, ← hu]
    rw [if_pos (by omega), slot, flash]
  rw [page]
  split
  · refine ⟨shown, ?_, ?_⟩
    · rw [Tab.get_put_same]
      exact fun invalid => by cases invalid
    · rw [Tab.get_put_other _ _ (by omega), flash]
  · next hv => exact ⟨shown, by rw [flash]; exact hv, by rw [flash]⟩

/-! ### Records (R632, R633) -/

theorem State.errDrain_record {r : List Nat} {l : List (List Nat)} (hf : s.memory.fifo = r :: l) (ht : t = s.errDrain) :
    t.memory.fifo = l ∧ ∃ e, (t.logs.get LogRing.empty 3).entries.head? = some e ∧ e.code = r.getD 0 0 % 65536 ∧
      e.source = r.getD 0 0 / 65536 % 65536 ∧ e.data = leBytes 8 (r.getD 2 0) ++ leBytes 8 (r.getD 3 0) := by
  obtain ⟨v, hv⟩ : ∃ v, v = s.log 3 (r.getD 0 0 % 65536) (r.getD 0 0 / 65536)
    (leBytes 8 (r.getD 2 0) ++ leBytes 8 (r.getD 3 0)) := ⟨_, rfl⟩
  have drained : t = v.errPop := by rw [ht, State.errDrain, hf, hv]
  have logs : t.logs = v.logs := by rw [drained]; exact (State.RecordFrame.refl v).errPop.logs
  refine ⟨?_, { seq := (s.logs.get LogRing.empty 3).next, time := s.tb 5, code := r.getD 0 0 % 65536 % 65536
                source := r.getD 0 0 / 65536 % 65536
                data := (leBytes 8 (r.getD 2 0) ++ leBytes 8 (r.getD 3 0) ++ zeros 16).take 16 }, ?_, Nat.mod_mod _ _, rfl, ?_⟩
  · rw [drained, v.memory_errPop, hv]
    show s.memory.fifo.drop 1 = l
    rw [hf]; rfl
  · rw [logs, hv, State.log, Tab.get_put_same]
    obtain ⟨n, hn⟩ : ∃ n, max 1 (Config.logCapacity 3) = n + 1 := ⟨max 1 (Config.logCapacity 3) - 1, by omega⟩
    rw [hn]; rfl
  · have whole : (leBytes 8 (r.getD 2 0) ++ leBytes 8 (r.getD 3 0)).length = 16 := rfl
    show List.take 16 (_ ++ _) = _
    rw [← whole, List.take_left]

/-! ### The commands -/

section
variable (ha : s.alive = true)
include ha

theorem exec_remapAuto_idle {m : MemPlace} (h : s.blockCount (MemPlace.key m / 64) < 3 ∨
    s.sapwood (64 * (MemPlace.key m / 64)) = true ∨ (s.remapOf (MemPlace.key m / 64)).isSome = true) :
    exec (.remapAuto m) s = .next s :=
  exec_eq_of_run ha (exec_remapAuto m s) (State.remapAuto_idle h) rfl

theorem completes_remapAuto {a e : Nat} (hr : a < 2 ^ 33) (hc : 3 ≤ s.blockCount (a / 64))
    (hs : s.sapwood (64 * (a / 64)) = false) (ho : s.remapOf (a / 64) = none) (hf : s.remapFree (a / 64) = some e) :
    Completes (.remapAuto (.dram a)) s fun t => t.memory.copying = s.memory.copying ++ [(true, e)] ∧
      t.get Reg.REMAP_DRAM_BLOCK e = a / 64 ∧ t.flag Reg.REMAP_DRAM_VALID e = false := by
  obtain ⟨valid, start⟩ := State.remapAuto_dram (by omega) hc hs ho hf
  obtain ⟨block, same⟩ := State.dramBlock_set (v := a / 64) (by omega) s e
  exact completes_of_effect ha (exec_remapAuto _ s) start ⟨rfl, block, same.trans valid⟩

theorem exec_remapValidWrite_foreign {m : Master} (hm : m ≠ .ranger) (dram : Bool) (w v : Nat) (b : Bool) :
    exec (.remapValidWrite m dram w v b) s = .next (s.answer .busError) :=
  exec_eq_of_run ha (exec_remapValidWrite m dram w v b s) (if_pos hm) rfl

/-- Ranger's write of a word of DRAM. -/
theorem exec_remapValidWrite_ranger {w : Nat} (hw : w < 256) {v : Nat} {b : Bool} (ht : s.remapWrite true w v b = t)
    (hp : t.pending = s.pending) : exec (.remapValidWrite .ranger true w v b) s = .next (t.answer .done) := by
  have word : w % (if true = true then 256 else 1352) = w := Nat.mod_eq_of_lt hw
  refine exec_eq_of_run ha (exec_remapValidWrite .ranger true w v b s) ?_ hp
  rw [if_neg (by simp), word, ht]

theorem exec_remapValidWrite_valid {w : Nat} (hw : w < 256) (h : s.flag Reg.REMAP_DRAM_VALID w = true) (v : Nat) (b : Bool) :
    exec (.remapValidWrite .ranger true w v b) s = .next (s.answer .done) :=
  exec_remapValidWrite_ranger ha hw (State.remapWrite_valid h v b) rfl

theorem completes_remapValidWrite_block {w v : Nat} (hw : w < 256) (hv : v < 2 ^ 27) (h : s.flag Reg.REMAP_DRAM_VALID w = false)
    (hc : s.memory.copying.contains (true, w) = false) : Completes (.remapValidWrite .ranger true w v false) s fun t =>
      t.bus = .done ∧ t.get Reg.REMAP_DRAM_BLOCK w = v ∧ t.memory = s.memory ∧ t.flag Reg.REMAP_DRAM_VALID w = false := by
  obtain ⟨block, same⟩ := State.dramBlock_set (v := v) (by omega) s w
  exact ⟨_, exec_remapValidWrite_ranger ha hw (State.remapWrite_dram h hc v) rfl, rfl, block, rfl, same.trans h⟩

theorem completes_remapValidWrite_copy {w v : Nat} (hw : w < 256) (hv : v < 2 ^ 27) (h : s.flag Reg.REMAP_DRAM_VALID w = false)
    (hc : s.memory.copying = []) : Completes (.remapValidWrite .ranger true w v true) s fun t =>
      t.bus = .done ∧ t.get Reg.REMAP_DRAM_BLOCK w = v ∧ t.memory.copying = [(true, w)] ∧
        t.flag Reg.REMAP_DRAM_VALID w = false := by
  obtain ⟨block, same⟩ := State.dramBlock_set (v := v) (by omega) s w
  have start : s.remapWrite true w v true = s.dramCopy w v := State.remapStart_dram h (by rw [hc]; rfl) v
  have copying : (s.dramCopy w v).memory.copying = [(true, w)] := by
    show s.memory.copying ++ _ = _
    rw [hc]; rfl
  exact ⟨_, exec_remapValidWrite_ranger ha hw start rfl, rfl, block, copying, same.trans h⟩

theorem exec_remapCopyEnd_idle (h : s.memory.copying = []) : exec .remapCopyEnd s = .next s :=
  exec_eq_of_run ha (exec_remapCopyEnd s) (by rw [State.copyEnd, h]; rfl) rfl

theorem completes_remapCopyEnd {e : Nat} (h : s.memory.copying = [(true, e)]) : Completes .remapCopyEnd s fun t =>
    t.flag Reg.REMAP_DRAM_VALID e = true ∧ t.memory.copying = [] ∧ t.memory.unsaved = s.memory.unsaved ++ [(true, e)] ∧
      s.Signalled 20 t ∧ t.mem = s.mem := by
  obtain ⟨t, ht⟩ : ∃ t, t = s.remapEnd true e := ⟨_, rfl⟩
  have effect := State.remapEnd_dram h ht
  exact completes_of_effect ha (exec_remapCopyEnd s) (by rw [State.copyEnd, h, ht]; rfl) effect

theorem exec_remapFlashWrite_idle (h : s.memory.unsaved = []) : exec .remapFlashWrite s = .next s :=
  exec_eq_of_run ha (exec_remapFlashWrite s) (by rw [State.wordSaved, h]; rfl) rfl

theorem completes_remapFlashWrite {e : Nat} (h : s.memory.unsaved = [(true, e)]) : Completes .remapFlashWrite s fun t =>
    t.memory.unsaved = [] ∧ t.flash.remapDram.get none e = some (s.get Reg.REMAP_DRAM_BLOCK e) ∧ t.regs = s.regs := by
  obtain ⟨t, ht⟩ : ∃ t, t = (s.remapSave true e).remapAnswer true e := ⟨_, rfl⟩
  have effect := State.remapSaved_dram h ht
  exact completes_of_effect ha (exec_remapFlashWrite s) (by rw [State.wordSaved, h, ht]; rfl) effect

theorem exec_errPop_foreign {m : Master} (hm : m ≠ .ranger) : exec (.errPop m) s = .next (s.answer .busError) :=
  exec_eq_of_run ha (exec_errPop m s) (if_neg hm) rfl

theorem completes_errPop : Completes (.errPop .ranger) s fun t => t.bus = .done ∧ t.memory.fifo = s.memory.fifo.drop 1 ∧
    t.get Reg.ERR_LEVEL_LEVEL 0 = (s.memory.fifo.drop 1).length % 2 ^ Reg.ERR_LEVEL_LEVEL.width := by
  obtain ⟨u, hu⟩ : ∃ u, u = s.errPop := ⟨_, rfl⟩
  have fifo : u.memory.fifo = s.memory.fifo.drop 1 := by rw [hu, s.memory_errPop]
  have level : u.get Reg.ERR_LEVEL_LEVEL 0 = (s.memory.fifo.drop 1).length % 2 ^ Reg.ERR_LEVEL_LEVEL.width := by
    rw [hu]; exact State.level_showFifo _
  exact completes_of_effect ha (exec_errPop .ranger s) (t := u.answer .done) (by rw [if_pos rfl, ← hu]) ⟨rfl, fifo, level⟩

theorem exec_errorDrain_empty (h : s.memory.fifo = []) : exec .errorDrain s = .next s :=
  exec_eq_of_run ha (exec_errorDrain s) (by rw [State.errDrain, h]) rfl

theorem completes_errorDrain {r : List Nat} {l : List (List Nat)} (h : s.memory.fifo = r :: l) : Completes .errorDrain s fun t =>
    t.memory.fifo = l ∧ ∃ e, (t.logs.get LogRing.empty 3).entries.head? = some e ∧ e.code = r.getD 0 0 % 65536 ∧
      e.source = r.getD 0 0 / 65536 % 65536 ∧ e.data = leBytes 8 (r.getD 2 0) ++ leBytes 8 (r.getD 3 0) := by
  obtain ⟨t, ht⟩ : ∃ t, t = s.errDrain := ⟨_, rfl⟩
  have effect := State.errDrain_record h ht
  exact completes_of_effect ha (exec_errorDrain s) ht.symm effect

theorem completes_flashCorrection_corrected (page : Fin 2097152) (syn : Byte) :
    Completes (.flashCorrection page syn true) s fun t => s.Signalled 24 t ∧ t.flash = s.flash := by
  obtain ⟨t, ht⟩ : ∃ t, t = s.flashPage (64 * page.val) syn.toNat true := ⟨_, rfl⟩
  have effect := State.flashPage_corrected _ _ ht
  exact completes_of_effect ha (exec_flashCorrection page syn true s) ht.symm effect

theorem completes_flashCorrection_cellSlot {k : Fin 2} {page : Fin 2097152} (hp : page.val = 0x53000 + 0xC0000 * k.val)
    (syn : Byte) : Completes (.flashCorrection page syn false) s fun t => s.Signalled 25 t ∧
      (t.flash.slots.get CellSlot.empty k.val).state ≠ .valid ∧
      (t.flash.slots.get CellSlot.empty (1 - k.val)) = s.flash.slots.get CellSlot.empty (1 - k.val) := by
  obtain ⟨t, ht⟩ : ∃ t, t = s.flashPage (0x14C0000 + 0x3000000 * k.val) syn.toNat false := ⟨_, rfl⟩
  have effect := State.flashPage_cellSlot k.isLt syn.toNat ht
  have off : 64 * page.val = 0x14C0000 + 0x3000000 * k.val := by omega
  exact completes_of_effect ha (exec_flashCorrection page syn false s) (by rw [off, ht]) effect

end

/-- Settles O52: each command by what its operation leaves, from the equation of a read of one byte, of a scrubbed byte and of a
remap word. -/
theorem memoryErrorsAndRepair : Obligations.MemoryErrorsAndRepair := by
  intro s ha
  exact ⟨fun r m n clean hm hp h => exec_codeWordRead_intact ha hm hp h r clean,
    fun r o n clean =>
      ⟨fun hr errs => exec_codeWordRead_foreignSafety ha hr o n clean errs, exec_codeWordRead_ownSafety ha o n clean⟩,
    fun r a clean e hr hp he hk hs _ hl hq => completes_codeWordRead_corrected ha hr hp he hk hs hl hq r clean,
    fun r a e hr hp he _ hk => completes_codeWordRead_poisoned ha hr hp he hk r,
    fun r a e clean hr hp he hk hs _ => completes_codeWordRead_unseen ha hr hp he hk hs r clean,
    fun r a e hr hp he hk => completes_codeWordRead_refetched ha hr hp he hk r,
    fun r a n clean errs hr hp => completes_codeWordRead_parked ha hr hp r n clean errs,
    fun errs h => exec_scrubBlock_stopped ha h errs,
    fun k n hr hk hn hb h => completes_scrubBlock_intact ha hr hk hn hb h,
    fun errs h => exec_priorityScrub_empty ha h errs,
    fun b r hq h => completes_priorityScrub_intact ha hq h,
    fun g b errs h => exec_localScrub_unserved ha h b errs,
    fun g b e hg hp he hk hb h hs => completes_localScrub_corrected ha hg hp he hk hb h hs,
    fun m h => exec_remapAuto_idle ha h,
    fun a e hr hc hs ho hf => completes_remapAuto ha hr hc hs ho hf,
    fun m dram w v b hm => exec_remapValidWrite_foreign ha hm dram w v b,
    fun w v hw h => exec_remapValidWrite_valid ha hw h v false,
    fun w v hw hv h hc => completes_remapValidWrite_block ha hw hv h hc,
    fun w v hw h => exec_remapValidWrite_valid ha hw h v true,
    fun w v hw hv h hc => completes_remapValidWrite_copy ha hw hv h hc,
    exec_remapCopyEnd_idle ha, fun e h => completes_remapCopyEnd ha h,
    exec_remapFlashWrite_idle ha,
    fun e h => (completes_remapFlashWrite ha h).imp fun _ ⟨unsaved, flash, regs⟩ => ⟨unsaved, flash, fun _ => regs⟩,
    fun m hm => exec_errPop_foreign ha hm, completes_errPop ha,
    exec_errorDrain_empty ha, fun r l h => completes_errorDrain ha h,
    fun page syn => completes_flashCorrection_corrected ha page syn,
    fun k syn => completes_flashCorrection_cellSlot ha rfl syn⟩

end Sys2Proof.Machine
end
